-- ==== Sys2Proof/Word.lean ====
section
/-! DEFINITION. The word types of the block and their plainest arithmetic (00_scope R10, R11). -/

namespace Sys2Proof

/-- One byte. -/
abbrev Byte := BitVec 8

/-- A 64-bit value: a wide register, a general register, a rack time in ns. -/
abbrev Word := BitVec 64

/-- One 64-byte line, byte 0 in bits [7:0] (R11). -/
abbrev Line := BitVec 512

/-- Byte `i` of a line (R11). -/
def Line.byte (l : Line) (i : Nat) : Byte := l.extractLsb' (8 * i) 8

/-- The line whose bytes are the list, byte 0 first; missing bytes are 0. -/
def Line.ofBytes : List Byte → Line
  | [] => 0
  | b :: bs => (Line.ofBytes bs <<< 8) ||| b.zeroExtend 512

/-- The 64 bytes of a line, byte 0 first. -/
def Line.bytes (l : Line) : List Byte := (List.range 64).map l.byte

end Sys2Proof
end

