-- ==== Sys2Proof/Syntax.lean ====
section
/-! DEFINITION. The commands of the block, one constructor for each row of the table of operations and
events, with the operands of each (95_what_each_step_holds). What the outside world supplies to an event
(a frame, a reading, the symbols of a burst, an address, a value) is an operand. -/

namespace Sys2Proof

/-- The path of a register access, coded in R568. -/
inductive Path where
  /-- BAR2 or the mailbox of a head, codes 0x00 to 0x0F. -/
  | head (k : Fin 16)
  /-- CRD or CWR of a thread, codes 0x20 to 0x27. -/
  | thread (t : Fin 8)
  /-- The FM API over I3C, code 0x30. -/
  | i3c
  /-- The management controller, code 0x31. -/
  | mc
  /-- The FM API over PCIe VDM, code 0x32. -/
  | vdm
  deriving DecidableEq, Repr

/-- The fields of a Criost instruction word below its opcode (Table 8.3). -/
structure InsnFields where
  d : BitVec 4
  a : BitVec 4
  b : BitVec 4
  mode : BitVec 4
  s8 : BitVec 8
  imm : BitVec 32
  deriving DecidableEq, Repr

/-- Status of a UIO completion (R377). -/
inductive UioStatus where
  | ok
  | unsupportedRequest
  | completerAbort
  deriving DecidableEq, Repr

/-- Who waits at the admission stage (R263, R264); all but the heads are the carriage class. The patrol scrubber is
admitted by SCRUB_READ. -/
inductive Requester where
  /-- The oldest waiting request of a head. -/
  | head (k : Fin 16)
  /-- The next line of a carriage. -/
  | carriage (c : Fin 32)
  /-- The next read of the hold copies of a seal (R389). -/
  | hold (i : Fin 4)
  /-- The next write of a seal's staging to its snapshot area (R387, R389). -/
  | stage (i : Fin 4)
  /-- The next line of a stand-in's fill (R479). -/
  | standinFill (n : Fin 2)
  /-- The next line of the zero-fill of released blocks (R186). -/
  | zeroFill
  /-- The next line of the copy of a row repair (R432). -/
  | rowRepair
  deriving DecidableEq, Repr

/-- What the check of an SRAM line shows that is held in two copies: both good, one failing, both failing (R435). -/
inductive SramCheck where
  | good
  | oneCopy
  | bothCopies
  deriving DecidableEq, Repr

/-- An access to the configuration space of a head's function (R214). -/
inductive CfgAccess where
  /-- Read of a 32-bit word of the vendor DVSEC, by its offset in Table 5.10. -/
  | dvsecRead (offset : BitVec 6)
  /-- Write to the vendor DVSEC; every field is read-only. -/
  | dvsecWrite (offset : BitVec 6) (value : BitVec 32)
  /-- Read of another configuration register, whose layout the PCIe and CXL specifications give. -/
  | otherRead (offset : BitVec 12)
  /-- Write of another configuration register. -/
  | otherWrite (offset : BitVec 12) (value : BitVec 32)
  /-- The programming of an HDM decoder (R200, R378): addresses from `base`, `size` bytes, map to DPAs from `dpa`; its
  registers are those of CXL 3.1, whose layout the manual does not give. -/
  | hdmDecoder (index : Fin 10) (base size dpa : BitVec 64)
  deriving DecidableEq, Repr

/-- A Phase 3 request of the link partner (R154). -/
inductive EqRequest where
  | preset (p : BitVec 4)
  | coefficients (pre2 pre1 post : BitVec 6)
  deriving DecidableEq, Repr

/-- The event logs of a head and of the fabric manager (R210, R217, Table 5.11). -/
inductive EventLog where
  | informational
  | warning
  | failure
  | fatal
  | dynamicCapacity
  deriving DecidableEq, Repr

/-- The readings that the converter chiplet gives every 1 ms (R22, R111): mV, mA, units of 10 mW, °C, no fault. -/
structure SupplyReading where
  vin : BitVec 16
  iin : BitVec 16
  pin : BitVec 16
  convTemp : Byte
  convOk : Bool
  deriving DecidableEq, Repr

/-- What a requester selects in NEGOTIATE_ALGORITHMS (R563). -/
structure SpdmSelection where
  falconExtAsym : Bool
  sha3_384 : Bool
  dmtfMeasurements : Bool
  deriving DecidableEq, Repr

/-- What one sense margin of an OTP word shows (R532, R534): all zeros; a word that decodes to a value, with
the position of a corrected bit if there is one; or a detected double error. -/
inductive OtpMargin where
  | blank
  | word (value : Word) (corrected : Option (Fin 72))
  | double
  deriving DecidableEq, Repr

/-- Both sense margins of an OTP word (R535). -/
structure OtpSense where
  normal : OtpMargin
  strict : OtpMargin
  deriving DecidableEq, Repr

/-- The commands: one constructor for each row of the table. -/
inductive Instr where
  /-- NOP (R293). Criost NOP issues, does nothing, and the program counter advances by 8. With `unlisted`, the word has
  that opcode, which no table lists (R305); with `fetchFails`, the thread's next code line fails its check as it is
  fetched, whatever the instruction (R304, R430). -/
  | nop (t : Fin 8) (f : InsnFields) (unlisted : Option (BitVec 8) := none) (fetchFails : Bool := false)
  /-- STOP (R300). Criost STOP puts the thread into STOPPED for as long as the image runs. -/
  | stop (t : Fin 8) (f : InsnFields)
  /-- YIELD (R294). Criost YIELD makes the thread not ready for imm32 engine cycles, or passes it over once when imm32 is 0. -/
  | yield (t : Fin 8) (f : InsnFields)
  /-- YIELD_END (R294). The YIELD count of a thread expires and the thread becomes ready to issue again. -/
  | yieldEnd (t : Fin 8)
  /-- ADD (R308). Criost ADD writes ga + op2 to gd and sets Z, N and C. -/
  | add (t : Fin 8) (f : InsnFields)
  /-- SUB (R308). Criost SUB writes ga - op2 to gd and sets Z, N and C. -/
  | sub (t : Fin 8) (f : InsnFields)
  /-- AND (R308). Criost AND writes the bitwise AND of ga and op2 to gd and sets the flags. -/
  | and (t : Fin 8) (f : InsnFields)
  /-- OR (R308). Criost OR writes the bitwise OR of ga and op2 to gd and sets the flags. -/
  | or (t : Fin 8) (f : InsnFields)
  /-- XOR (R308). Criost XOR writes the bitwise XOR of ga and op2 to gd and sets the flags. -/
  | xor (t : Fin 8) (f : InsnFields)
  /-- SHL (R316). Criost SHL shifts ga left by op2[5:0] into gd and sets C from the last bit shifted out. -/
  | shl (t : Fin 8) (f : InsnFields)
  /-- SHR (R316). Criost SHR shifts ga right logically by op2[5:0] into gd and sets the flags. -/
  | shr (t : Fin 8) (f : InsnFields)
  /-- SAR (R316). Criost SAR shifts ga right arithmetically by op2[5:0] into gd and sets the flags. -/
  | sar (t : Fin 8) (f : InsnFields)
  /-- MUL (R308). Criost MUL writes the low 64 bits of the unsigned product to gd and sets C when the upper half is not 0. -/
  | mul (t : Fin 8) (f : InsnFields)
  /-- CMP (R308). Criost CMP sets Z, N and C from ga - op2 without writing a register. -/
  | cmp (t : Fin 8) (f : InsnFields)
  /-- MOVI (R306). Criost MOVI loads imm32, sign- or zero-extended, into gd and changes no flag. -/
  | movi (t : Fin 8) (f : InsnFields)
  /-- MOVHI (R311). Criost MOVHI writes imm32 into gd[63:32] and leaves gd[31:0] unchanged. -/
  | movhi (t : Fin 8) (f : InsnFields)
  /-- ADDI (R306). Criost ADDI writes ga + sign-extended imm32 to gd and changes no flag. -/
  | addi (t : Fin 8) (f : InsnFields)
  /-- LD (R302). Criost LD loads 64 bits from the program store into gd, or freezes the thread on an out-of-range access.
  `bothFail`: the line is lost in both copies of a map (R436). -/
  | ld (t : Fin 8) (f : InsnFields) (checkFails : Bool) (bothFail : Bool := false)
  /-- ST (R302). Criost ST stores 64 bits of gb into the data region, or freezes the thread on an out-of-range access. -/
  | st (t : Fin 8) (f : InsnFields)
  /-- LDW (R303). Criost LDW loads 32 bits from the program store into gd, zero- or sign-extended;
  `bothFail` as for LD. -/
  | ldw (t : Fin 8) (f : InsnFields) (checkFails : Bool) (bothFail : Bool := false)
  /-- STW (R303). Criost STW stores gb[31:0] into the data region at a 4-aligned address. -/
  | stw (t : Fin 8) (f : InsnFields)
  /-- BR (R318). Criost BR jumps to a relative or register-indirect target, or freezes the thread on a bad target. -/
  | br (t : Fin 8) (f : InsnFields)
  /-- BC (R318). Criost BC jumps when the condition of Table 8.5 holds. -/
  | bc (t : Fin 8) (f : InsnFields)
  /-- CALL (R319). Criost CALL pushes the return address and jumps, or freezes on a full return stack. -/
  | call (t : Fin 8) (f : InsnFields)
  /-- RET (R319). Criost RET pops the return stack and jumps, or freezes on an empty stack. -/
  | ret (t : Fin 8) (f : InsnFields)
  /-- BRL (R318). Criost BRL jumps when the late flag L is 1. -/
  | brl (t : Fin 8) (f : InsnFields)
  /-- CRD (R323). Criost CRD is checked at issue and requests a configuration register read after all earlier queued writes. -/
  | crd (t : Fin 8) (f : InsnFields)
  /-- CRD_RETURN (R323). The value of a pending CRD returns to gd 16 or 60 engine cycles after earlier writes have landed, clearing any RC field read. -/
  | crdReturn (t : Fin 8)
  /-- CWR (R320). Criost CWR is checked at issue and places a configuration write in the shared 64-entry queue, or waits while the queue is full. -/
  | cwr (t : Fin 8) (f : InsnFields)
  /-- CWR_QUEUE_ENTRY_FREE (R320). A queue entry frees and a CWR that waited for room enters the configuration write queue. -/
  | cwrQueueEntryFree
  /-- CWR_DELIVERY (R321). The write at the head of the configuration queue reaches its register, or is dropped as a locked write found at delivery. -/
  | cwrDelivery
  /-- UPD (R324). Criost UPD issues a strobe request for the update groups in its mask and waits for earlier writes to land. -/
  | upd (t : Fin 8) (f : InsnFields)
  /-- UPD_EXECUTE (R324). Once every earlier write has landed, UPD applies the strobes of its groups and returns the mask of groups that held pending writes. -/
  | updExecute (t : Fin 8)
  /-- UPDT (R327). Criost UPDT arms a comparator with target 3 to strobe an update group at RT ga. -/
  | updt (t : Fin 8) (f : InsnFields)
  /-- TNOW (R296). Criost TNOW writes the RT of its execute cycle to gd, in whole ns or with the fraction. -/
  | tnow (t : Fin 8) (f : InsnFields)
  /-- TWAIT (R329). Criost TWAIT puts the thread into WAIT until RT reaches ga + imm32. -/
  | twait (t : Fin 8) (f : InsnFields)
  /-- TWAIT_END (R329). RT reaches the TWAIT value and the thread leaves WAIT with gd set to RT. -/
  | twaitEnd (t : Fin 8)
  /-- TARM (R331). Criost TARM allocates or takes a comparator and arms it with value, tolerance, target and index. -/
  | tarm (t : Fin 8) (f : InsnFields)
  /-- TDISARM (R333). Criost TDISARM disarms an owned comparator and returns its status bits. -/
  | tdisarm (t : Fin 8) (f : InsnFields)
  /-- TDISARM_FREE (R333). Criost TDISARM with mode 1 disarms the comparator, clears its status and frees it. -/
  | tdisarmFree (t : Fin 8) (f : InsnFields)
  /-- TTRUST (R63). Criost TTRUST returns the trust state, source, step hold, discipline and bound, with Z set when LOCKED. -/
  | ttrust (t : Fin 8) (f : InsnFields)
  /-- CLAUNCH (R359). Criost CLAUNCH starts or resumes a carriage on a descriptor chain. -/
  | claunch (t : Fin 8) (f : InsnFields)
  /-- CWAIT (R335). Criost CWAIT puts the thread into WAIT until a carriage is no longer running or a deadline passes. -/
  | cwait (t : Fin 8) (f : InsnFields)
  /-- CWAIT_END (R335). The carriage leaves running or the deadline passes, and every thread waiting on it leaves WAIT with the result word. -/
  | cwaitEnd (c : Fin 32)
  /-- CSTAT (R334). Criost CSTAT returns a carriage's result word and status register without waiting. -/
  | cstat (t : Fin 8) (f : InsnFields)
  /-- CABORT (R335). Criost CABORT requests that a carriage stop at its next line boundary with a progress record. -/
  | cabort (t : Fin 8) (f : InsnFields)
  /-- EWAIT (R301). Criost EWAIT puts the thread into WAIT until a masked event bit is set or a deadline passes. -/
  | ewait (t : Fin 8) (f : InsnFields)
  /-- EWAIT_END (R301). A masked event bit is set or the deadline passes, and the waiting thread leaves WAIT. -/
  | ewaitEnd (t : Fin 8)
  /-- ESIG (R337). Criost ESIG sets signal bits in another thread's event register. -/
  | esig (t : Fin 8) (f : InsnFields)
  /-- ECLR (R338). Criost ECLR clears bits in the thread's own event register, unless set in the same cycle. -/
  | eclr (t : Fin 8) (f : InsnFields)
  /-- PREQ (R339). Criost PREQ submits a power request for a mask of domains and waits for every domain to comply or refuse. -/
  | preq (t : Fin 8) (f : InsnFields)
  /-- PREQ_COMPLETE (R339). Every domain named by a PREQ has complied or refused, and the thread receives the refused mask. -/
  | preqComplete (t : Fin 8)
  /-- SNAP (R343). Criost SNAP with mode 0 fires the common snapshot trigger, or returns STATE while the snapshots are frozen. -/
  | snap (t : Fin 8) (f : InsnFields)
  /-- SNAP_RE (R343). Criost SNAP with mode 1 re-arms the snapshot registers. -/
  | snapRe (t : Fin 8) (f : InsnFields)
  /-- SEAL_ARM (R344). Criost SEAL with mode 0 checks a seal descriptor, reserves carriages, staging and a boundary comparator and arms the seal. -/
  | sealArm (t : Fin 8) (f : InsnFields)
  /-- SEAL_CANCEL (R345). Criost SEAL with mode 1 returns an armed seal to IDLE before its boundary and releases its resources. -/
  | sealCancel (t : Fin 8) (f : InsnFields)
  /-- SEAL_READ (R345). Criost SEAL with mode 2 returns a seal's status register. -/
  | sealRead (t : Fin 8) (f : InsnFields)
  /-- OUTING_ARM (R396). Criost OUTING with mode 0 checks an outing descriptor, takes a slot and arms a comparator with target 5. -/
  | outingArm (t : Fin 8) (f : InsnFields)
  /-- OUTING_CANCEL (R398). Criost OUTING with mode 1 cancels an outing before launch, and the member posts ABSENT with reason 3. -/
  | outingCancel (t : Fin 8) (f : InsnFields)
  /-- FAULT (R593). Criost FAULT raises the PROGRAM_FAULT source with its detail, reacting under its class. -/
  | fault (t : Fin 8) (f : InsnFields)
  /-- FAULT_WITH_STOP (R593). Criost FAULT with the stop option raises PROGRAM_FAULT and leaves the thread STOPPED. -/
  | faultWithStop (t : Fin 8) (f : InsnFields)
  /-- TT_HALT_WRITE (R353). A write of 1 to a TT_HALT bit halts that thread at its next instruction boundary, abandoning any wait. -/
  | ttHaltWrite (p : Path) (value : BitVec 32)
  /-- TT_THAW_WRITE (R351). A write of 1 to a TT_THAW bit returns a FROZEN or HALTED thread to RUN at TT_PC. -/
  | ttThawWrite (p : Path) (value : BitVec 32)
  /-- DESC_COPY (R364). A carriage starts a COPY descriptor, checking its ranges against the window before moving lines. -/
  | descCopy (c : Fin 32)
  /-- DESC_FILL (R364). A carriage starts a FILL descriptor that writes an 8-byte pattern over a DPA range. -/
  | descFill (c : Fin 32)
  /-- DESC_CMP (R364). A carriage starts a CMP descriptor that compares two DPA ranges. -/
  | descCmp (c : Fin 32)
  /-- DESC_CRC (R364). A carriage starts a CRC descriptor that computes CRC-32C or CRC-64/NVME over a DPA range. -/
  | descCrc (c : Fin 32)
  /-- DESC_GATHER (R365). A carriage starts a GATHER descriptor that packs list entries into a destination range. -/
  | descGather (c : Fin 32)
  /-- DESC_SCATTER (R365). A carriage starts a SCATTER descriptor that unpacks a source range into list entries. -/
  | descScatter (c : Fin 32)
  /-- PEERWR (R376). A carriage starts a PEERWR descriptor that sends UIO memory writes to a peer through a head. -/
  | peerwr (c : Fin 32)
  /-- PEERRD (R376). A carriage starts a PEERRD descriptor that issues UIO memory reads to a peer and writes the data locally. -/
  | peerrd (c : Fin 32)
  /-- SEALCOPY (R391). A carriage starts a SEALCOPY descriptor that copies the unsaved granules of an active seal. -/
  | sealcopy (c : Fin 32) (bitmapFails : Bool := false)
  /-- WAITT (R366). A carriage starts an internal WAITT descriptor, allocating and arming a comparator with target 2 and entering WAITT. -/
  | waitt (c : Fin 32)
  /-- WAITT_EXTERNAL (R367). A carriage starts an external WAITT descriptor, consuming a latched release or waiting for one. -/
  | waittExternal (c : Fin 32)
  /-- NOTIFY (R369). A carriage performs a NOTIFY descriptor's ESIG, NOTE and ROLLCALL actions in order. -/
  | notify (c : Fin 32)
  /-- DESC_LINK (R365). A carriage follows a LINK descriptor to the next descriptor address. -/
  | descLink (c : Fin 32)
  /-- DESC_END (R361). A carriage reaches END and returns to IDLE, setting the launching thread's CARRIAGE event. -/
  | descEnd (c : Fin 32)
  /-- DESCRIPTOR_COMPLETE (R364). A descriptor's operation completes, its bytes 48–63 are written back and its progress record is written. -/
  | descriptorComplete (c : Fin 32)
  /-- WAITT_DEADLINE (R367). RT reaches the DEADLINE of an external WAITT and the carriage stops with code TIMEOUT. -/
  | waittDeadline (c : Fin 32)
  /-- CARRIAGE_TIMEOUT (R373). CR_CTRL.TIMEOUT passes without a line of progress and the carriage stops with code TIMEOUT. -/
  | carriageTimeout (c : Fin 32)
  /-- UIO_COMPLETION (R377). A UIO completion for a peer transfer arrives; an error status stops the carriage with PEER_ERR. -/
  | uioCompletion (c : Fin 32) (index : Nat) (status : UioStatus) (poisoned : Bool) (data : List Byte := [])
  /-- CAR_THAW (R371). A write of 1 to a CAR_THAW bit moves a FROZEN carriage to STOPPED with its progress record kept. -/
  | carThaw (p : Path) (value : BitVec 32)
  /-- SEAL_HOLD_COPY_DONE (R387). A granule copy completes in seal staging, its bitmap bit is set and the held writes proceed. -/
  | sealHoldCopyDone (s : Fin 4) (granule : Nat) (bitmapFails : Bool := false)
  /-- MEM_RD (R180). A CXL.mem MemRd request is stamped, decoded, extent-checked and queued for admission, returning one line. -/
  | memRd (k : Fin 16) (addr : Nat) (tag : Nat) (extents : SramCheck := .good)
  /-- MEM_RD_DATA (R180). A CXL.mem MemRdData request is processed as a read returning one 64-byte line. -/
  | memRdData (k : Fin 16) (addr : Nat) (tag : Nat) (extents : SramCheck := .good)
  /-- MEM_INV (R180). A CXL.mem MemInv request completes with Cmp and no effect on the array or cache. -/
  | memInv (k : Fin 16) (addr : Nat) (tag : Nat) (extents : SramCheck := .good)
  /-- MEM_SPEC_RD (R266). A CXL.mem MemSpecRd hint may start a DRAM read into the line cache and sends no response. -/
  | memSpecRd (k : Fin 16) (addr : Nat) (tag : Nat) (extents : SramCheck := .good)
  /-- MEM_WR (R181). A CXL.mem MemWr request writes a full line once admitted and accepted. -/
  | memWr (k : Fin 16) (addr : Nat) (data : Line) (tag : Nat) (extents : SramCheck := .good)
  /-- MEM_WR_PTL (R181). A CXL.mem MemWrPtl request writes the bytes its mask enables through a read-modify-write. -/
  | memWrPtl (k : Fin 16) (addr : Nat) (data : Line) (mask : BitVec 64) (tag : Nat) (extents : SramCheck := .good)
  /-- UIO_MEMORY_READ (R378). An incoming UIO Memory Read to a head's HDM range is completed as a CXL.mem read. -/
  | uioMemoryRead (k : Fin 16) (addr tag : Nat) (len : Nat := 64) (extents : SramCheck := .good)
  /-- UIO_MEMORY_WRITE (R378). An incoming UIO Memory Write to a head's HDM range is completed at acceptance as a CXL.mem write. -/
  | uioMemoryWrite (k : Fin 16) (addr : Nat) (data : List Byte) (enables : Nat) (tag : Nat) (poisoned : Bool := false)
      (extents : SramCheck := .good)
  /-- FLIT_CRC_FAIL (R195). A flit fails CRC, is dropped and is replayed by link-level retry. -/
  | flitCrcFail (k : Fin 16)
  /-- CXL_IO_CONFIG_ACCESS (R214). A configuration-space access reaches a head's function, including its vendor DVSEC. -/
  | cxlIoConfigAccess (k : Fin 16) (access : CfgAccess)
  /-- FREEZE_WINDOW_END (R203). A head's freeze window ends and the head is fenced with a FENCE record. -/
  | freezeWindowEnd (k : Fin 16)
  /-- DEVICE_LOAD_EVAL (R193). Every 1 µs the device re-evaluates each head's Device Load value. -/
  | deviceLoadEval
  /-- REGULATION_ADMIT (R269). A waiting request is admitted at stage 5 against a guarantee token or a weight slot and its credit is returned. -/
  | regulationAdmit (who : Requester) (cacheFails : Bool) (stagingFails : Bool := false)
  /-- POOL_ENTRY_GRANT (R273). A request waiting in the miss queue takes a channel pool entry and its master's admission resumes. -/
  | poolEntryGrant (index : Nat)
  /-- WRITE_ACCEPT (R30). A write is held in both journal copies and is accepted, allowing its completion to be sent. -/
  | writeAccept (index : Nat) (bitmapFails : Bool := false)
  /-- CHANNEL_COMMAND_PICK (R230). In each stack-clock cycle a channel controller picks and issues at most one DRAM command. -/
  | channelCommandPick (c : Fin 32) (repairMap : SramCheck := .good) (journal : SramCheck := .good)
  /-- DRAM_READ_DATA (R405). A read burst arrives at the channel controller and is decoded as valid, corrected, poisoned or uncorrectable. -/
  | dramReadData (c : Fin 32) (errors : List (Nat × Byte))
  /-- DRAM_WRITE_DONE (R233). A WR burst completes and the write's journal entry is released. -/
  | dramWriteDone (c : Fin 32)
  /-- UE_RETRY (R418). The single retry of an uncorrectable first decode issues and decodes as transient, corrected or uncorrectable. -/
  | ueRetry (c : Fin 32) (errors : List (Nat × Byte))
  /-- HALT_PRECLOSE (R248). At t_h - 32 ns each channel issues a PREM closing open rows with no queued request. -/
  | haltPreclose
  /-- HALT_ACT_STOP (R248). At t_h - 14 ns each channel stops issuing ACT until the window ends. -/
  | haltActStop
  /-- HALT_OPEN (R251). RT reaches a halt phase and a halt opens on all channels with PREH. -/
  | haltOpen
  /-- HALT_REFAB (R248). At t_h + 14 ns all-bank refresh starts on every layer not in self-refresh. -/
  | haltRefab
  /-- HALT_WINDOW_END (R248). At t_h + 400 ns the window ends and held requests issue in pick order. -/
  | haltWindowEnd
  /-- DEFERRED_HALT_OPEN (R255). Halts that fell due during a window open together as one halt in the cycle after it ends. -/
  | deferredHaltOpen
  /-- FALLBACK_COMMIT (R258). 100 ns before the guard expires with no other halt coming, the fallback halt is committed and announced. -/
  | fallbackCommit
  /-- FALLBACK_HALT (R257). The fallback guard expires without a halt and a fallback halt opens with a HALT record of cause 2. -/
  | fallbackHalt
  /-- THIFIN_FRAME (R52). A Thifin frame is received whole and accepted or dropped, confirming or discarding a pending correction. -/
  | thifinFrame (sync : BitVec 16) (rt : Word) (domain flags crc : BitVec 16)
  /-- CYCLE_MARK (R55). A cycle mark edge is stamped with local RT and measured against the announced RT to yield a correction. -/
  | cycleMark (sub : BitVec 7) (delay : BitVec 16 := 0)
  /-- TLINE_FLAT (R53). The TLINE pair stays flat for 16 ns, setting TLINE_LOS and dropping any partial frame. -/
  | tlineFlat (inFrame : Bool)
  /-- MARK_MISSING (R67). No mark is accepted by last mark + 32,016 ns and the source is lost. -/
  | markMissing
  /-- PTM_DIALOGUE_START (R79). Every PTM_INTERVAL rack cycles the device starts a PTM dialogue on the designated head. -/
  | ptmDialogueStart
  /-- PTM_DIALOGUE_COMPLETE (R80). A PTM dialogue completes and yields an error that is checked for consistency and corrected. -/
  | ptmDialogueComplete (answer : Option (Word × BitVec 8))
  /-- CORRECTION_COMPLETE (R60). A steering or slew has removed its outstanding amount and the RT rate returns to nominal. -/
  | correctionComplete
  /-- BOUND_OVER_LIMIT (R63). The growing holdover bound exceeds TU_LIMIT and the state becomes UNTRUSTED. -/
  | boundOverLimit
  /-- TU_ACK_WRITE (R69). A write of 1 to TU_ACK.ACK_PENDING acknowledges step hold so that an initial set follows. -/
  | tuAckWrite (p : Path) (value : BitVec 32)
  /-- TU_RT_READ (R41). A read of TU_RT returns integer RT and latches the fraction into TU_RT_FRAC. -/
  | tuRtRead (p : Path)
  /-- COMPARATOR_FIRE (R83). RT reaches an armed comparator value and the comparator fires its target, or is refused by its tolerance. -/
  | comparatorFire (n : Fin 64)
  /-- TC_CTRL_WRITE (R608). A write to TC_CTRL by the owner arms or disarms a comparator, or sets BAD_TARGET. -/
  | tcCtrlWrite (p : Path) (n : Fin 64) (value : BitVec 32)
  /-- TC_VALUE_WRITE (R84). A write to TC_VALUE moves an owned comparator, firing it late next cycle if RT has passed. -/
  | tcValueWrite (p : Path) (n : Fin 64) (value : Word)
  /-- ALIVE_TOGGLE (R76). ALIVE toggles at the start of every 16th local rack cycle. -/
  | aliveToggle
  /-- LOS_ASSERT (R164). A lane's input stays below 80 mV for 40 ns and LOS asserts, counting in LOS_CNT. -/
  | losAssert (l : Fin 64) (linkIdle : Bool)
  /-- LOS_DEASSERT (R164). A lane's input stays above 120 mV for 40 ns and LOS deasserts. -/
  | losDeassert (l : Fin 64)
  /-- LOL_ASSERT (R165). A lane's CDR is out of lock for 1 µs and LOL asserts, counting in LOL_CNT. -/
  | lolAssert (l : Fin 64) (linkIdle : Bool := false)
  /-- LOL_DEASSERT (R165). A lane's CDR has been in lock for 10 µs and LOL deasserts. -/
  | lolDeassert (l : Fin 64)
  /-- PERST_N_ASSERT (R119). A head's PERST_N is recognised low and the head's link goes down. -/
  | perstNAssert (m : Fin 16)
  /-- PERST_N_DEASSERT (R120). A head's PERST_N goes high, releasing the head to train. -/
  | perstNDeassert (m : Fin 16)
  /-- LINK_TRAINING_START (R120). A head whose PERST_N is high and whose lanes are ready begins link training. The operands
  are the lanes on which receiver detection finds no receiver, those whose skew exceeds 8 ns, the reversal and inversions
  found, and whether the partner's silence or direction leads into Polling.Compliance (R135, R161). -/
  | linkTrainingStart (k : Fin 16) (undetected skewed : List (Fin 64)) (reversed : Bool)
      (inverted : List (Fin 64) := []) (compliance : Bool := false)
  /-- LINK_UP (R200). A head's link reaches L0 as a fresh link-up, resetting its function state and clearing HELD. `precode`
  are the lanes for which the partner requested transmitter precoding (R135). -/
  | linkUp (k : Fin 16) (rate : BitVec 3) (precode : List (Fin 64) := [])
  /-- DIRECTED_SPEED_CHANGE (R142). The device starts a directed speed change on a head whose advertisement changed or whose lanes fell below rate. -/
  | directedSpeedChange (k : Fin 16)
  /-- SPEED_CHANGE_COMPLETE (R143). A speed change through Recovery completes and the head runs at its new rate. -/
  | speedChangeComplete (k : Fin 16) (rate : BitVec 3) (precode : List (Fin 64) := [])
  /-- EQ_PHASE3_REQUEST (R154). A link partner's Phase 3 coefficient or preset request is accepted only if it equals the table setting. -/
  | eqPhase3Request (l : Fin 64) (r : Fin 5) (request : EqRequest)
  /-- EQ_REDO_REQUEST (R148). A link partner requests an equalisation redo and the lane takes its applied table entry. -/
  | eqRedoRequest (l : Fin 64) (r : Fin 5)
  /-- EQ_BYPASS_REQUEST (R156). The host requests equalisation bypass and the device goes directly to the highest rate. -/
  | eqBypassRequest (k : Fin 16)
  /-- DESKEW_DRIFT_OVERFLOW (R162). Skew drift in L0 exceeds the deskew buffer and the head enters Recovery. -/
  | deskewDriftOverflow (l : Fin 64)
  /-- RECOVERY_FAILURE (R196). Recovery fails with DL_Down and the head's link goes down. -/
  | recoveryFailure (k : Fin 16)
  /-- HOT_RESET (R196). The host issues Hot Reset and the head's link goes down. -/
  | hotReset (k : Fin 16)
  /-- LINK_DISABLE (R196). The host disables the link and the head's link goes down. -/
  | linkDisable (k : Fin 16)
  /-- LOOPBACK_FOLLOWER_ENTRY (R171). The link partner directs Loopback and the head follows, which is a link-down. -/
  | loopbackFollowerEntry (k : Fin 16)
  /-- LN_TEST_ENABLE (R172). A write setting LN_TEST.ENABLE starts the lane's test pattern, loopback and counters, or sets BUSY or BAD_CFG. -/
  | lnTestEnable (p : Path) (l : Fin 64) (value : BitVec 32)
  /-- LN_TEST_DISABLE (R170). A write of ENABLE = 0 ends the lane test, exiting far-end Loopback as a fresh link-up. -/
  | lnTestDisable (p : Path) (l : Fin 64) (value : BitVec 32)
  /-- INJECT_SINGLE (R174). LN_INJECT GO with TYPE single flips one bit on the selected stream. -/
  | injectSingle (p : Path) (l : Fin 64) (value : BitVec 32)
  /-- INJECT_BURST (R174). LN_INJECT GO with TYPE burst flips BURST_LEN consecutive bits. -/
  | injectBurst (p : Path) (l : Fin 64) (value : BitVec 32)
  /-- INJECT_RATE (R174). LN_INJECT GO with TYPE rate flips one bit every 2^RATE_EXP bits until stopped. -/
  | injectRate (p : Path) (l : Fin 64) (value : BitVec 32)
  /-- INJECT_STOP (R174). A write of GO = 0 ends a rate injection. -/
  | injectStop (p : Path) (l : Fin 64) (value : BitVec 32)
  /-- INJECT_DONE (R174). A single or burst injection completes and the device clears GO. -/
  | injectDone (l : Fin 64)
  /-- CHECKER_SYNC (R168). The checker sees 64 consecutive error-free bits and sets SYNC. `errors` are the bit errors it has
  received since its last report, which a synchronised checker counts. -/
  | checkerSync (l : Fin 64) (errors : Nat := 0)
  /-- CHECKER_SYNC_LOSS (R168). The checker counts 32 errors within 1,024 bits and clears SYNC to resynchronise. -/
  | checkerSyncLoss (l : Fin 64)
  /-- EQ_DIGEST_DONE (R149). The SHAKE256 digest of the applied equalisation table completes and is written to LANE_EQ_DIGEST. -/
  | eqDigestDone
  /-- GET_EVENT_RECORDS (R219). Mailbox Get Event Records returns records of a head's event log with its overflow state. -/
  | getEventRecords (k : Fin 16) (log : EventLog) (count : Nat)
  /-- CLEAR_EVENT_RECORDS (R210). Mailbox Clear Event Records clears records from a head's event log. -/
  | clearEventRecords (k : Fin 16) (log : EventLog) (count : Nat)
  /-- GET_EVENT_INTERRUPT_POLICY (R210). Mailbox Get Event Interrupt Policy returns the head's event interrupt policy. -/
  | getEventInterruptPolicy (k : Fin 16)
  /-- SET_EVENT_INTERRUPT_POLICY (R210). Mailbox Set Event Interrupt Policy sets the head's event interrupt policy. -/
  | setEventInterruptPolicy (k : Fin 16) (policy : BitVec 32)
  /-- GET_FW_INFO (R210). Mailbox Get FW Info returns firmware slot information on the management head. -/
  | getFwInfo (k : Fin 16)
  /-- TRANSFER_FW (R554). Transfer FW places an image part in the staging area of block 255 and hashes it. -/
  | transferFw (p : Path) (slot : Byte) (offset : Nat) (data : List Byte) (last : Bool := false)
  /-- ACTIVATE_FW (R212). Activate FW starts the background operation that checks the staged image and waits for threads to
  stop. Its action is 0 for online activation. -/
  | activateFw (p : Path) (slot : Byte := 1) (action : Byte := 0)
  /-- ACTIVATION_THREADS_QUIESCED (R354). Every thread reaches STOPPED or IDLE and the activation proceeds to load the image. -/
  | activationThreadsQuiesced
  /-- ACTIVATION_STOP_WAIT_EXPIRY (R354). TT_CTRL.STOP_WAIT passes and the activation halts the remaining threads before loading. -/
  | activationStopWaitExpiry
  /-- IMAGE_LOAD_DONE (R556). The image copy, program-store load and status recording complete and the threads are released. -/
  | imageLoadDone
  /-- GET_TIMESTAMP (R210). Mailbox Get Timestamp returns RT. -/
  | getTimestamp (k : Fin 16)
  /-- SET_TIMESTAMP (R210). Mailbox Set Timestamp returns Unsupported. With `other`, the command has that opcode, which
  Table 5.7 does not list. -/
  | setTimestamp (k : Fin 16) (value : Word) (other : Option (BitVec 16) := none)
  /-- GET_SUPPORTED_LOGS (R210). Mailbox Get Supported Logs lists the Command Effects Log. -/
  | getSupportedLogs (k : Fin 16)
  /-- GET_LOG (R210). Mailbox Get Log returns the Command Effects Log, by its identifier; the device has no other. -/
  | getLog (k : Fin 16) (commandEffects : Bool := true)
  /-- IDENTIFY_MEMORY_DEVICE (R182). Mailbox Identify Memory Device reports zero static capacity and the dynamic-capacity device. -/
  | identifyMemoryDevice (k : Fin 16)
  /-- GET_HEALTH_INFO (R210). Mailbox Get Health Info reports health including the hottest governing layer temperature. -/
  | getHealthInfo (k : Fin 16)
  /-- GET_POISON_LIST (R423). Mailbox Get Poison List returns uncleared uncorrectable entries within the head's extents. -/
  | getPoisonList (k : Fin 16)
  /-- INJECT_POISON (R423). Mailbox Inject Poison stores a line as poisoned and makes an entry with source 7. -/
  | injectPoison (k : Fin 16) (dpa : Nat)
  /-- CLEAR_POISON (R423). Mailbox Clear Poison sets the CLEARED flag of a listed line's entry. -/
  | clearPoison (k : Fin 16) (dpa : Nat) (data : Line)
  /-- GET_DYNAMIC_CAPACITY_CONFIGURATION (R182). Mailbox Get Dynamic Capacity Configuration returns DC region 0. -/
  | getDynamicCapacityConfiguration (k : Fin 16)
  /-- GET_DYNAMIC_CAPACITY_EXTENT_LIST (R210). Mailbox Get Dynamic Capacity Extent List returns the head's extents. -/
  | getDynamicCapacityExtentList (k : Fin 16)
  /-- ADD_DYNAMIC_CAPACITY_RESPONSE (R210). Mailbox Add Dynamic Capacity Response accepts offered extents for the head. -/
  | addDynamicCapacityResponse (k : Fin 16) (dpa len : Nat)
  /-- RELEASE_DYNAMIC_CAPACITY (R186). Mailbox Release Dynamic Capacity releases extents of the head, starting zero-fill of blocks that lose their last head. -/
  | releaseDynamicCapacity (k : Fin 16) (dpa len : Nat)
  /-- GET_HALT_TIMETABLE (R259). Vendor command 0xC000 returns the halt phase, flags, pending change and next halt RT. -/
  | getHaltTimetable (k : Fin 16)
  /-- GET_TIME_STATE (R63). Vendor command 0xC001 returns the trust state, source, domain, bound, RT and last error. -/
  | getTimeState (k : Fin 16)
  /-- GET_HEAD_STATE (R214). Vendor mailbox command 0xC002 returns a head's status, extent count, freeze time, guarantee and scale. -/
  | getHeadState (k : Fin 16) (head : BitVec 8)
  /-- GET_FLOOR (R279). Vendor command 0xC003 returns the floor, committed sum, scale and causes. -/
  | getFloor (k : Fin 16)
  /-- GET_IDENTITY_KEY (R560). Vendor mailbox command 0xC004 returns the identity state and public key. -/
  | getIdentityKey (k : Fin 16)
  /-- FM_INFORMATION_AND_STATUS (R208). An FM API Information and Status command returns device information. -/
  | fmInformationAndStatus (p : Path)
  /-- FM_EVENTS (R208). An FM API Events command reads or clears the fabric manager's event records. -/
  | fmEvents (p : Path) (log : EventLog) (clear : Bool) (count : Nat)
  /-- GET_MULTI_HEADED_INFO (R208). FM API Get Multi-Headed Info returns the head layout. -/
  | getMultiHeadedInfo (p : Path)
  /-- GET_HEAD_INFO (R208). FM API Get Head Info returns information about a head. -/
  | getHeadInfo (p : Path) (head : BitVec 8)
  /-- GET_DCD_INFO (R208). FM API Get DCD Info returns dynamic-capacity device information. -/
  | getDcdInfo (p : Path)
  /-- GET_HOST_DC_REGION_CONFIGURATION (R208). FM API Get Host DC Region Configuration returns a head's DC region. -/
  | getHostDcRegionConfiguration (p : Path) (head : BitVec 8)
  /-- SET_DC_REGION_CONFIGURATION (R208). FM API Set DC Region Configuration accepts only a block size of 256 MiB. -/
  | setDcRegionConfiguration (p : Path) (head : BitVec 8) (blockSize : Nat)
  /-- GET_DC_REGION_EXTENT_LISTS (R208). FM API Get DC Region Extent Lists returns the extent lists. -/
  | getDcRegionExtentLists (p : Path) (head : BitVec 8)
  /-- INITIATE_DYNAMIC_CAPACITY_ADD (R184). FM API Initiate Dynamic Capacity Add grants blocks to a head, or is refused under the extent rules. -/
  | initiateDynamicCapacityAdd (p : Path) (head : BitVec 8) (dpa len tag : Nat)
  /-- INITIATE_DYNAMIC_CAPACITY_RELEASE (R186). FM API Initiate Dynamic Capacity Release forcibly releases a head's extents. -/
  | initiateDynamicCapacityRelease (p : Path) (head : BitVec 8) (dpa len : Nat)
  /-- ZERO_FILL_DONE (R186). The zero-fill of a released block completes and adds of the block are accepted again. -/
  | zeroFillDone (block : Nat)
  /-- READ_REGISTER (R213). FM API vendor command 0xC100 reads a register, or returns Invalid Input on a bus error. -/
  | readRegister (p : Path) (addr width : Nat)
  /-- WRITE_REGISTER (R213). FM API vendor command 0xC101 writes a register, dropping locked writes without a violation. -/
  | writeRegister (p : Path) (addr width : Nat) (value : Word)
  /-- THAW_HEAD (R204). FM API vendor command 0xC102 ends a head's freeze or fence and sends a THAW record. -/
  | thawHead (p : Path) (head : BitVec 8)
  /-- FM_GET_HEAD_STATE (R208). FM API vendor command 0xC103 returns a head's state as 0xC002 does. -/
  | fmGetHeadState (p : Path) (head : BitVec 8)
  /-- FM_GET_IDENTITY_KEY (R560). FM API vendor command 0xC104 returns the identity key as 0xC004 does. -/
  | fmGetIdentityKey (p : Path)
  /-- I3C_ENTDAA (R206). The I3C bus owner assigns the device a dynamic address through ENTDAA. -/
  | i3cEntdaa (addr : BitVec 7)
  /-- SET_ENDPOINT_ID (R206). The bus owner assigns the MCTP endpoint ID with Set Endpoint ID. -/
  | setEndpointId (p : Path) (eid : Byte)
  /-- GET_VERSION (R561). SPDM GET_VERSION is answered with the supported version 1.3. -/
  | getVersion (ch : Path)
  /-- GET_CAPABILITIES (R562). SPDM GET_CAPABILITIES is answered with CHAL_CAP, MEAS_CAP and PUB_KEY_ID_CAP. -/
  | getCapabilities (ch : Path)
  /-- NEGOTIATE_ALGORITHMS (R563). SPDM NEGOTIATE_ALGORITHMS offers Falcon-1024 and SHA3-384 or returns InvalidRequest. -/
  | negotiateAlgorithms (ch : Path) (selection : SpdmSelection)
  /-- CHALLENGE (R564). SPDM CHALLENGE is signed with the identity key, or answered Busy or Unspecified. -/
  | challenge (ch : Path) (request : List Byte)
  /-- GET_MEASUREMENTS (R565). SPDM GET_MEASUREMENTS returns the five measurement blocks, signed when requested. -/
  | getMeasurements (ch : Path) (index : Byte) (signed : Bool) (request : List Byte)
  /-- SPDM_UNSUPPORTED_REQUEST (R561). Any other SPDM request is answered with ERROR UnsupportedRequest. -/
  | spdmUnsupportedRequest (ch : Path) (code : Byte)
  /-- CDAT_TABLE_ACCESS (R216). CDAT Table Access over DOE returns the DSMAS, DSEMTS and DSLBIS entries. -/
  | cdatTableAccess (k : Fin 16)
  /-- LC_FLUSH (R243). A write of 1 to LC_CTRL.FLUSH writes back every line dirty at that moment. -/
  | lcFlush (p : Path) (value : BitVec 32)
  /-- LC_FLUSH_DONE (R243). The last flush write-back enters the journal and the device clears FLUSH. -/
  | lcFlushDone
  /-- SCRUB_READ (R424). The patrol scrubber reads its next line at its even spacing and corrects or logs it.
  `retiredA`, `retiredB`: that copy of the retirement map's line fails its check (R435). -/
  | scrubRead (retiredA retiredB : Bool)
  /-- SCRUB_LAG (R428). A scrub pass falls more than 1 % of HOURS behind and SCRUB_LAG is raised. -/
  | scrubLag
  /-- CA_PARITY_ALERT (R438). A command/address parity alert from a die declares a channel fault. -/
  | caParityAlert (c : Fin 32)
  /-- CHANNEL_RETRAIN_DONE (R441). A faulted channel's retraining ends in normal, limp or lost mode and replay of its journal begins. -/
  | channelRetrainDone (c : Fin 32) (sweep : List (Nat × BitVec 32))
  /-- REPLAY_DONE (R441). A channel's journal entries are written, its held reads reissue and REPLAYING clears with a REPLAY record. -/
  | replayDone (c : Fin 32) (copies : List (Nat × SramCheck) := [])
  /-- REPLAY_SPILL (R443). After 1 ms of REPLAYING the channel's journal entries move to the spill area in block 255. -/
  | replaySpill (c : Fin 32)
  /-- REPLAY_LIMIT_EXPIRY (R444). REPLAY_LIMIT passes without the channel back in service, poisoning held reads and discarding its entries. -/
  | replayLimitExpiry (c : Fin 32)
  /-- ROW_REPAIR (R432). A write to RPR_CMD with GO starts a soft row repair, or is refused with a status. -/
  | rowRepair (p : Path) (value : BitVec 32)
  /-- ROW_REPAIR_DONE (R432). The row copy ends and the row is redirected to its spare in one cycle. -/
  | rowRepairDone (errors : List (Nat × List (Nat × Byte)) := [])
  /-- RETIRE_PAGE (R431). A write to RET_ADD with GO adds a page to the retirement map, or is refused. -/
  | retirePage (p : Path) (value : Word)
  /-- RECAL_CHANGE_INSTANT (R453). At t_h + 20 ns of a halt, pending tap and wire-assignment changes of a channel apply and the next measurement begins. -/
  | recalChangeInstant (c : Fin 32)
  /-- SWEEP_DONE (R450). A 1,500 ns training sweep ends and the device picks each wire's tap or marks it dead. -/
  | sweepDone (wire : Nat) (passing : BitVec 32)
  /-- EXPRESS_RECAL_TICK (R461). Every 2 µs an express group changes its measured wire at a flit boundary. -/
  | expressRecalTick (d : Fin 2) (l : Fin 64)
  /-- MISSING_CLOCK (R489). A layer's missing-clock detector fires and the layer fails over to its next live clock column. -/
  | missingClock (n : Fin 17)
  /-- CLOCK_COLUMN_WATCH (R488). Every 1 ms each layer watches its unselected clock columns and marks silent ones dead. -/
  | clockColumnWatch (n : Fin 17) (silent : BitVec 4)
  /-- STANDIN_FILL_DONE (R479). The poison fill of a stand-in's slots completes and the stand-in enters service. -/
  | standinFillDone (n : Fin 2)
  /-- THERMAL_EVALUATION (R495). At the end of a layer's sampling period the governing temperature and stage are recomputed,
  from the readings of the layer's first sensor and of its others. -/
  | thermalEvaluation (n : Fin 18) (first : Option (BitVec 10)) (others : List (Option (BitVec 10)))
  /-- CANARY_INTERVAL (R500). Every 32,000 ns a die counts its canary flips and rewrites the block. -/
  | canaryInterval (n : Fin 18) (flips : Nat)
  /-- GRACE_EXPIRY (R507). The thermal grace time ends and enforcement begins if a layer is still in the enforce stage. -/
  | graceExpiry
  /-- SHUTDOWN_DRAIN_DONE (R513). No journal entry or dirty line remains and every channel enters self-refresh. -/
  | shutdownDrainDone
  /-- SHUTDOWN_POWER_DOWN (R513). At t_d + 20 µs the remaining domains are off, links go down and SHUTDOWN reads 2. -/
  | shutdownPowerDown
  /-- SHUTDOWN_TIMEOUT (R514). t_d has not come within 10 ms of t_s and the device shuts down by force. -/
  | shutdownTimeout
  /-- MGMT_POWER_REQUEST (R524). A write of GO to PWR_MREQ_CTRL queues a management power request for the PWR_MREQ mask. -/
  | mgmtPowerRequest (p : Path) (value : BitVec 32)
  /-- DOMAIN_TRANSITION_DONE (R520). A domain finishes its entry work and reaches retention or off. -/
  | domainTransitionDone (n : Fin 64)
  /-- DOMAIN_WAKE_DONE (R523). A domain's wake completes, its configuration is replayed and PWR_LASTWAKE is written. -/
  | domainWakeDone (n : Fin 64) (failed : BitVec 16)
  /-- LAYER_WAKE_FILL_DONE (R519). A layer woken from off finishes training and the fill of its channels, completing its wake.
  `sweep`: passing taps of the wires that the training sweeps (R458). -/
  | layerWakeFillDone (n : Fin 16) (sweep : List (Nat × BitVec 32) := [])
  /-- OTP_NORMAL_READ (R537). OTP_CMD with OP 0 reads a word at the normal margin. -/
  | otpNormalRead (p : Path) (word : BitVec 9)
  /-- OTP_STRICT_READ (R537). OTP_CMD with OP 1 reads a word at the strict margin. -/
  | otpStrictRead (p : Path) (word : BitVec 9)
  /-- OTP_DUAL_READ (R537). OTP_CMD with OP 2 reads a word at both margins and classifies it. -/
  | otpDualRead (p : Path) (word : BitVec 9)
  /-- OTP_PROGRAM (R540). OTP_CMD with OP 3 checks a word and blows it with the value in OTP_DATA. -/
  | otpProgram (p : Path) (word : BitVec 9)
  /-- OTP_RAISE_COUNTER (R551). OTP_CMD with OP 4 raises the anti-rollback counter to a target. -/
  | otpRaiseCounter (p : Path) (word : BitVec 9)
  /-- OTP_COMMAND_DONE (R541). An OTP command completes, its outcome is recorded and shadows and digests are updated. -/
  | otpCommandDone (sensed : List OtpSense)
  /-- OTP_BOOT_READ_DONE (R535). The dual read of all 512 OTP words ends, trim and shadow are applied and identity derivation starts. -/
  | otpBootReadDone (sensed : List (Nat × OtpSense))
  /-- IDENTITY_DERIVED (R558). Identity key derivation ends and the identity becomes READY or FAILED. -/
  | identityDerived
  /-- CTL_UPD_NOW (R578). A management write to CTL_UPD_NOW strobes the named update groups at once. -/
  | ctlUpdNow (p : Path) (value : BitVec 32)
  /-- CTL_UPD_DISCARD (R580). A write to CTL_UPD_DISCARD drops the pending values of the named groups. -/
  | ctlUpdDiscard (p : Path) (value : BitVec 32)
  /-- CFG_CHECK_START (R583). Every 100 µs a configuration check pass starts. -/
  | cfgCheckStart
  /-- CFG_CHECK_DONE (R583). A check pass completes, writes CFG_CRC and flags a mismatch against CFG_REF. -/
  | cfgCheckDone
  /-- SEVERE_CLEAR (R591). A write of 1 to a source's SEVERE bit ends its severity and sets COUNT to 0. -/
  | severeClear (p : Path) (n : Fin 128) (value : BitVec 32)
  /-- FC_FIRST_CLEAR (R595). A write of 1 to FC_FIRST.VALID clears VALID and OVF and re-arms the first-error latch. -/
  | fcFirstClear (p : Path) (value : BitVec 32)
  /-- WATCHDOG_EXPIRY (R598). The management controller misses the watchdog for 10 ms and MC_STALL is raised. -/
  | watchdogExpiry
  /-- SNAP_CTRL_FIRE (R599). A write of 1 to SNAP_CTRL.FIRE triggers the snapshots. -/
  | snapCtrlFire (p : Path) (value : BitVec 32)
  /-- SNAP_CTRL_REARM (R600). A write of 1 to SNAP_CTRL.REARM re-arms the snapshots. -/
  | snapCtrlRearm (p : Path) (value : BitVec 32)
  /-- AUX_A_RISING_EDGE (R601). A rising edge on AUX_A owned as a trigger input triggers the snapshots 10 ns later. -/
  | auxARisingEdge (width8ns : Bool)
  /-- AUX_PULSE_END (R611). An AUX output pulse has been high for 16 ns and the pin returns low. -/
  | auxPulseEnd (pin : Fin 2)
  /-- OWN_CLAIM_IMG (R605). OWN_REQ_IMG with GO and RELEASE 0 claims a comparator or AUX pin for the image. -/
  | ownClaimImg (p : Path) (value : BitVec 32)
  /-- OWN_RELEASE_IMG (R607). OWN_REQ_IMG with GO and RELEASE 1 releases an image-owned resource. -/
  | ownReleaseImg (p : Path) (value : BitVec 32)
  /-- OWN_CLAIM_FM (R605). OWN_REQ_FM with GO and RELEASE 0 claims a comparator or AUX pin for the fabric manager. -/
  | ownClaimFm (p : Path) (value : BitVec 32)
  /-- OWN_RELEASE_FM (R607). OWN_REQ_FM with GO and RELEASE 1 releases a fabric-manager-owned resource. -/
  | ownReleaseFm (p : Path) (value : BitVec 32)
  /-- SU_OPEN (R628). A thread write of 1 to SU_CTRL.OPEN opens service when its duties are done, or sets OPEN_REFUSED. -/
  | suOpen (p : Path) (value : BitVec 32)
  /-- REGISTER_WRITE (R573). A write to a register without behaviour of its own is checked for bus errors and locks and then stored, made pending or cleared. -/
  | registerWrite (p : Path) (addr width : Nat) (value : Word)
  /-- POWER_UP (R109). P12V rises through 10.2 V and the converter starts. -/
  | powerUp
  /-- PWR_GOOD_RELEASE (R109). PWR_GOOD is released and AON starts at step 1; the operand is the level of RST_N (R115). -/
  | pwrGoodRelease (rstN : Bool := true)
  /-- POWER_LOSS (R109). P12V falls through 9.6 V or the converter faults, PWR_GOOD is pulled low and all state is lost. -/
  | powerLoss
  /-- VIN_LOW (R111). P12V stays below 10.8 V for 1 ms and VIN_LOW is set. It carries the readings of that 1 ms; with a
  voltage within the limits it is the ordinary reading. -/
  | vinLow (reading : SupplyReading)
  /-- VIN_HIGH (R111). P12V stays above 13.2 V for 1 ms and VIN_HIGH is set. It carries the readings of that 1 ms. -/
  | vinHigh (reading : SupplyReading)
  /-- MODULE_RESET (R116). An RST_N low pulse is recognised and the device is held in reset with AON running. -/
  | moduleReset
  /-- MODULE_RELEASE (R115). RST_N rises and start-up resumes at step 2. -/
  | moduleRelease
  /-- STRAP_SAMPLE (R117). 5 µs after module release the HEADCFG straps are sampled and the layout is fixed. -/
  | strapSample (headcfg : BitVec 2)
  /-- STACK_CLOCK_READY (R614). Step 3 ends with the stack clock distributed and every crossing at its trim tap, and step 4 starts. -/
  | stackClockReady
  /-- BOOT_FILL_DONE (R410). Boot training, DRAM initialisation and the fill end, and steps 5 and 6 start. -/
  | bootFillDone (sweep : List (Nat × BitVec 32)) (clocks : List (Nat × BitVec 4))
  /-- REGISTER_READ (R574). A head's BAR2 read of a register is checked for a bus error and returns the value, clearing any RC field it reads. -/
  | registerRead (k : Fin 16) (addr width : Nat)
  /-- IMAGE_CHECKS_DONE (R555). The checks of a staged image end about 0.4 ms after Activate FW, either rejecting it with Invalid Security State or passing it on to the thread wait and load. -/
  | imageChecksDone
  /-- AON_START_DONE (R614). Step 1 ends once AON and the management controller are running, and step 2's dual OTP read begins. -/
  | aonStartDone (vin iin pin : BitVec 16) (convTemp : Byte) (convOk : Bool := true)
  /-- RACK_CYCLE_PULSE (R611). At the first cycle of each local rack cycle an AUX pin owned for function 2 drives its 16 ns pulse. -/
  | rackCyclePulse
  /-- TLINE_SIGNAL_RETURN (R53). The TLINE pair stops being flat and TLINE_LOS clears as the receiver regains the Thifin stream. -/
  | tlineSignalReturn
  /-- MGMT_VENDOR_MESSAGE (R336). The management controller sends a vendor message that sets the MGMT event bit in the thread TT_EVROUTE names. -/
  | mgmtVendorMessage
  /-- SERVICE_COLUMN_FAIL (R100). A service column fails in service and a spare replaces it, or SERVICE_COLUMNS is raised as severe when no spare is left. -/
  | serviceColumnFail
  /-- LINK_RECOVERY_ENTRY (R166). The link state machine of a head enters Recovery on signal loss or at the partner's direction, under the PCIe rules. -/
  | linkRecoveryEntry (k : Fin 16)
  /-- LINK_RECOVERY_EXIT (R143). A Recovery that was not a speed change completes and the head's link returns to L0 at its rate. -/
  | linkRecoveryExit (k : Fin 16)
  deriving DecidableEq, Repr

end Sys2Proof
end

