-- ==== Sys2Proof/Decode.lean ====
section
/-! DEFINITION. The command that a word spells by the bits of the opcode table. The table gives no row any bits. -/

namespace Sys2Proof

/-- No row of spec/opcode_table.json has bits or fields, so no word spells a command (log 9). -/
def decodeTableWord (_nbits _w : Nat) : Option Instr := none

end Sys2Proof
end

