-- ==== Sys2Proof/Machine/Sparse.lean ====
section
/-! DEFINITION. Sparse data in one canonical form: keys strictly rising, no entry equal to what its key reads as when
unlisted. The register store, the program store and the DRAM symbols are held this way. -/

namespace Sys2Proof.Machine

/-- What a key reads as; `d` is what unlisted keys read as. -/
def sparseGet {α : Type} (d : Nat → α) : List (Nat × α) → Nat → α
  | [], a => d a
  | (b, w) :: l, a => if b = a then w else sparseGet d l a

/-- A write that keeps the canonical form. -/
def sparsePut {α : Type} [DecidableEq α] (d : Nat → α) : List (Nat × α) → Nat → α → List (Nat × α)
  | [], a, v => if v = d a then [] else [(a, v)]
  | (b, w) :: l, a, v =>
    if b < a then (b, w) :: sparsePut d l a v
    else if b = a then (if v = d a then l else (a, v) :: l)
    else if v = d a then (b, w) :: l else (a, v) :: (b, w) :: l

/-- The canonical form. -/
def sparseWf {α : Type} [DecidableEq α] (d : Nat → α) : List (Nat × α) → Bool
  | [] => true
  | [(a, v)] => decide (v ≠ d a)
  | (a, v) :: (b, w) :: l => decide (v ≠ d a) && decide (a < b) && sparseWf d ((b, w) :: l)

/-- A byte of a memory whose unlisted bytes are 0. -/
def Memory.get (m : List Host.Cell) (a : Nat) : Byte := sparseGet (fun _ => 0) m a

/-- A byte written. -/
def Memory.set (m : List Host.Cell) (a : Nat) (v : Byte) : List Host.Cell := sparsePut (fun _ => 0) m a v

/-- The canonical form of a memory. -/
def Memory.wf (m : List Host.Cell) : Bool := sparseWf (fun _ => (0 : Byte)) m

/-- `n` bytes from an address as a little-endian number (R11). -/
def Memory.getN (m : List Host.Cell) (a : Nat) : Nat → Nat
  | 0 => 0
  | n + 1 => (Memory.get m a).toNat + 256 * Memory.getN m (a + 1) n

/-- A number stored little-endian in `n` bytes (R11). -/
def Memory.setN (m : List Host.Cell) (a : Nat) : Nat → Nat → List Host.Cell
  | 0, _ => m
  | n + 1, v => Memory.setN (Memory.set m a (BitVec.ofNat 8 v)) (a + 1) n (v / 256)

/-- A list of bytes stored from an address on. -/
def Memory.setBytes (m : List Host.Cell) (a : Nat) : List Byte → List Host.Cell
  | [] => m
  | b :: bs => Memory.setBytes (Memory.set m a b) (a + 1) bs

/-- `n` bytes from an address. -/
def Memory.bytes (m : List Host.Cell) (a n : Nat) : List Byte := (List.range n).map (fun i => Memory.get m (a + i))

end Sys2Proof.Machine
end

