-- ==== Sys2Proof/Config.lean ====
section
/-! DEFINITION. What an implementation fixes and the values the manual leaves open. A constant without a body is a
FREE VALUE: nothing can be proved of it but what holds for every value (assumption log 2, 6, 7). -/

namespace Sys2Proof.Config

/-- The free value of a given number: a value the manual leaves open where the machine goes on (log 2). -/
opaque freeWord : Nat → BitVec 64

/-- The device's vendor ID register (R214: 'the value in the function's Vendor ID register'; no value given, log 7). -/
opaque vendorId : BitVec 16

/-- A configuration register of a head's function outside the vendor DVSEC before anything wrote it: the PCIe and CXL
specifications define it, this manual does not (R214, log 7). -/
opaque configReset : Nat → BitVec 32

/-- Factory contents of an OTP word: trim words 3 to 127, key slot 0, the identity words (R533, log 6). -/
opaque factoryWord : Nat → BitVec 64

/-- The ROM's fixed mask together with the derivation of R557: the Falcon-1024 public key, 1,793 bytes, derived from
the eight seed words and trim word 127 (log 7). -/
opaque falconPublicKey : List (BitVec 64) → BitVec 64 → List Byte

/-- Falcon-1024 signature over a message with the key derived from the seed (R557, R564, log 7). -/
opaque falconSign : List (BitVec 64) → List Byte → List Byte

/-- Falcon-1024 verification of a signature over a digest with a public key (R553, R555, log 7). -/
opaque falconVerify : List Byte → List Byte → List Byte → Bool

/-- Bytes of a reply whose layout a named standard gives and this manual does not (R208, R210, R216, log 7). -/
opaque standardReply : Nat → List Nat → List Byte

/-- A byte of the common event record header of CXL 3.1, outside the UUID and the Timestamp, by record type and place (R218,
log 7). -/
opaque headerByte : Nat → Nat → Byte

/-- The static power of a DRAM layer in 10 mW at a temperature in quarter degrees, and the energies of an ACT and of a burst
in 10 mW times a stack-clock cycle: trim of each die that the manual gives no layout (R499, log 6). -/
opaque staticPower : Nat → Nat → Nat
opaque actEnergy : Nat → Nat
opaque burstEnergy : Nat → Nat

/-- CAN_T0 in quarter degrees, CAN_N0 and the thermal resistance in 0.1 K/W that a trim word of a layer holds; the
manual gives the word no layout (Table 13.3, log 6). -/
opaque canaryTrim : BitVec 64 → Nat × Nat × Nat

/-- The bank of 256 KiB of its slice that holds a line; the manual does not say how lines lie in banks (R518, R531,
log 32). -/
opaque sliceBank : Nat → BitVec 4

end Sys2Proof.Config
end

