-- ==== Sys2Proof/Machine/RegTable.lean ====
section
/-! DEFINITION. The register space: Table 16.2 with the access codes and reset values of every register table
(R15, R568, R577, R635 to R639). A register's fields are gathered into one mask for each access code; a bit in no
mask is read-only or reserved. -/

namespace Sys2Proof.Machine

/-- The registers of Table 16.2 (R639). -/
inductive RegName where
  | MOD_STRAP
  | MOD_PERST
  | MOD_SUPPLY
  | MOD_POWER
  | WEAR_RATING
  | WEAR_STATUS
  | WEAR_WARN
  | WEAR_LIMIT
  | WEAR_BASE
  | WEAR_COUNT
  | WEAR_RESID
  | WEAR_TOTAL
  | LANE_CTRL
  | LANE_GSTATUS
  | LANE_EQ_DIGEST
  | LN_STATUS
  | LN_CNT
  | LN_TEST
  | LN_INJECT
  | LN_ERRCNT
  | LN_BITCNT
  | LN_EQ
  | SU_STATUS
  | SU_CTRL
  | SU_RESET
  | SU_STEP_RT
  | TU_RT
  | TU_RT_FRAC
  | TU_CTRL
  | TU_STATUS
  | TU_BOUND
  | TU_LIMIT
  | TU_CABLE_DELAY
  | TU_DOMAIN
  | TU_LAST_ERR
  | TU_FREQ
  | TU_PTM_OFFSET
  | TU_EVENT
  | TU_ACK
  | TU_DISARMED
  | TU_STEP_FROM
  | TU_STEP_TO
  | TU_CNT_A
  | TU_CNT_B
  | TC_VALUE
  | TC_PERIOD
  | TC_TOL
  | TC_CTRL
  | TC_STATUS
  | TC_OWNER
  | HD_STATUS
  | HD_EXT_COUNT
  | HD_RD_CNT
  | HD_WR_CNT
  | HD_HALT_HELD
  | HD_DISCARD
  | HD_LAST_DOWN
  | HD_LAST_UP
  | HD_DOWN_CNT
  | HD_FREEZE_LEFT
  | HEAD_GCTRL
  | HEAD_GSTATUS
  | HALT_CTRL
  | HALT_STATUS
  | HALT_NEXT
  | HALT_LAST
  | HALT_COUNT
  | HALT_EVENTS
  | ARR_GCTRL
  | ARR_GSTATUS
  | LC_CTRL
  | LC_STATUS
  | LC_HITS
  | LC_MISSES
  | LC_HALT_HITS
  | CH_STATUS
  | CH_RD
  | CH_WR
  | CH_ACT
  | CH_HITS
  | CH_FWD
  | CH_RMW
  | CH_HELD
  | CH_PRECLOSE
  | REG_M_BW
  | REG_M_SHARE
  | REG_M_EFF
  | REG_M_OCC
  | REG_M_WAIT
  | REG_M_ADM
  | REG_FLOOR
  | REG_SCALE
  | REG_STATUS
  | REG_EXPRESS
  | REG_SCALE_RT
  | TT_CTRL
  | TT_HALT
  | TT_THAW
  | TT_STATE
  | TT_EVROUTE
  | TT_IMAGE
  | TT_CODE_END
  | TT_ISSUE
  | TT_PC
  | TT_FLAGS
  | TT_EVENTS
  | TT_FAULT
  | TT_FAULT_INSN
  | TT_FAULT_ADDR
  | TT_WAKE_RT
  | TT_ISSUED
  | TT_RSTK
  | TT_G
  | CR_STATUS
  | CR_CTRL
  | CR_WIN_BASE
  | CR_WIN_LIMIT
  | CR_WIN_HEADS
  | CR_PROG
  | CAR_THAW
  | SL_STATUS
  | SL_BASE
  | SL_LEN
  | SL_SNAP
  | SL_TB
  | SL_SAVED
  | SL_HELD
  | SL_DAMAGE
  | SL_POISON
  | OUT_DEVINDEX
  | OUT_STATUS
  | OUT_ID
  | OUT_RT
  | OUT_POST_RT
  | SCRUB_CTRL
  | SCRUB_STATUS
  | SCRUB_POS
  | SCRUB_PASS_RT
  | SCRUB_SKIPPED
  | HARD_CTRL
  | INT_CTRL
  | INT_GSTATUS
  | CE_TOTAL
  | UE_TOTAL
  | RPR_CMD
  | RPR_STATUS
  | RET_ADD
  | RET_STATUS
  | INT_CH_STATUS
  | INT_CH_CE
  | INT_CH_UE
  | INT_CH_TRANS
  | INT_CH_FAULT_RT
  | INT_CH_REPLAY
  | CE_LOG
  | UE_LOG
  | XR_GCTRL
  | XR_GSTATUS
  | XR_SI_STATUS
  | XR_SI_BLK
  | XR_CLK
  | XR_XG
  | XR_CH_STATUS
  | XR_CH_DQDEAD
  | XR_CH_DEADHI
  | XR_CH_CADEAD
  | XR_CH_SPMAP
  | XR_CH_CASPMAP
  | XR_FIXED
  | XR_TAPS
  | TH_CTRL
  | TH_STATUS
  | TH_DISPUTED
  | TH_ENF_RT
  | TH_SHUT_RT
  | TH_SHUT
  | TH_SHUT_LOST
  | TH_LAYER
  | TH_LAYER_EST
  | TH_LAYER_PWR
  | TH_SENSOR
  | PWR_STATE_LO
  | PWR_STATE_HI
  | PWR_REFUSED
  | PWR_MREQ
  | PWR_MREQ_CTRL
  | PWR_LASTWAKE
  | PWR_LASTWAKE_RT
  | PWR_RETFAIL
  | PWR_DOM
  | PWR_DOM_FAIL
  | OTP_CTRL
  | OTP_STATUS
  | OTP_CMD
  | OTP_RESULT
  | OTP_DATA
  | OTP_WSTATE
  | KEY_STATUS
  | ARC_VALUE
  | LOCK_STATUS
  | IMG_STATUS
  | IMG_BUILD
  | IMG_DIGEST
  | OTP_DIGEST
  | ID_STATUS
  | ROM_VERSION
  | CTL_UPD_NOW
  | CTL_UPD_PEND
  | CTL_UPD_DISCARD
  | CTL_UPD_LATE
  | CTL_UPD_RT
  | CFG_CTRL
  | CFG_REF
  | CFG_CRC
  | CFG_STATUS
  | CTL_STICKY
  | CTL_STICKY_SRC
  | CTL_FREEZE
  | CTL_LOCK
  | ALIVE_STATUS
  | ALIVE_STOP_RT
  | OWN_REQ_IMG
  | OWN_RES_IMG
  | OWN_REQ_FM
  | OWN_RES_FM
  | AUX_STATUS
  | AUX_CFG
  | HAMP_SHARED
  | SNAP_CTRL
  | SNAP_STATUS
  | SNAP_RT
  | FC_FIRST
  | FC_FIRST_RT
  | FC_FIRST_DETAIL
  | FC_SEVERE
  | FC_ALERT
  | FC_SRC_CFG
  | FC_SRC_STAT
  deriving DecidableEq, Repr

/-- One row of Table 16.2: address, index ranges and strides, width, access masks, reset value, update group. -/
structure RegRow where
  name : RegName
  base : Nat
  /-- First value of the first index. -/
  first : Nat
  /-- One past the last value of the first index. -/
  count : Nat
  stride : Nat
  count2 : Nat
  stride2 : Nat
  wide : Bool
  rw : Nat
  rp : Nat
  w1c : Nat
  rc : Nat
  wo : Nat
  reset : Nat
  /-- Update group of the RP fields (Table 14.2). -/
  group : Option Nat
  deriving DecidableEq, Repr

/-- Rows of block 0x1. -/
def regRows1 : List RegRow := [
  ⟨.MOD_STRAP, 0x10000, 0, 1, 0, 1, 0, false, 0, 0, 0, 0, 0, 0, none⟩,
  ⟨.MOD_PERST, 0x10004, 0, 1, 0, 1, 0, false, 0, 0, 0, 0, 0, 0x55550000, none⟩,
  ⟨.MOD_SUPPLY, 0x10008, 0, 1, 0, 1, 0, false, 0, 0, 0, 0, 0, 0, none⟩,
  ⟨.MOD_POWER, 0x1000C, 0, 1, 0, 1, 0, false, 0, 0, 0x6000000, 0, 0, 0, none⟩,
  ⟨.WEAR_RATING, 0x10040, 0, 1, 0, 1, 0, false, 0, 0, 0, 0, 0, 0x4E20, none⟩,
  ⟨.WEAR_STATUS, 0x10044, 0, 1, 0, 1, 0, false, 0, 0, 0, 0, 0, 0, none⟩,
  ⟨.WEAR_WARN, 0x10048, 0, 1, 0, 1, 0, false, 0, 0, 0x3FFFF, 0, 0, 0, none⟩,
  ⟨.WEAR_LIMIT, 0x1004C, 0, 1, 0, 1, 0, false, 0, 0, 0x3FFFF, 0, 0, 0, none⟩,
  ⟨.WEAR_BASE, 0x10100, 0, 18, 0x10, 1, 0, false, 0, 0, 0, 0, 0xFFFFFFFF, 0, none⟩,
  ⟨.WEAR_COUNT, 0x10104, 0, 18, 0x10, 1, 0, false, 0, 0, 0, 0, 0, 0, none⟩,
  ⟨.WEAR_RESID, 0x10108, 0, 18, 0x10, 1, 0, false, 0, 0, 0, 0, 0, 0, none⟩,
  ⟨.WEAR_TOTAL, 0x1010C, 0, 18, 0x10, 1, 0, false, 0, 0, 0, 0, 0, 0, none⟩]

/-- Rows of block 0x2. -/
def regRows2 : List RegRow := [
  ⟨.LANE_CTRL, 0x20000, 0, 1, 0, 1, 0, false, 0, 0x3F, 0, 0, 0, 4, some 2⟩,
  ⟨.LANE_GSTATUS, 0x20004, 0, 1, 0, 1, 0, false, 0, 0, 3, 0, 0, 0, none⟩,
  ⟨.LANE_EQ_DIGEST, 0x20020, 0, 4, 8, 1, 0, true, 0, 0, 0, 0, 0, 0, none⟩,
  ⟨.LN_STATUS, 0x21000, 0, 64, 0x40, 1, 0, false, 0, 0, 0x2000, 0, 0, 0x703, none⟩,
  ⟨.LN_CNT, 0x21004, 0, 64, 0x40, 1, 0, false, 0, 0, 0, 0xFFFFFFFF, 0, 0, none⟩,
  ⟨.LN_TEST, 0x21008, 0, 64, 0x40, 1, 0, false, 0xFFF, 0, 0x3000, 0, 0, 0x800, none⟩,
  ⟨.LN_INJECT, 0x2100C, 0, 64, 0x40, 1, 0, false, 0x3FFFF, 0, 0, 0, 0, 0x14010, none⟩,
  ⟨.LN_ERRCNT, 0x21010, 0, 64, 0x40, 1, 0, true, 0, 0, 0, 0, 0, 0, none⟩,
  ⟨.LN_BITCNT, 0x21018, 0, 64, 0x40, 1, 0, true, 0, 0, 0, 0, 0, 0, none⟩,
  ⟨.LN_EQ, 0x22000, 0, 5, 0x200, 64, 8, true, 0, 0xFFFFFF1F3F3F3F9F, 0, 0, 0, 0, some 2⟩]

/-- Rows of block 0x3. -/
def regRows3 : List RegRow := [
  ⟨.SU_STATUS, 0x30000, 0, 1, 0, 1, 0, false, 0, 0, 0x8000, 0, 0, 1, none⟩,
  ⟨.SU_CTRL, 0x30004, 0, 1, 0, 1, 0, false, 1, 0, 0, 0, 0, 0, none⟩,
  ⟨.SU_RESET, 0x30008, 0, 1, 0, 1, 0, false, 0, 0, 0, 0, 0, 0, none⟩,
  ⟨.SU_STEP_RT, 0x30010, 1, 10, 8, 1, 0, true, 0, 0, 0, 0, 0, 0, none⟩]

/-- Rows of block 0x4. -/
def regRows4a : List RegRow := [
  ⟨.TU_RT, 0x40000, 0, 1, 0, 1, 0, true, 0, 0, 0, 0, 0, 0, none⟩,
  ⟨.TU_RT_FRAC, 0x40008, 0, 1, 0, 1, 0, false, 0, 0, 0, 0, 0, 0, none⟩,
  ⟨.TU_CTRL, 0x4000C, 0, 1, 0, 1, 0, false, 0, 0xFFF3, 0, 0, 0, 0x2000, some 0⟩,
  ⟨.TU_STATUS, 0x40010, 0, 1, 0, 1, 0, false, 0, 0, 0, 0, 0, 0x200, none⟩,
  ⟨.TU_BOUND, 0x40014, 0, 1, 0, 1, 0, false, 0, 0, 0, 0, 0, 0xFFFFFFFF, none⟩,
  ⟨.TU_LIMIT, 0x40018, 0, 1, 0, 1, 0, false, 0, 0xFFFFFFFF, 0, 0, 0, 0x3E8, some 0⟩,
  ⟨.TU_CABLE_DELAY, 0x4001C, 0, 1, 0, 1, 0, false, 0, 0xFFFFFF, 0, 0, 0, 0, some 0⟩,
  ⟨.TU_DOMAIN, 0x40020, 0, 1, 0, 1, 0, false, 0, 0xFFFF, 0, 0, 0, 0xFFFFFFFF, some 0⟩,
  ⟨.TU_LAST_ERR, 0x40024, 0, 1, 0, 1, 0, false, 0, 0, 0, 0, 0, 0, none⟩,
  ⟨.TU_FREQ, 0x40028, 0, 1, 0, 1, 0, false, 0, 0, 0, 0, 0, 0, none⟩,
  ⟨.TU_PTM_OFFSET, 0x40030, 0, 1, 0, 1, 0, true, 0, 0xFFFFFFFFFFFFFFFF, 0, 0, 0, 0, some 0⟩,
  ⟨.TU_EVENT, 0x40038, 0, 1, 0, 1, 0, false, 0, 0, 0x3FF, 0, 0, 0, none⟩]

/-- Rows of block 0x4. -/
def regRows4b : List RegRow := [
  ⟨.TU_ACK, 0x4003C, 0, 1, 0, 1, 0, false, 0, 0, 1, 0, 0, 0, none⟩,
  ⟨.TU_DISARMED, 0x40040, 0, 1, 0, 1, 0, true, 0, 0, 0xFFFFFFFFFFFFFFFF, 0, 0, 0, none⟩,
  ⟨.TU_STEP_FROM, 0x40048, 0, 1, 0, 1, 0, true, 0, 0, 0, 0, 0, 0, none⟩,
  ⟨.TU_STEP_TO, 0x40050, 0, 1, 0, 1, 0, true, 0, 0, 0, 0, 0, 0, none⟩,
  ⟨.TU_CNT_A, 0x40058, 0, 1, 0, 1, 0, false, 0, 0, 0, 0xFFFFFFFF, 0, 0, none⟩,
  ⟨.TU_CNT_B, 0x4005C, 0, 1, 0, 1, 0, false, 0, 0, 0, 0xFFFFFFFF, 0, 0, none⟩,
  ⟨.TC_VALUE, 0x41000, 0, 64, 0x20, 1, 0, true, 0xFFFFFFFFFFFFFFFF, 0, 0, 0, 0, 0, none⟩,
  ⟨.TC_PERIOD, 0x41008, 0, 64, 0x20, 1, 0, false, 0xFFFFFFFF, 0, 0, 0, 0, 0, none⟩,
  ⟨.TC_TOL, 0x4100C, 0, 64, 0x20, 1, 0, false, 0xFFFFFFFF, 0, 0, 0, 0, 0, none⟩,
  ⟨.TC_CTRL, 0x41010, 0, 64, 0x20, 1, 0, false, 0x1FF1, 0, 0, 0, 0, 0, none⟩,
  ⟨.TC_STATUS, 0x41014, 0, 64, 0x20, 1, 0, false, 0, 0, 0x3F, 0, 0, 0, none⟩,
  ⟨.TC_OWNER, 0x41018, 0, 64, 0x20, 1, 0, false, 0, 0, 0, 0, 0, 0, none⟩]

/-- Rows of block 0x5. -/
def regRows5 : List RegRow := [
  ⟨.HD_STATUS, 0x50000, 0, 16, 0x40, 1, 0, false, 0, 0, 0, 0, 0, 0, none⟩,
  ⟨.HD_EXT_COUNT, 0x50004, 0, 16, 0x40, 1, 0, false, 0, 0, 0, 0, 0, 0, none⟩,
  ⟨.HD_RD_CNT, 0x50008, 0, 16, 0x40, 1, 0, true, 0, 0, 0, 0, 0, 0, none⟩,
  ⟨.HD_WR_CNT, 0x50010, 0, 16, 0x40, 1, 0, true, 0, 0, 0, 0, 0, 0, none⟩,
  ⟨.HD_HALT_HELD, 0x50018, 0, 16, 0x40, 1, 0, false, 0, 0, 0, 0xFFFFFFFF, 0, 0, none⟩,
  ⟨.HD_DISCARD, 0x5001C, 0, 16, 0x40, 1, 0, false, 0, 0, 0, 0xFFFFFFFF, 0, 0, none⟩,
  ⟨.HD_LAST_DOWN, 0x50020, 0, 16, 0x40, 1, 0, true, 0, 0, 0, 0, 0, 0, none⟩,
  ⟨.HD_LAST_UP, 0x50028, 0, 16, 0x40, 1, 0, true, 0, 0, 0, 0, 0, 0, none⟩,
  ⟨.HD_DOWN_CNT, 0x50030, 0, 16, 0x40, 1, 0, false, 0, 0, 0, 0xFFFFFFFF, 0, 0, none⟩,
  ⟨.HD_FREEZE_LEFT, 0x50034, 0, 16, 0x40, 1, 0, false, 0, 0, 0, 0, 0, 0, none⟩,
  ⟨.HEAD_GCTRL, 0x50400, 0, 1, 0, 1, 0, false, 0, 0x7F3F, 0, 0, 0, 0x1930, some 5⟩,
  ⟨.HEAD_GSTATUS, 0x50404, 0, 1, 0, 1, 0, false, 0, 0, 0, 0, 0, 0, none⟩]

/-- Rows of block 0x6. -/
def regRows6a : List RegRow := [
  ⟨.HALT_CTRL, 0x60000, 0, 1, 0, 1, 0, false, 0, 0x1FFF, 0, 0, 0, 0, some 1⟩,
  ⟨.HALT_STATUS, 0x60004, 0, 1, 0, 1, 0, false, 0, 0, 0x8000, 0, 0, 0, none⟩,
  ⟨.HALT_NEXT, 0x60008, 0, 1, 0, 1, 0, true, 0, 0, 0, 0, 0, 0, none⟩,
  ⟨.HALT_LAST, 0x60010, 0, 1, 0, 1, 0, true, 0, 0, 0, 0, 0, 0, none⟩,
  ⟨.HALT_COUNT, 0x60018, 0, 1, 0, 1, 0, true, 0, 0, 0, 0, 0, 0, none⟩,
  ⟨.HALT_EVENTS, 0x60020, 0, 1, 0, 1, 0, false, 0, 0, 0, 0xFFFFFFFF, 0, 0, none⟩,
  ⟨.ARR_GCTRL, 0x60040, 0, 1, 0, 1, 0, false, 0, 0x3F7F7F, 0, 0, 0, 0x102030, some 6⟩,
  ⟨.ARR_GSTATUS, 0x60044, 0, 1, 0, 1, 0, false, 0, 0, 1, 0, 0, 0, none⟩,
  ⟨.LC_CTRL, 0x60080, 0, 1, 0, 1, 0, false, 1, 0, 0, 0, 0, 0, none⟩,
  ⟨.LC_STATUS, 0x60084, 0, 1, 0, 1, 0, false, 0, 0, 0, 0, 0, 0, none⟩,
  ⟨.LC_HITS, 0x60088, 0, 1, 0, 1, 0, true, 0, 0, 0, 0, 0, 0, none⟩,
  ⟨.LC_MISSES, 0x60090, 0, 1, 0, 1, 0, true, 0, 0, 0, 0, 0, 0, none⟩]

/-- Rows of block 0x6. -/
def regRows6b : List RegRow := [
  ⟨.LC_HALT_HITS, 0x60098, 0, 1, 0, 1, 0, true, 0, 0, 0, 0, 0, 0, none⟩,
  ⟨.CH_STATUS, 0x61000, 0, 32, 0x40, 1, 0, false, 0, 0, 0, 0, 0, 0, none⟩,
  ⟨.CH_RD, 0x61008, 0, 32, 0x40, 1, 0, true, 0, 0, 0, 0, 0, 0, none⟩,
  ⟨.CH_WR, 0x61010, 0, 32, 0x40, 1, 0, true, 0, 0, 0, 0, 0, 0, none⟩,
  ⟨.CH_ACT, 0x61018, 0, 32, 0x40, 1, 0, false, 0, 0, 0, 0xFFFFFFFF, 0, 0, none⟩,
  ⟨.CH_HITS, 0x6101C, 0, 32, 0x40, 1, 0, false, 0, 0, 0, 0xFFFFFFFF, 0, 0, none⟩,
  ⟨.CH_FWD, 0x61020, 0, 32, 0x40, 1, 0, false, 0, 0, 0, 0xFFFFFFFF, 0, 0, none⟩,
  ⟨.CH_RMW, 0x61024, 0, 32, 0x40, 1, 0, false, 0, 0, 0, 0xFFFFFFFF, 0, 0, none⟩,
  ⟨.CH_HELD, 0x61028, 0, 32, 0x40, 1, 0, false, 0, 0, 0, 0xFFFFFFFF, 0, 0, none⟩,
  ⟨.CH_PRECLOSE, 0x6102C, 0, 32, 0x40, 1, 0, false, 0, 0, 0, 0xFFFFFFFF, 0, 0, none⟩]

/-- Rows of block 0x7. -/
def regRows7 : List RegRow := [
  ⟨.REG_M_BW, 0x70000, 0, 17, 0x20, 1, 0, false, 0, 0xFF3FFF, 0, 0, 0, 0x10000, some 7⟩,
  ⟨.REG_M_SHARE, 0x70004, 0, 17, 0x20, 1, 0, false, 0, 0x7F7F, 0, 0, 0, 0, some 7⟩,
  ⟨.REG_M_EFF, 0x70008, 0, 17, 0x20, 1, 0, false, 0, 0, 0, 0, 0, 0, none⟩,
  ⟨.REG_M_OCC, 0x7000C, 0, 17, 0x20, 1, 0, false, 0, 0, 0, 0, 0, 0, none⟩,
  ⟨.REG_M_WAIT, 0x70010, 0, 17, 0x20, 1, 0, false, 0, 0, 0, 0xFFFFFFFF, 0, 0, none⟩,
  ⟨.REG_M_ADM, 0x70018, 0, 17, 0x20, 1, 0, true, 0, 0, 0, 0, 0, 0, none⟩,
  ⟨.REG_FLOOR, 0x70400, 0, 1, 0, 1, 0, false, 0, 0, 0, 0, 0, 0x2AF8, none⟩,
  ⟨.REG_SCALE, 0x70404, 0, 1, 0, 1, 0, false, 0, 0, 0, 0, 0, 0x8000, none⟩,
  ⟨.REG_STATUS, 0x70408, 0, 1, 0, 1, 0, false, 0, 0, 1, 0, 0, 0, none⟩,
  ⟨.REG_EXPRESS, 0x7040C, 0, 1, 0, 1, 0, false, 0, 0, 0, 0, 0, 0x4000400, none⟩,
  ⟨.REG_SCALE_RT, 0x70410, 0, 1, 0, 1, 0, true, 0, 0, 0, 0, 0, 0, none⟩]

/-- Rows of block 0x8. -/
def regRows8a : List RegRow := [
  ⟨.TT_CTRL, 0x80000, 0, 1, 0, 1, 0, false, 0xFFFF, 0, 0, 0, 0, 0x64, none⟩,
  ⟨.TT_HALT, 0x80004, 0, 1, 0, 1, 0, false, 0xFF, 0, 0, 0, 0, 0, none⟩,
  ⟨.TT_THAW, 0x80008, 0, 1, 0, 1, 0, false, 0xFF, 0, 0, 0, 0, 0, none⟩,
  ⟨.TT_STATE, 0x8000C, 0, 1, 0, 1, 0, false, 0, 0, 0, 0, 0, 0, none⟩,
  ⟨.TT_EVROUTE, 0x80010, 0, 1, 0, 1, 0, false, 0x3FFFF, 0, 0, 0, 0, 0, none⟩,
  ⟨.TT_IMAGE, 0x80014, 0, 1, 0, 1, 0, false, 0, 0, 0, 0, 0, 0, none⟩,
  ⟨.TT_CODE_END, 0x80018, 0, 1, 0, 1, 0, false, 0, 0, 0, 0, 0, 0, none⟩,
  ⟨.TT_ISSUE, 0x80020, 0, 1, 0, 1, 0, true, 0, 0, 0, 0, 0, 0, none⟩,
  ⟨.TT_PC, 0x80100, 0, 8, 0x100, 1, 0, false, 0x7FFFFF, 0, 0, 0, 0, 0, none⟩,
  ⟨.TT_FLAGS, 0x80104, 0, 8, 0x100, 1, 0, false, 0, 0, 0x200, 0, 0, 0, none⟩,
  ⟨.TT_EVENTS, 0x80108, 0, 8, 0x100, 1, 0, false, 0, 0, 0, 0, 0, 0, none⟩,
  ⟨.TT_FAULT, 0x8010C, 0, 8, 0x100, 1, 0, false, 0, 0, 0, 0, 0, 0, none⟩]

/-- Rows of block 0x8. -/
def regRows8b : List RegRow := [
  ⟨.TT_FAULT_INSN, 0x80110, 0, 8, 0x100, 1, 0, true, 0, 0, 0, 0, 0, 0, none⟩,
  ⟨.TT_FAULT_ADDR, 0x80118, 0, 8, 0x100, 1, 0, true, 0, 0, 0, 0, 0, 0, none⟩,
  ⟨.TT_WAKE_RT, 0x80120, 0, 8, 0x100, 1, 0, true, 0, 0, 0, 0, 0, 0, none⟩,
  ⟨.TT_ISSUED, 0x80128, 0, 8, 0x100, 1, 0, true, 0, 0, 0, 0, 0, 0, none⟩,
  ⟨.TT_RSTK, 0x80140, 0, 8, 0x100, 16, 4, false, 0, 0, 0, 0, 0, 0, none⟩,
  ⟨.TT_G, 0x80180, 0, 8, 0x100, 16, 8, true, 0xFFFFFFFFFFFFFFFF, 0, 0, 0, 0, 0, none⟩]

/-- Rows of block 0x9. -/
def regRows9a : List RegRow := [
  ⟨.CR_STATUS, 0x90000, 0, 32, 0x40, 1, 0, false, 0, 0, 8, 0, 0, 0, none⟩,
  ⟨.CR_CTRL, 0x90004, 0, 32, 0x40, 1, 0, false, 0xFFFFFF, 0, 0, 0, 0, 0x2710, none⟩,
  ⟨.CR_WIN_BASE, 0x90008, 0, 32, 0x40, 1, 0, true, 0xFFFFFFFC0, 0, 0, 0, 0, 0, none⟩,
  ⟨.CR_WIN_LIMIT, 0x90010, 0, 32, 0x40, 1, 0, true, 0xFFFFFFFC0, 0, 0, 0, 0, 0, none⟩,
  ⟨.CR_WIN_HEADS, 0x90018, 0, 32, 0x40, 1, 0, false, 0xFFFF, 0, 0, 0, 0, 0, none⟩,
  ⟨.CR_PROG, 0x90020, 0, 32, 0x40, 4, 8, true, 0, 0, 0, 0, 0, 0, none⟩,
  ⟨.CAR_THAW, 0x90800, 0, 1, 0, 1, 0, false, 0xFFFFFFFF, 0, 0, 0, 0, 0, none⟩,
  ⟨.SL_STATUS, 0x90900, 0, 4, 0x40, 1, 0, false, 0, 0, 0, 0, 0, 0, none⟩,
  ⟨.SL_BASE, 0x90908, 0, 4, 0x40, 1, 0, true, 0, 0, 0, 0, 0, 0, none⟩,
  ⟨.SL_LEN, 0x90910, 0, 4, 0x40, 1, 0, true, 0, 0, 0, 0, 0, 0, none⟩,
  ⟨.SL_SNAP, 0x90918, 0, 4, 0x40, 1, 0, true, 0, 0, 0, 0, 0, 0, none⟩,
  ⟨.SL_TB, 0x90920, 0, 4, 0x40, 1, 0, true, 0, 0, 0, 0, 0, 0, none⟩]

/-- Rows of block 0x9. -/
def regRows9b : List RegRow := [
  ⟨.SL_SAVED, 0x90928, 0, 4, 0x40, 1, 0, true, 0, 0, 0, 0, 0, 0, none⟩,
  ⟨.SL_HELD, 0x90930, 0, 4, 0x40, 1, 0, false, 0, 0, 0, 0, 0, 0, none⟩,
  ⟨.SL_DAMAGE, 0x90934, 0, 4, 0x40, 1, 0, false, 0, 0, 0, 0, 0, 0, none⟩,
  ⟨.SL_POISON, 0x90938, 0, 4, 0x40, 1, 0, false, 0, 0, 0, 0, 0, 0, none⟩,
  ⟨.OUT_DEVINDEX, 0x90A00, 0, 1, 0, 1, 0, false, 0x1FFF, 0, 0, 0, 0, 0, none⟩,
  ⟨.OUT_STATUS, 0x90A20, 0, 8, 0x20, 1, 0, false, 0, 0, 0, 0, 0, 0, none⟩,
  ⟨.OUT_ID, 0x90A24, 0, 8, 0x20, 1, 0, false, 0, 0, 0, 0, 0, 0, none⟩,
  ⟨.OUT_RT, 0x90A28, 0, 8, 0x20, 1, 0, true, 0, 0, 0, 0, 0, 0, none⟩,
  ⟨.OUT_POST_RT, 0x90A30, 0, 8, 0x20, 1, 0, true, 0, 0, 0, 0, 0, 0, none⟩]

/-- Rows of block 0xA. -/
def regRowsAa : List RegRow := [
  ⟨.SCRUB_CTRL, 0xA0000, 0, 1, 0, 1, 0, false, 0, 0x1FF, 0, 0, 0, 0x18, some 10⟩,
  ⟨.SCRUB_STATUS, 0xA0004, 0, 1, 0, 1, 0, false, 0, 0, 0, 0, 0, 0, none⟩,
  ⟨.SCRUB_POS, 0xA0008, 0, 1, 0, 1, 0, true, 0, 0, 0, 0, 0, 0, none⟩,
  ⟨.SCRUB_PASS_RT, 0xA0010, 0, 1, 0, 1, 0, true, 0, 0, 0, 0, 0, 0, none⟩,
  ⟨.SCRUB_SKIPPED, 0xA0018, 0, 1, 0, 1, 0, false, 0, 0, 0, 0xFFFFFFFF, 0, 0, none⟩,
  ⟨.HARD_CTRL, 0xA001C, 0, 1, 0, 1, 0, false, 0, 0xFFFF, 0, 0, 0, 0x1804, some 10⟩,
  ⟨.INT_CTRL, 0xA0020, 0, 1, 0, 1, 0, false, 0, 0xFFFF, 0, 0, 0, 0x64, some 10⟩,
  ⟨.INT_GSTATUS, 0xA0024, 0, 1, 0, 1, 0, false, 0, 0, 7, 0, 0, 0, none⟩,
  ⟨.CE_TOTAL, 0xA0028, 0, 1, 0, 1, 0, true, 0, 0, 0, 0, 0, 0, none⟩,
  ⟨.UE_TOTAL, 0xA0030, 0, 1, 0, 1, 0, true, 0, 0, 0, 0, 0, 0, none⟩,
  ⟨.RPR_CMD, 0xA0040, 0, 1, 0, 1, 0, false, 0x81FFFFFF, 0, 0, 0, 0, 0, none⟩,
  ⟨.RPR_STATUS, 0xA0044, 0, 1, 0, 1, 0, false, 0, 0, 0, 0, 0, 0, none⟩]

/-- Rows of block 0xA. -/
def regRowsAb : List RegRow := [
  ⟨.RET_ADD, 0xA0048, 0, 1, 0, 1, 0, true, 0xFFFFFF001, 0, 0, 0, 0, 0, none⟩,
  ⟨.RET_STATUS, 0xA0050, 0, 1, 0, 1, 0, false, 0, 0, 0x1800, 0, 0, 0, none⟩,
  ⟨.INT_CH_STATUS, 0xA1000, 0, 32, 0x20, 1, 0, false, 0, 0, 0, 0, 0, 0, none⟩,
  ⟨.INT_CH_CE, 0xA1004, 0, 32, 0x20, 1, 0, false, 0, 0, 0, 0xFFFFFFFF, 0, 0, none⟩,
  ⟨.INT_CH_UE, 0xA1008, 0, 32, 0x20, 1, 0, false, 0, 0, 0, 0xFFFFFFFF, 0, 0, none⟩,
  ⟨.INT_CH_TRANS, 0xA100C, 0, 32, 0x20, 1, 0, false, 0, 0, 0, 0xFFFFFFFF, 0, 0, none⟩,
  ⟨.INT_CH_FAULT_RT, 0xA1010, 0, 32, 0x20, 1, 0, true, 0, 0, 0, 0, 0, 0, none⟩,
  ⟨.INT_CH_REPLAY, 0xA1018, 0, 32, 0x20, 1, 0, false, 0, 0, 0, 0, 0, 0, none⟩,
  ⟨.CE_LOG, 0xA2000, 0, 64, 0x20, 4, 8, true, 0, 0, 0, 0, 0, 0, none⟩,
  ⟨.UE_LOG, 0xA2800, 0, 32, 0x20, 4, 8, true, 0, 0, 0, 0, 0, 0, none⟩]

/-- Rows of block 0xB. -/
def regRowsBa : List RegRow := [
  ⟨.XR_GCTRL, 0xB0000, 0, 1, 0, 1, 0, false, 0, 3, 0, 0, 0, 1, some 11⟩,
  ⟨.XR_GSTATUS, 0xB0004, 0, 1, 0, 1, 0, false, 0, 0, 2, 0, 0, 0, none⟩,
  ⟨.XR_SI_STATUS, 0xB0040, 0, 2, 0x10, 1, 0, false, 0, 0, 0, 0, 0, 0, none⟩,
  ⟨.XR_SI_BLK, 0xB0044, 0, 2, 0x10, 3, 4, false, 0, 0, 0, 0, 0, 0xFFFFFFFF, none⟩,
  ⟨.XR_CLK, 0xB0100, 0, 17, 4, 1, 0, false, 0, 0, 0, 0, 0, 0, none⟩,
  ⟨.XR_XG, 0xB0400, 0, 2, 0x100, 64, 4, false, 0, 0, 0, 0, 0, 0x310, none⟩,
  ⟨.XR_CH_STATUS, 0xB1000, 0, 32, 0x40, 1, 0, false, 0, 0, 0, 0, 0, 0, none⟩,
  ⟨.XR_CH_DQDEAD, 0xB1008, 0, 32, 0x40, 1, 0, true, 0, 0, 0, 0, 0, 0, none⟩,
  ⟨.XR_CH_DEADHI, 0xB1010, 0, 32, 0x40, 1, 0, false, 0, 0, 0, 0, 0, 0, none⟩,
  ⟨.XR_CH_CADEAD, 0xB1014, 0, 32, 0x40, 1, 0, false, 0, 0, 0, 0, 0, 0, none⟩,
  ⟨.XR_CH_SPMAP, 0xB1018, 0, 32, 0x40, 1, 0, false, 0, 0, 0, 0, 0, 0x7F7F7F7F, none⟩,
  ⟨.XR_CH_CASPMAP, 0xB101C, 0, 32, 0x40, 1, 0, false, 0, 0, 0, 0, 0, 0x1F1F, none⟩]

/-- Rows of block 0xB. -/
def regRowsBb : List RegRow := [
  ⟨.XR_FIXED, 0xB2000, 0, 1344, 4, 1, 0, false, 0, 0x9F9F9F9F, 0, 0, 0, 0, some 11⟩,
  ⟨.XR_TAPS, 0xB4000, 0, 1344, 4, 1, 0, false, 0, 0, 0, 0, 0, 0x80808080, none⟩]

/-- Rows of block 0xC. -/
def regRowsCa : List RegRow := [
  ⟨.TH_CTRL, 0xC0000, 0, 1, 0, 1, 0, false, 0, 0xFFFF3FFF, 0, 0, 0, 0x600003E8, some 12⟩,
  ⟨.TH_STATUS, 0xC0004, 0, 1, 0, 1, 0, false, 0, 0, 0, 0, 0, 0, none⟩,
  ⟨.TH_DISPUTED, 0xC0008, 0, 1, 0, 1, 0, false, 0, 0, 0, 0, 0, 0, none⟩,
  ⟨.TH_ENF_RT, 0xC0010, 0, 1, 0, 1, 0, true, 0, 0, 0, 0, 0, 0, none⟩,
  ⟨.TH_SHUT_RT, 0xC0018, 0, 1, 0, 1, 0, true, 0, 0, 0, 0, 0, 0, none⟩,
  ⟨.TH_SHUT, 0xC0020, 0, 1, 0, 1, 0, false, 0, 0, 0, 0, 0, 0, none⟩,
  ⟨.TH_SHUT_LOST, 0xC0024, 0, 1, 0, 1, 0, false, 0, 0, 0, 0, 0, 0, none⟩,
  ⟨.TH_LAYER, 0xC0100, 0, 18, 0x10, 1, 0, false, 0, 0, 0, 0, 0, 0, none⟩,
  ⟨.TH_LAYER_EST, 0xC0104, 0, 18, 0x10, 1, 0, false, 0, 0, 0, 0, 0, 0x200000, none⟩,
  ⟨.TH_LAYER_PWR, 0xC0108, 0, 18, 0x10, 1, 0, false, 0, 0, 0, 0, 0, 0, none⟩,
  ⟨.TH_SENSOR, 0xC0300, 0, 56, 4, 1, 0, false, 0, 0, 0, 0, 0, 0, none⟩,
  ⟨.PWR_STATE_LO, 0xC0800, 0, 1, 0, 1, 0, true, 0, 0, 0, 0, 0, 0, none⟩]

/-- Rows of block 0xC. -/
def regRowsCb : List RegRow := [
  ⟨.PWR_STATE_HI, 0xC0808, 0, 1, 0, 1, 0, true, 0, 0, 0, 0, 0, 0, none⟩,
  ⟨.PWR_REFUSED, 0xC0810, 0, 1, 0, 1, 0, true, 0, 0, 0, 0, 0, 0, none⟩,
  ⟨.PWR_MREQ, 0xC0818, 0, 1, 0, 1, 0, true, 0xFFFFFFFFFFFFFFFF, 0, 0, 0, 0, 0, none⟩,
  ⟨.PWR_MREQ_CTRL, 0xC0820, 0, 1, 0, 1, 0, false, 7, 0, 0, 0, 0, 0, none⟩,
  ⟨.PWR_LASTWAKE, 0xC0824, 0, 1, 0, 1, 0, false, 0, 0, 0, 0, 0, 0, none⟩,
  ⟨.PWR_LASTWAKE_RT, 0xC0828, 0, 1, 0, 1, 0, true, 0, 0, 0, 0, 0, 0, none⟩,
  ⟨.PWR_RETFAIL, 0xC0830, 0, 1, 0, 1, 0, true, 0, 0, 0xFFFFFFFFFFFFFFFF, 0, 0, 0, none⟩,
  ⟨.PWR_DOM, 0xC0900, 0, 64, 8, 1, 0, false, 0xFFFF0000, 0, 0, 0, 0, 0xFFFF0000, none⟩,
  ⟨.PWR_DOM_FAIL, 0xC0904, 0, 64, 8, 1, 0, false, 0, 0, 0xFFFF, 0, 0, 0, none⟩]

/-- Rows of block 0xD. -/
def regRowsDa : List RegRow := [
  ⟨.OTP_CTRL, 0xD0000, 0, 1, 0, 1, 0, false, 1, 0, 0, 0, 0, 1, none⟩,
  ⟨.OTP_STATUS, 0xD0004, 0, 1, 0, 1, 0, false, 0, 0, 0x10, 0, 0, 2, none⟩,
  ⟨.OTP_CMD, 0xD0008, 0, 1, 0, 1, 0, false, 0x80000FFF, 0, 0, 0, 0, 0, none⟩,
  ⟨.OTP_RESULT, 0xD000C, 0, 1, 0, 1, 0, false, 0, 0, 0, 0, 0, 0, none⟩,
  ⟨.OTP_DATA, 0xD0010, 0, 1, 0, 1, 0, true, 0xFFFFFFFFFFFFFFFF, 0, 0, 0, 0, 0, none⟩,
  ⟨.OTP_WSTATE, 0xD0100, 0, 32, 4, 1, 0, false, 0, 0, 0, 0, 0, 0, none⟩,
  ⟨.KEY_STATUS, 0xD0200, 0, 1, 0, 1, 0, false, 0, 0, 0, 0, 0, 0, none⟩,
  ⟨.ARC_VALUE, 0xD0204, 0, 1, 0, 1, 0, false, 0, 0, 0, 0, 0, 0, none⟩,
  ⟨.LOCK_STATUS, 0xD0208, 0, 1, 0, 1, 0, false, 0, 0, 0, 0, 0, 0, none⟩,
  ⟨.IMG_STATUS, 0xD0210, 0, 1, 0, 1, 0, false, 0, 0, 0, 0, 0, 0, none⟩,
  ⟨.IMG_BUILD, 0xD0218, 0, 1, 0, 1, 0, true, 0, 0, 0, 0, 0, 0, none⟩,
  ⟨.IMG_DIGEST, 0xD0220, 0, 4, 8, 1, 0, true, 0, 0, 0, 0, 0, 0, none⟩]

/-- Rows of block 0xD. -/
def regRowsDb : List RegRow := [
  ⟨.OTP_DIGEST, 0xD0240, 0, 4, 8, 1, 0, true, 0, 0, 0, 0, 0, 0, none⟩,
  ⟨.ID_STATUS, 0xD0260, 0, 1, 0, 1, 0, false, 0, 0, 0, 0, 0, 0, none⟩,
  ⟨.ROM_VERSION, 0xD0264, 0, 1, 0, 1, 0, false, 0, 0, 0, 0, 0, 1, none⟩]

/-- Rows of block 0xE. -/
def regRowsEa : List RegRow := [
  ⟨.CTL_UPD_NOW, 0xE0000, 0, 1, 0, 1, 0, false, 0xFFFF, 0, 0, 0, 0, 0, none⟩,
  ⟨.CTL_UPD_PEND, 0xE0004, 0, 1, 0, 1, 0, false, 0, 0, 0, 0, 0, 0, none⟩,
  ⟨.CTL_UPD_DISCARD, 0xE0008, 0, 1, 0, 1, 0, false, 0xFFFF, 0, 0, 0, 0, 0, none⟩,
  ⟨.CTL_UPD_LATE, 0xE000C, 0, 1, 0, 1, 0, false, 0, 0, 0xFFFF, 0, 0, 0, none⟩,
  ⟨.CTL_UPD_RT, 0xE0010, 0, 1, 0, 1, 0, true, 0, 0, 0, 0, 0, 0, none⟩,
  ⟨.CFG_CTRL, 0xE0020, 0, 1, 0, 1, 0, false, 1, 0, 0, 0, 0, 0, none⟩,
  ⟨.CFG_REF, 0xE0024, 0, 1, 0, 1, 0, false, 0, 0xFFFFFFFF, 0, 0, 0, 0, none⟩,
  ⟨.CFG_CRC, 0xE0028, 0, 1, 0, 1, 0, false, 0, 0, 0, 0, 0, 0, none⟩,
  ⟨.CFG_STATUS, 0xE002C, 0, 1, 0, 1, 0, false, 0, 0, 1, 0xFFFF0000, 0, 0, none⟩,
  ⟨.CTL_STICKY, 0xE0030, 0, 1, 0, 1, 0, false, 0, 0, 0xFFFE, 0, 0, 0, none⟩,
  ⟨.CTL_STICKY_SRC, 0xE0034, 0, 1, 0, 1, 0, false, 0, 0, 0x20000000, 0, 0, 0, none⟩,
  ⟨.CTL_FREEZE, 0xE0040, 0, 1, 0, 1, 0, false, 0, 0x7F, 0, 0, 0, 0xA, some 4⟩]

/-- Rows of block 0xE. -/
def regRowsEb : List RegRow := [
  ⟨.CTL_LOCK, 0xE0044, 0, 1, 0, 1, 0, false, 0, 0, 0, 0, 3, 0, none⟩,
  ⟨.ALIVE_STATUS, 0xE0048, 0, 1, 0, 1, 0, false, 0, 0, 0, 0, 0, 0, none⟩,
  ⟨.ALIVE_STOP_RT, 0xE0050, 0, 1, 0, 1, 0, true, 0, 0, 0, 0, 0, 0, none⟩,
  ⟨.OWN_REQ_IMG, 0xE0080, 0, 1, 0, 1, 0, false, 0x80003FFF, 0, 0, 0, 0, 0, none⟩,
  ⟨.OWN_RES_IMG, 0xE0084, 0, 1, 0, 1, 0, false, 0, 0, 0, 0, 0, 0, none⟩,
  ⟨.OWN_REQ_FM, 0xE0088, 0, 1, 0, 1, 0, false, 0x80003FFF, 0, 0, 0, 0, 0, none⟩,
  ⟨.OWN_RES_FM, 0xE008C, 0, 1, 0, 1, 0, false, 0, 0, 0, 0, 0, 0, none⟩,
  ⟨.AUX_STATUS, 0xE0090, 0, 1, 0, 1, 0, false, 0, 0, 0, 0, 0, 0, none⟩,
  ⟨.AUX_CFG, 0xE0094, 0, 1, 0, 1, 0, false, 0xFF, 0, 0, 0, 0, 0, none⟩,
  ⟨.HAMP_SHARED, 0xE00A0, 0, 1, 0, 1, 0, false, 0, 0, 0, 0, 0, 0x20000000, none⟩,
  ⟨.SNAP_CTRL, 0xE0100, 0, 1, 0, 1, 0, false, 0x3F, 0, 0, 0, 0, 0x1C, none⟩,
  ⟨.SNAP_STATUS, 0xE0104, 0, 1, 0, 1, 0, false, 0, 0, 0, 0, 0, 0, none⟩]

/-- Rows of block 0xE. -/
def regRowsEc : List RegRow := [
  ⟨.SNAP_RT, 0xE0108, 0, 1, 0, 1, 0, true, 0, 0, 0, 0, 0, 0, none⟩,
  ⟨.FC_FIRST, 0xE1000, 0, 1, 0, 1, 0, false, 0, 0, 0x100, 0, 0, 0, none⟩,
  ⟨.FC_FIRST_RT, 0xE1008, 0, 1, 0, 1, 0, true, 0, 0, 0, 0, 0, 0, none⟩,
  ⟨.FC_FIRST_DETAIL, 0xE1010, 0, 1, 0, 1, 0, true, 0, 0, 0, 0, 0, 0, none⟩,
  ⟨.FC_SEVERE, 0xE1020, 0, 2, 8, 1, 0, true, 0, 0, 0, 0, 0, 0, none⟩,
  ⟨.FC_ALERT, 0xE1030, 0, 2, 8, 1, 0, true, 0, 0, 0xFFFFFFFFFFFFFFFF, 0, 0, 0, none⟩,
  ⟨.FC_SRC_CFG, 0xE1400, 0, 128, 8, 1, 0, false, 0, 0xFFFFFF07, 0, 0, 0, 0x10100, some 3⟩,
  ⟨.FC_SRC_STAT, 0xE1404, 0, 128, 8, 1, 0, false, 0, 0, 0x100, 0xFFFF0000, 0, 0, none⟩]

/-- The rows of a block by its number, address bits [19:16] (R636). -/
def regBlock : Nat → List RegRow
  | 1 => regRows1
  | 2 => regRows2
  | 3 => regRows3
  | 4 => regRows4a ++ regRows4b
  | 5 => regRows5
  | 6 => regRows6a ++ regRows6b
  | 7 => regRows7
  | 8 => regRows8a ++ regRows8b
  | 9 => regRows9a ++ regRows9b
  | 0xA => regRowsAa ++ regRowsAb
  | 0xB => regRowsBa ++ regRowsBb
  | 0xC => regRowsCa ++ regRowsCb
  | 0xD => regRowsDa ++ regRowsDb
  | 0xE => regRowsEa ++ regRowsEb ++ regRowsEc
  | _ => []

/-- Where an address falls in a row: its two indices, if it is one of the row's addresses (R639). -/
def RegRow.index (r : RegRow) (addr : Nat) : Option (Nat × Nat) :=
  if addr < r.base then none else
  let o := addr - r.base
  let i := if r.stride = 0 then 0 else o / r.stride
  let o1 := if r.stride = 0 then o else o % r.stride
  let j := if r.stride2 = 0 then 0 else o1 / r.stride2
  let o2 := if r.stride2 = 0 then o1 else o1 % r.stride2
  if o2 = 0 ∧ r.first ≤ i ∧ i < r.count ∧ j < r.count2 then some (i, j) else none

/-- The first row of a list that lists an address, with its indices. -/
def regFind : List RegRow → Nat → Option (RegRow × Nat × Nat)
  | [], _ => none
  | r :: rs, addr =>
    match r.index addr with
    | some (i, j) => some (r, i, j)
    | none => regFind rs addr

/-- The register at an address, with its indices; none for a reserved address (R16, R637). -/
def regLookup (addr : Nat) : Option (RegRow × Nat × Nat) :=
  if addr < 0x100000 then regFind (regBlock (addr / 0x10000)) addr else none

/-- Default reaction class of a fault source (Table 14.4); none for a reserved number (R589). -/
def faultClass (n : Nat) : Option Nat :=
  if n ≤ 1 then some 0 else if n = 2 then some 1 else if n = 3 then some 4
  else if n ≤ 6 then some 2 else if n ≤ 8 then some 1 else if n = 9 then some 5
  else if n = 10 then some 0 else if n ≤ 12 then some 1 else if n ≤ 15 then none
  else if n ≤ 25 then some ([0, 1, 0, 0, 1, 1, 0, 1, 0, 0].getD (n - 16) 0)
  else if n = 26 then some 1 else if n ≤ 31 then none
  else if n ≤ 35 then some 0 else if n = 36 then some 1 else if n ≤ 39 then none
  else if n ≤ 41 then some 1 else if n = 42 then some 0 else if n = 43 then none
  else if n ≤ 45 then some 1 else if n ≤ 47 then none else if n = 48 then some 1
  else if n ≤ 51 then none else if n ≤ 54 then some 1 else if n = 55 then none
  else if n ≤ 67 then some ([1, 1, 1, 0, 1, 0, 1, 0, 1, 5, 1, 1].getD (n - 56) 0)
  else if n ≤ 71 then none
  else if n ≤ 82 then some ([0, 0, 0, 1, 1, 1, 1, 1, 1, 1, 5].getD (n - 72) 0)
  else if n ≤ 87 then none else if n = 90 then some 5 else if n ≤ 91 then some 1
  else if n ≤ 95 then none else if n = 96 then some 0 else if n ≤ 103 then some 1
  else none

/-- The sources whose class is fixed and whose first event is severe (R594). -/
def faultFixed (n : Nat) : Bool := n == 3 || n == 9 || n == 82 || n == 90

/-- The layer of a sensor (Table 12.1). -/
def sensorLayer (s : Nat) : Nat := if s < 8 then 0 else if s < 40 then (s - 8) / 2 + 1 else 17

/-- Reset value of an instance of a row: the table's, except where it differs by index (Tables 12.1 and 14.4). -/
def RegRow.resetAt (r : RegRow) (i : Nat) : Nat :=
  if r.name = .FC_SRC_CFG then
    match faultClass i with
    | some c => r.reset + c
    | none => 0
  else if r.name = .TH_SENSOR then r.reset + sensorLayer i * 0x1000
  else r.reset

/-- Reset value at an address; 0 at a reserved one. -/
def regReset (addr : Nat) : Word :=
  match regLookup addr with
  | some (r, i, _) => BitVec.ofNat 64 (r.resetAt i)
  | none => 0

/-! Addresses by name. -/

abbrev aMOD_STRAP : Nat := 0x10000
abbrev aMOD_PERST : Nat := 0x10004
abbrev aMOD_SUPPLY : Nat := 0x10008
abbrev aMOD_POWER : Nat := 0x1000C
abbrev aWEAR_RATING : Nat := 0x10040
abbrev aWEAR_STATUS : Nat := 0x10044
abbrev aWEAR_WARN : Nat := 0x10048
abbrev aWEAR_LIMIT : Nat := 0x1004C
abbrev aWEAR_BASE (i : Nat) : Nat := 0x10100 + i * 0x10
abbrev aWEAR_COUNT (i : Nat) : Nat := 0x10104 + i * 0x10
abbrev aWEAR_RESID (i : Nat) : Nat := 0x10108 + i * 0x10
abbrev aWEAR_TOTAL (i : Nat) : Nat := 0x1010C + i * 0x10
abbrev aLANE_CTRL : Nat := 0x20000
abbrev aLANE_GSTATUS : Nat := 0x20004
abbrev aLANE_EQ_DIGEST (i : Nat) : Nat := 0x20020 + i * 8
abbrev aLN_STATUS (i : Nat) : Nat := 0x21000 + i * 0x40
abbrev aLN_CNT (i : Nat) : Nat := 0x21004 + i * 0x40
abbrev aLN_TEST (i : Nat) : Nat := 0x21008 + i * 0x40
abbrev aLN_INJECT (i : Nat) : Nat := 0x2100C + i * 0x40
abbrev aLN_ERRCNT (i : Nat) : Nat := 0x21010 + i * 0x40
abbrev aLN_BITCNT (i : Nat) : Nat := 0x21018 + i * 0x40
abbrev aLN_EQ (i j : Nat) : Nat := 0x22000 + i * 0x200 + j * 8
abbrev aSU_STATUS : Nat := 0x30000
abbrev aSU_CTRL : Nat := 0x30004
abbrev aSU_RESET : Nat := 0x30008
abbrev aSU_STEP_RT (i : Nat) : Nat := 0x30010 + i * 8
abbrev aTU_RT : Nat := 0x40000
abbrev aTU_RT_FRAC : Nat := 0x40008
abbrev aTU_CTRL : Nat := 0x4000C
abbrev aTU_STATUS : Nat := 0x40010
abbrev aTU_BOUND : Nat := 0x40014
abbrev aTU_LIMIT : Nat := 0x40018
abbrev aTU_CABLE_DELAY : Nat := 0x4001C
abbrev aTU_DOMAIN : Nat := 0x40020
abbrev aTU_LAST_ERR : Nat := 0x40024
abbrev aTU_FREQ : Nat := 0x40028
abbrev aTU_PTM_OFFSET : Nat := 0x40030
abbrev aTU_EVENT : Nat := 0x40038
abbrev aTU_ACK : Nat := 0x4003C
abbrev aTU_DISARMED : Nat := 0x40040
abbrev aTU_STEP_FROM : Nat := 0x40048
abbrev aTU_STEP_TO : Nat := 0x40050
abbrev aTU_CNT_A : Nat := 0x40058
abbrev aTU_CNT_B : Nat := 0x4005C
abbrev aTC_VALUE (i : Nat) : Nat := 0x41000 + i * 0x20
abbrev aTC_PERIOD (i : Nat) : Nat := 0x41008 + i * 0x20
abbrev aTC_TOL (i : Nat) : Nat := 0x4100C + i * 0x20
abbrev aTC_CTRL (i : Nat) : Nat := 0x41010 + i * 0x20
abbrev aTC_STATUS (i : Nat) : Nat := 0x41014 + i * 0x20
abbrev aTC_OWNER (i : Nat) : Nat := 0x41018 + i * 0x20
abbrev aHD_STATUS (i : Nat) : Nat := 0x50000 + i * 0x40
abbrev aHD_EXT_COUNT (i : Nat) : Nat := 0x50004 + i * 0x40
abbrev aHD_RD_CNT (i : Nat) : Nat := 0x50008 + i * 0x40
abbrev aHD_WR_CNT (i : Nat) : Nat := 0x50010 + i * 0x40
abbrev aHD_HALT_HELD (i : Nat) : Nat := 0x50018 + i * 0x40
abbrev aHD_DISCARD (i : Nat) : Nat := 0x5001C + i * 0x40
abbrev aHD_LAST_DOWN (i : Nat) : Nat := 0x50020 + i * 0x40
abbrev aHD_LAST_UP (i : Nat) : Nat := 0x50028 + i * 0x40
abbrev aHD_DOWN_CNT (i : Nat) : Nat := 0x50030 + i * 0x40
abbrev aHD_FREEZE_LEFT (i : Nat) : Nat := 0x50034 + i * 0x40
abbrev aHEAD_GCTRL : Nat := 0x50400
abbrev aHEAD_GSTATUS : Nat := 0x50404
abbrev aHALT_CTRL : Nat := 0x60000
abbrev aHALT_STATUS : Nat := 0x60004
abbrev aHALT_NEXT : Nat := 0x60008
abbrev aHALT_LAST : Nat := 0x60010
abbrev aHALT_COUNT : Nat := 0x60018
abbrev aHALT_EVENTS : Nat := 0x60020
abbrev aARR_GCTRL : Nat := 0x60040
abbrev aARR_GSTATUS : Nat := 0x60044
abbrev aLC_CTRL : Nat := 0x60080
abbrev aLC_STATUS : Nat := 0x60084
abbrev aLC_HITS : Nat := 0x60088
abbrev aLC_MISSES : Nat := 0x60090
abbrev aLC_HALT_HITS : Nat := 0x60098
abbrev aCH_STATUS (i : Nat) : Nat := 0x61000 + i * 0x40
abbrev aCH_RD (i : Nat) : Nat := 0x61008 + i * 0x40
abbrev aCH_WR (i : Nat) : Nat := 0x61010 + i * 0x40
abbrev aCH_ACT (i : Nat) : Nat := 0x61018 + i * 0x40
abbrev aCH_HITS (i : Nat) : Nat := 0x6101C + i * 0x40
abbrev aCH_FWD (i : Nat) : Nat := 0x61020 + i * 0x40
abbrev aCH_RMW (i : Nat) : Nat := 0x61024 + i * 0x40
abbrev aCH_HELD (i : Nat) : Nat := 0x61028 + i * 0x40
abbrev aCH_PRECLOSE (i : Nat) : Nat := 0x6102C + i * 0x40
abbrev aREG_M_BW (i : Nat) : Nat := 0x70000 + i * 0x20
abbrev aREG_M_SHARE (i : Nat) : Nat := 0x70004 + i * 0x20
abbrev aREG_M_EFF (i : Nat) : Nat := 0x70008 + i * 0x20
abbrev aREG_M_OCC (i : Nat) : Nat := 0x7000C + i * 0x20
abbrev aREG_M_WAIT (i : Nat) : Nat := 0x70010 + i * 0x20
abbrev aREG_M_ADM (i : Nat) : Nat := 0x70018 + i * 0x20
abbrev aREG_FLOOR : Nat := 0x70400
abbrev aREG_SCALE : Nat := 0x70404
abbrev aREG_STATUS : Nat := 0x70408
abbrev aREG_EXPRESS : Nat := 0x7040C
abbrev aREG_SCALE_RT : Nat := 0x70410
abbrev aTT_CTRL : Nat := 0x80000
abbrev aTT_HALT : Nat := 0x80004
abbrev aTT_THAW : Nat := 0x80008
abbrev aTT_STATE : Nat := 0x8000C
abbrev aTT_EVROUTE : Nat := 0x80010
abbrev aTT_IMAGE : Nat := 0x80014
abbrev aTT_CODE_END : Nat := 0x80018
abbrev aTT_ISSUE : Nat := 0x80020
abbrev aTT_PC (i : Nat) : Nat := 0x80100 + i * 0x100
abbrev aTT_FLAGS (i : Nat) : Nat := 0x80104 + i * 0x100
abbrev aTT_EVENTS (i : Nat) : Nat := 0x80108 + i * 0x100
abbrev aTT_FAULT (i : Nat) : Nat := 0x8010C + i * 0x100
abbrev aTT_FAULT_INSN (i : Nat) : Nat := 0x80110 + i * 0x100
abbrev aTT_FAULT_ADDR (i : Nat) : Nat := 0x80118 + i * 0x100
abbrev aTT_WAKE_RT (i : Nat) : Nat := 0x80120 + i * 0x100
abbrev aTT_ISSUED (i : Nat) : Nat := 0x80128 + i * 0x100
abbrev aTT_RSTK (i j : Nat) : Nat := 0x80140 + i * 0x100 + j * 4
abbrev aTT_G (i j : Nat) : Nat := 0x80180 + i * 0x100 + j * 8
abbrev aCR_STATUS (i : Nat) : Nat := 0x90000 + i * 0x40
abbrev aCR_CTRL (i : Nat) : Nat := 0x90004 + i * 0x40
abbrev aCR_WIN_BASE (i : Nat) : Nat := 0x90008 + i * 0x40
abbrev aCR_WIN_LIMIT (i : Nat) : Nat := 0x90010 + i * 0x40
abbrev aCR_WIN_HEADS (i : Nat) : Nat := 0x90018 + i * 0x40
abbrev aCR_PROG (i j : Nat) : Nat := 0x90020 + i * 0x40 + j * 8
abbrev aCAR_THAW : Nat := 0x90800
abbrev aSL_STATUS (i : Nat) : Nat := 0x90900 + i * 0x40
abbrev aSL_BASE (i : Nat) : Nat := 0x90908 + i * 0x40
abbrev aSL_LEN (i : Nat) : Nat := 0x90910 + i * 0x40
abbrev aSL_SNAP (i : Nat) : Nat := 0x90918 + i * 0x40
abbrev aSL_TB (i : Nat) : Nat := 0x90920 + i * 0x40
abbrev aSL_SAVED (i : Nat) : Nat := 0x90928 + i * 0x40
abbrev aSL_HELD (i : Nat) : Nat := 0x90930 + i * 0x40
abbrev aSL_DAMAGE (i : Nat) : Nat := 0x90934 + i * 0x40
abbrev aSL_POISON (i : Nat) : Nat := 0x90938 + i * 0x40
abbrev aOUT_DEVINDEX : Nat := 0x90A00
abbrev aOUT_STATUS (i : Nat) : Nat := 0x90A20 + i * 0x20
abbrev aOUT_ID (i : Nat) : Nat := 0x90A24 + i * 0x20
abbrev aOUT_RT (i : Nat) : Nat := 0x90A28 + i * 0x20
abbrev aOUT_POST_RT (i : Nat) : Nat := 0x90A30 + i * 0x20
abbrev aSCRUB_CTRL : Nat := 0xA0000
abbrev aSCRUB_STATUS : Nat := 0xA0004
abbrev aSCRUB_POS : Nat := 0xA0008
abbrev aSCRUB_PASS_RT : Nat := 0xA0010
abbrev aSCRUB_SKIPPED : Nat := 0xA0018
abbrev aHARD_CTRL : Nat := 0xA001C
abbrev aINT_CTRL : Nat := 0xA0020
abbrev aINT_GSTATUS : Nat := 0xA0024
abbrev aCE_TOTAL : Nat := 0xA0028
abbrev aUE_TOTAL : Nat := 0xA0030
abbrev aRPR_CMD : Nat := 0xA0040
abbrev aRPR_STATUS : Nat := 0xA0044
abbrev aRET_ADD : Nat := 0xA0048
abbrev aRET_STATUS : Nat := 0xA0050
abbrev aINT_CH_STATUS (i : Nat) : Nat := 0xA1000 + i * 0x20
abbrev aINT_CH_CE (i : Nat) : Nat := 0xA1004 + i * 0x20
abbrev aINT_CH_UE (i : Nat) : Nat := 0xA1008 + i * 0x20
abbrev aINT_CH_TRANS (i : Nat) : Nat := 0xA100C + i * 0x20
abbrev aINT_CH_FAULT_RT (i : Nat) : Nat := 0xA1010 + i * 0x20
abbrev aINT_CH_REPLAY (i : Nat) : Nat := 0xA1018 + i * 0x20
abbrev aCE_LOG (i j : Nat) : Nat := 0xA2000 + i * 0x20 + j * 8
abbrev aUE_LOG (i j : Nat) : Nat := 0xA2800 + i * 0x20 + j * 8
abbrev aXR_GCTRL : Nat := 0xB0000
abbrev aXR_GSTATUS : Nat := 0xB0004
abbrev aXR_SI_STATUS (i : Nat) : Nat := 0xB0040 + i * 0x10
abbrev aXR_SI_BLK (i j : Nat) : Nat := 0xB0044 + i * 0x10 + j * 4
abbrev aXR_CLK (i : Nat) : Nat := 0xB0100 + i * 4
abbrev aXR_XG (i j : Nat) : Nat := 0xB0400 + i * 0x100 + j * 4
abbrev aXR_CH_STATUS (i : Nat) : Nat := 0xB1000 + i * 0x40
abbrev aXR_CH_DQDEAD (i : Nat) : Nat := 0xB1008 + i * 0x40
abbrev aXR_CH_DEADHI (i : Nat) : Nat := 0xB1010 + i * 0x40
abbrev aXR_CH_CADEAD (i : Nat) : Nat := 0xB1014 + i * 0x40
abbrev aXR_CH_SPMAP (i : Nat) : Nat := 0xB1018 + i * 0x40
abbrev aXR_CH_CASPMAP (i : Nat) : Nat := 0xB101C + i * 0x40
abbrev aXR_FIXED (i : Nat) : Nat := 0xB2000 + i * 4
abbrev aXR_TAPS (i : Nat) : Nat := 0xB4000 + i * 4
abbrev aTH_CTRL : Nat := 0xC0000
abbrev aTH_STATUS : Nat := 0xC0004
abbrev aTH_DISPUTED : Nat := 0xC0008
abbrev aTH_ENF_RT : Nat := 0xC0010
abbrev aTH_SHUT_RT : Nat := 0xC0018
abbrev aTH_SHUT : Nat := 0xC0020
abbrev aTH_SHUT_LOST : Nat := 0xC0024
abbrev aTH_LAYER (i : Nat) : Nat := 0xC0100 + i * 0x10
abbrev aTH_LAYER_EST (i : Nat) : Nat := 0xC0104 + i * 0x10
abbrev aTH_LAYER_PWR (i : Nat) : Nat := 0xC0108 + i * 0x10
abbrev aTH_SENSOR (i : Nat) : Nat := 0xC0300 + i * 4
abbrev aPWR_STATE_LO : Nat := 0xC0800
abbrev aPWR_STATE_HI : Nat := 0xC0808
abbrev aPWR_REFUSED : Nat := 0xC0810
abbrev aPWR_MREQ : Nat := 0xC0818
abbrev aPWR_MREQ_CTRL : Nat := 0xC0820
abbrev aPWR_LASTWAKE : Nat := 0xC0824
abbrev aPWR_LASTWAKE_RT : Nat := 0xC0828
abbrev aPWR_RETFAIL : Nat := 0xC0830
abbrev aPWR_DOM (i : Nat) : Nat := 0xC0900 + i * 8
abbrev aPWR_DOM_FAIL (i : Nat) : Nat := 0xC0904 + i * 8
abbrev aOTP_CTRL : Nat := 0xD0000
abbrev aOTP_STATUS : Nat := 0xD0004
abbrev aOTP_CMD : Nat := 0xD0008
abbrev aOTP_RESULT : Nat := 0xD000C
abbrev aOTP_DATA : Nat := 0xD0010
abbrev aOTP_WSTATE (i : Nat) : Nat := 0xD0100 + i * 4
abbrev aKEY_STATUS : Nat := 0xD0200
abbrev aARC_VALUE : Nat := 0xD0204
abbrev aLOCK_STATUS : Nat := 0xD0208
abbrev aIMG_STATUS : Nat := 0xD0210
abbrev aIMG_BUILD : Nat := 0xD0218
abbrev aIMG_DIGEST (i : Nat) : Nat := 0xD0220 + i * 8
abbrev aOTP_DIGEST (i : Nat) : Nat := 0xD0240 + i * 8
abbrev aID_STATUS : Nat := 0xD0260
abbrev aROM_VERSION : Nat := 0xD0264
abbrev aCTL_UPD_NOW : Nat := 0xE0000
abbrev aCTL_UPD_PEND : Nat := 0xE0004
abbrev aCTL_UPD_DISCARD : Nat := 0xE0008
abbrev aCTL_UPD_LATE : Nat := 0xE000C
abbrev aCTL_UPD_RT : Nat := 0xE0010
abbrev aCFG_CTRL : Nat := 0xE0020
abbrev aCFG_REF : Nat := 0xE0024
abbrev aCFG_CRC : Nat := 0xE0028
abbrev aCFG_STATUS : Nat := 0xE002C
abbrev aCTL_STICKY : Nat := 0xE0030
abbrev aCTL_STICKY_SRC : Nat := 0xE0034
abbrev aCTL_FREEZE : Nat := 0xE0040
abbrev aCTL_LOCK : Nat := 0xE0044
abbrev aALIVE_STATUS : Nat := 0xE0048
abbrev aALIVE_STOP_RT : Nat := 0xE0050
abbrev aOWN_REQ_IMG : Nat := 0xE0080
abbrev aOWN_RES_IMG : Nat := 0xE0084
abbrev aOWN_REQ_FM : Nat := 0xE0088
abbrev aOWN_RES_FM : Nat := 0xE008C
abbrev aAUX_STATUS : Nat := 0xE0090
abbrev aAUX_CFG : Nat := 0xE0094
abbrev aHAMP_SHARED : Nat := 0xE00A0
abbrev aSNAP_CTRL : Nat := 0xE0100
abbrev aSNAP_STATUS : Nat := 0xE0104
abbrev aSNAP_RT : Nat := 0xE0108
abbrev aFC_FIRST : Nat := 0xE1000
abbrev aFC_FIRST_RT : Nat := 0xE1008
abbrev aFC_FIRST_DETAIL : Nat := 0xE1010
abbrev aFC_SEVERE (i : Nat) : Nat := 0xE1020 + i * 8
abbrev aFC_ALERT (i : Nat) : Nat := 0xE1030 + i * 8
abbrev aFC_SRC_CFG (i : Nat) : Nat := 0xE1400 + i * 8
abbrev aFC_SRC_STAT (i : Nat) : Nat := 0xE1404 + i * 8

end Sys2Proof.Machine
end

