-- ==== Sys2Proof/Machine/State.lean ====
section
/-! DEFINITION. The state of the block, the reasons a command can stop, and the state right after reset. Registers of
Table 16.2 live in one store keyed by address; what stands behind them has a field of its own. -/

namespace Sys2Proof.Machine

/-- Reasons a step could end the run. No command raises one: whatever the spec calls an error (a violation, a bus
error, poison, a shutdown) is an effect on the state. -/
inductive Fault where
  /-- A command that cannot be given to the block. Raised by nobody; safe. -/
  | unusable
  deriving DecidableEq, Repr

/-- Reasons a command is refused by the model. -/
inductive Refusal where
  /-- A row without a meaning yet, by its mnemonic. Raised only by Dispatch.exec; safe. -/
  | notModelled (mnemonic : String)
  deriving DecidableEq, Repr

/-- Thread states, codes 0 to 5 of Table 8.1. -/
inductive ThreadState where
  | idle | run | wait | stopped | frozen | halted
  deriving DecidableEq, Repr

/-- What a thread's unfinished instruction waits for (R301, R320, R323, R324, R329, R335, R339). -/
inductive WaitCond where
  | none
  /-- YIELD: not ready until this engine cycle; 0 stands for imm32 = 0, which passes one turn of the rotation
  (Table 8.7). -/
  | yield (until_ : Nat)
  /-- TWAIT: until RT reaches the value. -/
  | time (rt : Nat) (d : BitVec 4)
  /-- EWAIT: a masked event or a deadline. -/
  | events (mask : BitVec 16) (deadline : Option Nat) (d : BitVec 4)
  /-- CWAIT: the carriage stops running, or a deadline. -/
  | carriage (c : Fin 32) (deadline : Option Nat) (d : BitVec 4)
  /-- PREQ: the power request with this number. -/
  | power (id : Nat) (d : BitVec 4)
  /-- UPD: every write numbered below `before` has landed. -/
  | upd (mask : BitVec 16) (before : Nat) (d : BitVec 4)
  /-- CRD: as UPD, then the value returns; `since` is the engine cycle in which the last earlier write landed (R323). -/
  | crd (addr : Nat) (wide : Bool) (before : Nat) (d : BitVec 4) (since : Option Nat)
  /-- CWR that found the queue full: it waits in Engine.waiting. -/
  | cwr
  deriving DecidableEq, Repr

/-- One thread (R291, R298). -/
structure Thread where
  st : ThreadState
  pc : BitVec 23
  g : Vector Word 16
  z : Bool
  n : Bool
  c : Bool
  l : Bool
  /-- Return stack, entry 0 the oldest (TT_RSTK). -/
  stack : List (BitVec 23)
  events : BitVec 16
  /-- Event bits set in engine cycle `freshAt` (R338). -/
  fresh : BitVec 16
  freshAt : Nat
  wait : WaitCond
  /-- Engine cycle from which its next instruction may issue (R295). -/
  readyAt : Nat
  /-- A halt that waits for the instruction boundary, while a CRD or CWR is unfinished (R353). -/
  haltReq : Bool
  deriving DecidableEq, Repr

/-- A configuration write in the queue (R320), numbered in issue order. -/
structure QWrite where
  seq : Nat
  t : Fin 8
  addr : Nat
  wide : Bool
  value : Word
  deriving DecidableEq, Repr

/-- The timetable engine (R291, R320). -/
structure Engine where
  threads : Vector Thread 8
  queue : List QWrite
  waiting : List QWrite
  nextSeq : Nat
  /-- The thread that issued last, and the engine cycle in which it did (R294). -/
  lastIssuer : Fin 8
  issuedAt : Option Nat
  /-- 64-byte program-store lines stored to since the image loaded (R304). -/
  storedLines : List Nat
  deriving DecidableEq, Repr

/-- Trust states of Table 2.5. -/
inductive Trust where
  | untrusted | holdover | locked
  deriving DecidableEq, Repr

/-- The selected time source (TU_STATUS.SOURCE). -/
inductive TimeSource where
  | none | tline | ptm
  deriving DecidableEq, Repr

/-- The running correction (TU_STATUS.CORR). -/
inductive Correction where
  | none | steer | fwd | back
  deriving DecidableEq, Repr

/-- The last accepted frame (R52): its RT and domain, the stamp in 1/256 ns and the number of the mark before it. -/
structure Frame where
  rt : Nat
  domain : BitVec 16
  mark : Option Int
  seq : Nat
  deriving DecidableEq, Repr

/-- Rows of Table 2.4 that may need confirmation (R59). -/
inductive CorrKind where
  | steer | fslew | fstep | bslew | hold
  deriving DecidableEq, Repr

/-- The time unit (R41 to R82). Errors are in 1/256 ns, amounts in 2^-32 ns. -/
structure TimeUnit where
  /-- RT in units of 2^-32 ns (R41, R42). -/
  rt : BitVec 96
  /-- Stack-clock cycles since AON started (R24). -/
  cycle : Nat
  /-- RT in ns as the previous engine cycle left it (R301, R329). -/
  engNow : Nat
  trust : Trust
  source : TimeSource
  /-- Source selected before the present one, or before its loss (R81). -/
  lastSource : TimeSource
  /-- Base bound of the source, in ns (Table 2.4). -/
  base : Nat
  corr : Correction
  /-- Outstanding amount of the running correction; positive while local RT is ahead. -/
  corrLeft : Int
  /-- A measured correction that awaits confirmation (R59). -/
  pendingCorr : Option (CorrKind × Int)
  /-- A confirmed forward step awaits the next mark edge (R59). -/
  stepPending : Bool
  /-- An initial set is due at the next mark edge of a consistent source (R70). -/
  needSet : Bool
  /-- The source has been measured since the last loss, and no correction of that measurement is outstanding (Table 2.5,
  R74). -/
  ok : Bool
  /-- Size of the last measured error less what a completed correction has removed, in 1/256 ns: what LOCKED holds
  against the base (Table 2.5). -/
  resid : Nat
  /-- A loss under R67 has not been followed by a measurement; drift counts. -/
  lost : Bool
  /-- Two consistent frames have followed the last TLINE loss (R68). -/
  tracking : Bool
  /-- The announcing frame was consistent, so the next mark is measured (R68). -/
  measOk : Bool
  /-- RT that the last accepted frame announces for the next mark (R55). -/
  announce : Option Nat
  lastFrame : Option Frame
  /-- Stamp of the last accepted mark, in 1/256 ns. -/
  lastMark : Option Int
  markSeq : Nat
  lastErr : Int
  stepHold : Bool
  disciplined : Bool
  setDone : Bool
  /-- Consecutive measured marks in LOCKED (R64). -/
  lockedMarks : Nat
  /-- RT in ns of the last measured mark, and of the one before it. -/
  lastMeasured : Nat
  prevMeasured : Nat
  tlineLos : Bool
  duRefOk : Bool
  duCal : Bool
  /-- A PTM dialogue is running. -/
  ptmRunning : Bool
  /-- Error of the last PTM dialogue that completed. -/
  ptmLastErr : Option Int
  /-- The last two dialogues were consistent and PTM is acquired (R68, R81). -/
  ptmTracking : Bool
  ptmFails : Nat
  /-- Rack cycle of the last dialogue start (R79). -/
  ptmLastCycle : Nat
  /-- Number of the 16 rack cycles, and of the rack cycle, whose start has last taken effect (R43, R76, R611). -/
  aliveCycle : Nat
  pulseCycle : Nat
  deriving DecidableEq, Repr

/-- The halt scheduler (R248 to R260). -/
structure Halts where
  /-- Phase in force, ns. -/
  phase : Nat
  double : Bool
  thermal : Bool
  program : Bool
  gen : BitVec 16
  /-- Cycle in which the open window opened. -/
  openAt : Option Nat
  /-- REFab of the open window has started (Table 6.6). -/
  refabDone : Bool
  /-- Cycle in which the last halt of any kind opened (R257). -/
  lastOpen : Nat
  /-- Cycle in which a committed fallback halt falls due (R258). -/
  commitAt : Option Nat
  /-- Halts deferred to the cycle after the open window (R255). -/
  deferred : Nat
  /-- Pre-close and ACT stop of the coming halt have run (R248). -/
  preclosed : Bool
  actStopped : Bool
  /-- Second-phase halts before this RT, in 2^-32 ns, do not open (R256). -/
  secondFrom : Nat
  /-- The last RT value on the grid for which a halt opened or was deferred. -/
  lastGrid : Option Nat
  deriving DecidableEq, Repr

/-- Carriage states, codes 0 to 5 of Table 9.2. -/
inductive CarState where
  | idle | running | waitt | stopped | frozen | reserved
  deriving DecidableEq, Repr

/-- A line with its poison mark (R408). -/
structure LineVal where
  data : Line
  poison : Bool
  deriving DecidableEq, Repr

/-- A descriptor read in full when it starts (Table 9.3, R363). -/
structure Desc where
  op : Byte
  flags : Byte
  head : BitVec 16
  reserved : BitVec 32
  o0 : Word
  o1 : Word
  o2 : Word
  o3 : Word
  o4 : Word
  deriving DecidableEq, Repr

/-- A write of a line by a carriage: the bytes that the mask enables. -/
structure LineWrite where
  line : Nat
  val : LineVal
  mask : BitVec 64
  deriving DecidableEq, Repr

/-- A piece of a descriptor, of a list entry or of a sweep that a carriage has under way, with its lines in the staging
(R35, R358, R376). -/
structure Piece where
  /-- Its first byte, from the start of the descriptor or of the entry, and its bytes. -/
  pos : Nat
  bytes : Nat
  /-- Lines still to be read, lines asked for, lines read. -/
  toRead : List Nat
  asked : List Nat
  got : List (Nat × LineVal)
  /-- Its writes are formed, or its peer request has left. -/
  formed : Bool
  /-- Writes still to be admitted, and the lines of those that are. -/
  toWrite : List LineWrite
  sent : List Nat
  /-- Its peer request is outstanding (R376). -/
  peer : Bool
  deriving DecidableEq, Repr

/-- Outing slot states, codes 0 to 4 of OUT_STATUS. -/
inductive OutState where
  | idle | armed | launched | absent | posted
  deriving DecidableEq, Repr

/-- One outing slot (R396 to R400). -/
structure Outing where
  st : OutState
  late : Bool
  reason : Nat
  comp : Fin 64
  carriage : Fin 32
  id : BitVec 16
  bound : BitVec 16
  rt : Nat
  postRt : Nat
  launch : Nat
  rollcall : Nat
  head : Nat
  threads : Byte
  chain : Nat
  deriving DecidableEq, Repr

/-- A roll-call post that its carriage has to make or that awaits its UIO completion (R399): the slot, the outing as it
stood, status, reason and value of the record. -/
structure Post where
  slot : Fin 8
  outing : Outing
  status : Nat
  reason : Nat
  value : Nat
  sent : Bool
  deriving DecidableEq, Repr

/-- One carriage (R358 to R381). -/
structure Carriage where
  st : CarState
  late : Bool
  release : Bool
  code : Nat
  /-- Address of the current or last descriptor. -/
  desc : Nat
  cur : Option Desc
  entry : Nat
  done : Nat
  acc : Word
  /-- The list entry in progress, DPA and length; for SEALCOPY the granule being copied and its seal (R363, R365,
  R391). -/
  elem : Option (Nat × Nat)
  /-- Bytes of the list entries before the one in progress. -/
  packed : Nat
  /-- A progress record of this chain stands in CR_PROG (R379). -/
  recorded : Bool
  poisoned : Nat
  /-- Pieces under way, in order; they retire from the front (R358, R376, R379). -/
  flight : List Piece
  /-- Offset at which the next piece begins. -/
  ahead : Nat
  post : Option Post
  /-- Number of the run whose lines it takes: lines asked for before a stop or a restart come to nothing (log 25). -/
  run : Nat
  /-- The thread that launched it, or armed its seal or outing (R334, R362). -/
  thread : Option (Fin 8)
  comp : Option (Fin 64)
  deadline : Option Nat
  /-- Engine cycle in which it last left the running state (R301, R335). -/
  leftAt : Nat
  /-- Stack cycle of the last line of progress (R373). -/
  progressAt : Nat
  /-- Stop code that waits for the next line boundary, with the fault source of its record (R335, R513, R592). -/
  abort : Option (Nat × Nat)
  /-- State before a reservation (R383, R398). -/
  before : CarState
  /-- Sweep share of a seal: seal, first granule, number of granules (R390). -/
  share : Option (Fin 4 × Nat × Nat)
  /-- Progress record, bytes 8j to 8j + 7 (Table 9.6). -/
  prog : Vector Word 4
  deriving DecidableEq, Repr

/-- Who issued a request (R189, R264): a head, a carriage, the patrol scrubber, the hold copies and the staging of a seal,
the zero-fill. -/
inductive Src where
  | head (k : Fin 16)
  | carriage (c : Fin 32)
  | scrub
  | seal (i : Fin 4)
  | zeroFill
  deriving DecidableEq, Repr

/-- Kinds of request (R180, R181, R378). -/
inductive ReqKind where
  | read | spec | inv | write | partialWrite
  deriving DecidableEq, Repr

/-- A request in the path of R188. -/
structure Req where
  src : Src
  kind : ReqKind
  uio : Bool
  /-- Line number, DPA / 64. -/
  line : Nat
  val : LineVal
  mask : BitVec 64
  /-- RT stamp in half ns (R27, R77). -/
  stamp : Nat
  tag : Nat
  deriving DecidableEq, Repr

/-- Seal states, codes 0 to 4 of Table 9.10. -/
inductive SealState where
  | idle | armed | active | complete | failed
  deriving DecidableEq, Repr

/-- A granule that a seal's hold carriage copies: lines to read, asked for, read (R386 to R388). -/
structure HoldCopy where
  granule : Nat
  toRead : List Nat
  asked : List Nat
  got : List (Nat × LineVal)
  deriving DecidableEq, Repr

/-- A granule complete in seal staging whose writes to the snapshot area are still to be admitted or accepted (R387). -/
structure Staged where
  granule : Nat
  /-- A hold copy; otherwise a sweep's (R389). -/
  hold : Bool
  toWrite : List LineWrite
  sent : List Nat
  deriving DecidableEq, Repr

/-- One seal (R382 to R395). -/
structure Seal where
  st : SealState
  late : Bool
  damaged : Bool
  reason : Nat
  hold : Fin 32
  comp : Fin 64
  base : Nat
  len : Nat
  snap : Nat
  tb : Nat
  sweep : BitVec 32
  thread : Byte
  sigs : Byte
  heads : BitVec 16
  saved : Nat
  held : Nat
  damage : Nat
  poison : Nat
  spans : List Nat
  /-- Writes held before acceptance (R386). -/
  heldWrites : List Req
  copies : List HoldCopy
  staged : List Staged
  deriving DecidableEq, Repr

/-- Freeze and fence of a head (R201, R203). -/
inductive HeadMode where
  | normal
  | frozen (until_ : Nat)
  | fenced
  deriving DecidableEq, Repr

/-- Link states the manual names (R135, R169, R196, R200). -/
inductive LinkState where
  | detect | compliance | training | l0 | recovery | speedChange | loopback | disabled
  deriving DecidableEq, Repr

/-- A record of an event log: type, RT of its Timestamp field, the record data from byte 0, and the overflow mark (Table
5.11, R217 to R219). A type of 0x100 or more is a record whose layout CXL 3.1 gives. -/
structure Record where
  rtype : Nat
  time : Nat
  bytes : List Byte
  overflow : Bool
  deriving DecidableEq, Repr

/-- One event log of 64 records (R210, R219). -/
structure Log where
  records : List Record
  overflow : Bool
  deriving DecidableEq, Repr

/-- The logs of an addressee (R210, R217). -/
structure Logs where
  info : Log
  warn : Log
  fail : Log
  fatal : Log
  dcd : Log
  deriving DecidableEq, Repr

/-- An HDM decoder: addresses from `base`, `size` of them, map to DPAs from `dpa` (R200, R378). -/
structure Hdm where
  index : Fin 10
  base : Nat
  size : Nat
  dpa : Nat
  deriving DecidableEq, Repr

/-- One head (R176 to R219). -/
structure Head where
  mode : HeadMode
  link : LinkState
  /-- Lanes in the trained link. -/
  lanes : List (Fin 64)
  reversed : Bool
  rate : BitVec 3
  held : Bool
  load : BitVec 2
  /-- Cycles of credit waiting and lines admitted in the current microsecond (R193). -/
  waitCycles : Nat
  admitted : Nat
  policy : BitVec 32
  logs : Logs
  dvsecLatch : Option (BitVec 32)
  cfg : List (Nat × BitVec 32)
  /-- Programmed HDM decoders, by rising index (R200). -/
  hdm : List Hdm
  cdatSeq : Nat
  transcript : List Byte
  /-- Lanes that precode at the partner's request (R135). -/
  precode : List (Fin 64)
  /-- The host asked for equalisation bypass in this training (R156). -/
  bypass : Bool
  deriving DecidableEq, Repr

/-- A granted block: head, block, tag (0 for none) (R184). -/
structure Grant where
  head : Nat
  block : Nat
  tag : Nat
  deriving DecidableEq, Repr

/-- A released block that is filled with zero data: lines admitted, and lines accepted (R186, R264). -/
structure Fill where
  block : Nat
  sent : Nat
  done : Nat
  deriving DecidableEq, Repr

/-- A cached line (R31, R238 to R243). -/
structure CacheLine where
  line : Nat
  val : LineVal
  dirty : Bool
  owner : Nat
  deriving DecidableEq, Repr

/-- Where a journal entry's write stands: waiting for the write buffer, waiting for its install, in the buffer or its
burst, or in the spill area (R31, R233, R236, R241, R443). -/
inductive JPlace where
  | hamper | install | buffer | spilled
  deriving DecidableEq, Repr

/-- A journal entry: the line, its byte mask, source, stamp and DPA (10, The write journal). -/
structure JEntry where
  seq : Nat
  /-- Its line slot in each of the two copies (R30, Table 14.7); none for an entry in the spill area. -/
  slot : Option Nat
  line : Nat
  val : LineVal
  mask : BitVec 64
  src : Option Src
  stamp : Nat
  place : JPlace
  deriving DecidableEq, Repr

/-- The request path between the heads and the channels (R188). -/
structure MemPath where
  /-- Waiting at admission. -/
  ports : List Req
  /-- Waiting for a pool entry (R229, R272). -/
  missQ : List Req
  /-- Admitted writes not yet accepted (R30). -/
  accept : List Req
  /-- The journal in order of acceptance. -/
  journal : List JEntry
  nextSeq : Nat
  /-- Lines that the running flush has still to write back (R243). -/
  flush : List Nat
  /-- Clean lines whose install waits for the journal entry of its victim (R241). -/
  installs : List CacheLine
  /-- UIO writes whose completion is due: head, tag, lines not yet accepted (R378). -/
  uioOpen : List (Fin 16 × Nat × Nat)
  deriving DecidableEq, Repr

/-- A pool entry of a channel (R227). -/
structure PoolEntry where
  req : Req
  /-- Cycle of its RD; none while it waits. -/
  issued : Option Nat
  /-- Its first decode was uncorrectable and it waits for the retry, or the retry is under way (R418). -/
  retry : Bool
  /-- The line that the write buffer or the journal forwards to it (R234). -/
  fwd : Option LineVal
  /-- It was counted as held by a halt (R192). -/
  counted : Bool
  deriving DecidableEq, Repr

/-- A bank with the instants of its last commands, in cycles (Table 6.3). -/
structure Bank where
  row : Option Nat
  hits : Nat
  /-- Column commands served in a row while an older request to another row waited (R231). -/
  capped : Nat
  actAt : Nat
  preAt : Nat
  rdAt : Nat
  wrEnd : Nat
  deriving DecidableEq, Repr

/-- Modes of a channel (CH_STATUS.MODE). -/
inductive ChanMode where
  | normal | limp | lost
  deriving DecidableEq, Repr

/-- One channel controller (R220 to R246, R438 to R446). -/
structure Channel where
  mode : ChanMode
  selfRefresh : Bool
  writeMode : Bool
  /-- Touched banks; an unlisted bank is closed. -/
  banks : List (Nat × Bank)
  pool : List PoolEntry
  /-- The write buffer, oldest entry first: the journal numbers of the writes that an entry holds, the newest first
  (R233). -/
  wbuf : List (List Nat)
  /-- Writes whose WR has issued: the journal numbers of the entry and the end of the burst. -/
  writing : List (List Nat × Nat)
  /-- First cycle with a free command slot (R224). -/
  slotFree : Nat
  /-- Write mode was entered with no read queued (R235). -/
  idleDrain : Bool
  lastColGroup : Nat
  lastRowGroup : Nat
  /-- Bank last served in each group. -/
  lastBank : List (Nat × Nat)
  /-- Cycles of the last four ACT. -/
  acts : List Nat
  lastCol : Nat
  lastRdEnd : Nat
  lastWrEnd : Nat
  /-- First decodes of the last read bursts, true for uncorrectable (R438). -/
  decodes : List Bool
  /-- Symbols corrected in the last 16 corrections (R467). -/
  corrections : List (List Nat)
  flagged : List Nat
  /-- Cycle of the fault that began the REPLAYING period. -/
  faultAt : Nat
  faultCause : Nat
  /-- Retraining has ended and the journal entries may be replayed (R441). -/
  inService : Bool
  /-- Replay proved impossible (R444). -/
  impossible : Bool
  /-- Number of entries spilled in this REPLAYING period, and whether new ones spill (R443). -/
  spilled : Nat
  spilling : Bool
  /-- ACT commands and bursts since the last evaluation of the layer (R499). -/
  actCount : Nat
  burstCount : Nat
  deriving DecidableEq, Repr

/-- Corrected-error entry (Table 10.6). -/
structure CeEntry where
  line : Nat
  firstRt : Nat
  lastRt : Nat
  count : Nat
  sym0 : Byte
  sym1 : Byte
  hard : Bool
  scrub : Bool
  repaired : Bool
  deriving DecidableEq, Repr

/-- Uncorrectable-error entry (Table 10.7). -/
structure UeEntry where
  line : Nat
  rt : Nat
  source : Nat
  master : Byte
  poisonWritten : Bool
  reported : Bool
  cleared : Bool
  stamp : Nat
  deriving DecidableEq, Repr

/-- A row repair in progress: channel, bank, row, spare and the reads and writes of the copy that are admitted (R432). -/
structure Repair where
  chan : Nat
  bank : Nat
  row : Nat
  spare : Nat
  moved : Nat
  deriving DecidableEq, Repr

/-- Integrity: error tables, spill, repair and retirement maps, the repair in progress, the scrubber (10). -/
structure Integrity where
  ce : List CeEntry
  ue : List UeEntry
  spill : List UeEntry
  /-- Channel, bank, spare, row. -/
  repairs : List (Nat × Nat × Nat × Nat)
  /-- Retired pages, DPA >> 12, in order of addition. -/
  retired : List Nat
  repairing : Option Repair
  /-- The even spacing of the pass runs from this RT, at which line `scrubFrom` was due (R424, R428, R429). -/
  scrubStart : Nat
  scrubFrom : Nat
  deriving DecidableEq, Repr

/-- Vertical links: measurements of the trained groups and stand-ins (11). A group's key is c for the DQ of channel c,
32 + c for its command/address group, and 64 + 64d + l for the express group of direction d and lane l. -/
structure Links where
  /-- Group, wire measured, spare standing in. -/
  measuring : List (Nat × Nat × Nat)
  /-- Last wire of the rotation of each group. -/
  rotation : List (Nat × Nat)
  /-- Taps found by sweeps that wait for the change instant: group, wire, tap. -/
  pendingTaps : List (Nat × Nat × Nat)
  /-- Halt window of the last change instant of each channel, by the cycle in which it opened (R453). -/
  changedAt : List (Nat × Nat)
  /-- Survivor channels of each stand-in, when it formed (R475). -/
  survivors : List (Nat × List Nat)
  /-- Failed service columns (R100). -/
  serviceFailed : Nat
  /-- Channels whose DQ group must enter limp at the next change instant (R468). -/
  limpDue : List Nat
  /-- Slots, channel and block, that a stand-in's fill wrote as poison (R479): State.dram keeps the symbols of their lines
  as differences from a poisoned line. -/
  filled : List (Nat × Nat)
  /-- Lines of each stand-in's fill that are admitted (R264, R479). -/
  siSent : List (Nat × Nat)
  deriving DecidableEq, Repr

/-- Bond wear of a layer (R121 to R125). -/
structure Wear where
  /-- Rising (true) or falling, once known. -/
  rising : Option Bool
  extreme : Nat
  /-- Reversal stack, newest first. -/
  stack : List Nat
  warned : Bool
  limited : Bool
  deriving DecidableEq, Repr

/-- Thermal rules (12). -/
structure Thermal where
  wear : Vector Wear 18
  /-- Missing or absurd readings in a row, per sensor. -/
  misses : List (Nat × Nat)
  /-- Last canary counts per layer, newest first, at most 8. -/
  canary : List (Nat × List Nat)
  /-- Evaluations in a row that would end a dispute, per layer. -/
  calm : List (Nat × Nat)
  /-- Cycle of the last evaluation of each layer (R499). -/
  evalAt : List (Nat × Nat)
  /-- Cycle from which every DRAM layer has stayed below 82 °C. -/
  coolSince : Option Nat
  /-- Cycle in which the grace time ends. -/
  graceEnd : Option Nat
  /-- Cycle and RT of t_s of a shutdown, and cycle of t_d. -/
  shutAt : Option (Nat × Nat)
  drainedAt : Option Nat
  deriving DecidableEq, Repr

/-- States of a power domain (Table 12.5). -/
inductive DomState where
  | on | retention | off
  deriving DecidableEq, Repr

/-- One power domain (R517, R520). -/
structure Domain where
  st : DomState
  /-- Target of a transition in progress, with the cycle it began and the wake source (R529). -/
  moving : Option (DomState × Nat × Nat)
  /-- A wake that waits for the transition to end (R520), with its source. -/
  wakeAfter : Option Nat
  /-- Banks retained by the last entry (R518). -/
  retained : BitVec 16
  deriving DecidableEq, Repr

/-- A power request in the controller's queue (R342, R524). -/
structure PwrReq where
  id : Nat
  target : DomState
  mask : BitVec 64
  started : Bool
  refused : BitVec 64
  thread : Bool
  deriving DecidableEq, Repr

/-- The power controller (12). -/
structure Power where
  doms : Vector Domain 64
  queue : List PwrReq
  nextId : Nat
  /-- Finished requests of threads: number and refused mask. -/
  finished : List (Nat × BitVec 64)
  deriving DecidableEq, Repr

/-- An OTP word: what the margins sense, its state code of Table 13.2, its value in use, and the state code that the boot
read gave it (R535, R536, R566). -/
structure OtpWord where
  sense : OtpSense
  state : Nat
  value : Word
  boot : Nat
  deriving DecidableEq, Repr

/-- The OTP command in progress: operation, word, words to blow of a raise, supply left its window (R539). -/
structure OtpCmd where
  op : Nat
  word : Nat
  data : Word
  raise : List Nat
  supplyLeft : Bool
  /-- Cycle in which it began. -/
  started : Nat
  deriving DecidableEq, Repr

/-- The OTP controller and the identity (13). -/
structure Otp where
  /-- Words that are not blank. -/
  words : List (Nat × OtpWord)
  cmd : Option OtpCmd
  /-- Cycle of the last moment outside 11.4 V to 12.6 V (R543). -/
  supplyBad : Nat
  deriving DecidableEq, Repr

/-- Phases of an activation (R212). -/
inductive ActPhase where
  | idle
  | checking (by_ : Path)
  | waiting (by_ : Path) (deadline : Nat)
  | loading (by_ : Path)
  deriving DecidableEq, Repr

/-- Image staging and activation (R554, R556). -/
structure Image where
  staged : Nat
  complete : Bool
  phase : ActPhase
  /-- Slot that admitted the image being loaded, SVN, build and digest. -/
  slot : Nat
  deriving DecidableEq, Repr

/-- Management: FM log, I3C address, endpoint IDs, transcripts of the MCTP paths (R205 to R207, R561). -/
structure Mgmt where
  fmLogs : Logs
  i3cAddr : Option (BitVec 7)
  eidI3c : Option Byte
  eidVdm : Option Byte
  trI3c : List Byte
  trVdm : List Byte
  deriving DecidableEq, Repr

/-- Pins and supply not held in a register (R109, R116, R511, R610). -/
structure Pins where
  converter : Bool
  pwrGood : Bool
  /-- Held in reset between recognition of RST_N low, or power-up with RST_N low, and its rise (R115, R116). -/
  held : Bool
  /-- AON and the management controller run: step 1 has ended since PWR_GOOD was released (R614). -/
  aonReady : Bool
  auxEndA : Option Nat
  auxEndB : Option Nat
  /-- Cycle of a pending AUX_A snapshot trigger (R601). -/
  auxTrigger : Option Nat
  straps : BitVec 2
  strapsSampled : Bool
  /-- Cycle of module release. -/
  releasedAt : Nat
  deriving DecidableEq, Repr

/-- Regulation working state (R269 to R273, R509): buckets in half bits, by master. -/
structure Regulation where
  buckets : List (Nat × Nat)
  deviceBucket : Nat
  deficit : List (Nat × Nat)
  /-- Where the rotation stands: the master served last in this cycle, or first in the previous one (R270). -/
  lastServed : Nat
  firstServed : Option Nat
  /-- Admissions made in the current stack-clock cycle (R270). -/
  inCycle : Nat
  /-- First cycle in which a master whose miss took its pool entry is admitted again (R273). -/
  resume : List (Nat × Nat)
  /-- Admission capacities as they stood before the cycle (R282). -/
  caps : List Nat
  floor : Nat
  scale : Nat
  /-- Master whose pending value changed last (REG_STATUS.MASTER). -/
  lastPend : Nat
  deriving DecidableEq, Repr

/-- What the block sends (assumption log 3). -/
inductive Output where
  /-- CXL.mem read data: head, tag, line, poison, Device Load (R180, R193). -/
  | memData (k : Fin 16) (tag : Nat) (val : LineVal) (load : BitVec 2)
  /-- CXL.mem Cmp (R194). -/
  | memCmp (k : Fin 16) (tag : Nat) (load : BitVec 2)
  /-- UIO completion: head, tag, data for a read, Completer Abort (R378). -/
  | uio (k : Fin 16) (tag : Nat) (val : Option LineVal) (abort : Bool)
  /-- A credit returned to a head (R274). -/
  | credit (k : Fin 16)
  /-- Reply of a head's mailbox or of the FM API: status and payload. -/
  | reply (p : Path) (status : String) (payload : List Byte)
  /-- Answer to a register or configuration access. -/
  | regValue (p : Path) (value : Word)
  | completerAbort (p : Path)
  /-- An SPDM response: code and payload (R561 to R565). -/
  | spdm (p : Path) (code : Byte) (payload : List Byte)
  /-- An outgoing UIO request of a carriage: address, bytes, write (R376, R399). -/
  | peer (k : Nat) (addr : Nat) (bytes : List Byte) (write poisoned : Bool)
  /-- An outgoing UIO read of a carriage: head, address, number of bytes (R376). -/
  | peerRead (k addr len : Nat)
  /-- A rising edge on AUX_A (0) or AUX_B (1) (R611). -/
  | auxPulse (pin : Nat)
  /-- The I3C in-band interrupt that signals a pending event record (R206). -/
  | inBand
  /-- The preset or the coefficients that a lane reports in its training sets: its entry at a rate index (R152). -/
  | eqSetting (l : Fin 64) (r : Nat) (entry : BitVec 32)
  /-- An answer in the equalisation of a lane: accepted or rejected (R154). -/
  | eqAnswer (l : Fin 64) (accept : Bool)
  /-- An image or DOE answer with the bytes of the CDAT entries (R216). -/
  | cdat (k : Fin 16) (payload : List Byte)
  /-- Bits flipped by an injector on a lane (R174). -/
  | injected (l : Fin 64) (mission : Bool) (bits : Nat)
  deriving DecidableEq, Repr

/-- The state of the block. -/
structure State where
  /-- Commands that wait, first in, first out (model's own, log 1). -/
  pending : List Instr
  /-- Number of the next free value (model's own, log 2). -/
  freeCtr : Nat
  /-- What the block has sent, oldest first (model's own, log 3). -/
  outputs : List Output
  /-- Registers of Table 16.2 and snapshot copies that differ from their reset value, by rising address. -/
  regs : List (Nat × Word)
  /-- Pending values of registers with RP fields, by rising address (R573). -/
  pend : List (Nat × Word)
  tu : TimeUnit
  halt : Halts
  eng : Engine
  /-- Program store: bytes that are not 0, by rising address (R302). -/
  pstore : List Host.Cell
  /-- DRAM symbols that are not 0, symbol i of line n at n × 72 + i (R402 to R404); a symbol of a slot of Links.filled
  stands as its difference from a poisoned line's. -/
  dram : List Host.Cell
  cars : Vector Carriage 32
  seals : Vector Seal 4
  outs : Vector Outing 8
  heads : Vector Head 16
  grants : List Grant
  /-- Blocks being zero-filled (R186). -/
  filling : List Fill
  /-- The line cache, most recently used first (R240). -/
  cache : List CacheLine
  mem : MemPath
  chans : Vector Channel 32
  integ : Integrity
  links : Links
  therm : Thermal
  power : Power
  otp : Otp
  img : Image
  mgmt : Mgmt
  pins : Pins
  regul : Regulation
  /-- Rack cycle in which the window of each fault source opened (R590). -/
  fcWindow : List (Nat × Nat)
  /-- Cycle in which the running configuration check pass began; none while none runs (R583). -/
  cfgPass : Option Nat
  /-- One past the cycle in which each pending value was written (R325). -/
  pendAt : List (Nat × Nat)
  /-- Groups strobed, and those of them that held pending writes, in the cycle `strobeCycle - 1` (R326). -/
  strobeCycle : Nat
  strobeDone : Nat
  strobeHeld : Nat
  /-- Comparators armed for a value already reached, and the first cycle in which each may fire (R84, R332). -/
  lateArms : BitVec 64
  tcReadyAt : List (Nat × Nat)
  /-- The digest of the equalisation table is being computed (R149). -/
  eqDigestBusy : Bool
  /-- Cycle in which FC_FIRST latched (R595). -/
  fcFirstCycle : Nat
  /-- Cycle in which the snapshots latched, while they are frozen (R600). -/
  snapCycle : Option Nat
  /-- The snapshot trigger fired in this command; the copies are still to be written (R599). -/
  snapDue : Bool
  /-- The registers that the snapshot copies, as they stood before the present stack-clock cycle: address of the copy and
  value (R28, R599). -/
  cycleCopies : List (Nat × Word)
  /-- Cycle in which the identity derivation has read the seed (R539, R557). -/
  seedUntil : Nat
  /-- CTL_LOCK has been written since the last reset (R575). -/
  lockWritten : Bool
  /-- Lane, rate index and equalisation entry in force since the lane last entered equalisation at that rate (R148, R152). -/
  laneEq : List (Nat × Nat × Word)
  /-- Lane, and the places in LN_BITCNT of the bit errors that its synchronised checker counted among the last 1,024 bits
  (R168). -/
  laneErrs : List (Nat × List Nat)
  deriving DecidableEq, Repr

/-- A thread after reset (R298). -/
def Thread.reset : Thread :=
  { st := .idle, pc := 0, g := Vector.replicate 16 0, z := false, n := false, c := false, l := false,
    stack := [], events := 0, fresh := 0, freshAt := 0, wait := .none, readyAt := 0,
    haltReq := false }

/-- A carriage after reset (Table 9.2). -/
def Carriage.reset : Carriage :=
  { st := .idle, late := false, release := false, code := 0, desc := 0, cur := none, entry := 0, done := 0,
    acc := 0, elem := none, packed := 0, recorded := true, poisoned := 0, flight := [], ahead := 0, post := none, run := 0, thread := none, comp := none, deadline := none,
    leftAt := 0, progressAt := 0, abort := none, before := .idle, share := none, prog := Vector.replicate 4 0 }

/-- A seal after reset (Table 9.10). -/
def Seal.reset : Seal :=
  { st := .idle, late := false, damaged := false, reason := 0, hold := 0, comp := 0, base := 0, len := 0, snap := 0,
    tb := 0, sweep := 0, thread := 0, sigs := 0, heads := 0, saved := 0, held := 0, damage := 0, poison := 0,
    spans := [], heldWrites := [], copies := [], staged := [] }

/-- An outing slot after reset (R400). -/
def Outing.reset : Outing :=
  { st := .idle, late := false, reason := 0, comp := 0, carriage := 0, id := 0, bound := 0, rt := 0, postRt := 0,
    launch := 0, rollcall := 0, head := 0, threads := 0, chain := 0 }

/-- An empty log. -/
def Log.empty : Log := { records := [], overflow := false }

/-- Empty logs. -/
def Logs.empty : Logs := { info := .empty, warn := .empty, fail := .empty, fatal := .empty, dcd := .empty }

/-- A head after reset. -/
def Head.reset : Head :=
  { mode := .normal, link := .detect, lanes := [], reversed := false, rate := 0, held := false, load := 1,
    waitCycles := 0, admitted := 0, policy := 0, logs := .empty, dvsecLatch := none, cfg := [], hdm := [], cdatSeq := 0,
    transcript := [], precode := [], bypass := false }

/-- A channel after reset: every bank closed, nothing queued. -/
def Channel.reset : Channel :=
  { mode := .normal, selfRefresh := false, writeMode := false, banks := [], pool := [], wbuf := [], writing := [],
    slotFree := 0, idleDrain := false, lastColGroup := 0, lastRowGroup := 0, lastBank := [], acts := [], lastCol := 0, lastRdEnd := 0, lastWrEnd := 0,
    decodes := [], corrections := [], flagged := [], faultAt := 0, faultCause := 0, inService := true,
    impossible := false, spilled := 0, spilling := false, actCount := 0, burstCount := 0 }

/-- The time unit after power-up (R44 and the reset values of its registers). -/
def TimeUnit.reset : TimeUnit :=
  { rt := 0, cycle := 0, engNow := 0, trust := .untrusted, source := .none, lastSource := .none, base := 20, corr := .none,
    corrLeft := 0, pendingCorr := none, stepPending := false, needSet := true, ok := false, resid := 0, lost := false,
    tracking := false, measOk := false, announce := none, lastFrame := none, lastMark := none, markSeq := 0,
    lastErr := 0, stepHold := false, disciplined := false, setDone := false, lockedMarks := 0,
    lastMeasured := 0, prevMeasured := 0, tlineLos := true, duRefOk := false, duCal := false, ptmRunning := false,
    ptmLastErr := none, ptmTracking := false, ptmFails := 0, ptmLastCycle := 0,
    aliveCycle := 0, pulseCycle := 0 }

/-- The halt scheduler after power-up (R252). -/
def Halts.reset : Halts :=
  { phase := 0, double := false, thermal := false, program := false, gen := 0, openAt := none, refabDone := false,
    lastOpen := 0, commitAt := none, deferred := 0, preclosed := false, actStopped := false, secondFrom := 0,
    lastGrid := some 0 }

/-- An OTP word that was programmed with a value and reads back clean. -/
def OtpWord.good (v : Word) : OtpWord :=
  { sense := ⟨.word v none, .word v none⟩, state := 1, value := v, boot := 1 }

/-- The factory contents of the fuses (13, after R549; log 6): the trim words of Table 13.3 with their defaults, key
slot 0, the identity words, and lock words 256, 257 and 261. The words' states show only after the boot read. -/
def Otp.factory : List (Nat × OtpWord) :=
  [(0, .good 0xB0), (1, .good 0x4E20), (2, .good 0x0A00)]
  ++ (List.range' 3 125).map (fun w => (w, OtpWord.good (Config.factoryWord w)))
  ++ [128, 129, 130, 131, 160, 161, 162, 163, 164, 165, 166, 167, 168, 169, 170, 171].map
      (fun w => (w, OtpWord.good (Config.factoryWord w)))
  ++ [(256, .good 0x4C4F434B00000100), (257, .good 0x4C4F434B00000101), (261, .good 0x4C4F434B00000105)]

/-- The machine right after power-up: PWR_GOOD has been released and step 1 runs (R614), every register at its
reset value, memory with nothing listed. -/
def State.reset : State :=
  { pending := [], freeCtr := 0, outputs := [], regs := [], pend := [], tu := .reset, halt := .reset,
    eng := { threads := Vector.replicate 8 .reset, queue := [], waiting := [], nextSeq := 0,
             lastIssuer := 7, issuedAt := none, storedLines := [] },
    pstore := [], dram := [], cars := Vector.replicate 32 .reset, seals := Vector.replicate 4 .reset,
    outs := Vector.replicate 8 .reset, heads := Vector.replicate 16 .reset, grants := [], filling := [], cache := [],
    mem := { ports := [], missQ := [], accept := [], journal := [], nextSeq := 0, flush := [], installs := [], uioOpen := [] },
    chans := Vector.replicate 32 .reset,
    integ := { ce := [], ue := [], spill := [], repairs := [], retired := [], repairing := none, scrubStart := 0, scrubFrom := 0 },
    links := { measuring := [], rotation := [], pendingTaps := [], changedAt := [], survivors := [], serviceFailed := 0,
               limpDue := [], filled := [], siSent := [] },
    therm := { wear := Vector.replicate 18 ⟨none, 0, [], false, false⟩, misses := [], canary := [], calm := [], evalAt := [],
               coolSince := none, graceEnd := none, shutAt := none, drainedAt := none },
    power := { doms := Vector.replicate 64 ⟨.on, none, none, 0⟩, queue := [], nextId := 0, finished := [] },
    otp := { words := Otp.factory, cmd := none, supplyBad := 0 },
    img := { staged := 0, complete := false, phase := .idle, slot := 0 },
    mgmt := { fmLogs := .empty, i3cAddr := none, eidI3c := none, eidVdm := none, trI3c := [], trVdm := [] },
    pins := { converter := true, pwrGood := true, held := false, aonReady := false, auxEndA := none, auxEndB := none, auxTrigger := none,
              straps := 0, strapsSampled := false, releasedAt := 0 },
    regul := { buckets := [], deviceBucket := 0, deficit := [], lastServed := 16, firstServed := none, inCycle := 0, resume := [],
               caps := [311, 311, 311, 311, 311, 311, 311, 311, 0, 0, 0, 0, 0, 0, 0, 0, 0xFFFF], floor := 11000, scale := 0x8000,
               lastPend := 0 },
    fcWindow := [], cfgPass := none, pendAt := [], strobeCycle := 0, strobeDone := 0, strobeHeld := 0,
    lateArms := 0, tcReadyAt := [], eqDigestBusy := true, fcFirstCycle := 0, snapCycle := none, snapDue := false, cycleCopies := [], seedUntil := 0,
    lockWritten := false, laneEq := [], laneErrs := [] }

end Sys2Proof.Machine
end

