-- ==== Sys2Proof/Machine/Ops.lean ====
section
/-! DEFINITION. Named operations shared by every command: fields of registers, RT, free values, outputs, thread events,
event records. -/

namespace Sys2Proof.Machine

/-! Fields -/

/-- Field `[lo + n - 1 : lo]` of a word, as a number (R10). -/
def getBits (v : Word) (lo n : Nat) : Nat := (v >>> lo).toNat % 2 ^ n

/-- A word with field `[lo + n - 1 : lo]` replaced by the low bits of `x` (R10). -/
def putBits (v : Word) (lo n x : Nat) : Word :=
  (v &&& ~~~(BitVec.ofNat 64 (2 ^ n - 1) <<< lo)) ||| (BitVec.ofNat 64 (x % 2 ^ n) <<< lo)

/-- 1 for true. -/
def bit (b : Bool) : Nat := if b then 1 else 0

/-- A number held at a field's greatest value (saturating counters). -/
def satAt (n x : Nat) : Nat := min x (2 ^ n - 1)

/-- A word built from fields: low bit, width, value. -/
def packBits : List (Nat × Nat × Nat) → Word
  | [] => 0
  | (lo, n, x) :: l => putBits (packBits l) lo n x

/-- Bits of a mask below `n`, as numbers in ascending order. -/
def maskBits (n m : Nat) : List Nat := (List.range n).filter (fun i => m.testBit i)

/-- An entry put in front of the first that does not come before it. -/
def insertBy {α : Type} (key : α → Nat) (x : α) : List α → List α
  | [] => [x]
  | y :: ys => if key x ≤ key y then x :: y :: ys else y :: insertBy key x ys

/-- A list by rising key; entries of one key keep their order. -/
def sortBy {α : Type} (key : α → Nat) (xs : List α) : List α := xs.foldr (insertBy key) []

/-! The register store -/

/-- What the store holds for a register (its stored fields). -/
def State.reg (s : State) (a : Nat) : Word := sparseGet regReset s.regs a

/-- The store with a register set. -/
def State.setReg (s : State) (a : Nat) (v : Word) : State := { s with regs := sparsePut regReset s.regs a v }

/-- A stored field. -/
def State.fld (s : State) (a lo n : Nat) : Nat := getBits (s.reg a) lo n

/-- A stored field set. -/
def State.setFld (s : State) (a lo n x : Nat) : State := s.setReg a (putBits (s.reg a) lo n x)

/-- A stored bit. -/
def State.flag (s : State) (a i : Nat) : Bool := (s.reg a).getLsbD i

/-- A stored bit set or cleared. -/
def State.setFlag (s : State) (a i : Nat) (b : Bool) : State := s.setFld a i 1 (bit b)

/-- A saturating counter field advanced (all counters of the block saturate where their table says so). -/
def State.bump (s : State) (a lo n k : Nat) : State := s.setFld a lo n (satAt n (s.fld a lo n + k))

/-! Time -/

/-- Integer RT in ns (R41). -/
def State.now (s : State) : Nat := s.tu.rt.toNat / 2 ^ 32

/-- RT in half ns: what a request is stamped with (R27). -/
def State.stamp (s : State) : Nat := s.tu.rt.toNat / 2 ^ 31

/-- The 8-bit fraction of RT, in 1/256 ns (R41). -/
def State.rtFrac (s : State) : Nat := s.tu.rt.toNat / 2 ^ 24 % 256

/-- Stack-clock cycles since AON started; one is 0.5 ns (R24). -/
def State.cyc (s : State) : Nat := s.tu.cycle

/-- Engine cycle: two stack-clock cycles (R23). -/
def State.ecyc (s : State) : Nat := s.tu.cycle / 2

/-- Stack-clock cycles in a number of µs. -/
def cycUs (n : Nat) : Nat := 2000 * n

/-- Stack-clock cycles in a number of ms. -/
def cycMs (n : Nat) : Nat := 2000000 * n

/-- The word of integer RT. -/
def State.nowW (s : State) : Word := BitVec.ofNat 64 s.now

/-! Free values and outputs -/

/-- The next free value (log 2): nothing is known of it. -/
def State.free (s : State) : Word := Config.freeWord s.freeCtr

/-- The state after a free value was used. -/
def State.freeNext (s : State) : State := { s with freeCtr := s.freeCtr + 1 }

/-- The block sends something. -/
def State.emit (s : State) (o : Output) : State := { s with outputs := s.outputs ++ [o] }

/-- The block sends a list. -/
def State.emitAll (s : State) (os : List Output) : State := { s with outputs := s.outputs ++ os }

/-! Parts held in vectors -/

/-- A thread. -/
def State.thread (s : State) (t : Fin 8) : Thread := s.eng.threads[t]

/-- A thread replaced. -/
def State.setThread (s : State) (t : Fin 8) (x : Thread) : State :=
  { s with eng := { s.eng with threads := s.eng.threads.set t x } }

/-- A carriage. -/
def State.car (s : State) (c : Fin 32) : Carriage := s.cars[c]

/-- A carriage replaced. -/
def State.setCar (s : State) (c : Fin 32) (x : Carriage) : State := { s with cars := s.cars.set c x }

/-- A seal. -/
def State.seal (s : State) (i : Fin 4) : Seal := s.seals[i]

/-- A seal replaced. -/
def State.setSeal (s : State) (i : Fin 4) (x : Seal) : State := { s with seals := s.seals.set i x }

/-- An outing slot. -/
def State.outing (s : State) (i : Fin 8) : Outing := s.outs[i]

/-- An outing slot replaced. -/
def State.setOuting (s : State) (i : Fin 8) (x : Outing) : State := { s with outs := s.outs.set i x }

/-- A head. -/
def State.head (s : State) (k : Fin 16) : Head := s.heads[k]

/-- A head replaced. -/
def State.setHead (s : State) (k : Fin 16) (x : Head) : State := { s with heads := s.heads.set k x }

/-- A channel. -/
def State.chan (s : State) (c : Fin 32) : Channel := s.chans[c]

/-- A channel replaced. -/
def State.setChan (s : State) (c : Fin 32) (x : Channel) : State := { s with chans := s.chans.set c x }

/-- A power domain. -/
def State.dom (s : State) (n : Fin 64) : Domain := s.power.doms[n]

/-- A power domain replaced. -/
def State.setDom (s : State) (n : Fin 64) (x : Domain) : State :=
  { s with power := { s.power with doms := s.power.doms.set n x } }

/-- The domain is on and in no transition. -/
def State.domOn (s : State) (n : Nat) : Bool :=
  if h : n < 64 then (s.dom ⟨n, h⟩).st == .on && (s.dom ⟨n, h⟩).moving.isNone else false

/-! Codes -/

/-- Path codes of R568. -/
def pathCode : Path → Nat
  | .head k => k
  | .thread t => 0x20 + t
  | .i3c => 0x30
  | .mc => 0x31
  | .vdm => 0x32

/-- TU_STATUS.STATE. -/
def trustCode : Trust → Nat
  | .untrusted => 0
  | .holdover => 1
  | .locked => 2

/-- TU_STATUS.SOURCE. -/
def sourceCode : TimeSource → Nat
  | .none => 0
  | .tline => 1
  | .ptm => 2

/-- Codes of Table 8.1. -/
def threadCode : ThreadState → Nat
  | .idle => 0
  | .run => 1
  | .wait => 2
  | .stopped => 3
  | .frozen => 4
  | .halted => 5

/-- Codes of Table 9.2. -/
def carCode : CarState → Nat
  | .idle => 0
  | .running => 1
  | .waitt => 2
  | .stopped => 3
  | .frozen => 4
  | .reserved => 5

/-- Codes of Table 9.10. -/
def sealCode : SealState → Nat
  | .idle => 0
  | .armed => 1
  | .active => 2
  | .complete => 3
  | .failed => 4

/-- Codes of OUT_STATUS.STATE. -/
def outCode : OutState → Nat
  | .idle => 0
  | .armed => 1
  | .launched => 2
  | .absent => 3
  | .posted => 4

/-! Heads -/

/-- MOD_STRAP.LAYOUT: 0 eight heads of x8, 1 sixteen of x4, 2 four of x16 (R176, R117). -/
def State.layout (s : State) : Nat := s.fld aMOD_STRAP 2 2

/-- Heads present in a layout (R176). -/
def headCount (layout : Nat) : Nat := if layout = 1 then 16 else if layout = 2 then 4 else 8

/-- The head is present (R176). -/
def State.present (s : State) (k : Nat) : Bool := k < headCount s.layout

/-- The link is in L0 or Recovery (HD_STATUS.LINK_UP); a speed change passes through Recovery. -/
def Head.up (h : Head) : Bool := h.link == .l0 || h.link == .recovery || h.link == .speedChange

/-- The management head's number, HEAD_GCTRL.MGMT_HEAD (R205). -/
def State.mgmtHead (s : State) : Nat := s.fld aHEAD_GCTRL 0 4

/-- The path writes as the management head or the sideband (R209, R352). -/
def State.management (s : State) : Path → Bool
  | .head k => k.val == s.mgmtHead
  | .thread _ => false
  | .i3c => true
  | .mc => true
  | .vdm => true

/-- Owner code of a path's accesses (R603): threads act for the image, the others for the fabric manager. -/
def State.ownerCode (s : State) : Path → Nat
  | .head k => if k.val = s.mgmtHead then 2 else 0
  | .thread _ => 1
  | .i3c => 2
  | .mc => 2
  | .vdm => 2

/-! Thread events (Table 8.14, R336) -/

/-- Bits set in a thread's event register; those of the running engine cycle are kept apart (R338). -/
def State.setEvents (s : State) (t : Fin 8) (m : BitVec 16) : State :=
  let th := s.thread t
  s.setThread t { th with events := th.events ||| m, freshAt := s.ecyc,
                          fresh := if th.freshAt = s.ecyc then th.fresh ||| m else m }

/-- A device-wide event, bit 10 to 15, in the thread that TT_EVROUTE names (R336). -/
def State.notify (s : State) (b : Nat) : State :=
  s.setEvents ⟨s.fld aTT_EVROUTE (3 * (b - 10)) 3 % 8, Nat.mod_lt _ (by decide)⟩ (BitVec.ofNat 16 (2 ^ b))

/-! Event records (Table 5.11, R217 to R219) -/

/-- Byte `i` of a record whose fields are offset, bytes, value. -/
def recordByte (fields : List (Nat × Nat × Nat)) (i : Nat) : Byte :=
  match fields with
  | [] => 0
  | (o, n, x) :: l => if o ≤ i ∧ i < o + n then BitVec.ofNat 8 (x / 256 ^ (i - o)) else recordByte l i

/-- A vendor record: type, fault source or 0xFFFF, RT, then its own fields; 80 bytes (Table 5.11). -/
def State.record (s : State) (ty src : Nat) (fields : List (Nat × Nat × Nat)) : Record :=
  { rtype := ty
    time := s.now
    bytes := (List.range 80).map (recordByte ([(0, 1, ty), (2, 2, src), (4, 8, s.now)] ++ fields))
    overflow := false }

/-- FLAGS bit 0 of a record; a record whose layout CXL 3.1 gives has no FLAGS byte (R217, R219). -/
def Record.mark (r : Record) (on : Bool) : Record :=
  { r with overflow := on
           bytes := if 0x100 ≤ r.rtype then r.bytes else r.bytes.set 1 (if on then 1 else 0) }

/-- The newest record of a list carries the mark, and no other (R219). -/
def markLast : List Record → List Record
  | [] => []
  | [r] => [r.mark true]
  | r :: rs => r.mark false :: markLast rs

/-- A record enters a log, or the full log overflows (R210, R219). -/
def Log.add (l : Log) (r : Record) : Log :=
  if l.records.length < 64 then { l with records := l.records ++ [r] }
  else { records := markLast l.records, overflow := true }

/-- A record enters one of the logs. -/
def Logs.add (l : Logs) (log : EventLog) (r : Record) : Logs :=
  match log with
  | .informational => { l with info := l.info.add r }
  | .warning => { l with warn := l.warn.add r }
  | .failure => { l with fail := l.fail.add r }
  | .fatal => { l with fatal := l.fatal.add r }
  | .dynamicCapacity => { l with dcd := l.dcd.add r }

/-- A log by its name. -/
def Logs.get (l : Logs) (log : EventLog) : Log :=
  match log with
  | .informational => l.info
  | .warning => l.warn
  | .failure => l.fail
  | .fatal => l.fatal
  | .dynamicCapacity => l.dcd

/-- A log replaced. -/
def Logs.set (l : Logs) (log : EventLog) (x : Log) : Logs :=
  match log with
  | .informational => { l with info := x }
  | .warning => { l with warn := x }
  | .failure => { l with fail := x }
  | .fatal => { l with fatal := x }
  | .dynamicCapacity => { l with dcd := x }

/-- A record to the fabric manager (R219), signalled on I3C by an in-band interrupt (R206). -/
def State.toFm (s : State) (log : EventLog) (r : Record) : State :=
  let s := { s with mgmt := { s.mgmt with fmLogs := s.mgmt.fmLogs.add log r } }
  if s.mgmt.i3cAddr.isSome && s.flag aHEAD_GCTRL 4 then s.emit .inBand else s

/-- A record to one head (R219). -/
def State.toHead (s : State) (k : Fin 16) (log : EventLog) (r : Record) : State :=
  s.setHead k { s.head k with logs := (s.head k).logs.add log r }

/-- A record to a list of heads. -/
def State.toHeads (s : State) (ks : List (Fin 16)) (log : EventLog) (r : Record) : State :=
  ks.foldl (fun s k => s.toHead k log r) s

/-- A record about one head: to that head and the fabric manager (R219). -/
def State.toHeadAndFm (s : State) (k : Fin 16) (log : EventLog) (r : Record) : State := (s.toHead k log r).toFm log r

/-- A record about the whole device: to every head whose link is up and the fabric manager (R219). -/
def State.toAll (s : State) (log : EventLog) (r : Record) : State :=
  (s.toHeads ((List.finRange 16).filter (fun k => (s.head k).up)) log r).toFm log r

end Sys2Proof.Machine
end

