-- ==== Sys2Proof/Machine/Faults.lean ====
section
/-! DEFINITION. The fault collector (R589 to R595), the reactions of Table 14.5, freezing of masters (Table 14.3),
carriage stops, the failure of seals and outings, ALIVE, the snapshot trigger and the start of a shutdown. -/

namespace Sys2Proof.Machine

/-- The offending master of an event with what its freeze latches (Table 14.3, R349, R371, R593). -/
inductive Master where
  | head (k : Fin 16) (reason addr stamp : Nat)
  | thread (t : Fin 8) (reason : Nat) (word : Word) (addr : Nat) (bus : Bool)
  | carriage (c : Fin 32) (addr : Nat)
  deriving DecidableEq, Repr

/-- An event of a fault source with its detail (R589). -/
structure FaultEvent where
  src : Nat
  idx : Nat
  val : Nat
  master : Option Master
  /-- FAULT with the stop option: its thread is not frozen (R593). -/
  noFreeze : Bool
  deriving DecidableEq, Repr

/-- An event without an offending master. -/
def FaultEvent.plain (src idx val : Nat) : FaultEvent :=
  { src := src, idx := idx, val := val, master := none, noFreeze := false }

/-! Comparator fields (02, comparator registers) -/

/-- TC_CTRL.ARM. -/
def State.tcArmed (s : State) (n : Nat) : Bool := s.flag (aTC_CTRL n) 0

/-- TC_CTRL.TARGET. -/
def State.tcTarget (s : State) (n : Nat) : Nat := s.fld (aTC_CTRL n) 4 4

/-- TC_CTRL.INDEX. -/
def State.tcIndex (s : State) (n : Nat) : Nat := s.fld (aTC_CTRL n) 8 5

/-- TC_OWNER. -/
def State.tcOwner (s : State) (n : Nat) : Nat := s.fld (aTC_OWNER n) 0 8

/-- The comparator disarms; it stays owned and its status stands. -/
def State.tcDisarm (s : State) (n : Nat) : State := s.setFlag (aTC_CTRL n) 0 false

/-- Release of a comparator: disarmed, status clear, free (R607, R333). -/
def State.tcFree (s : State) (n : Nat) : State :=
  ((s.tcDisarm n).setReg (aTC_STATUS n) 0).setReg (aTC_OWNER n) 0

/-! Snapshot trigger (R599, R600) -/

/-- The common trigger from source bit `b` of SNAP_STATUS (1 SNAP, 2 comparator, 3 severe, 4 FIRE, 5 AUX_A). The
copies are written when the command ends, with what stood before the stack-clock cycle. -/
def State.snapTrigger (s : State) (b comp severe : Nat) : State :=
  if s.flag aSNAP_STATUS 0 then
    if s.snapCycle = some s.cyc then
      let s := s.setFlag aSNAP_STATUS b true
      let s := if b = 2 then s.setFld aSNAP_STATUS 6 6 comp else s
      if b = 3 then s.setFld aSNAP_STATUS 12 7 severe else s
    else s.bump aSNAP_STATUS 24 8 1
  else
    let s := s.setReg aSNAP_STATUS (packBits [(0, 1, 1), (b, 1, 1), (6, 6, comp), (12, 7, severe)])
    { s.setReg aSNAP_RT s.nowW with snapCycle := some s.cyc, snapDue := true }

/-- Re-arm (R600). -/
def State.snapRearm (s : State) : State :=
  let s := (s.setFlag aSNAP_STATUS 0 false).setFld aSNAP_STATUS 24 8 0
  { s with snapCycle := none }

/-! ALIVE (R596, R597) -/

/-- ALIVE stops with a cause; a stopped ALIVE stays as it is. -/
def State.aliveStop (s : State) (cause : Nat) : State :=
  if s.flag aALIVE_STATUS 1 then s
  else ((s.setFlag aALIVE_STATUS 1 true).setFld aALIVE_STATUS 2 2 cause).setReg aALIVE_STOP_RT s.nowW

/-! Threads -/

/-- A power request that its thread abandons is withdrawn unless it has started (R353). -/
def State.dropRequest (s : State) : WaitCond → State
  | .power id _ => { s with power := { s.power with queue := s.power.queue.filter (fun r => r.started || r.id != id) } }
  | _ => s

/-- A thread is halted at its instruction boundary (R353). A wait of Table 8.1 is given up; an unfinished CRD or CWR
reaches its boundary first. -/
def State.haltThread (s : State) (t : Fin 8) : State :=
  let th := s.thread t
  match th.st with
  | .run =>
    match th.wait with
    | .crd .. => s.setThread t { th with haltReq := true }
    | .cwr => s.setThread t { th with haltReq := true }
    | _ => s.setThread t { th with st := .halted, wait := .none }
  | .wait => (s.dropRequest th.wait).setThread t { th with st := .halted, wait := .none }
  | _ => s

/-- Every thread is halted (R513, R592). -/
def State.haltAll (s : State) : State := (List.finRange 8).foldl (fun s t => s.haltThread t) s

/-! Carriages -/

/-- The progress record is written, in CR_PROG and in the table store (R379, Table 9.6). -/
def State.writeProgress (s : State) (c : Fin 32) (desc entry done : Nat) (acc : Word) : State :=
  let w0 : Word := packBits [(0, 32, desc), (32, 32, entry)]
  let p : Vector Word 4 := #v[w0, BitVec.ofNat 64 done, acc, s.nowW]
  let base : Nat := 0x7FF000 + c.val * 0x20
  let s := s.setCar c { s.car c with prog := p, recorded := true }
  let m := Memory.setN s.pstore base 8 w0.toNat
  let m := Memory.setN m (base + 8) 8 done
  let m := Memory.setN m (base + 16) 8 acc.toNat
  let m := Memory.setN m (base + 24) 8 s.now
  { s with pstore := m }

/-- A carriage has left the running state: the CARRIAGE event of the thread that launched it, or armed its seal or outing
(R334, R362). -/
def State.carEvent (s : State) (c : Fin 32) : State :=
  let s := s.setCar c { s.car c with leftAt := s.ecyc }
  match (s.car c).thread with
  | some t => s.setEvents t 0x200
  | none => s

/-- A carriage stops with a code of Table 9.5. A stop at a line boundary writes the progress record; another stop keeps
the last record of the chain, or records the start of its first descriptor (R379, log 24). Codes 2 to 10 send a CARRIAGE
record (R375); codes 4 and 10 freeze it. A comparator it allocated for a WAITT is freed; after a refusal or a step hold it keeps the
status that says so (log 22). -/
def State.carStopBy (s : State) (c : Fin 32) (code src : Nat) : State :=
  let k := s.car c
  let s := match k.comp with
    | some n => if code = 5 ∨ code = 6 then (s.tcDisarm n).setReg (aTC_OWNER n) 0 else s.tcFree n
    | none => s
  let st : CarState := if code = 4 ∨ code = 10 then .frozen else .stopped
  let s := s.setCar c { k with st := st, code := code, flight := [], ahead := 0, post := none, run := k.run + 1, comp := none,
                               deadline := none, abort := none, cur := none, elem := none, share := none }
  let s := if code = 1 ∨ code = 10 then s.writeProgress c k.desc k.entry k.done k.acc
    else if k.recorded then s else s.writeProgress c k.desc 0 0 0
  let s := s.carEvent c
  if code < 2 then s
  else s.toFm .warning (s.record 0x10 src
    [(12, 1, c), (13, 1, code), (16, 4, k.desc), (20, 8, k.done), (28, 8, s.now)])

/-- A stop whose record names the fault source that the code has: 6 for a window violation, none for the others. -/
def State.carStop (s : State) (c : Fin 32) (code : Nat) : State := s.carStopBy c code (if code = 4 then 6 else 0xFFFF)

/-- A line of the carriage is in the request path. -/
def Carriage.inPath (k : Carriage) : Bool := k.flight.any (fun p => !p.asked.isEmpty || !p.sent.isEmpty)

/-- A stop at the next line boundary: at once unless a line of the carriage is in the request path (R335, R513). -/
def State.carStopAtLine (s : State) (c : Fin 32) (code src : Nat) : State :=
  let k := s.car c
  match k.st with
  | .waitt => s.carStopBy c code src
  | .running => if k.inPath then s.setCar c { k with abort := some (code, src) } else s.carStopBy c code src
  | _ => s

/-- A reserved carriage returns to the state it had before the reservation, with the event of a carriage that has finished
(R334, R345, R362, R385, R398). -/
def State.carUnreserve (s : State) (c : Fin 32) : State :=
  let k := s.car c
  if k.st = .reserved then
    (s.setCar c { k with st := k.before, flight := [], ahead := 0, run := k.run + 1, post := none, share := none, elem := none,
                         abort := none }).carEvent c
  else s

/-! Seals -/

/-- The carriages of a seal: hold and sweep. -/
def Seal.carriages (x : Seal) : List (Fin 32) :=
  (List.finRange 32).filter (fun c => c == x.hold || x.sweep.getLsbD c)

/-- A SEAL record to the seal's heads and the fabric manager (Table 9.14). -/
def State.sealRecord (s : State) (i : Fin 4) (outcome : Nat) : State :=
  let x := s.seal i
  let r := s.record 0x11 (if outcome = 2 then 52 else 0xFFFF) ([(12, 1, i.val), (13, 1, outcome), (14, 1, x.reason), (15, 1, bit x.late),
    (16, 8, x.tb), (24, 8, s.now), (32, 4, x.held), (36, 4, x.poison), (40, 2, x.damage)]
    ++ (List.range 19).map (fun j => (42 + 2 * j, 2, x.spans.getD j 0)))
  let log : EventLog := if outcome = 0 then .informational else .warning
  (s.toHeads ((List.finRange 16).filter (fun k => x.heads.getLsbD k)) log r).toFm log r

/-- A seal fails (R385): its carriages return, its staging is free, its held writes proceed without their copies. -/
def State.sealFail (s : State) (i : Fin 4) (reason : Nat) : State × List FaultEvent :=
  let x := s.seal i
  let s := x.carriages.foldl (fun s c => s.carUnreserve c) s
  let s := { s with mem := { s.mem with accept := x.heldWrites ++ s.mem.accept } }
  let s := s.setSeal i { x with st := .failed, reason := reason, heldWrites := [], copies := [], staged := [] }
  (s.sealRecord i 2, [.plain 52 i reason])

/-! Outings -/

/-- The bound in ns as the records of an outing carry it, saturating (Table 9.12). -/
def satWord (n x : Nat) : Nat := min x (2 ^ n - 1)

/-- A member's roll-call record (Table 9.12). -/
def State.rollcallBytes (s : State) (p : Post) : List Byte :=
  let o := p.outing
  let elapsed := if p.status = 2 then 0 else satWord 32 ((s.now - o.launch) / 1000)
  (List.range 16).map (recordByte [(0, 2, o.id.toNat), (2, 2, s.fld aOUT_DEVINDEX 0 12 + 0x1000 * bit o.late),
    (4, 1, p.status), (5, 1, p.reason), (6, 2, o.bound.toNat), (8, 4, p.value), (12, 4, elapsed)])

/-- A post leaves as one 16-byte UIO write on the outing's head once that head is up (R199, R399, R400): OUT_POST_RT takes
the RT, and a slot that has launched is POSTED. -/
def State.carPost (s : State) (c : Fin 32) : State :=
  let k := s.car c
  match k.post with
  | none => s
  | some p =>
    let o := p.outing
    let up : Bool := if h : o.head < 16 then (s.head ⟨o.head, h⟩).up else false
    if p.sent = true ∨ up = false then s else
    let s := s.emit (.peer o.head (o.rollcall + 16 * s.fld aOUT_DEVINDEX 0 12) (s.rollcallBytes p) true false)
    let s := s.setCar c { k with post := some { p with sent := true } }
    let x := s.outing p.slot
    if x.id ≠ o.id then s
    else if p.status = 2 then (if x.st = .absent then s.setOuting p.slot { x with postRt := s.now } else s)
    else if x.st = .launched ∨ x.st = .posted then s.setOuting p.slot { x with st := .posted, postRt := s.now } else s

/-- An outing does not launch (R398): the slot is ABSENT, and the post carriage posts unless a shutdown cancels the outing.
It returns to its earlier state when the post has completed (R399). -/
def State.outingAbsent (s : State) (i : Fin 8) (reason bound : Nat) (post : Bool) : State × List FaultEvent :=
  let o := { s.outing i with st := .absent, reason := reason, rt := s.now, bound := BitVec.ofNat 16 (satWord 16 bound) }
  let s := s.setOuting i o
  let c := o.carriage
  let s := if post then
      (s.setCar c { s.car c with post := some { slot := i, outing := o, status := 2, reason := reason, value := 0,
                                                sent := false }, progressAt := s.cyc }).carPost c
    else s.carUnreserve c
  (s, [.plain 54 i.val reason])

/-! Shutdown (R512, R513) -/

/-- A THERMAL record (Table 5.11). -/
def State.thermalRecord (s : State) (src layer stage frac : Nat) : State :=
  s.toAll .warning (s.record 8 src [(12, 1, layer), (13, 1, stage), (14, 2, s.fld (aTH_LAYER layer) 0 10),
    (16, 1, s.fld (aTH_LAYER layer) 15 1), (18, 2, frac)])

/-- First cycle of an orderly shutdown (Table 12.4). -/
def State.beginShutdown (s : State) (src layer : Nat) : State × List FaultEvent :=
  if s.fld aTH_STATUS 4 2 ≠ 0 then (s, []) else
  let thermal : Bool := src == 90
  let s := s.setFld aTH_STATUS 4 2 1
  let s := s.setReg aTH_SHUT (packBits [(0, 16, src), (16, 5, if thermal then layer else 0x1F)])
  let s := if thermal then (s.setFlag aTH_STATUS 6 true).thermalRecord src layer 4 0 else s
  let s := { s with therm := { s.therm with shutAt := some (s.cyc, s.now), drainedAt := none } }
  let s := s.haltAll
  let s := (List.finRange 32).foldl (fun s c => s.carStopAtLine c 1 0xFFFF) s
  let (s, e1) := (List.finRange 4).foldl (fun (p : State × List FaultEvent) i =>
    if (p.1.seal i).st = .armed ∨ (p.1.seal i).st = .active then
      let q := p.1.sealFail i 3
      ((q.1.tcDisarm (p.1.seal i).comp), p.2 ++ q.2) else p) (s, [])
  let (s, e2) := (List.finRange 8).foldl (fun (p : State × List FaultEvent) i =>
    if (p.1.outing i).st = .armed then
      let q := p.1.outingAbsent i 3 0 false
      ((q.1.tcDisarm (p.1.outing i).comp), p.2 ++ q.2) else p) (s, [])
  let dirty := (s.cache.filter (fun l => l.dirty)).map (fun l => l.line)
  ({ s with mem := { s.mem with flush := dirty } }, e1 ++ e2)

/-! Reactions (Table 14.5) -/

/-- The freeze window in ms (R586). -/
def State.freezeWindow (s : State) : Nat :=
  let w := s.fld aCTL_FREEZE 0 7
  if w = 0 then 1 else min w 100

/-- A FREEZE record of a head's freeze (Table 5.11). -/
def State.headFreeze (s : State) (k : Fin 16) (reason addr stamp windowMs : Nat) (until_ : Nat) : State :=
  let s := s.setHead k { s.head k with mode := .frozen until_ }
  s.toHeadAndFm k .failure (s.record 4 4 [(12, 1, 0), (13, 1, k), (14, 1, reason), (16, 8, addr), (24, 8, stamp),
    (32, 2, windowMs)])

/-- Class 2: the offending master freezes (R585, R587, R593). A head already frozen or fenced stays so. -/
def State.freezeMaster (s : State) (src : Nat) : Master → State
  | .head k reason addr stamp =>
    match (s.head k).mode with
    | .normal => s.headFreeze k reason addr stamp s.freezeWindow (s.cyc + cycMs s.freezeWindow)
    | _ => s
  | .thread t reason word addr bus =>
    let s := s.setThread t { s.thread t with st := .frozen, wait := .none, haltReq := false }
    let s := s.setReg (aTT_FAULT t) (packBits [(0, 3, reason), (3, 1, bit bus)])
    let s := s.setReg (aTT_FAULT_INSN t) word
    let s := s.setReg (aTT_FAULT_ADDR t) (BitVec.ofNat 64 addr)
    s.toFm .failure (s.record 4 src [(12, 1, 2), (13, 1, t), (14, 1, reason), (16, 8, addr)])
  | .carriage c addr =>
    let s := s.carStop c 4
    s.toFm .failure (s.record 4 src [(12, 1, 1), (13, 1, c), (14, 1, 1), (16, 8, addr)])

/-- Class 3: the unit of the offending master is fenced. -/
def State.fenceUnit (s : State) (src : Nat) (noFreeze : Bool) : Master → State
  | .head k reason addr stamp =>
    match (s.head k).mode with
    | .fenced => s
    | _ => s.headFreeze k reason addr stamp 0 (s.cyc + 1)
  | .thread t reason word addr bus =>
    (if noFreeze then s else s.freezeMaster src (.thread t reason word addr bus)).haltAll
  | .carriage c addr =>
    let s := s.freezeMaster src (.carriage c addr)
    ((List.finRange 32).filter (fun d => d.val / 8 = c.val / 8)).foldl (fun s d => s.carStopAtLine d 10 src) s

/-- Class 1: FC_ALERT and event bit 10. -/
def State.notifyFault (s : State) (src : Nat) : State :=
  (s.setFlag (aFC_ALERT (src / 64)) (src % 64) true).notify 10

/-- The class a source reacts with before the rule of R592 (R594). -/
def State.sourceClass (s : State) (src : Nat) : Nat :=
  if faultFixed src then (faultClass src).getD 0 else
  let c := s.fld (aFC_SRC_CFG src) 0 3
  if 6 ≤ c then 1 else if 4 ≤ src ∧ src ≤ 6 ∧ c < 2 then 2 else c

/-- The class an event acts with: classes 3 to 5 act while the source is severe (R592). -/
def actingClass (cls : Nat) (severe hasMaster : Bool) : Nat :=
  if 3 ≤ cls ∧ severe = false then (if hasMaster then 2 else 1) else cls

/-- The first-error latch (R595). -/
def State.latchFirst (s : State) (e : FaultEvent) : State :=
  let latch (s : State) (ovf : Bool) : State :=
    let s := s.setReg aFC_FIRST (packBits [(0, 7, e.src), (8, 1, 1), (9, 1, bit ovf)])
    let s := s.setReg aFC_FIRST_RT s.nowW
    { s.setReg aFC_FIRST_DETAIL (packBits [(0, 16, e.idx), (16, 48, e.val)]) with fcFirstCycle := s.cyc }
  if s.flag aFC_FIRST 8 then
    if s.fcFirstCycle = s.cyc ∧ e.src < s.fld aFC_FIRST 0 7 then latch s true else s.setFlag aFC_FIRST 9 true
  else latch s false

/-- The source counts its event (R590, R591): the state, whether it was severe and whether it is now. -/
def State.countEvent (s : State) (src : Nat) : State × Bool × Bool :=
  let st := aFC_SRC_STAT src
  let s := s.bump st 16 16 1
  if s.flag st 8 then (s.bump st 0 8 1, true, true) else
  let k := s.now / 32000
  let w := max 1 (s.fld (aFC_SRC_CFG src) 16 16)
  let n := max 1 (s.fld (aFC_SRC_CFG src) 8 8)
  let k0 := sparseGet (fun _ => 0) s.fcWindow src
  let fresh : Bool := s.fld st 0 8 == 0 || decide (k < k0) || decide (w ≤ k - k0)
  let count := if fresh then 1 else s.fld st 0 8 + 1
  let s := if fresh then { s with fcWindow := sparsePut (fun _ => 0) s.fcWindow src k } else s
  let s := s.setFld st 0 8 (satAt 8 count)
  let severe : Bool := decide (n ≤ count) || faultFixed src
  (if severe then s.setFlag st 8 true else s, false, severe)

/-- One event of a fault source, with the events that its reaction causes (R589 to R597). -/
def State.raiseOne (s : State) (e : FaultEvent) : State × List FaultEvent :=
  if (faultClass e.src).isNone then (s, []) else
  let s := s.latchFirst e
  let (s, was, severe) := s.countEvent e.src
  let s := if severe && !was && s.flag aSNAP_CTRL 3 then s.snapTrigger 3 0 e.src else s
  let s := if e.src = 3 then s.aliveStop 3 else s
  let cls := actingClass (s.sourceClass e.src) severe e.master.isSome
  let s := if 1 ≤ cls then s.notifyFault e.src else s
  let s := match e.master with
    | some m =>
      if cls = 3 then s.fenceUnit e.src e.noFreeze m
      else if 2 ≤ cls ∧ e.noFreeze = false then s.freezeMaster e.src m else s
    | none => s
  if cls = 4 then (s.aliveStop 1, [])
  else if cls = 5 then (s.aliveStop 2).beginShutdown e.src e.idx
  else (s, [])

/-- A list of events in order, each followed by those its reaction causes; the first argument bounds the chain (a
shutdown begins once, so a chain has at most 13 events after its first). -/
def State.raiseAll (s : State) : Nat → List FaultEvent → State
  | 0, _ => s
  | _, [] => s
  | n + 1, e :: es =>
    let p := s.raiseOne e
    State.raiseAll p.1 n (es ++ p.2)

/-- Events of fault sources. -/
def State.raiseList (s : State) (es : List FaultEvent) : State := s.raiseAll (es.length + 64) es

/-- An event without a master. -/
def State.raise (s : State) (src idx val : Nat) : State := s.raiseList [.plain src idx val]

/-- An event with its offending master. -/
def State.raiseBy (s : State) (src idx val : Nat) (m : Master) : State :=
  s.raiseList [{ src := src, idx := idx, val := val, master := some m, noFreeze := false }]

/-- A head's violation (Table 14.3). -/
def State.headViolation (s : State) (k : Fin 16) (reason addr stamp : Nat) : State :=
  s.raiseBy 4 k addr (.head k reason addr stamp)

/-- A thread's violation (R347, R349). -/
def State.threadViolation (s : State) (t : Fin 8) (reason : Nat) (word : Word) (addr : Nat) (bus : Bool) : State :=
  s.raiseBy 5 t addr (.thread t reason word addr bus)

/-- A carriage's violation (R371). -/
def State.carriageViolation (s : State) (c : Fin 32) (addr : Nat) : State :=
  s.raiseBy 6 c addr (.carriage c addr)

end Sys2Proof.Machine
end

