-- ==== Sys2Proof/Machine/Regulation.lean ====
section
/-! DEFINITION. Bandwidth and share regulation: capacities, the floor, the scale, the commit check, the guarantee
buckets (07). -/

namespace Sys2Proof.Machine

/-! Capacities -/

/-- Lanes of a head by layout (R176). -/
def headWidth (layout : Nat) : Nat := if layout = 1 then 4 else if layout = 2 then 16 else 8

/-- The lanes of a head (Table 3.6). -/
def headLanes (layout k : Nat) : List Nat :=
  (List.range (headWidth layout)).map (fun i => k * headWidth layout + i)

/-- The head a lane belongs to. -/
def laneHead (layout l : Nat) : Nat := l / headWidth layout

/-- GT/s of a rate code at which CXL.mem is carried, 0 otherwise (R177). -/
def memRate (code : Nat) : Nat := if code = 4 then 32 else if code = 5 then 64 else if code = 6 then 128 else 0

/-- `W × S × (240 / 256) × (48 / 37)` rounded down, in Gbit/s (R178, R280). -/
def payload (w s : Nat) : Nat := w * s * 240 * 48 / (256 * 37)

/-- CXL.mem is carried (R177). -/
def Head.memEn (h : Head) : Bool := h.up && decide (4 ≤ h.rate.toNat)

/-- CAP of a head (R178). -/
def Head.cap (h : Head) : Nat := if h.memEn then payload h.lanes.length (memRate h.rate.toNat) else 0

/-- LN_STATUS.EQ_USABLE of a lane at a rate index (R141, R147). -/
def State.eqUsable (s : State) (l r : Nat) : Bool := s.flag (aLN_STATUS l) (8 + r)

/-- Every lane of a head has a usable entry at the rate index (R141). -/
def State.lanesUsable (s : State) (k r : Nat) : Bool := (headLanes s.layout k).all (fun l => s.eqUsable l r)

/-- Highest rate code that R141 permits for a head. -/
def State.permittedRate (s : State) (k : Nat) : Nat :=
  if s.lanesUsable k 3 then (if s.lanesUsable k 4 then 6 else 5) else 4

/-- Admission capacity of master `m` (R280); 0 for an absent head, 0xFFFF for the carriage class. -/
def State.admCap (s : State) (m : Nat) : Nat :=
  if m = 16 then 0xFFFF
  else if s.present m then payload (headWidth s.layout) (memRate (s.permittedRate m)) else 0

/-! Guarantees -/

/-- Applied MIN_BW of a master. -/
def State.minBw (s : State) (m : Nat) : Nat := s.fld (aREG_M_BW m) 0 14

/-- Applied WEIGHT of a master. -/
def State.weight (s : State) (m : Nat) : Nat := s.fld (aREG_M_BW m) 16 8

/-- Applied MIN_OCC of a master. -/
def State.minOcc (s : State) (m : Nat) : Nat := s.fld (aREG_M_SHARE m) 0 7

/-- Applied MIN_POOL of a master. -/
def State.minPool (s : State) (m : Nat) : Nat := s.fld (aREG_M_SHARE m) 8 7

/-- Sum of the applied MIN_BW. -/
def State.committed (s : State) : Nat := ((List.range 17).map s.minBw).sum

/-- Effective guarantee of a master in Gbit/s (R286). -/
def State.effBw (s : State) (m : Nat) : Nat :=
  let g := s.minBw m * s.regul.scale / 32768
  if h : m < 16 then min g (s.head ⟨m, h⟩).cap else g

/-! The floor and the scale -/

/-- The double halt rate is in force (R256). -/
def Halts.inDouble (h : Halts) : Bool := h.double || h.thermal

/-- Channels in limp. -/
def State.limpCount (s : State) : Nat := (s.chans.toList.filter (fun c => c.mode == .limp)).length

/-- Channels lost. -/
def State.lostCount (s : State) : Nat := (s.chans.toList.filter (fun c => c.mode == .lost)).length

/-- E: the lower of the two counts of active express columns (R277). -/
def State.expressE (s : State) : Nat := min (min (s.fld aREG_EXPRESS 0 11) (s.fld aREG_EXPRESS 16 11)) 1024

/-- Enforcement is in force (TH_STATUS.ENFORCE). -/
def State.enforcing (s : State) : Bool := s.flag aTH_STATUS 3

/-- ENF_FRAC as it acts (TH_CTRL). -/
def State.enfFrac (s : State) : Nat := max 0x1000 (min 0x8000 (s.fld aTH_CTRL 16 16))

/-- The floor in Gbit/s from its terms; F in 1/32,768 (R277). -/
def floorOf (dbl : Bool) (lp ls e f : Nat) : Nat :=
  (if dbl then 9778 else 11000) * (64 - lp - 2 * ls) * e * f / (64 * 1024 * 32768)

/-- The floor under the conditions in force (R277). -/
def State.floorNow (s : State) : Nat :=
  floorOf s.halt.inDouble s.limpCount s.lostCount s.expressE (if s.enforcing then s.enfFrac else 32768)

/-- The scale for a floor and a committed sum, in 1/32,768 (R286). -/
def scaleOf (floor committed : Nat) : Nat := if floor < committed then 32768 * floor / committed else 0x8000

/-- Causes of the floor: bit 0 double rate, 1 limp or lost, 2 express columns, 3 thermal (Table 5.8). -/
def State.floorCauses (s : State) : Nat :=
  bit s.halt.inDouble + 2 * bit (decide (0 < s.limpCount + s.lostCount)) + 4 * bit (decide (s.expressE < 1024))
    + 8 * bit s.enforcing

/-- The floor and the scale are computed again, at the start of each cycle: a change of the conditions governs from the
cycle after the one in which it takes effect (R278). A changed scale is recorded and raised (R288). -/
def State.refloor (s : State) : State :=
  let f := s.floorNow
  let sc := scaleOf f s.committed
  let old := s.regul.scale
  let s := { s with regul := { s.regul with floor := f, scale := sc } }
  if sc = old then s
  else
    let s := s.setReg aREG_SCALE_RT s.nowW
    let s := s.toAll .warning (s.record 3 45 [(12, 2, f), (14, 2, s.committed), (16, 2, sc), (18, 1, s.floorCauses)])
    s.raise 45 0 0

/-! The commit (R281 to R285) -/

/-- A pending REG_M_BW value as it applies (R285). -/
def clampBw (v : Word) : Word := if getBits v 16 8 = 0 then putBits v 16 8 1 else v

/-- A pending REG_M_SHARE value as it applies (R285). -/
def clampShare (v : Word) : Word := putBits (putBits v 0 7 (min (getBits v 0 7) 64)) 8 7 (min (getBits v 8 7) 112)

/-- The value a group-7 strobe would apply at an address: the pending one, clamped, or the applied one. -/
def State.commitValue (s : State) (a : Nat) : Word :=
  match s.pend.find? (fun p => p.1 == a) with
  | some p => if a % 0x20 = 4 then clampShare p.2 else clampBw p.2
  | none => s.reg a

/-- The first check of R281 that fails, as REASON and MASTER of REG_STATUS; the floor and the admission capacities are
those from before the cycle (R282). -/
def State.commitFailure (s : State) (floor : Nat) : Option (Nat × Nat) :=
  let bw (m : Nat) := getBits (s.commitValue (aREG_M_BW m)) 0 14
  let occ (m : Nat) := getBits (s.commitValue (aREG_M_SHARE m)) 0 7
  let pool (m : Nat) := getBits (s.commitValue (aREG_M_SHARE m)) 8 7
  match (List.range 16).find? (fun m => s.regul.caps.getD m 0 < bw m) with
  | some m => some (2, m)
  | none =>
    if floor < ((List.range 17).map bw).sum then some (1, s.regul.lastPend)
    else if 56 < ((List.range 17).map occ).sum then some (3, s.regul.lastPend)
    else if 112 < ((List.range 17).map pool).sum then some (4, s.regul.lastPend)
    else none

/-- Group 7 holds pending values. -/
def State.regPending (s : State) : Bool := s.pend.any (fun p => decide (0x70000 ≤ p.1 ∧ p.1 < 0x70400))

/-- The strobe of group 7 (R281 to R284, R290). A refused commit leaves every value pending; a commit's new sum sets the
scale from the next cycle on (R28, R278). -/
def State.commitRegulation (s : State) (floor : Nat) : State :=
  if s.regPending = false then s else
  match s.commitFailure floor with
  | some (reason, m) =>
    let s := ((s.setFlag aREG_STATUS 0 true).setFld aREG_STATUS 1 3 reason).setFld aREG_STATUS 4 5 m
    s.raise 44 m 0
  | none =>
    let mine := s.pend.filter (fun p => decide (0x70000 ≤ p.1 ∧ p.1 < 0x70400))
    let s := mine.foldl (fun s p => s.setReg p.1 (s.commitValue p.1)) s
    let rest := s.pend.filter (fun p => ¬ decide (0x70000 ≤ p.1 ∧ p.1 < 0x70400))
    { s with pend := rest }.setFlag aSU_STATUS 11 true

/-! Buckets, in half bits: 1,024 stand for the 512 bits of a line (R266, R269) -/

/-- Depth of a master's guarantee bucket (R269). -/
def State.bucketDepth (s : State) (m : Nat) : Nat := max (2 * (s.effBw m * 1000)) 8192

/-- A master's guarantee bucket. -/
def State.bucket (s : State) (m : Nat) : Nat := sparseGet (fun _ => 0) s.regul.buckets m

/-- A bucket set. -/
def State.setBucket (s : State) (m x : Nat) : State :=
  { s with regul := { s.regul with buckets := sparsePut (fun _ => 0) s.regul.buckets m x } }

/-- A master's deficit in lines (R271). -/
def State.deficit (s : State) (m : Nat) : Nat := sparseGet (fun _ => 0) s.regul.deficit m

/-- The master of a source (R263, R264). -/
def Src.master : Src → Nat
  | .head k => k
  | .carriage _ => 16
  | .scrub => 16
  | .seal _ => 16
  | .zeroFill => 16

/-! What waits in the carriage class (R264) -/

/-- Lines of the array (R424). -/
abbrev arrayLines : Nat := 2 ^ 30

/-- The line the scrubber reads next. -/
def State.scrubLine (s : State) : Nat := (s.reg aSCRUB_POS).toNat / 64

/-- Pass time in ns. -/
def State.passNs (s : State) : Nat := s.fld aSCRUB_CTRL 0 8 * 3600000000000

/-- RT at which the next line is due by the even spacing of the pass on local RT (R65, R424). -/
def State.scrubDue (s : State) : Nat :=
  s.integ.scrubStart + (s.scrubLine - s.integ.scrubFrom) * s.passNs / arrayLines

/-- The scrubber's next read is due: training has ended and the scrubber is not paused (R424, R615). -/
def State.scrubWaits (s : State) : Bool :=
  !s.flag aSCRUB_CTRL 8 && s.flag aXR_GSTATUS 0 && decide (s.scrubDue ≤ s.now)

/-- A piece has lines to admit. -/
def Piece.wants (p : Piece) : Bool := !p.toRead.isEmpty || !p.toWrite.isEmpty

/-- A carriage has a line to admit. -/
def Carriage.wants (k : Carriage) : Bool := (k.st == .running || k.st == .reserved) && k.flight.any Piece.wants

/-- A seal has reads of hold copies, or staged lines, to admit. -/
def Seal.wants (x : Seal) : Bool := x.copies.any (fun c => !c.toRead.isEmpty) || x.staged.any (fun g => !g.toWrite.isEmpty)

/-- Lines that a stand-in's fill writes: 2 GiB (R476, R479). -/
abbrev standinLines : Nat := 2 ^ 25

/-- Lines of the fill of a stand-in that are admitted. -/
def State.siSent (s : State) (n : Nat) : Nat := sparseGet (fun _ => 0) s.links.siSent n

/-- A stand-in's fill has lines to admit: XR_SI_STATUS.STATE is 2 (R479). -/
def State.siFillWants (s : State) (n : Nat) : Bool := s.fld (aXR_SI_STATUS n) 0 2 == 2 && decide (s.siSent n < standinLines)

/-- Lines of a block (R182). -/
abbrev blockLines : Nat := 2 ^ 22

/-- Reads and writes of a row repair's copy (R432). -/
abbrev repairMoves : Nat := 64

/-- The carriage class has something to admit. -/
def State.classWaits (s : State) : Bool :=
  s.scrubWaits || s.cars.toList.any Carriage.wants || s.seals.toList.any Seal.wants || s.siFillWants 0 || s.siFillWants 1
    || s.filling.any (fun f => decide (f.sent < blockLines))
    || (match s.integ.repairing with
      | some r => decide (r.moved < repairMoves)
      | none => false)

end Sys2Proof.Machine
end

