-- ==== Sys2Proof/Machine/Halts.lean ====
section
/-! DEFINITION. RT's increment, the halt schedule, the opening of halts and their rows of the table (06, Halts). -/

namespace Sys2Proof.Machine

/-- Increment of RT per stack-clock cycle, in 2^-32 ns (Table 2.1). TU_FREQ is in 0.001 ppm. -/
def State.increment (s : State) : Nat :=
  let freq : Int := (BitVec.ofNat 32 (s.fld aTU_FREQ 0 32)).toInt
  let nominal : Nat := (((2 : Int) ^ 31) + ((2 : Int) ^ 31) * freq / 1000000000).toNat
  match s.tu.corr with
  | .none => nominal
  | .steer => if 0 < s.tu.corrLeft then nominal - nominal / 10000 else nominal + nominal / 10000
  | .fwd => 3 * 2 ^ 30
  | .back => 2 ^ 30

/-! The schedule (R251, R256, R74) -/

/-- Offsets from the phase in force at which grid halts fall due, with those of the second-phase grid apart. -/
def State.gridOffsets (s : State) : List Nat :=
  let dbl := s.halt.inDouble
  [0] ++ (if dbl then [2000] else [])
    ++ (if s.tu.corr = .back then (if dbl then [1000, 3000] else [2000]) else [])

/-- The offset belongs to the second-phase grid of the double rate. -/
def State.isSecond (s : State) (o : Nat) : Bool := s.halt.inDouble && o == 2000

/-- Greatest V at most `x` with V mod 4,000 the offset's phase. -/
def gridAtOrBelow (phase o x : Nat) : Option Nat :=
  let p := (phase + o) % 4000
  if x < p then none else some (x - (x - p) % 4000)

/-- Least V above `x` with V mod 4,000 the offset's phase. -/
def gridAbove (phase o x : Nat) : Nat :=
  let p := (phase + o) % 4000
  if x < p then p else x + 4000 - (x - p) % 4000

/-- The second-phase rule of R256. -/
def State.gridAllowed (s : State) (o v : Nat) : Bool := !s.isSecond o || decide (s.halt.secondFrom ≤ v * 2 ^ 32)

/-- The grid halt that is due: the last grid value RT has reached, if no halt has been opened or deferred for it. -/
def State.gridDue (s : State) : Option Nat :=
  let vs := s.gridOffsets.filterMap (fun o =>
    match gridAtOrBelow s.halt.phase o s.now with
    | some v => if s.gridAllowed o v then some v else none
    | none => none)
  match vs with
  | [] => none
  | v :: rest =>
    let m := rest.foldl max v
    match s.halt.lastGrid with
    | some g => if g < m then some m else none
    | none => some m

/-- The next grid value above RT. -/
def State.gridNext (s : State) : Nat :=
  let vs := s.gridOffsets.map (fun o =>
    let v := gridAbove s.halt.phase o s.now
    if s.gridAllowed o v then v else v + 4000)
  vs.foldl min (s.now + 8000)

/-- Length of the fallback guard in cycles (R257). -/
def State.guardLen (s : State) : Nat := if s.halt.inDouble then 4200 else 8200

/-- Cycles left of the guard. -/
def State.guardLeft (s : State) : Nat := s.halt.lastOpen + s.guardLen - s.cyc

/-- Cycles until RT reaches a value at the increment in force. -/
def State.cyclesTo (s : State) (v : Nat) : Nat :=
  let target := v * 2 ^ 32
  let rt := s.tu.rt.toNat
  if target ≤ rt then 0 else (target - rt + s.increment - 1) / s.increment

/-- RT that local RT will reach a number of cycles ahead (R259). -/
def State.rtIn (s : State) (n : Nat) : Nat := (s.tu.rt.toNat + n * s.increment) / 2 ^ 32

/-- Cycles left of an open window (R72). -/
def State.windowLeft (s : State) : Nat :=
  match s.halt.openAt with
  | some c => c + 800 - s.cyc
  | none => 0

/-- Cycles until the next halt falls due: a grid halt, or the committed fallback halt (R258, R259). -/
def State.nextDueIn (s : State) : Nat :=
  let g := s.cyclesTo s.gridNext
  match s.halt.commitAt with
  | some c => min g (c - s.cyc)
  | none => g

/-- Cycles until the next halt opening (R255, R259): a halt that falls due while the open window lasts opens as it ends. -/
def State.nextHaltIn (s : State) : Nat :=
  if 0 < s.halt.deferred ∨ s.nextDueIn < s.windowLeft then s.windowLeft else s.nextDueIn

/-- HALT_NEXT (R259): the value on the grid, or the RT that local RT will reach where the next opening is a fallback halt
or a deferred one. In the cycle of power-up the register still holds its reset value. -/
def State.nextHaltRt (s : State) : Nat :=
  if s.cyc = 0 then 0
  else if s.nextHaltIn = s.cyclesTo s.gridNext then s.gridNext else s.rtIn s.nextHaltIn

/-! Windows -/

/-- A window is open. -/
def State.windowOpen (s : State) : Bool := s.halt.openAt.isSome

/-- PREH on a channel (R225): every bank closes. -/
def Channel.preh (ch : Channel) (now : Nat) : Channel :=
  { ch with banks := ch.banks.map (fun b => (b.1, { b.2 with row := none, hits := 0, capped := 0, preAt := now })) }

/-- A read that waits in the pool for its RD is held by a halt: CH_HELD, and HD_HALT_HELD for a head (R192, R249,
R250). -/
def State.countHeld (s : State) (c : Fin 32) (src : Src) : State :=
  let s := s.bump (aCH_HELD c) 0 32 1
  match src with
  | .head k => s.bump (aHD_HALT_HELD k) 0 32 1
  | _ => s

/-- Every read of a channel without an RD is held from now on; each is counted once. -/
def State.holdReads (s : State) (c : Fin 32) : State :=
  let ch := s.chan c
  let news := ch.pool.filter (fun e => e.issued.isNone && !e.counted)
  let s := news.foldl (fun s e => s.countHeld c e.req.src) s
  s.setChan c { ch with pool := ch.pool.map (fun e => if e.issued.isNone then { e with counted := true } else e) }

/-- A halt opens on all channels (R248, R251, R225): PREH on every channel not in self-refresh. Every deferred halt opens
with it as one (R255). While the device is held in reset the channel controllers are too, and nothing opens (R116). -/
def State.openHalt (s : State) : State :=
  if s.pins.held then s else
  let s := { s with halt := { s.halt with openAt := some s.cyc, refabDone := false, lastOpen := s.cyc, deferred := 0,
                                          preclosed := false, actStopped := false } }
  let s := (s.setReg aHALT_LAST s.nowW).bump aHALT_COUNT 0 64 1
  (List.finRange 32).foldl (fun s c =>
    if (s.chan c).selfRefresh then s
    else (s.setChan c ((s.chan c).preh s.cyc)).holdReads c) s

/-- A halt falls due: it opens, or the open window defers it (R255). -/
def State.haltDue (s : State) : State :=
  if s.windowOpen then
    { s.bump aHALT_EVENTS 16 16 1 with halt := { s.halt with deferred := s.halt.deferred + 1 } }
  else s.openHalt

/-- A HALT record (Table 5.11, R260). -/
def State.haltRecord (s : State) (src oldPhase newPhase : Nat) (oldD newD : Bool) (cause : Nat) : State :=
  s.toAll .informational (s.record 2 src [(12, 2, oldPhase), (14, 2, newPhase), (16, 1, bit oldD), (17, 1, bit newD),
    (18, 1, cause), (20, 8, s.now)])

/-- A placement comes into force (R252 to R256, R260): GEN, the record, the second-phase rule. The halts it places are
announced, so the hold steps run for the next of them (R248). -/
def State.setPlacement (s : State) (phase : Nat) (dbl thermal : Bool) (cause : Nat) : State :=
  let oldP := s.halt.phase
  let oldD := s.halt.inDouble
  let newD := dbl || thermal
  let s := { s with halt := { s.halt with phase := phase, double := dbl, thermal := thermal } }
  if oldP = phase ∧ oldD = newD then s else
  let h := s.halt
  let h := { h with gen := h.gen + 1, lastGrid := if oldP = phase then h.lastGrid else some s.now,
                    secondFrom := if newD && !oldD then s.tu.rt.toNat + 100 * 2 ^ 32 else h.secondFrom,
                    preclosed := false, actStopped := false }
  State.haltRecord { s with halt := h } 0xFFFF oldP phase oldD newD cause

/-- The strobe of HALT_CTRL (R252 to R254): a PHASE of 4,000 or more applies DOUBLE alone. -/
def State.applyHaltCtrl (s : State) (v : Word) : State :=
  let phase := getBits v 0 12
  let dbl := v.getLsbD 12
  let s := if s.flag aTT_IMAGE 0 then { s with halt := { s.halt with program := true } } else s
  if 4000 ≤ phase then
    let s := s.setReg aHALT_CTRL (packBits [(0, 12, s.fld aHALT_CTRL 0 12), (12, 1, bit dbl)])
    let s := s.setFlag aHALT_STATUS 15 true
    let s := s.setPlacement s.halt.phase dbl s.halt.thermal 0
    s.raise 40 0 phase
  else
    (s.setReg aHALT_CTRL (packBits [(0, 12, phase), (12, 1, bit dbl)])).setPlacement phase dbl s.halt.thermal 0

/-- HALT_STATUS.THERMAL set or cleared by the thermal rules (R256, R505). -/
def State.setThermalDouble (s : State) (b : Bool) : State :=
  (s.setFlag aTH_STATUS 0 b).setPlacement s.halt.phase s.halt.double b 1

/-! Meanings -/

/-- Bank number and row of a line (Table 6.2). -/
def lineBank (line : Nat) : Nat := (line / 32 % 16) * 4 + line / 512 % 4

/-- Row of a line (Table 6.2). -/
def lineRow (line : Nat) : Nat := line / 65536 % 16384

/-- Channel of a line before any stand-in (Table 6.2). -/
def lineChannel (line : Nat) : Nat := (line % 32) ^^^ (line / 131072 % 32)

/-- Column of a line (Table 6.2). -/
def lineColumn (line : Nat) : Nat := line / 2048 % 32

/-- Cycle at which a bank may take PRE (Table 6.3): tRAS, tRTP, tWR. -/
def Bank.preFrom (b : Bank) : Nat := max (b.actAt + 56) (max (b.rdAt + 4) (b.wrEnd + 14))

/-- HALT_ACT_STOP (R248): from 14 ns before the opening no ACT issues. A halt that a change of the schedule or of RT has
moved further ahead stops nothing yet. -/
def execHaltActStop (s : State) : Host.Outcome State Fault Refusal :=
  .next { s with halt := { s.halt with actStopped := decide (0 < s.nextHaltIn ∧ s.nextHaltIn ≤ 28) } }

/-- HALT_OPEN (R251, R255): RT has reached a grid value. -/
def execHaltOpen (s : State) : Host.Outcome State Fault Refusal :=
  match s.gridDue with
  | some v => .next (State.haltDue { s with halt := { s.halt with lastGrid := some v } })
  | none => .next s

/-- HALT_REFAB (R248): 14 ns after the opening. The refresh changes no stored datum. -/
def execHaltRefab (s : State) : Host.Outcome State Fault Refusal :=
  match s.halt.openAt with
  | some c => if c + 28 ≤ s.cyc ∧ s.halt.refabDone = false then
      .next { s with halt := { s.halt with refabDone := true } } else .next s
  | none => .next s

/-- HALT_WINDOW_END (R248, R72): 800 cycles after the opening. -/
def execHaltWindowEnd (s : State) : Host.Outcome State Fault Refusal :=
  match s.halt.openAt with
  | some c => if c + 800 ≤ s.cyc then .next { s with halt := { s.halt with openAt := none } } else .next s
  | none => .next s

/-- DEFERRED_HALT_OPEN (R255): the deferred halts open together as one, with a grid halt that falls due in this cycle. -/
def execDeferredHaltOpen (s : State) : Host.Outcome State Fault Refusal :=
  if s.windowOpen = false ∧ 0 < s.halt.deferred then
    .next (State.openHalt { s with halt := { s.halt with lastGrid := s.gridDue.orElse (fun _ => s.halt.lastGrid) } })
  else .next s

/-- FALLBACK_COMMIT (R258): 100 ns before the guard expires, if no other halt will open first. The instant is fixed from
then on. -/
def execFallbackCommit (s : State) : Host.Outcome State Fault Refusal :=
  if s.halt.commitAt = none ∧ s.windowOpen = false ∧ s.pins.held = false ∧ s.guardLeft ≤ 200
      ∧ s.guardLeft < s.cyclesTo s.gridNext ∧ s.halt.deferred = 0 then
    .next { s with halt := { s.halt with commitAt := some (s.cyc + s.guardLeft) } }
  else .next s

/-- A fallback halt falls due in this cycle: the committed one, or the guard has expired (R257, R258). -/
def State.fallbackDue (s : State) : Bool :=
  !s.pins.held &&
    (match s.halt.commitAt with
    | some c => decide (c ≤ s.cyc)
    | none => !s.windowOpen && s.guardLeft == 0 && s.gridDue.isNone && s.halt.deferred == 0)

end Sys2Proof.Machine
end

