-- ==== Sys2Proof/Machine/TimeOps.lean ====
section
/-! DEFINITION. The time unit: bound and trust state, time events, loss of the source, measurement and correction, step
hold (02). -/

namespace Sys2Proof.Machine

/-! Bound and trust (Table 2.5) -/

/-- Outstanding correction in 2^-32 ns: the part of the last measured error not yet removed, whether it runs or
awaits confirmation, the next mark or, after a step hold, the initial set. -/
def TimeUnit.outstanding (u : TimeUnit) : Nat :=
  match u.pendingCorr with
  | some (_, e) => e.natAbs * 2 ^ 24
  | none => if u.stepPending || (u.needSet && u.setDone) then u.lastErr.natAbs * 2 ^ 24 else u.corrLeft.natAbs

/-- Base, outstanding correction and drift in ns, rounded up (Table 2.5, R64). -/
def TimeUnit.rawBound (u : TimeUnit) : Nat :=
  let nowNs := u.rt.toNat / 2 ^ 32
  let drift := if u.lost then (if u.disciplined then 2 else 50) * (nowNs - u.lastMeasured) * 2 ^ 32 / 1000000 else 0
  u.base + (u.outstanding + drift + 2 ^ 32 - 1) / 2 ^ 32

/-- A source is accepted and the last measured error is within the base (Table 2.5). -/
def TimeUnit.isLocked (u : TimeUnit) : Bool :=
  !u.stepHold && u.setDone && u.source != .none && u.ok && decide (u.resid ≤ u.base * 256) && u.corr == .none
    && u.pendingCorr.isNone && !u.stepPending && !u.needSet

/-- TU_LIMIT as it acts. -/
def State.tuLimit (s : State) : Nat := max 3 (s.fld aTU_LIMIT 0 32)

/-- The trust state of Table 2.5. -/
def State.trustNow (s : State) : Trust :=
  if s.tu.stepHold || !s.tu.setDone then .untrusted
  else if s.tu.isLocked then .locked
  else if s.tuLimit < s.tu.rawBound then .untrusted else .holdover

/-- TU_BOUND (Table 2.5): saturating, all ones under step hold or before the initial set. -/
def State.boundNow (s : State) : Nat :=
  if s.tu.stepHold || !s.tu.setDone then 0xFFFFFFFF
  else if s.tu.isLocked then s.tu.base else min s.tu.rawBound 0xFFFFFFFF

/-! Time events -/

/-- A time event: TU_EVENT, the fault source 16 + b, the TIME record, event bit 13 when the bit is newly set (02,
TU_EVENT; Table 5.11; Table 8.14). -/
def State.timeEvent (s : State) (b : Nat) : State :=
  let fresh := !s.flag aTU_EVENT b
  let s := s.setFlag aTU_EVENT b true
  let s := if fresh then s.notify 13 else s
  let r := s.record 1 (16 + b) [(12, 1, b), (13, 1, trustCode s.tu.trust), (14, 4, s.boundNow),
    (20, 8, (s.reg aTU_STEP_FROM).toNat), (28, 8, (s.reg aTU_STEP_TO).toNat), (36, 8, (s.reg aTU_DISARMED).toNat)]
  (s.toAll .warning r).raise (16 + b) 0 0

/-- Time events of one change: the state of Table 2.5 is computed again first, so that the records carry the new state
(Table 5.11); then the events that are named, then the entry into LOCKED or UNTRUSTED (R63, R67). -/
def State.timeChange (s : State) (bits : List Nat) : State :=
  let t := s.trustNow
  let s := if t = .locked then s else { s with tu := { s.tu with lockedMarks := 0 } }
  let entry : List Nat := if t = s.tu.trust then [] else
    match t with
    | .untrusted => [7]
    | .locked => [8]
    | .holdover => []
  (bits ++ entry).foldl State.timeEvent { s with tu := { s.tu with trust := t } }

/-- The state of Table 2.5 is computed again; entering LOCKED or UNTRUSTED is an event (R63). -/
def State.retrust (s : State) : State := s.timeChange []

/-! Loss of the source (R67) -/

/-- A correction that awaits confirmation is discarded, and its measurement does not count as the last measured mark
(R59). A confirmed step that still waits for its mark edge is dropped with it (log 36). -/
def TimeUnit.discard (u : TimeUnit) : TimeUnit :=
  { u with lastMeasured := if u.pendingCorr.isSome || u.stepPending then u.prevMeasured else u.lastMeasured,
           pendingCorr := none, stepPending := false }

/-- The measurement state of TLINE is dropped: two consistent frames are needed again, and the marks of the line are
measured afresh (R68). -/
def TimeUnit.dropTline (u : TimeUnit) : TimeUnit :=
  { u with tracking := false, measOk := false, announce := none, lastFrame := none, lastMark := none }

/-- Loss of the selected source: HOLDOVER, SRC_LOST, its unconfirmed correction discarded; two further dialogues are
needed before PTM is used (R59, R67, R68). -/
def State.loseSource (s : State) : State :=
  if s.tu.source = .none then s.retrust else
  State.timeChange { s with tu := { s.tu.discard with
    source := .none, lastSource := s.tu.source, lost := true, ok := false, ptmTracking := false, ptmLastErr := none } } [5]

/-- Loss on TLINE: its measurement state is dropped, and the source is lost if TLINE was selected (R67, R81). -/
def State.loseTline (s : State) : State :=
  let sel := s.tu.source == .tline
  let s := { s with tu := s.tu.dropTline }
  if sel then s.loseSource else s.retrust

/-- PTM is lost: a running dialogue ends, its dialogues count from none again, and the source is lost if it was selected
(R67). -/
def State.losePtm (s : State) : State :=
  let sel := s.tu.source == .ptm
  let s := { s with tu := { s.tu with ptmRunning := false, ptmTracking := false, ptmLastErr := none, ptmFails := 0 } }
  if sel then s.loseSource else s

/-! Correction (Table 2.4) -/

/-- The row of Table 2.4 for an error in 1/256 ns; none within the base. -/
def corrRow (base : Nat) (e : Int) : Option CorrKind :=
  if e.natAbs ≤ base * 256 then none
  else if e.natAbs ≤ 64 * 256 then some .steer
  else if e < 0 then (if e.natAbs ≤ 1000 * 256 then some .fslew else some .fstep)
  else if e.natAbs ≤ 1000000 * 256 then some .bslew else some .hold

/-- The running correction a row starts. -/
def CorrKind.corr : CorrKind → Correction
  | .steer => .steer
  | .fslew => .fwd
  | .bslew => .back
  | _ => .none

/-- A steering or slew starts (R59); SLEW_FWD and SLEW_BACK are raised (Table 2.4, R74). The extra grid values of a
backward slew count from the next cycle on (R74). -/
def State.startCorr (s : State) (k : CorrKind) (e : Int) : State :=
  let s := { s with tu := { s.tu with corr := k.corr, corrLeft := e * 2 ^ 24, pendingCorr := none } }
  match k with
  | .fslew => s.timeChange [2]
  | .bslew => State.timeChange { s with halt := { s.halt with lastGrid := some s.now } } [3]
  | _ => s.retrust

/-- A correction ends: its amount has been removed, or another replaces it. -/
def State.endCorr (s : State) : State :=
  { s with tu := { s.tu with corr := .none, corrLeft := 0, ok := !s.tu.lost, resid := 0 } }

/-- The loop correction of frequency (R60, first row of Table 2.4): its gain is open, so TU_FREQ takes a free value
(log 2); the phase part acts through the same increment. -/
def State.loopCorrect (s : State) : State :=
  (s.setReg aTU_FREQ (s.free.setWidth 32 |>.setWidth 64)).freeNext

/-- A mark or dialogue is measured with an error (R55, R59, R60, R64). Under step hold the error is recorded and nothing
is corrected (R69). DISCIPLINED counts the measured dialogues of PTM as it counts marks (DESIGN CHOICE, log 36). -/
def State.measure (s : State) (e : Int) : State :=
  let was := s.tu.trust
  let s := { s with tu := { s.tu with lastErr := e, prevMeasured := s.tu.lastMeasured, lastMeasured := s.now,
                                      lost := false, pendingCorr := none } }
  if s.tu.stepHold then s else
  match corrRow s.tu.base e with
  | none =>
    let s := s.endCorr
    let s := { s with tu := { s.tu with ok := true, resid := e.natAbs } }
    let s := s.loopCorrect.retrust
    if was = .locked ∧ s.tu.trust = .locked then
      let n := s.tu.lockedMarks + 1
      { s with tu := { s.tu with lockedMarks := n, disciplined := s.tu.disciplined || decide (1024 ≤ n) } }
    else s
  | some k =>
    let s := { s with tu := { s.tu with ok := false } }
    if s.tu.corr ≠ .none ∧ k.corr = s.tu.corr ∧ ((0 : Int) < e ↔ (0 : Int) < s.tu.corrLeft) then
      State.retrust { s with tu := { s.tu with corrLeft := e * 2 ^ 24 } }
    else if k = .steer ∧ (was = .locked ∨ s.tu.corr ≠ .none) then s.startCorr .steer e
    else State.retrust { s with tu := { s.tu with pendingCorr := some (k, e) } }

/-! Step hold (R69) -/

/-- What a disarmed comparator's seal, outing or WAITT comes to (R385, R398, R368). -/
def State.stepDisarmed (s : State) (n : Fin 64) : State × List FaultEvent :=
  let s := (s.tcDisarm n).setFlag (aTC_STATUS n) 3 true
  let i := s.tcIndex n
  match s.tcTarget n with
  | 2 =>
    if h : i < 32 then
      if (s.car ⟨i, h⟩).comp = some n then (s.carStop ⟨i, h⟩ 6, []) else (s, [])
    else (s, [])
  | 5 => if h : i < 8 then s.outingAbsent ⟨i, h⟩ 2 s.boundNow true else (s, [])
  | 6 => if h : i < 4 then s.sealFail ⟨i, h⟩ 2 else (s, [])
  | _ => (s, [])

/-- Step hold is entered (R69, R64): every armed comparator is disarmed and recorded. -/
def State.enterHold (s : State) : State :=
  let s := s.endCorr
  let s := { s with tu := { s.tu with stepHold := true, disciplined := false, lockedMarks := 0, stepPending := false,
                                      pendingCorr := none } }
  let armed := (List.finRange 64).filter (fun n => s.tcArmed n)
  let mask := (armed.map (fun n => 2 ^ n.val)).sum
  let s := s.setReg aTU_DISARMED (s.reg aTU_DISARMED ||| BitVec.ofNat 64 mask)
  let (s, es) := armed.foldl (fun (p : State × List FaultEvent) n =>
    let q := p.1.stepDisarmed n
    (q.1, p.2 ++ q.2)) (s, [])
  (State.raiseList s es).timeChange [4]

/-- A correction is confirmed by a consistent frame or dialogue (R59). -/
def State.confirm (s : State) : State :=
  match s.tu.pendingCorr with
  | none => s
  | some (k, e) =>
    match k with
    | .fstep => { s with tu := { s.tu with pendingCorr := none, stepPending := true } }
    | .hold => s.enterHold
    | _ => s.startCorr k e

end Sys2Proof.Machine
end

