-- ==== Sys2Proof/Machine/Strobe.lean ====
section
/-! DEFINITION. Pending writes and update strobes: what each group applies and the rules that refuse a value
(R237, R254, R283, R325, R326, R429, R577 to R584, R594). -/

namespace Sys2Proof.Machine

/-- The update group of an address; none for an address without RP fields and for CFG_REF (Table 14.2). -/
def groupOf (a : Nat) : Option Nat :=
  match regLookup a with
  | some (r, _, _) => r.group
  | none => none

/-- The pending value of a register (R573). -/
def State.pendValue (s : State) (a : Nat) : Option Word := (s.pend.find? (fun p => p.1 == a)).map (fun p => p.2)

/-- Pending values in rising order of address, one for each register. -/
def pendPut : List (Nat × Word) → Nat → Word → List (Nat × Word)
  | [], a, v => [(a, v)]
  | (b, w) :: l, a, v => if b < a then (b, w) :: pendPut l a v else if b = a then (a, v) :: l else (a, v) :: (b, w) :: l

/-- A value made pending; a later write replaces the whole pending value (R573). -/
def State.makePending (s : State) (a : Nat) (v : Word) : State :=
  let s := { s with pend := pendPut s.pend a v, pendAt := sparsePut (fun _ => 0) s.pendAt a (s.cyc + 1) }
  if groupOf a = some 7 then
    { s with regul := { s.regul with lastPend := (a - 0x70000) / 0x20 } }
  else s

/-- A pending value dropped. -/
def State.dropPending (s : State) (a : Nat) : State := { s with pend := s.pend.filter (fun p => p.1 != a) }

/-- The pending value may apply in this cycle: a value written in the strobe's own cycle stays pending (R325). -/
def State.ripe (s : State) (a : Nat) : Bool := sparseGet (fun _ => 0) s.pendAt a != s.cyc + 1

/-- Group `g` holds pending values other than CFG_REF (CTL_UPD_PEND). -/
def State.groupPending (s : State) (g : Nat) : Bool := s.pend.any (fun p => groupOf p.1 == some g)

/-- A comparator is armed to strobe group `g` (CTL_UPD_PEND.ARMED). -/
def State.groupArmed (s : State) (g : Nat) : Bool :=
  (List.range 64).any (fun n => s.tcArmed n && s.tcTarget n == 3 && s.tcIndex n == g)

/-- The applied value with the RP fields of the pending one. -/
def State.mergeRp (s : State) (a : Nat) (v : Word) : Word :=
  match regLookup a with
  | some (r, _, _) =>
    let m := BitVec.ofNat 64 r.rp
    (s.reg a &&& ~~~m) ||| (v &&& m)
  | none => v

/-! The equalisation table (R146, R147) -/

/-- An entry with VALID = 1 that R146 makes invalid, by rate index. -/
def eqInvalid (r : Nat) (v : Word) : Bool :=
  let useFir := v.getLsbD 4
  let c0 := getBits v 8 6 + getBits v 16 6 + getBits v 24 6
  v.getLsbD 7 && ((!useFir && decide (10 < getBits v 0 4)) || (useFir && decide (32 < c0))
    || (useFir && decide (r ≤ 2) && getBits v 8 6 != 0))

/-- The entry is usable as supplied. -/
def eqValid (r : Nat) (v : Word) : Bool := v.getLsbD 7 && !eqInvalid r v

/-- An equalisation entry applies (R147, R148). -/
def State.applyEq (s : State) (a : Nat) (v : Word) : State :=
  let r := (a - 0x22000) / 0x200
  let l := (a - 0x22000) % 0x200 / 8
  let s := s.setReg a v
  let s := if eqValid r v then s.setFlag aSU_STATUS 8 true else s
  let s := if 3 ≤ r then s.setFlag (aLN_STATUS l) (8 + r) (eqValid r v) else s
  if eqInvalid r v then (s.setFlag aLANE_GSTATUS 1 true).raise 32 l a else s

/-! One register's pending value applies -/

/-- FC_SRC_CFG as it applies (R594): fixed classes stand, classes 6 and 7 act as 1, sources 4 to 6 have at least 2; a
reserved number ignores writes (R589). -/
def State.applySrcCfg (s : State) (a : Nat) (v : Word) : State :=
  let n := (a - 0xE1400) / 8
  match faultClass n with
  | none => s
  | some d =>
    let c := getBits v 0 3
    let c := if faultFixed n then d else if 6 ≤ c then 1 else if 4 ≤ n ∧ n ≤ 6 then max 2 c else c
    s.setReg a (putBits v 0 3 c)

/-- ARR_GCTRL (R237): one bad field refuses all three. -/
def State.applyArray (s : State) (v : Word) : State :=
  let hi := getBits v 0 7
  let lo := getBits v 8 7
  if hi ≤ lo ∨ 64 < hi ∨ getBits v 16 6 = 0 then (s.setFlag aARR_GSTATUS 0 true).raise 42 0 aARR_GCTRL
  else s.setReg aARR_GCTRL v

/-- A field of group 10 with its range: outside it the earlier value stands and the write counts as refused (R429). -/
def State.rangedField (s : State) (a lo n x low high : Nat) : State × Bool :=
  if low ≤ x ∧ x ≤ high then (s.setFld a lo n x, false) else (s, true)

/-- The refusal of a group-10 value (R429). -/
def State.intBadCfg (s : State) (a : Nat) : State := (s.setFlag aINT_GSTATUS 2 true).raise 61 0 a

/-- SCRUB_CTRL (R429). A new HOURS spaces the lines from the next one on. -/
def State.applyScrub (s : State) (v : Word) : State :=
  let due := s.scrubDue
  let s := { s with integ := { s.integ with scrubStart := due, scrubFrom := s.scrubLine } }
  let s := s.setFlag aSCRUB_CTRL 8 (v.getLsbD 8)
  let (s, bad) := s.rangedField aSCRUB_CTRL 0 8 (getBits v 0 8) 1 168
  if bad then s.intBadCfg aSCRUB_CTRL else s

/-- HARD_CTRL (R429). -/
def State.applyHard (s : State) (v : Word) : State :=
  let (s, b1) := s.rangedField aHARD_CTRL 0 8 (getBits v 0 8) 1 255
  let (s, b2) := s.rangedField aHARD_CTRL 8 8 (getBits v 8 8) 1 168
  if b1 || b2 then s.intBadCfg aHARD_CTRL else s

/-- TU_CTRL: a source mode that excludes the selected source holds it as lost (TU_CTRL.SRC_MODE). A change of PTM_HEAD
ends the running dialogue and loses PTM, whose dialogues begin anew on the new head (DESIGN CHOICE, log 36). -/
def State.applyTuCtrl (s : State) (v : Word) : State :=
  let moved := s.fld aTU_CTRL 4 4 != getBits v 4 4
  let s := s.setReg aTU_CTRL v
  let mode := getBits v 0 2
  let s := if 2 ≤ mode ∧ (s.tu.tracking = true ∨ s.tu.source = .tline) then s.loseTline else s
  if moved || mode == 1 || mode == 3 then s.losePtm else s

/-- LANE_CTRL: MAX_RATE 0b111 acts as 0b100 and is flagged. -/
def State.applyLaneCtrl (s : State) (v : Word) : State :=
  let s := s.setReg aLANE_CTRL v
  if getBits v 0 3 = 7 then s.setFlag aLANE_GSTATUS 0 true else s

/-- One pending value applies under its block's rules (R579). -/
def State.applyOne (s : State) (a : Nat) (v : Word) : State :=
  let v := s.mergeRp a v
  match groupOf a with
  | some 0 =>
    if a = aTU_CTRL then s.applyTuCtrl v
    else if a = aTU_CABLE_DELAY then (s.setReg a v).setFlag aSU_STATUS 10 true
    else s.setReg a v
  | some 1 => s.applyHaltCtrl v
  | some 2 => if a = aLANE_CTRL then s.applyLaneCtrl v else s.applyEq a v
  | some 3 => s.applySrcCfg a v
  | some 6 => s.applyArray v
  | some 10 =>
    if a = aSCRUB_CTRL then s.applyScrub v else if a = aHARD_CTRL then s.applyHard v else s.setReg a v
  | _ => s.setReg a v

/-! Strobes -/

/-- The strobe of one group applies what is ripe (R578, R579); CFG_REF belongs to every group (R577). -/
def State.applyGroup (s : State) (g floor : Nat) : State :=
  let cfg := s.pend.filter (fun p => p.1 == aCFG_REF && s.ripe p.1)
  let s := cfg.foldl (fun s p => (s.dropPending p.1).setReg p.1 p.2) s
  if g = 7 then
    if s.pend.all (fun p => groupOf p.1 != some 7 || s.ripe p.1) then s.commitRegulation floor else
    let held := s.pend.filter (fun p => groupOf p.1 == some 7 && !s.ripe p.1)
    let s := State.commitRegulation { s with pend := s.pend.filter (fun p => groupOf p.1 != some 7 || s.ripe p.1) } floor
    { s with pend := held.foldl (fun l p => pendPut l p.1 p.2) s.pend }
  else
    let mine := s.pend.filter (fun p => groupOf p.1 == some g && s.ripe p.1)
    mine.foldl (fun s p => (s.dropPending p.1).applyOne p.1 p.2) s

/-- The effects of a strobe beyond its values: CTL_UPD_RT, the abandoned check pass (R583), the digest of the
equalisation table (R149), duty bits of SU_STATUS. -/
def State.strobeMarks (s : State) (g : Nat) (held : Bool) : State :=
  let s := s.setReg aCTL_UPD_RT s.nowW
  let s := if held && s.cfgPass.isSome then { s.bump aCFG_STATUS 16 8 1 with cfgPass := none } else s
  if g = 2 then { s with eqDigestBusy := true } else s

/-- Strobes of the groups of a mask in one cycle, with the mask of groups that held pending writes (R324 to R328,
R578). A second strobe of a group in the same cycle applies nothing (R326). -/
def State.strobe (s : State) (mask : Nat) (late : Bool) : State × Nat :=
  let s := if s.strobeCycle = s.cyc + 1 then s
    else { s with strobeCycle := s.cyc + 1, strobeDone := 0, strobeHeld := 0 }
  let floor := s.regul.floor
  (maskBits 16 mask).foldl (fun (p : State × Nat) g =>
    let s := if late then p.1.setFlag aCTL_UPD_LATE g true else p.1
    if s.strobeDone.testBit g then (s, p.2 + (if s.strobeHeld.testBit g then 2 ^ g else 0)) else
    let held := s.groupPending g
    let any := held || s.pend.any (fun q => q.1 == aCFG_REF)
    let s := s.applyGroup g floor
    let s := s.strobeMarks g any
    ({ s with strobeDone := s.strobeDone + 2 ^ g, strobeHeld := s.strobeHeld + (if held then 2 ^ g else 0) },
     p.2 + (if held then 2 ^ g else 0))) (s, 0)

/-- The pending values of the groups of a mask are dropped; every discard drops a pending CFG_REF (R580). -/
def State.discard (s : State) (mask : Nat) : State :=
  if mask % 2 ^ 16 = 0 then s else
  { s with pend := s.pend.filter (fun p =>
      p.1 != aCFG_REF && !(match groupOf p.1 with | some g => mask.testBit g | none => false)) }

end Sys2Proof.Machine
end

