-- ==== Sys2Proof/Machine/View.lean ====
section
/-! DEFINITION. What a read of each register returns: the stored fields, and the fields that other state determines.
The rules of each register table. -/

namespace Sys2Proof.Machine

/-- The low bits of an integer as a two's complement field. -/
def signedBits (n : Nat) (x : Int) : Nat := (x % (2 ^ n : Int)).toNat

/-- An error in 1/256 ns held within ±0x7FFFFFFF (TU_LAST_ERR). -/
def satErr (e : Int) : Int := max (-0x7FFFFFFF) (min 0x7FFFFFFF e)

/-- TU_STATUS. -/
def State.tuStatus (s : State) : Word :=
  let u := s.tu
  let corr := match u.corr with
    | .none => 0
    | .steer => 1
    | .fwd => 2
    | .back => 3
  packBits [(0, 2, trustCode u.trust), (2, 2, sourceCode u.source), (4, 2, corr), (6, 1, bit u.stepHold),
    (7, 1, bit u.disciplined), (8, 1, bit u.setDone), (9, 1, bit u.tlineLos), (10, 1, bit u.duRefOk),
    (11, 1, bit u.duCal), (12, 1, bit (!s.present (s.fld aTU_CTRL 4 4)))]

/-- HD_STATUS.WIDTH of a number of lanes. -/
def widthCode (n : Nat) : Nat :=
  if n = 0 then 0 else if n = 1 then 1 else if n = 2 then 2 else if n ≤ 4 then 3 else if n ≤ 8 then 4 else 5

/-- HD_STATUS.STATE. -/
def modeCode : HeadMode → Nat
  | .normal => 0
  | .frozen _ => 1
  | .fenced => 2

/-- HD_STATUS of a head. -/
def State.hdStatus (s : State) (k : Fin 16) : Word :=
  let h := s.head k
  packBits [(0, 1, bit (s.present k)), (1, 1, bit h.up), (2, 3, if h.up then widthCode h.lanes.length else 0),
    (5, 3, if h.up then h.rate.toNat else 0), (8, 2, modeCode h.mode), (10, 1, bit h.held), (11, 1, bit h.memEn),
    (16, 16, h.cap)]

/-- HD_FREEZE_LEFT of a head in µs. -/
def State.freezeLeft (s : State) (k : Fin 16) : Nat :=
  match (s.head k).mode with
  | .frozen u => (u - s.cyc) / 2000
  | _ => 0

/-- Blocks granted to a head, and those that carry a tag (HD_EXT_COUNT). -/
def State.extCount (s : State) (k : Nat) : Nat × Nat :=
  let g := s.grants.filter (fun g => g.head == k)
  (g.length, (g.filter (fun g => g.tag != 0)).length)

/-- Bits of all heads held (R187). -/
def State.heldHeads (s : State) : Nat :=
  ((List.finRange 16).filter (fun k => (s.head k).held)).map (fun k => 2 ^ k.val) |>.sum

/-- HALT_STATUS. -/
def State.haltStatus (s : State) : Word :=
  packBits [(0, 12, s.halt.phase), (12, 1, bit s.halt.inDouble), (13, 1, bit s.halt.thermal),
    (14, 1, bit s.halt.program), (15, 1, s.fld aHALT_STATUS 15 1), (16, 16, s.halt.gen.toNat)]

/-- CH_STATUS of a channel. -/
def State.chStatus (s : State) (c : Fin 32) : Word :=
  let ch := s.chan c
  let mode := match ch.mode with
    | .normal => 0
    | .limp => 1
    | .lost => 2
  packBits [(0, 2, mode), (2, 1, bit ch.selfRefresh), (3, 1, bit ch.writeMode), (4, 8, ch.pool.length),
    (12, 7, ch.wbuf.length), (19, 7, (ch.banks.filter (fun b => b.2.row.isSome)).length)]

/-- REG_SCALE. -/
def State.regScale (s : State) : Word :=
  packBits [(0, 16, s.regul.scale), (16, 4, s.floorCauses), (20, 6, s.limpCount), (26, 6, s.lostCount)]

/-- TT_FLAGS of a thread. -/
def State.ttFlags (s : State) (t : Fin 8) : Word :=
  let th := s.thread t
  packBits [(0, 1, bit th.z), (1, 1, bit th.n), (2, 1, bit th.c), (3, 1, bit th.l), (4, 5, th.stack.length),
    (9, 1, s.fld (aTT_FLAGS t) 9 1)]

/-- TT_STATE. -/
def State.ttState (s : State) : Word :=
  packBits ((List.finRange 8).map (fun t => (4 * t.val, 4, threadCode (s.thread t).st)))

/-- CR_STATUS of a carriage. -/
def State.crStatus (s : State) (c : Fin 32) : Word :=
  let k := s.car c
  packBits [(0, 3, carCode k.st), (3, 1, bit k.late), (4, 1, bit k.release), (5, 4, k.code), (9, 17, k.desc / 64)]

/-- SL_STATUS of a seal. -/
def State.slStatus (s : State) (i : Fin 4) : Word :=
  let x := s.seal i
  packBits [(0, 3, sealCode x.st), (3, 1, bit x.late), (4, 1, bit x.damaged), (5, 2, x.reason), (7, 5, x.hold),
    (12, 6, x.comp)]

/-- OUT_STATUS of an outing slot. -/
def State.outStatus (s : State) (i : Fin 8) : Word :=
  let o := s.outing i
  packBits [(0, 3, outCode o.st), (3, 1, bit o.late), (4, 2, o.reason), (6, 6, o.comp), (12, 5, o.carriage)]

/-- Bytes of a corrected-error entry as four words (Table 10.6). -/
def CeEntry.words (e : CeEntry) : List Word :=
  [BitVec.ofNat 64 (e.line * 64), BitVec.ofNat 64 e.firstRt, BitVec.ofNat 64 e.lastRt,
    packBits [(0, 16, satAt 16 e.count), (16, 8, e.sym0.toNat), (24, 8, e.sym1.toNat), (32, 8, lineChannel e.line),
      (40, 8, lineBank e.line), (48, 1, 1), (49, 1, bit e.hard), (50, 1, bit e.scrub), (51, 1, bit e.repaired)]]

/-- Bytes of an uncorrectable-error entry as four words (Table 10.7). -/
def UeEntry.words (e : UeEntry) : List Word :=
  [BitVec.ofNat 64 (e.line * 64), BitVec.ofNat 64 e.rt,
    packBits [(0, 8, e.source), (8, 8, e.master.toNat), (16, 8, lineChannel e.line), (24, 8, lineBank e.line),
      (32, 1, 1), (33, 1, bit e.poisonWritten), (34, 1, bit e.reported), (35, 1, bit e.cleared)],
    BitVec.ofNat 64 e.stamp]

/-- PWR_STATE code of a domain: absent head pairs read 2 (R517). -/
def State.domCode (s : State) (n : Fin 64) : Nat :=
  let d := s.dom n
  if d.moving.isSome then 3 else
  match d.st with
  | .on => 0
  | .retention => 1
  | .off => 2

/-- A head-pair domain whose heads are all absent (R517). -/
def State.pairAbsent (s : State) (n : Nat) : Bool :=
  decide (48 ≤ n ∧ n < 56) && !s.present (2 * (n - 48)) && !s.present (2 * (n - 48) + 1)

/-- A half of PWR_STATE. -/
def State.pwrState (s : State) (hi : Bool) : Word :=
  packBits (((List.finRange 64).filter (fun n => decide (32 ≤ n.val) == hi)).map (fun (n : Fin 64) =>
    (2 * (n.val % 32), 2, if s.pairAbsent n.val then 2 else s.domCode n)))

/-! The hamper (R612, R613, Table 14.7). A page is a 4 KiB unit. -/

/-- Line slots of the journal in use; an entry takes the same slot in both copies. -/
def State.journalSlots (s : State) : List Nat := s.mem.journal.filterMap (fun e => e.slot)

/-- Line slots of the journal's floor in each copy (R612). -/
abbrev journalFloor : Nat := 16384

/-- Pages of shared space that the journal holds: pairs, one in each half, until their contents are written out. -/
def State.journalPages (s : State) : Nat :=
  2 * (((s.journalSlots.filter (fun n => journalFloor ≤ n)).map (· / 64)).eraseDups).length

/-- Bank of copy A in D40, and of copy B in D41, of a line slot (Table 14.7). -/
def slotBank (n : Nat) : Nat := if n < journalFloor then n / 4096 else 12 + (n - journalFloor) / 4096

/-- Pages of seal staging that a seal is entitled to (R383). -/
def Seal.reserved (x : Seal) : Nat := if x.st = .armed ∨ x.st = .active then 64 else 0

/-- The seal whose granules a carriage copies: that of its share, or of its SEALCOPY (R390, R391). -/
def Carriage.sealing (k : Carriage) : Bool :=
  k.share.isSome || (match k.cur with
    | some d => d.op == 9
    | none => false)

/-- Granules of a seal in its staging: hold copies, granules under sweep copy, granules not yet written out. -/
def State.sealHeld (s : State) (i : Fin 4) : Nat :=
  (s.seal i).copies.length + (s.seal i).staged.length
    + (s.cars.toList.filter (fun k => k.sealing && (k.elem.map (fun e => e.2)) == some i.val)).length

/-- Pages of the staging that no seal has reserved, and those of them in use, with what overflows into shared space. -/
def State.sealRest (s : State) : Nat := 512 - ((List.finRange 4).map (fun i => (s.seal i).reserved)).sum

/-- Pages that seals hold beyond their reservations. -/
def State.sealExtra (s : State) : Nat := ((List.finRange 4).map (fun i => s.sealHeld i - (s.seal i).reserved)).sum

/-- Pages of shared space that seal copies hold. -/
def State.sealPages (s : State) : Nat := s.sealExtra - s.sealRest

/-- Lines of a piece in carriage staging. -/
def Piece.lines (p : Piece) : Nat :=
  p.toRead.length + p.asked.length + p.got.length + (if p.got.isEmpty then p.toWrite.length + p.sent.length else 0)

/-- Lines that a carriage's pieces occupy. -/
def Carriage.lines (k : Carriage) : Nat := (k.flight.map Piece.lines).sum

/-- Lines of a carriage's fixed slice, 64 KiB (R358). -/
abbrev sliceLines : Nat := 1024

/-- Pages of shared space that carriage read-ahead holds. -/
def State.carPages (s : State) : Nat := (s.cars.toList.map (fun k => (k.lines - sliceLines + 63) / 64)).sum

/-- Free pages of shared space. -/
def State.sharedFree (s : State) : Nat := 512 - (s.journalPages + s.sealPages + s.carPages)

/-- A seal has space for another granule: its reservation, the unreserved rest, or shared space (R383, R388, R613). -/
def State.sealRoom (s : State) (i : Fin 4) : Bool :=
  decide (s.sealHeld i < (s.seal i).reserved) || decide (s.sealExtra < s.sealRest) || decide (0 < s.sharedFree)

/-- The 256 KiB of a seal can be reserved (R344, R383). -/
def State.sealQuota (s : State) : Bool := decide (s.sealExtra + 64 ≤ s.sealRest)

/-- HAMP_SHARED, in units of 64 KiB; a unit begun counts as held. -/
def State.hampShared (s : State) : Word :=
  let u (n : Nat) : Nat := (n + 15) / 16
  packBits [(0, 8, u s.journalPages), (8, 8, u s.sealPages), (16, 8, u s.carPages),
    (24, 8, 32 - (u s.journalPages + u s.sealPages + u s.carPages))]

/-- Sources whose SEVERE bit is 1, as FC_SEVERE. -/
def State.fcSevere (s : State) (j : Nat) : Word :=
  packBits ((List.range 64).map (fun i => (i, 1, s.fld (aFC_SRC_STAT (64 * j + i)) 8 1)))

/-- WEAR_TOTAL (R126). -/
def State.wearTotal (s : State) (n : Nat) : Nat :=
  satAt 32 (s.fld (aWEAR_BASE n) 0 32 + s.fld (aWEAR_COUNT n) 0 32 + s.fld (aWEAR_RESID n) 0 32)

/-- SU_STATUS: the stored step and duties with those that copy other fields (15). -/
def State.suStatus (s : State) : Word :=
  let v := s.reg aSU_STATUS
  let v := putBits v 9 1 (bit (s.fld aWEAR_STATUS 0 18 == 0x3FFFF))
  let v := putBits v 12 1 (bit s.halt.program)
  let r := s.fld aLANE_CTRL 0 3
  let v := putBits v 13 1 (bit (r == 5 || r == 6))
  putBits v 14 1 (s.fld aCFG_CTRL 0 1)

/-- Half of CTL_UPD_PEND from each group. -/
def State.updPend (s : State) : Word :=
  packBits ((List.range 16).map (fun g => (g, 1, bit (s.groupPending g)))
    ++ (List.range 16).map (fun g => (16 + g, 1, bit (s.groupArmed g))))

/-- A view of an element of a vector by a number that may be out of its range. -/
def atFin (n : Nat) (i : Nat) (f : Fin n → Word) : Word := if h : i < n then f ⟨i, h⟩ else 0

/-- What a read returns for a register by name and indices. -/
def State.regView (s : State) (r : RegName) (i j a : Nat) : Word :=
  match r with
  | .TU_RT => s.nowW
  | .TU_STATUS => s.tuStatus
  | .TU_BOUND => BitVec.ofNat 64 s.boundNow
  | .TU_LAST_ERR => BitVec.ofNat 64 (signedBits 32 (satErr s.tu.lastErr))
  | .TU_ACK => BitVec.ofNat 64 (bit s.tu.stepHold)
  | .HD_STATUS => atFin 16 i s.hdStatus
  | .HD_EXT_COUNT => packBits [(0, 8, (s.extCount i).1), (8, 8, (s.extCount i).2)]
  | .HD_FREEZE_LEFT => atFin 16 i (fun k => BitVec.ofNat 64 (s.freezeLeft k))
  | .HEAD_GSTATUS => packBits [(0, 1, bit (!s.present s.mgmtHead)), (16, 16, s.heldHeads)]
  | .HALT_STATUS => s.haltStatus
  | .HALT_NEXT => BitVec.ofNat 64 s.nextHaltRt
  | .LC_STATUS => packBits [(0, 20, min 0xFFFFF (s.cache.filter (fun l => l.dirty)).length),
      (20, 1, s.fld aLC_CTRL 0 1)]
  | .CH_STATUS => atFin 32 i s.chStatus
  | .REG_M_EFF => packBits [(0, 16, s.effBw i), (16, 16, s.admCap i)]
  | .REG_M_OCC => BitVec.ofNat 64 (min 0xFFFFF (s.cache.filter (fun l => l.owner == i)).length)
  | .REG_FLOOR => packBits [(0, 16, s.regul.floor), (16, 16, s.committed)]
  | .REG_SCALE => s.regScale
  | .REG_STATUS => putBits (s.reg a) 9 1 (bit s.regPending)
  | .TT_HALT => packBits ((List.finRange 8).map (fun t => (t.val, 1, bit ((s.thread t).st == .halted))))
  | .TT_STATE => s.ttState
  | .TT_PC => atFin 8 i (fun t => (s.thread t).pc.setWidth 64)
  | .TT_FLAGS => atFin 8 i s.ttFlags
  | .TT_EVENTS => atFin 8 i (fun t => (s.thread t).events.setWidth 64)
  | .TT_RSTK => atFin 8 i (fun t => ((s.thread t).stack.getD j 0).setWidth 64)
  | .TT_G => atFin 8 i (fun t => if h : j < 16 then (s.thread t).g[j] else 0)
  | .CR_STATUS => atFin 32 i s.crStatus
  | .CR_PROG => atFin 32 i (fun c => if h : j < 4 then (s.car c).prog[j] else 0)
  | .SL_STATUS => atFin 4 i s.slStatus
  | .SL_BASE => atFin 4 i (fun x => BitVec.ofNat 64 (s.seal x).base)
  | .SL_LEN => atFin 4 i (fun x => BitVec.ofNat 64 (s.seal x).len)
  | .SL_SNAP => atFin 4 i (fun x => BitVec.ofNat 64 (s.seal x).snap)
  | .SL_TB => atFin 4 i (fun x => BitVec.ofNat 64 (s.seal x).tb)
  | .SL_SAVED => atFin 4 i (fun x => BitVec.ofNat 64 (s.seal x).saved)
  | .SL_HELD => atFin 4 i (fun x => BitVec.ofNat 64 (satAt 32 (s.seal x).held))
  | .SL_DAMAGE => atFin 4 i (fun x => BitVec.ofNat 64 (satAt 32 (s.seal x).damage))
  | .SL_POISON => atFin 4 i (fun x => BitVec.ofNat 64 (satAt 32 (s.seal x).poison))
  | .OUT_STATUS => atFin 8 i s.outStatus
  | .OUT_ID => atFin 8 i (fun o => packBits [(0, 16, (s.outing o).id.toNat), (16, 16, (s.outing o).bound.toNat)])
  | .OUT_RT => atFin 8 i (fun o => BitVec.ofNat 64 (s.outing o).rt)
  | .OUT_POST_RT => atFin 8 i (fun o => BitVec.ofNat 64 (s.outing o).postRt)
  | .INT_GSTATUS => putBits (s.reg a) 16 16 s.integ.spill.length
  | .RPR_STATUS => putBits (s.reg a) 16 12 (satAt 12 s.integ.repairs.length)
  | .RET_STATUS => putBits (s.reg a) 0 11 s.integ.retired.length
  | .INT_CH_STATUS =>
    putBits (s.reg a) 3 1 (bit (s.mem.journal.any (fun e => e.place == .spilled && lineChannel e.line == i)))
  | .CE_LOG => match s.integ.ce[i]? with
    | some e => e.words.getD j 0
    | none => 0
  | .UE_LOG => match s.integ.ue[i]? with
    | some e => e.words.getD j 0
    | none => 0
  | .PWR_STATE_LO => s.pwrState false
  | .PWR_STATE_HI => s.pwrState true
  | .IMG_STATUS => putBits (s.reg a) 12 1 (s.fld aTT_IMAGE 0 1)
  | .HAMP_SHARED => s.hampShared
  | .CTL_UPD_PEND => s.updPend
  | .FC_SEVERE => s.fcSevere i
  | .SU_STATUS => s.suStatus
  | .WEAR_TOTAL => BitVec.ofNat 64 (s.wearTotal i)
  | _ => s.reg a

/-- What a read of an address returns, without its side effects; a snapshot copy is stored. -/
def State.peek (s : State) (a : Nat) : Word :=
  match regLookup a with
  | some (r, i, j) => s.regView r.name i j a
  | none => s.reg a

/-- The side effects of a read: RC fields clear, TU_RT latches its fraction (R41, R574). -/
def State.readEffects (s : State) (a : Nat) : State :=
  match regLookup a with
  | some (r, _, _) =>
    if r.name = .TU_RT then s.setReg aTU_RT_FRAC (BitVec.ofNat 64 s.rtFrac)
    else if r.rc = 0 then s else s.setReg a (s.reg a &&& ~~~(BitVec.ofNat 64 r.rc))
  | none => s

end Sys2Proof.Machine
end

