-- ==== Sys2Proof/Machine/Snapshot.lean ====
section
/-! DEFINITION. The snapshot copies of Table 14.6 and the end of every command that can raise a fault: copies that
latch in it are those of the state before its stack-clock cycle (R28, R599). -/

namespace Sys2Proof.Machine

/-- The copies of Table 14.6: address of the copy, address of its source. -/
def snapTable : List (Nat × Nat) :=
  [(0xF0000, aTU_RT), (0xF0008, aTU_RT_FRAC), (0xF000C, aTU_STATUS), (0xF0010, aTU_BOUND), (0xF0014, aTU_LAST_ERR),
    (0xF0040, aHALT_STATUS), (0xF0048, aHALT_NEXT), (0xF0050, aHALT_LAST),
    (0xF0080, aLC_STATUS), (0xF0088, aLC_HITS), (0xF0090, aLC_MISSES)]
  ++ (List.range 16).map (fun k => (0xF0100 + 4 * k, aHD_STATUS k))
  ++ (List.range 16).map (fun k => (0xF0140 + 4 * k, aHD_FREEZE_LEFT k))
  ++ [(0xF0200, aREG_FLOOR), (0xF0204, aREG_SCALE)]
  ++ (List.range 17).map (fun m => (0xF0208 + 4 * m, aREG_M_EFF m))
  ++ (List.range 17).map (fun m => (0xF024C + 4 * m, aREG_M_OCC m))
  ++ (List.range 32).map (fun c => (0xF0400 + 16 * c, aCH_STATUS c))
  ++ (List.range 32).map (fun c => (0xF0404 + 16 * c, aINT_CH_STATUS c))
  ++ (List.range 32).map (fun c => (0xF0408 + 16 * c, aXR_CH_STATUS c))
  ++ [(0xF0600, aTT_STATE), (0xF0604, aTT_IMAGE)]
  ++ (List.range 8).map (fun t => (0xF0608 + 4 * t, aTT_PC t))
  ++ (List.range 8).map (fun t => (0xF0628 + 4 * t, aTT_EVENTS t))
  ++ (List.range 32).map (fun c => (0xF0700 + 4 * c, aCR_STATUS c))
  ++ (List.range 4).map (fun i => (0xF0780 + 4 * i, aSL_STATUS i))
  ++ (List.range 8).map (fun o => (0xF0790 + 4 * o, aOUT_STATUS o))
  ++ (List.range 64).map (fun l => (0xF0800 + 4 * l, aLN_STATUS l))
  ++ [(0xF0900, aTH_STATUS), (0xF0904, aTH_DISPUTED), (0xF0908, aPWR_STATE_LO), (0xF0910, aPWR_STATE_HI)]
  ++ (List.range 18).map (fun n => (0xF0918 + 4 * n, aTH_LAYER n))
  ++ [(0xF0A00, aFC_SEVERE 0), (0xF0A08, aFC_SEVERE 1), (0xF0A10, aFC_FIRST), (0xF0A18, aFC_FIRST_RT)]

/-- The source register that a snapshot address copies; none for a reserved address (R602). -/
def snapSource (a : Nat) : Option Nat := (snapTable.find? (fun p => p.1 == a)).map (fun p => p.2)

/-- What a copy latches: its source as it stood before the cycle; in the cycle of reset, before which nothing stood, as
the command that latches finds it (R28, R599). -/
def State.copyOf (before : State) (p : Nat × Nat) : Word :=
  match before.cycleCopies.find? (fun q => q.1 == p.1) with
  | some q => q.2
  | none => before.peek p.2

/-- Every copy is taken (R599). -/
def State.takeSnapshot (s before : State) : State :=
  snapTable.foldl (fun s p => s.setReg p.1 (before.copyOf p)) { s with snapDue := false }

/-- The copies that latched since `before`, if any, are written. -/
def State.settle (before s : State) : State := if s.snapDue then s.takeSnapshot before else s

/-- The end of a command that began in `before`. -/
def finish (before s : State) : Host.Outcome State Fault Refusal := .next (State.settle before s)

/-- FALLBACK_HALT (R257, R258, R260): the guard has expired without a halt, or the committed instant has come; an open
window defers the halt (R255). Nothing opens while the device is held in reset (R116). -/
def execFallbackHalt (s : State) : Host.Outcome State Fault Refusal :=
  if s.fallbackDue then
    let t := { s with halt := { s.halt with commitAt := none } }
    let t := t.haltDue.bump aHALT_EVENTS 0 16 1
    let t := t.haltRecord 41 t.halt.phase t.halt.phase t.halt.inDouble t.halt.inDouble 2
    finish s (t.raise 41 0 0)
  else .next s

end Sys2Proof.Machine
end

