-- ==== Sys2Proof/Machine/Operands.lean ====
section
/-! DEFINITION. Operands of Criost instructions: registers, op2, addresses, the instruction word and which words are
legal (R292, R305 to R307, R315, R318, Tables 8.3 and 8.7 to 8.16). -/

namespace Sys2Proof.Machine

/-- A general register; g0 reads as 0 (R292). -/
def State.gpr (s : State) (t : Fin 8) (r : BitVec 4) : Word :=
  if r = 0 then 0 else (s.thread t).g[r.toNat]

/-- A general register written; a write to g0 is discarded (R292). -/
def State.setGpr (s : State) (t : Fin 8) (r : BitVec 4) (v : Word) : State :=
  if r = 0 then s else s.setThread t { s.thread t with g := (s.thread t).g.set r.toNat v }

/-- imm32 sign-extended (R306). -/
def simm (f : InsnFields) : Word := f.imm.signExtend 64

/-- op2: gb, or the immediate with mode[0] = 1 (R315). -/
def State.op2 (s : State) (t : Fin 8) (f : InsnFields) : Word :=
  if f.mode.getLsbD 0 then simm f else s.gpr t f.b

/-- ga + imm32. -/
def State.insnAddr (s : State) (t : Fin 8) (f : InsnFields) : Word := s.gpr t f.a + simm f

/-- The index of TDISARM, CWAIT, CSTAT, CABORT and ESIG: s8, or gb[7:0] with s8 = 0xFF (R307). -/
def State.insnIndex (s : State) (t : Fin 8) (f : InsnFields) : Nat :=
  if f.s8 = 0xFF then (s.gpr t f.b).toNat % 256 else f.s8.toNat

/-- The instruction word (Table 8.3). -/
def insnWord (op : Nat) (f : InsnFields) : Word :=
  packBits [(56, 8, op), (52, 4, f.d.toNat), (48, 4, f.a.toNat), (44, 4, f.b.toNat), (40, 4, f.mode.toNat),
    (32, 8, f.s8.toNat), (0, 32, f.imm.toNat)]

/-- What s8 may hold: nothing; an index below `n`; an index below `n` or 0xFF for any (R307); an index below `n` or
0xFF for gb. -/
inductive S8Use where
  | none
  | index (n : Nat)
  | orAny (n : Nat)
  | orReg (n : Nat)
  deriving DecidableEq, Repr

/-- The fields that an instruction uses: d, a, b, the number of defined modes, the bits that imm32 may set, s8. -/
structure InsnForm where
  d : Bool
  a : Bool
  b : Bool
  modes : Nat
  imm : BitVec 32
  s8 : S8Use
  deriving DecidableEq, Repr

/-- The fields of each opcode with a given mode (Tables 8.7 to 8.16, R315, R318); none for an opcode not listed. -/
def insnForm (op : Nat) (mode : BitVec 4) : Option InsnForm :=
  let all : BitVec 32 := 0xFFFFFFFF
  let reg2 := mode = 0
  match op with
  | 0x00 => some ⟨false, false, false, 1, 0, .none⟩
  | 0x01 => some ⟨false, false, false, 1, 0, .none⟩
  | 0x02 => some ⟨false, false, false, 1, all, .none⟩
  | 0x10 | 0x11 | 0x12 | 0x13 | 0x14 | 0x15 | 0x16 | 0x17 | 0x18 =>
    some ⟨true, true, reg2, 2, if reg2 then 0 else all, .none⟩
  | 0x19 => some ⟨false, true, reg2, 2, if reg2 then 0 else all, .none⟩
  | 0x1A => some ⟨true, false, false, 2, all, .none⟩
  | 0x1B => some ⟨true, false, false, 1, all, .none⟩
  | 0x1C => some ⟨true, true, false, 1, all, .none⟩
  | 0x20 => some ⟨true, true, false, 1, all, .none⟩
  | 0x21 => some ⟨false, true, true, 1, all, .none⟩
  | 0x22 => some ⟨true, true, false, 2, all, .none⟩
  | 0x23 => some ⟨false, true, true, 1, all, .none⟩
  | 0x30 => some ⟨false, mode = 1, false, 2, all, .none⟩
  | 0x31 => some ⟨false, false, false, 11, all, .none⟩
  | 0x32 => some ⟨false, mode = 1, false, 2, all, .none⟩
  | 0x33 => some ⟨false, false, false, 1, 0, .none⟩
  | 0x34 => some ⟨false, false, false, 1, all, .none⟩
  | 0x40 => some ⟨true, true, false, 2, all, .none⟩
  | 0x41 => some ⟨false, true, true, 2, all, .none⟩
  | 0x42 => some ⟨true, false, false, 1, 0xFFFF, .none⟩
  | 0x43 => some ⟨true, true, true, 1, 0xF, .orAny 64⟩
  | 0x50 => some ⟨true, false, false, 2, 0, .none⟩
  | 0x51 => some ⟨true, true, false, 1, all, .none⟩
  | 0x52 => some ⟨true, true, true, 2, 0x1FF0, .orAny 64⟩
  | 0x53 => some ⟨true, false, false, 2, 0, .orReg 64⟩
  | 0x54 => some ⟨true, false, false, 1, 0, .none⟩
  | 0x60 => some ⟨true, true, false, 1, 0, .orAny 32⟩
  | 0x61 => some ⟨true, true, false, 1, 0, .orReg 32⟩
  | 0x62 => some ⟨true, false, false, 1, 0, .orReg 32⟩
  | 0x63 => some ⟨true, false, false, 1, 0, .orReg 32⟩
  | 0x70 => some ⟨true, true, false, 1, 0xFFFF, .none⟩
  | 0x71 => some ⟨false, false, false, 1, 0xFF, .orReg 8⟩
  | 0x72 => some ⟨false, false, false, 1, 0xFFFF, .none⟩
  | 0x80 => some ⟨true, true, false, 3, 0, .none⟩
  | 0x90 => some ⟨true, false, false, 2, 0, .none⟩
  | 0x91 => some ⟨true, mode = 0, false, 3, 0, .index 4⟩
  | 0x92 => some ⟨true, mode = 0, false, 2, 0, .orAny 64⟩
  | 0xA0 => some ⟨false, true, false, 2, 0xFFFF, .none⟩
  | _ => none

/-- s8 is in range. -/
def S8Use.admits (u : S8Use) (v : BitVec 8) : Bool :=
  match u with
  | .none => v = 0
  | .index n => decide (v.toNat < n)
  | .orAny n => decide (v.toNat < n) || v == 0xFF
  | .orReg n => decide (v.toNat < n) || v == 0xFF

/-- s8 takes its index from gb, so that b is a used field. -/
def S8Use.takesReg (u : S8Use) (v : BitVec 8) : Bool :=
  match u with
  | .orReg _ => v == 0xFF
  | _ => false

/-- The instruction word is legal (R305). -/
def insnLegal (op : Nat) (f : InsnFields) : Bool :=
  match insnForm op f.mode with
  | none => false
  | some u =>
    (u.d || f.d == 0) && (u.a || f.a == 0) && (u.b || u.s8.takesReg f.s8 || f.b == 0)
      && decide (f.mode.toNat < u.modes) && (f.imm &&& ~~~u.imm) == 0 && u.s8.admits f.s8

end Sys2Proof.Machine
end

