-- ==== Sys2Proof/Machine/Flags.lean ====
section
/-! DEFINITION. The flags of Criost: the rules of Table 8.4, the conditions of Table 8.5, result words (R308 to R316). -/

namespace Sys2Proof.Machine

/-- The operations of Table 8.8 that set Z, N and C. -/
inductive AluOp where
  | add | sub | and | or | xor | shl | shr | sar | mul
  deriving DecidableEq, Repr

/-- The result and the carry of an operation (Table 8.4). A shift uses op2[5:0] (R316). -/
def aluResult (op : AluOp) (x y : Word) : Word × Bool :=
  let n := y.toNat % 64
  match op with
  | .add => (x + y, decide (2 ^ 64 ≤ x.toNat + y.toNat))
  | .sub => (x - y, decide (x.toNat < y.toNat))
  | .and => (x &&& y, false)
  | .or => (x ||| y, false)
  | .xor => (x ^^^ y, false)
  | .shl => (x <<< n, decide (0 < n) && x.getLsbD (64 - n))
  | .shr => (x >>> n, decide (0 < n) && x.getLsbD (n - 1))
  | .sar => (x.sshiftRight n, decide (0 < n) && x.getLsbD (n - 1))
  | .mul => (x * y, decide (2 ^ 64 ≤ x.toNat * y.toNat))

/-- The N flag (Table 8.4). -/
def aluNeg (op : AluOp) (x y : Word) : Bool :=
  match op with
  | .sub => x.slt y
  | _ => (aluResult op x y).1.getLsbD 63

/-- Z, N and C set (R308). -/
def State.setFlags (s : State) (t : Fin 8) (z n c : Bool) : State :=
  s.setThread t { s.thread t with z := z, n := n, c := c }

/-- Z set alone. -/
def State.setZ (s : State) (t : Fin 8) (z : Bool) : State := s.setThread t { s.thread t with z := z }

/-- L set alone (R310). -/
def State.setL (s : State) (t : Fin 8) (l : Bool) : State := s.setThread t { s.thread t with l := l }

/-- The flags of an operation on two values. -/
def State.aluFlags (s : State) (t : Fin 8) (op : AluOp) (x y : Word) : State :=
  s.setFlags t ((aluResult op x y).1 == 0) (aluNeg op x y) (aluResult op x y).2

/-- The conditions of BC (Table 8.5). -/
def branchCond (mode : BitVec 4) (z n c : Bool) : Bool :=
  match mode.toNat with
  | 0 => true
  | 1 => z
  | 2 => !z
  | 3 => n
  | 4 => !n
  | 5 => c
  | 6 => !c
  | 7 => z || n
  | 8 => !z && !n
  | 9 => z || c
  | 10 => !z && !c
  | _ => false

/-- A result word: index, STATUS, bits [63:16] (R312). -/
def resultWord (index status extra : Nat) : Word := packBits [(0, 8, index), (8, 8, status), (16, 48, extra)]

/-- A result word written to gd, with Z from its STATUS (R309, R312). -/
def State.putResult (s : State) (t : Fin 8) (d : BitVec 4) (index status extra : Nat) : State :=
  (s.setGpr t d (resultWord index status extra)).setZ t (status == 0)

end Sys2Proof.Machine
end

