-- ==== Sys2Proof/Machine/Comparators.lean ====
section
/-! DEFINITION. Arming and ownership of comparators and AUX pins (02 comparator registers, R84, R330 to R333, R603 to
R610). -/

namespace Sys2Proof.Machine

/-! STATUS codes of Table 8.6 -/

abbrev stOK : Nat := 0
abbrev stBUSY : Nat := 1
abbrev stNONEFREE : Nat := 2
abbrev stBADARG : Nat := 3
abbrev stPOWER : Nat := 4
abbrev stQUOTA : Nat := 5
abbrev stOVERLAP : Nat := 6
abbrev stTIMEOUT : Nat := 7
abbrev stSTATE : Nat := 8

/-! AUX pins (R610) -/

/-- Owner code of an AUX pin. -/
def State.auxOwner (s : State) (pin : Nat) : Nat := s.fld aAUX_STATUS (if pin = 0 then 8 else 24) 8

/-- Function of an AUX pin. -/
def State.auxFunc (s : State) (pin : Nat) : Nat := s.fld aAUX_STATUS (if pin = 0 then 0 else 16) 3

/-- Owner and function of an AUX pin set. -/
def State.setAux (s : State) (pin owner func : Nat) : State :=
  (s.setFld aAUX_STATUS (if pin = 0 then 8 else 24) 8 owner).setFld aAUX_STATUS (if pin = 0 then 0 else 16) 3 func

/-- An output pulse begins or begins again: high for 16 ns (R611). -/
def State.auxPulse (s : State) (pin : Nat) : State :=
  let was := if pin = 0 then s.pins.auxEndA.isSome else s.pins.auxEndB.isSome
  let e := some (s.cyc + 32)
  let s := if pin = 0 then { s with pins := { s.pins with auxEndA := e } }
    else { s with pins := { s.pins with auxEndB := e } }
  if was then s else s.emit (.auxPulse pin)

/-! Comparators -/

/-- The comparator is held by an armed or active seal or by an armed outing (R609). -/
def State.tcHeld (s : State) (n : Nat) : Bool :=
  s.seals.toList.any (fun x => (x.st == .armed || x.st == .active) && x.comp.val == n)
    || s.outs.toList.any (fun o => o.st == .armed && o.comp.val == n)

/-- The index is in range for a target that a program may arm (TC_CTRL.INDEX, R331). -/
def targetOk (target index : Nat) : Bool :=
  match target with
  | 0 => true
  | 1 => decide (index < 8)
  | 2 => decide (index < 32)
  | 3 => decide (index < 16)
  | 4 => true
  | 7 => decide (index < 2)
  | _ => false

/-- An armed comparator's value was set in this cycle: it governs from the next one, and a value already reached fires
late then (R84, R332). -/
def State.tcGovern (s : State) (n : Fin 64) : State :=
  let late : Bool := decide ((s.reg (aTC_VALUE n)).toNat ≤ s.now)
  let m : BitVec 64 := 1#64 <<< n.val
  { s with lateArms := if late then s.lateArms ||| m else s.lateArms &&& ~~~m
           tcReadyAt := sparsePut (fun _ => 0) s.tcReadyAt n.val (s.cyc + 1) }

/-- A comparator is armed with everything named; whether its value has already been reached (R84). -/
def State.tcArm (s : State) (n : Fin 64) (owner : Nat) (value : Word) (tol target index : Nat) : State × Bool :=
  let s := s.setReg (aTC_OWNER n) (BitVec.ofNat 64 owner)
  let s := s.setReg (aTC_VALUE n) value
  let s := s.setReg (aTC_TOL n) (BitVec.ofNat 64 tol)
  let s := s.setReg (aTC_CTRL n) (packBits [(0, 1, 1), (4, 4, target), (8, 5, index)])
  let s := s.setFld (aTC_STATUS n) 0 3 0
  (s.tcGovern n, decide (value.toNat ≤ s.now))

/-- The lowest-numbered free comparator (R330). -/
def State.tcAny (s : State) : Option (Fin 64) := (List.finRange 64).find? (fun n => s.tcOwner n == 0)

/-- Allocation for the image by index, 0xFF for any (R330, R609): the comparator or a status. -/
def State.tcAllocate (s : State) (index : Nat) : Except Nat (Fin 64) :=
  if index = 0xFF then
    match s.tcAny with
    | some n => .ok n
    | none => .error stNONEFREE
  else if h : index < 64 then
    if 2 ≤ s.tcOwner index ∨ s.tcHeld index = true then .error stBUSY else .ok ⟨index, h⟩
  else .error stBADARG

/-- TC_CTRL as written by its owner (R608, R609). -/
def State.tcCtrlApply (s : State) (n : Fin 64) (v : Word) : State :=
  let target := getBits v 4 4
  let index := getBits v 8 5
  let arm := v.getLsbD 0
  let fields := packBits [(4, 4, target), (8, 5, index)]
  let pinBad : Bool := arm && target == 7 && (s.auxOwner index != s.tcOwner n)
  if targetOk target index = false ∨ pinBad = true then
    (s.setReg (aTC_CTRL n) fields).setFlag (aTC_STATUS n) 5 true
  else if arm then (s.setReg (aTC_CTRL n) (packBits [(0, 1, 1), (4, 4, target), (8, 5, index)])).tcGovern n
  else s.setReg (aTC_CTRL n) fields

/-- TC_VALUE as written by its owner: an armed comparator is moved (R84). -/
def State.tcValueApply (s : State) (n : Fin 64) (v : Word) : State :=
  let s := s.setReg (aTC_VALUE n) v
  if s.tcArmed n then s.tcGovern n else s

/-! Ownership (R603 to R607) -/

/-- An AUX pin is released: an input again; comparators with target 7 that name it are disarmed and flagged (R607). -/
def State.auxRelease (s : State) (pin : Nat) : State :=
  let s := s.setAux pin 0 0
  let s := if pin = 0 then { s with pins := { s.pins with auxEndA := none, auxTrigger := none } }
    else { s with pins := { s.pins with auxEndB := none } }
  ((List.range 64).filter (fun n => s.tcArmed n && s.tcTarget n == 7 && s.tcIndex n == pin)).foldl
    (fun s n => (s.tcDisarm n).setFlag (aTC_STATUS n) 5 true) s

/-- A claim or release of a comparator: the state, the status, the index used. -/
def State.ownComparator (s : State) (owner index : Nat) (release : Bool) : State × Nat × Nat :=
  if release then
    if 64 ≤ index then (s, stBADARG, index)
    else if s.tcOwner index = 0 then (s, stSTATE, index)
    else if s.tcOwner index ≠ owner ∨ s.tcHeld index = true then (s, stBUSY, index)
    else (s.tcFree index, stOK, index)
  else if index = 0xFF then
    match s.tcAny with
    | some n => (s.setReg (aTC_OWNER n) (BitVec.ofNat 64 owner), stOK, n)
    | none => (s, stNONEFREE, index)
  else if 64 ≤ index then (s, stBADARG, index)
  else if s.tcOwner index = owner then (s, stSTATE, index)
  else if s.tcOwner index ≠ 0 then (s, stBUSY, index)
  else (s.setReg (aTC_OWNER index) (BitVec.ofNat 64 owner), stOK, index)

/-- A claim or release of an AUX pin. -/
def State.ownAux (s : State) (owner index func : Nat) (release : Bool) : State × Nat × Nat :=
  if 2 ≤ index then (s, stBADARG, index)
  else if release then
    if s.auxOwner index = 0 then (s, stSTATE, index)
    else if s.auxOwner index ≠ owner then (s, stBUSY, index)
    else (s.auxRelease index, stOK, index)
  else if func = 0 ∨ 5 ≤ func ∨ (func = 1 ∧ index = 1) then (s, stBADARG, index)
  else if s.auxOwner index = owner then (s, stSTATE, index)
  else if s.auxOwner index ≠ 0 then (s, stBUSY, index)
  else (s.setAux index owner func, stOK, index)

/-- OWN_REQ_IMG (owner 1) or OWN_REQ_FM (owner 2) as written; GO submits the request (R604 to R607). -/
def State.ownRequest (s : State) (owner : Nat) (v : Word) : State :=
  let req := if owner = 1 then aOWN_REQ_IMG else aOWN_REQ_FM
  let s := s.setReg req (v &&& 0x3FFF)
  if v.getLsbD 31 = false then s else
  let index := getBits v 0 8
  let release := v.getLsbD 13
  let (s, status, used) := match getBits v 8 2 with
    | 0 => s.ownComparator owner index release
    | 1 => s.ownAux owner index (getBits v 10 3) release
    | _ => (s, stBADARG, index)
  s.setReg (req + 4) (packBits [(0, 8, used), (8, 8, status), (16, 1, 1)])

end Sys2Proof.Machine
end

