-- ==== Sys2Proof/Machine/Hash.lean ====
section
/-! DEFINITION. SHAKE256 and the CRCs that the rules name (R52, R149, R365, R553, R566, R582). Bytes are lists, byte 0
first. -/

namespace Sys2Proof.Machine

/-! SHAKE256 (PRESUMED, log 42: the rules name it, FIPS 202 gives it). A state is five planes of five lanes,
the lane of column x and plane y at place x of list y. -/

/-- The planes of a state: lists of five lanes, plane 0 first. -/
abbrev Planes : Type := List (List Word)

/-- The lanes in a row, five to a plane, as planes. -/
def planesOf (lanes : List Word) : Planes := (List.range 5).map (fun y => (lanes.drop (5 * y)).take 5)

/-- Theta: every lane takes up the parity of the column before it and, turned by one bit, that of the column after it. -/
def mixColumns (p : Planes) : Planes :=
  let parity := p.foldl (List.zipWith (· ^^^ ·)) (List.replicate 5 0)
  let mix := List.zipWith (fun before after => before ^^^ after.rotateLeft 1) (parity.rotateLeft 4) (parity.rotateLeft 1)
  p.map (List.zipWith (· ^^^ ·) mix)

/-- The walk over the 24 moving lanes: from column 1 of plane 0, column x of plane y is followed by column y of plane
2x + 3y. -/
def lanePath : Nat → Nat
  | 0 => 1
  | t + 1 => lanePath t / 5 + 5 * ((2 * (lanePath t % 5) + 3 * (lanePath t / 5)) % 5)

/-- Rho and pi in one: lane t of the walk goes to the place of its follower, turned by the t-th triangular number. -/
def moveLanes (p : Planes) : Planes :=
  planesOf ((List.range 24).foldl (fun moved t =>
    moved.set (lanePath (t + 1)) ((p.flatten.getD (lanePath t) 0).rotateLeft ((t + 1) * (t + 2) / 2))) p.flatten)

/-- Chi on a plane: every lane takes up what its second neighbour holds where its first neighbour holds 0. -/
def mixPlane (row : List Word) : List Word :=
  List.zipWith (fun v u => v ^^^ u) row (List.zipWith (fun n nn => nn &&& ~~~n) (row.rotateLeft 1) (row.rotateLeft 2))

/-- The shift register of iota: x to the power `t` modulo x^8 + x^6 + x^5 + x^4 + 1, bit i for x^i. -/
def iotaRegister : Nat → Nat
  | 0 => 1
  | t + 1 =>
    let up := 2 * iotaRegister t
    if up < 256 then up else (up - 256) ^^^ 0x71

/-- The constant of round `r`: bit 2^j - 1 is bit 0 of the register after 7r + j shifts. -/
def iotaWord (r : Nat) : Word :=
  BitVec.ofNat 64 ((List.range 7).map (fun j => iotaRegister (7 * r + j) % 2 * 2 ^ (2 ^ j - 1))).sum

/-- One round. -/
def spongeRound (p : Planes) (r : Nat) : Planes :=
  match (moveLanes (mixColumns p)).map mixPlane with
  | (corner :: row) :: rest => ((corner ^^^ iotaWord r) :: row) :: rest
  | other => other

/-- The permutation: 24 rounds. -/
def permute (p : Planes) : Planes := (List.range 24).foldl spongeRound p

/-- The low `n` bytes of a number, byte 0 first. -/
def toBytes (n x : Nat) : List Byte := (List.range n).map (fun i => BitVec.ofNat 8 (x / 256 ^ i))

/-- The number whose bytes, byte 0 first, are the list. -/
def fromBytes : List Byte → Nat
  | [] => 0
  | b :: bs => b.toNat + 256 * fromBytes bs

/-- A block of the rate, 136 bytes, as planes: 17 lanes and zeros for the capacity. -/
def blockPlanes (block : List Byte) : Planes :=
  planesOf ((List.range 25).map (fun i => BitVec.ofNat 64 (fromBytes ((block.drop (8 * i)).take 8))))

/-- The message with its suffix 1111, the first bit of the padding and the last, to a whole number of blocks. -/
def padded (m : List Byte) : List Byte :=
  let body := m ++ [0x1F]
  let filled := body ++ List.replicate ((136 - body.length % 136) % 136) 0
  filled.dropLast ++ [filled.getLastD 0 ||| 0x80]

/-- The state after a number of blocks of the padded message. -/
def absorbed (m : List Byte) (blocks : Nat) : Planes :=
  (List.range blocks).foldl (fun p n =>
    permute (List.zipWith (List.zipWith (· ^^^ ·)) p (blockPlanes ((m.drop (136 * n)).take 136))))
    (planesOf (List.replicate 25 0))

/-- The 256-bit output of SHAKE256. -/
def shake256 (m : List Byte) : List Byte :=
  let final := absorbed (padded m) ((padded m).length / 136)
  (final.flatten.take 4).flatMap (fun w => toBytes 8 w.toNat)

/-! CRCs -/

/-- One bit of a reflected CRC. -/
def crcBit (w : Nat) (poly : BitVec w) (c : BitVec w) : BitVec w :=
  if c.getLsbD 0 then (c >>> 1) ^^^ poly else c >>> 1

/-- One byte of a reflected CRC. -/
def crcByte (w : Nat) (poly : BitVec w) (c : BitVec w) (b : Byte) : BitVec w :=
  (List.range 8).foldl (fun c _ => crcBit w poly c) (c ^^^ b.setWidth w)

/-- A reflected CRC with all-ones start and final inversion. -/
def crcReflected (w : Nat) (poly : BitVec w) (m : List Byte) : BitVec w :=
  ~~~(m.foldl (crcByte w poly) (BitVec.allOnes w))

/-- CRC-32C (R582): polynomial 0x1EDC6F41 reflected. -/
def crc32c (m : List Byte) : BitVec 32 := crcReflected 32 0x82F63B78 m

/-- CRC-64/NVME: polynomial 0xAD93D23594C93659 reflected. -/
def crc64nvme (m : List Byte) : BitVec 64 := crcReflected 64 0x9A6C9329AC4BC9B5 m

/-- One byte of an unreflected 16-bit CRC. -/
def crc16Byte (poly : BitVec 16) (c : BitVec 16) (b : Byte) : BitVec 16 :=
  (List.range 8).foldl (fun (c : BitVec 16) _ => if c.getLsbD 15 then (c <<< 1) ^^^ poly else c <<< 1)
    (c ^^^ (b.setWidth 16 <<< 8))

/-- An unreflected 16-bit CRC. -/
def crc16 (poly init : BitVec 16) (m : List Byte) : BitVec 16 := m.foldl (crc16Byte poly) init

end Sys2Proof.Machine
end

