-- ==== Sys2Proof/Machine/Otp.lean ====
section
/-! DEFINITION. The fuse array: classification, keys, counter, locks, commands, the boot read and the identity (13). -/

namespace Sys2Proof.Machine

/-! Words -/

/-- The value and the corrected bit of one margin; a blank word decodes as 0 (R534). None for a double error. -/
def marginDecode : OtpMargin → Option (Word × Option (Fin 72))
  | .blank => some (0, none)
  | .word v c => some (v, c)
  | .double => none

/-- The state of Table 13.2 and the value in use (R535). -/
def classify (x : OtpSense) : OtpWord :=
  let found (st : Nat) (v : Word) : OtpWord := { sense := x, state := st, value := v, boot := st }
  if x.normal = .blank ∧ x.strict = .blank then found 0 0 else
  match marginDecode x.normal, marginDecode x.strict with
  | some (v, c), some (w, d) => if v = w then found (if c = d then 1 else 2) v else found 3 0
  | _, _ => found 3 0

/-- A blank word. -/
def OtpWord.blank : OtpWord := { sense := ⟨.blank, .blank⟩, state := 0, value := 0, boot := 0 }

/-- A word of the array. -/
def Otp.word (o : Otp) (w : Nat) : OtpWord := sparseGet (fun _ => OtpWord.blank) o.words w

/-- A word replaced; it stays listed, so that a programmed word is known even when it reads blank (R541). -/
def otpPut : List (Nat × OtpWord) → Nat → OtpWord → List (Nat × OtpWord)
  | [], a, v => [(a, v)]
  | (b, w) :: l, a, v => if b < a then (b, w) :: otpPut l a v else if b = a then (a, v) :: l else (a, v) :: (b, w) :: l

/-- The state code of a word (Table 13.2). -/
def State.otpState (s : State) (w : Nat) : Nat := (s.otp.word w).state

/-- BLANK. -/
def State.otpBlank (s : State) (w : Nat) : Bool := s.otpState w == 0

/-- The value in use (R536, R566). -/
def State.otpValue (s : State) (w : Nat) : Word := (s.otp.word w).value

/-- A shadowed word of Table 13.1. -/
def shadowed (w : Nat) : Bool :=
  decide (128 ≤ w ∧ w ≤ 147) || decide (168 ≤ w ∧ w ≤ 171) || decide (192 ≤ w ∧ w ≤ 263)

/-- A reserved word (R533). -/
def otpReserved (w : Nat) : Bool := decide (148 ≤ w ∧ w ≤ 159) || decide (172 ≤ w ∧ w ≤ 191)

/-! Keys, counter, locks -/

/-- Words of key slot `k`. -/
def slotWords (k : Nat) : List Nat := (List.range 4).map (fun i => 128 + 4 * k + i)

/-- State of key slot `k` (Table 13.5, R548). -/
def State.keyState (s : State) (k : Nat) : Nat :=
  let ws := slotWords k
  if s.otpBlank (144 + k) = false then 4
  else if ws.any (fun w => s.otpState w == 3) then 3
  else if ws.any s.otpBlank && !s.otpBlank (257 + k) then 5
  else if ws.all s.otpBlank then 0
  else if ws.any s.otpBlank then 1
  else 2

/-- The anti-rollback counter (R550). -/
def State.arcValue (s : State) : Nat :=
  ((List.range 64).filter (fun i => !s.otpBlank (192 + i))).foldl (fun m i => max m (i + 1)) 0

/-- First and last word that lock word 256 + w locks (Table 13.4); none for 263. -/
def lockRegion (w : Nat) : Option (Nat × Nat) :=
  match w with
  | 0 => some (0, 127)
  | 1 => some (128, 131)
  | 2 => some (132, 135)
  | 3 => some (136, 139)
  | 4 => some (140, 143)
  | 5 => some (160, 171)
  | 6 => some (264, 511)
  | _ => none

/-- Lock word 256 + w is blown (R546). -/
def State.lockBlown (s : State) (w : Nat) : Bool := !s.otpBlank (256 + w)

/-- A word that a blown lock word covers (R540, R546). -/
def State.otpLocked (s : State) (word : Nat) : Bool :=
  (List.range 7).any (fun w => s.lockBlown w && (match lockRegion w with
    | some (a, b) => decide (a ≤ word ∧ word ≤ b)
    | none => false))

/-- Region w is locked-incomplete (R547). -/
def State.lockIncomplete (s : State) (w : Nat) : Bool :=
  s.lockBlown w && (match lockRegion w with
    | some (a, b) => (List.range' a (b + 1 - a)).any s.otpBlank
    | none => false)

/-- A lock word with an unexpected value or state (R546). -/
def State.lockOdd (s : State) : Bool :=
  (List.range 8).any (fun w => s.lockBlown w &&
    (s.otpState (256 + w) == 3 || s.otpValue (256 + w) != BitVec.ofNat 64 (0x4C4F434B00000000 + 256 + w)))

/-- The 9-byte record of a word in OTP_DIGEST (R566). -/
def State.otpRecord (s : State) (w : Nat) : List Byte :=
  let v : Word := if 160 ≤ w ∧ w ≤ 167 then 0 else s.otpValue w
  toBytes 8 v.toNat ++ [BitVec.ofNat 8 (s.otpState w)]

/-- A 256-bit digest into four wide registers from an address on (R11). -/
def State.putDigest (s : State) (a : Nat) (d : List Byte) : State :=
  (List.range 4).foldl (fun s j => s.setReg (a + 8 * j) (BitVec.ofNat 64 (fromBytes ((d.drop (8 * j)).take 8)))) s

/-- The registers that show the fuses (R535, R542, R547): states, counts, keys, counter, locks, digest; a region that
becomes locked-incomplete raises OTP_LOCK_INCOMPLETE. -/
def State.otpRefresh (s : State) : State :=
  let s := (List.range 32).foldl (fun s j => s.setReg (aOTP_WSTATE j)
    (packBits ((List.range 16).map (fun q => (2 * q, 2, s.otpState (16 * j + q)))))) s
  let s := s.setFld aOTP_STATUS 5 10 ((List.range 512).filter (fun w => s.otpState w == 2)).length
  let s := s.setFld aOTP_STATUS 15 10 ((List.range 512).filter (fun w => s.otpState w == 3)).length
  let s := s.setReg aKEY_STATUS (packBits ((List.range 4).map (fun k => (4 * k, 4, s.keyState k))))
  let s := s.setReg aARC_VALUE (BitVec.ofNat 64 s.arcValue)
  let news := (List.range 8).filter (fun w => s.lockIncomplete w && !s.flag aLOCK_STATUS (8 + w))
  let s := s.setReg aLOCK_STATUS (packBits ((List.range 8).map (fun w => (w, 1, bit (s.lockBlown w)))
    ++ (List.range 8).map (fun w => (8 + w, 1, bit (s.lockIncomplete w))) ++ [(16, 1, bit s.lockOdd)]))
  let s := s.putDigest (aOTP_DIGEST 0) (shake256 ((List.range 512).flatMap s.otpRecord))
  s.raiseList (news.map (fun w => .plain 101 (256 + w) 0))

/-- OTP_MARGINAL or OTP_INVALID for a word that was classified so (Table 13.2). -/
def State.otpClassEvents (s : State) (ws : List Nat) : State :=
  s.raiseList (ws.filterMap (fun w =>
    if s.otpState w = 2 then some (.plain 96 w 0) else if s.otpState w = 3 then some (.plain 97 w 0) else none))

/-! The supply window (R543) -/

/-- The conditions of R543. -/
def State.supplyWindow (s : State) : Bool :=
  let vin := s.fld aMOD_SUPPLY 0 16
  decide (11400 ≤ vin ∧ vin ≤ 12600) && decide (s.otp.supplyBad + cycMs 10 ≤ s.cyc) && s.flag aMOD_POWER 24
    && decide (s.fld (aTH_LAYER 17) 0 10 ≤ 340)

/-- The interlock lets a fuse be blown. -/
def State.supplyOk (s : State) : Bool := !s.flag aOTP_CTRL 0 || s.supplyWindow

/-- OTP_STATUS.WINDOW_OK follows the window; an accepted program command remembers that the supply left it (R545). -/
def State.supplyWatch (s : State) : State :=
  let s := s.setFlag aOTP_STATUS 2 s.supplyWindow
  match s.otp.cmd with
  | some c => if s.supplyOk then s else { s with otp := { s.otp with cmd := some { c with supplyLeft := true } } }
  | none => s

/-! Commands -/

/-- A command completes with a status and the state a read found or a program left. -/
def State.otpResult (s : State) (status st : Nat) (drift : Bool) : State :=
  s.setReg aOTP_RESULT (packBits [(0, 4, status), (4, 2, st), (6, 1, bit drift)])

/-- The controller cannot take a command (R535, R539). -/
def State.otpBusy (s : State) : Bool := s.otp.cmd.isSome || !s.flag aOTP_STATUS 0 || decide (s.cyc < s.seedUntil)

/-- A command is accepted and runs. -/
def State.otpStart (s : State) (op word : Nat) (data : Word) (ws : List Nat) : State :=
  { s with otp := { s.otp with
      cmd := some { op := op, word := word, data := data, raise := ws, supplyLeft := !s.supplyOk, started := s.cyc } } }

/-- The first status of R540 that applies to a program command. -/
def State.programRefusal (s : State) (w : Nat) : Option Nat :=
  let live := (List.range 4).filter (fun k => s.keyState k == 2)
  if otpReserved w then some 3
  else if 192 ≤ w ∧ w ≤ 255 then some 9
  else if s.otpLocked w then some 5
  else if s.otp.words.any (fun p => p.1 == w) || !s.otpBlank w then some 6
  else if s.reg aOTP_DATA = 0 then some 7
  else if 144 ≤ w ∧ w ≤ 147 ∧ live = [w - 144] then some 10
  else if s.supplyOk = false then some 8
  else none

/-- The first status of R552 that applies to a raise command. -/
def State.raiseRefusal (s : State) : Option Nat :=
  let t := getBits (s.reg aOTP_DATA) 0 7
  if s.img.phase ≠ .idle then some 1
  else if s.flag aTT_IMAGE 0 = false then some 11
  else if s.fld aIMG_STATUS 0 7 < t then some 12
  else if t ≤ s.arcValue then some 15
  else if s.supplyOk = false then some 8
  else none

/-- A write of OTP_CMD with GO (R537 to R540, R551, R552). -/
def State.otpCommand (s : State) (op word : Nat) : State :=
  if s.otpBusy then s.otpResult 1 0 false
  else if 5 ≤ op then s.otpResult 2 0 false
  else if op = 4 then
    match s.raiseRefusal with
    | some st => s.otpResult st 0 false
    | none =>
      let cur := s.arcValue
      s.otpStart 4 word (s.reg aOTP_DATA)
        (List.range' (192 + cur) (getBits (s.reg aOTP_DATA) 0 7 - cur))
  else if op = 3 then
    match s.programRefusal word with
    | some st => s.otpResult st 0 false
    | none => s.otpStart 3 word (s.reg aOTP_DATA) []
  else if 160 ≤ word ∧ word ≤ 167 then (s.otpResult 4 0 false).setReg aOTP_DATA 0
  else s.otpStart op word 0 []

/-- What a clean word with a value senses. -/
def cleanSense (v : Word) : OtpSense := ⟨.word v none, .word v none⟩

/-- A word after its fuses were blown with a value: GOOD when the strict read decodes to the value with no corrected
bit, else what a dual read gives it (R541). -/
def programmed (v : Word) (x : OtpSense) : OtpWord × Bool :=
  if x.strict = .word v none then ({ sense := x, state := 1, value := v, boot := 1 }, true) else (classify x, false)

/-- A word after a program command: a shadowed word's new value is in use at once, any other word keeps the value and the
use that its boot read gave it until the next boot (R536, R542, R566). -/
def inUse (w : Nat) (old new : OtpWord) : OtpWord :=
  if shadowed w then new else { new with value := old.value, boot := old.boot }

/-- Words blown in order until one fails (R541, R551): the state, the last word and whether every word verified. -/
def State.blow (s : State) : List (Nat × Word) → List OtpSense → State × Nat × Bool
  | [], _ => (s, 0, true)
  | (w, v) :: rest, xs =>
    let p := programmed v (xs.headD (cleanSense v))
    let s := { s with otp := { s.otp with words := otpPut s.otp.words w (inUse w (s.otp.word w) p.1) } }
    if p.2 then
      match rest with
      | [] => (s, w, true)
      | _ => State.blow s rest xs.tail
    else (s, w, false)

/-- The end of a program or raise command. -/
def State.blowDone (s : State) (c : OtpCmd) (sensed : List OtpSense) : State :=
  let ws := if c.op = 4
    then c.raise.map (fun w => (w, BitVec.ofNat 64 (0xA5A5A5A500000000 + (w - 192) + 1)))
    else [(c.word, c.data)]
  let left := c.supplyLeft || !s.supplyOk
  let (s, w, ok) := s.blow ws sensed
  let status := if !ok then 13 else if left then 14 else 0
  let s := s.otpResult status (s.otpState w) false
  let s := if ok then s else s.raise 100 w 0
  (s.otpClassEvents [w]).otpRefresh

/-- State found by a read at one margin. -/
def marginState : OtpMargin → Nat
  | .blank => 0
  | .word _ _ => 1
  | .double => 3

/-- A single-margin read differs from the shadow: another value, or blank or unusable where the shadow is not. -/
def marginDrift (m : OtpMargin) (w : OtpWord) : Bool :=
  let st := marginState m
  (st == 0) != (w.state == 0) || (st == 3) != (w.state == 3)
    || (match marginDecode m with
      | some (v, _) => v != w.value
      | none => false)

/-- The end of a read command (R537). -/
def State.readDone (s : State) (c : OtpCmd) (sensed : List OtpSense) : State :=
  let cur := s.otp.word c.word
  let x := sensed.headD cur.sense
  let (st, v, diff) : Nat × Word × Bool :=
    if c.op = 2 then
      let k := classify x
      (k.state, k.value, k.state != cur.state || k.value != cur.value)
    else
      let m := if c.op = 0 then x.normal else x.strict
      (marginState m, (match marginDecode m with | some (v, _) => v | none => 0), marginDrift m cur)
  let drift := shadowed c.word && diff
  let s := (s.setReg aOTP_DATA v).otpResult 0 st drift
  if drift then (s.setFlag aOTP_STATUS 4 true).raise 98 c.word 0 else s

/-- OTP_COMMAND_DONE (R541, R542, R545, R551). -/
def execOtpCommandDone (sensed : List OtpSense) (s : State) : Host.Outcome State Fault Refusal :=
  match s.otp.cmd with
  | none => .next s
  | some c =>
    let t := { s with otp := { s.otp with cmd := none } }
    finish s (if 3 ≤ c.op then t.blowDone c sensed else t.readDone c sensed)

/-- A trim word that its boot read found GOOD or MARGINAL; the others are replaced by their defaults (R538). Trim is applied
once, at boot (Table 13.1). -/
def State.trimUsable (s : State) (w : Nat) : Bool := (s.otp.word w).boot == 1 || (s.otp.word w).boot == 2

/-- The bond-wear rating that trim word 1 or its default gives (R127, Table 13.3). -/
def State.wearRating (s : State) : Nat := if s.trimUsable 1 then getBits (s.otpValue 1) 0 16 else 20000

/-- The TLINE pin-to-stamp delay in 1/256 ns (R54); its default until the boot read ends. -/
def State.tlineDelay (s : State) : Nat :=
  if s.flag aOTP_STATUS 0 && s.trimUsable 2 then getBits (s.otpValue 2) 0 16 else 0x0A00

/-- The stepping and the order code that trim word 0 or its default gives (R6, R538, Table 13.3): 0 for IFM64-16H-A, 1 for
IFM64-16H-X; the default until the boot read ends. -/
def State.identityTrim (s : State) : Nat × Nat :=
  if s.flag aOTP_STATUS 0 && s.trimUsable 0 then (getBits (s.otpValue 0) 0 8, getBits (s.otpValue 0) 8 2) else (0xB0, 0)

/-- CAN_T0 in quarter degrees, CAN_N0 and θ in 0.1 K/W of layer n (Table 13.3). -/
def State.canaryParams (s : State) (n : Nat) : Nat × Nat × Nat :=
  if s.trimUsable (2 + n) then Config.canaryTrim (s.otpValue (2 + n)) else (340, 64, 8)

/-- OTP_BOOT_READ_DONE (R535, R538, R557): every word is classified, trim is applied, the seed is read. A word that senses
blank and was never programmed stays unlisted, so that it can still be programmed (R540, R541). -/
def execOtpBootReadDone (sensed : List (Nat × OtpSense)) (s : State) : Host.Outcome State Fault Refusal :=
  if s.fld aSU_STATUS 0 4 ≠ 2 ∨ s.flag aOTP_STATUS 0 = true then .next s else
  let words := sensed.foldl (fun (l : List (Nat × OtpWord)) (p : Nat × OtpSense) => if p.1 < 512 ∧ ((classify p.2).state ≠ 0 ∨ l.any (fun (q : Nat × OtpWord) => q.1 == p.1) = true) then otpPut l p.1 (classify p.2) else l) s.otp.words
  let t := { s with otp := { s.otp with words := words.map (fun (p : Nat × OtpWord) => (p.1, classify p.2.sense)) } }
  let t := t.setFlag aOTP_STATUS 0 true
  let t := t.otpClassEvents (List.range 512)
  let t := t.otpRefresh
  let bad := (List.range 128).filter (fun w => !t.trimUsable w)
  let t := if bad.isEmpty then t else
    (t.setFlag aOTP_STATUS 3 true).raiseList (bad.map (fun w => .plain 99 w 0))
  let t := t.setReg aWEAR_RATING (BitVec.ofNat 64 t.wearRating)
  let t := { t with seedUntil := t.cyc + cycUs 16 }
  let t := (t.setFld aSU_STATUS 0 4 3).setReg (aSU_STEP_RT 3) t.nowW
  finish s t.supplyWatch

/-- The identity's public key from the seed and trim word 127 (R557). -/
def State.identityKey (s : State) : List Byte :=
  Config.falconPublicKey ((List.range 8).map (fun i => s.otpValue (160 + i))) (s.otpValue 127)

/-- Bytes of the public-key digest in words 168 to 171 (R534). -/
def State.identityDigest (s : State) : List Byte :=
  (List.range 4).flatMap (fun i => toBytes 8 (s.otpValue (168 + i)).toNat)

/-- Cause of ID_STATUS when the identity is unavailable (R559). -/
def State.identityCause (s : State) : Nat :=
  if (List.range' 160 12).any (fun w => s.otpState w == 3 || s.otpBlank w) then
    (if s.lockIncomplete 5 then 3 else 2)
  else if shake256 s.identityKey = s.identityDigest then 0 else 1

/-- IDENTITY_DERIVED (R558, R559). -/
def execIdentityDerived (s : State) : Host.Outcome State Fault Refusal :=
  if s.flag aOTP_STATUS 0 = false ∨ s.cyc < s.seedUntil ∨ s.fld aID_STATUS 0 2 ≠ 0 then .next s else
  let c := s.identityCause
  if c = 0 then .next (s.setReg aID_STATUS 1)
  else finish s ((s.setReg aID_STATUS (packBits [(0, 2, 2), (2, 2, c)])).raise 103 0 c)

end Sys2Proof.Machine
end

