-- ==== Sys2Proof/Machine/Lanes.lean ====
section
/-! DEFINITION. Links and lanes: link-down and link-up, training, speed changes, equalisation, the detectors and the
lane test resources (04; 05 link loss; 03 R119, R120). -/

namespace Sys2Proof.Machine

/-! Helpers -/

/-- A Fin of a number modulo its bound, for lanes and heads computed in range. -/
def lane64 (l : Nat) : Fin 64 := ⟨l % 64, Nat.mod_lt _ (by decide)⟩

/-- Head of a number modulo 16. -/
def head16 (k : Nat) : Fin 16 := ⟨k % 16, Nat.mod_lt _ (by decide)⟩

/-- The head of a lane in the layout in force (Table 3.6). -/
def State.headOf (s : State) (l : Nat) : Fin 16 := head16 (laneHead s.layout l)

/-- The lanes of a head as Fins. -/
def State.lanesOf (s : State) (k : Nat) : List (Fin 64) := (headLanes s.layout k).map lane64

/-- The PERST_N pin a head uses: the one beside its lowest lane (R103). -/
def State.perstPin (s : State) (k : Nat) : Nat := k * headWidth s.layout / 4

/-- The head's PERST_N reads high. -/
def State.perstHigh (s : State) (k : Nat) : Bool := s.flag aMOD_PERST (s.perstPin k)

/-- A lane of the head is held by its test resources (R169). -/
def State.testOwned (s : State) (k : Nat) : Bool := (headLanes s.layout k).any (fun l => s.flag (aLN_STATUS l) 14)

/-- MAX_RATE as it acts: 0b111 as 0b100. -/
def State.maxRate (s : State) : Nat := let r := s.fld aLANE_CTRL 0 3; if r = 7 then 4 else r

/-- The highest rate that a head advertises (R140, R141). -/
def State.advertised (s : State) (k : Nat) : Nat :=
  (headLanes s.layout k).foldl (fun r l => [0, 1].foldl (fun (r : Nat) (d : Nat) =>
    let lim := s.fld (aXR_XG d l) 7 3
    if lim = 7 then r else min r lim) r) (min s.maxRate (s.permittedRate k))

/-- The lane's express group in some direction has no live wire, so its head trains without it (R484). -/
def State.laneExcluded (s : State) (l : Nat) : Bool := [0, 1].any (fun (d : Nat) => s.fld (aXR_XG d l) 7 3 == 7)

/-- The CDAT sequence number follows a change of CAP (R216). -/
def State.cdatFollow (s : State) (k : Fin 16) (before : Nat) : State :=
  if (s.head k).cap = before then s else s.setHead k { s.head k with cdatSeq := (s.head k).cdatSeq + 1 }

/-- LN_STATUS of each lane of a head: rate, membership of the link, inversion, reversal. A test-owned lane outside the link
keeps the rate of its test (R172). -/
def State.laneStatus (s : State) (k : Nat) (lanes : List (Fin 64)) (rate : Nat) (inv : List (Fin 64)) (rev : Bool) :
    State :=
  (s.lanesOf k).foldl (fun s l =>
    let inside := lanes.contains l
    let s := if !inside && s.flag (aLN_STATUS l) 14 then s else s.setFld (aLN_STATUS l) 2 3 (if inside then rate else 0)
    let s := s.setFlag (aLN_STATUS l) 5 inside
    let s := s.setFlag (aLN_STATUS l) 6 (inside && inv.contains l)
    s.setFlag (aLN_STATUS l) 7 (inside && rev)) s

/-! Link down and up (R196 to R200) -/

/-- A read of a head that waits for its data. -/
def Req.isReadOf (r : Req) (k : Fin 16) : Bool := r.src == .head k && r.kind == .read

/-- A write of a head without its Cmp. -/
def Req.isWriteOf (r : Req) (k : Fin 16) : Bool :=
  r.src == .head k && (r.kind == .write || r.kind == .partialWrite)

/-- Reads of a head outstanding in the path and in the channels (R197). -/
def State.outstandingReads (s : State) (k : Fin 16) : Nat :=
  (s.mem.ports.filter (fun r => r.isReadOf k)).length + (s.mem.missQ.filter (fun r => r.isReadOf k)).length
    + (s.chans.toList.map (fun ch => (ch.pool.filter (fun e => e.req.isReadOf k)).length)).sum

/-- Writes of a head that passed CRC and have no Cmp yet. -/
def State.committingWrites (s : State) (k : Fin 16) : Nat :=
  ((s.mem.ports ++ s.mem.missQ ++ s.mem.accept ++ (s.seals.toList.flatMap (fun x => x.heldWrites))).filter
      (fun r => r.isWriteOf k)).length
    + (s.chans.toList.map (fun ch => (ch.pool.filter (fun e => e.req.isWriteOf k)).length)).sum

/-- The outstanding reads of a head are discarded, and no completion goes out for its UIO writes (R197). -/
def State.dropReads (s : State) (k : Fin 16) : State :=
  let keep (r : Req) : Bool := !(r.isReadOf k || (r.src == .head k && (r.kind == .spec || r.kind == .inv)))
  let s := { s with mem := { s.mem with ports := s.mem.ports.filter keep, missQ := s.mem.missQ.filter keep } }
  { s with mem := { s.mem with uioOpen := s.mem.uioOpen.filter (fun p => p.1 != k) },
           chans := s.chans.map (fun ch => { ch with pool := ch.pool.filter (fun e => keep e.req) }) }

/-- A head's link leaves service for a link state; if it was up, everything of R197 happens, and PTM is lost with its
head (R67). Causes of the HELD record:
0 Recovery failed, 1 PERST_N, 2 Loopback, 3 Hot Reset or Disable, 4 shutdown. -/
def State.headDown (s : State) (k : Fin 16) (cause : Nat) (next : LinkState) : State :=
  let h := s.head k
  let was := h.up
  let cap := h.cap
  let s := s.laneStatus k [] 0 [] false
  let s := { s with laneEq := s.laneEq.filter (fun p => !(s.lanesOf k).contains (lane64 p.1)) }
  let s := s.setHead k { h with link := next, lanes := [], reversed := false, rate := 0, bypass := false, precode := [],
                                held := h.held || was }
  if was = false then s else
  let reads := s.outstandingReads k
  let writes := s.committingWrites k
  let s := s.dropReads k
  let s := s.bump (aHD_DISCARD k) 0 16 reads
  let s := s.setReg (aHD_LAST_DOWN k) s.nowW
  let s := s.bump (aHD_DOWN_CNT k) 0 16 1
  let s := s.cdatFollow k cap
  let s := s.notify 14
  let s := s.toFm .warning (s.record 7 0xFFFF [(12, 1, k), (13, 1, cause), (14, 2, (s.extCount k).1), (16, 4, reads),
    (20, 4, writes)])
  if s.fld aTU_CTRL 4 4 = k.val then s.losePtm else s

/-- A fresh link-up (R200): the function's state returns to its reset values, HELD clears. -/
def State.headUp (s : State) (k : Fin 16) (rate : Nat) : State :=
  let h := s.head k
  let cap := h.cap
  let s := s.setHead k { h with link := .l0, rate := BitVec.ofNat 3 rate, held := false, bypass := false, policy := 0,
                                dvsecLatch := none, cfg := [], hdm := [], transcript := [] }
  let s := h.lanes.foldl (fun s l => s.setFld (aLN_STATUS l) 2 3 rate) s
  let s := s.setReg (aHD_LAST_UP k) s.nowW
  (s.cdatFollow k cap).notify 14

/-! Training -/

/-- The widest permitted run of lanes from the first of a list that is not skewed: 16, 8, 4, 2 or 1 (R161). -/
def trainedLanes (lanes skewed : List (Fin 64)) : List (Fin 64) :=
  let run := (lanes.takeWhile (fun l => !skewed.contains l)).length
  let w := if 16 ≤ run then 16 else if 8 ≤ run then 8 else if 4 ≤ run then 4 else if 2 ≤ run then 2 else run
  lanes.take w

/-- The equalisation entry a lane takes at a rate index: the table's, or the bring-up row (R150, Table 4.3). -/
def State.eqEntry (s : State) (l r : Nat) : Word :=
  let v := s.reg (aLN_EQ r l)
  let bring : Word := if r = 0 then 0x0000140A00000087 else if r = 1 then 0x00061E1000000087 else 0x030A2D1800000088
  if r ≤ 2 ∧ (eqValid r v = false ∨ s.flag aLANE_CTRL 3 = true) then bring else v

/-- A lane enters equalisation at a rate index: its entry comes into force, and its training sets report it (R148, R152,
R155). -/
def State.laneEnter (s : State) (l r : Nat) : State :=
  let v := s.eqEntry l r
  State.emit { s with laneEq := (l, r, v) :: s.laneEq.filter (fun p => !(p.1 == l && p.2.1 == r)) }
    (.eqSetting (lane64 l) r (v.setWidth 32))

/-- Lanes enter equalisation at each table rate of a range of rate codes, the lowest first: those that the training or the
speed change which starts now will pass (R148, R152, log 40). -/
def State.lanesEnter (s : State) (lanes : List (Fin 64)) (above top : Nat) : State :=
  ((List.range 7).filter (fun r => decide (2 ≤ r ∧ above < r ∧ r ≤ top))).foldl (fun s r =>
    lanes.foldl (fun s l => s.laneEnter l (r - 2)) s) s

/-- The domains that a head's traffic needs: its head pair, and the octets of some lanes (R139, R516). -/
def State.laneDomains (s : State) (k : Fin 16) (lanes : List (Fin 64)) : Bool :=
  s.domOn (48 + k.val / 2) && lanes.all (fun l => s.domOn (56 + l.val / 8))

/-- The head may train (R120, R169, R516, R617). -/
def State.mayTrain (s : State) (k : Fin 16) : Bool :=
  let h := s.head k
  s.present k && s.perstHigh k && decide (6 ≤ s.fld aSU_STATUS 0 4) && s.fld aTH_STATUS 4 2 == 0 && !s.pins.held
    && !s.testOwned k && !h.up && s.laneDomains k (s.lanesOf k)

/-- LINK_TRAINING_START (R120, R135, R160, R161). A head without a lane to train stays as it is (log 40). -/
def execLinkTrainingStart (k : Fin 16) (undetected skewed : List (Fin 64)) (reversed : Bool) (s : State)
    (inverted : List (Fin 64) := []) (compliance : Bool := false) :
    Host.Outcome State Fault Refusal :=
  if s.mayTrain k = false then .next s else
  let mine := s.lanesOf k
  let bad := mine.filter (fun l => skewed.contains l)
  let out := mine.filter (fun (l : Fin 64) => undetected.contains l || s.laneExcluded l.val)
  let lanes := trainedLanes (if reversed then mine.reverse else mine) (bad ++ out)
  let t := bad.foldl (fun t l => t.setFlag (aLN_STATUS l) 13 true) s
  let t := t.raiseList (bad.map (fun l => .plain 33 l.val 0))
  if lanes.isEmpty then finish s t else
  if compliance then
    let t := t.setHead k { t.head k with link := .compliance, lanes := [], reversed := false, bypass := false }
    finish s (t.laneStatus k [] 0 [] false)
  else
    let t := t.setHead k { t.head k with link := .training, lanes := lanes, reversed := reversed, bypass := false }
    let t := t.laneStatus k lanes 0 inverted reversed
    finish s (t.lanesEnter lanes 1 (min 4 (t.advertised k)))

/-- Precoding as the partner requests it, at 64 and 128 GT/s alone (R135). -/
def precoded (lanes asked : List (Fin 64)) (rate : Nat) : List (Fin 64) :=
  if 5 ≤ rate then lanes.filter (fun l => asked.contains l) else []

/-- LINK_UP (R139, R140, R200): the link reaches L0 at a rate that the head advertises, up to 32 GT/s without bypass. -/
def execLinkUp (k : Fin 16) (rate : BitVec 3) (s : State) (precode : List (Fin 64) := []) :
    Host.Outcome State Fault Refusal :=
  let h := s.head k
  if h.link ≠ .training ∨ s.laneDomains k h.lanes = false then .next s else
  let top := if h.bypass then s.advertised k else min 4 (s.advertised k)
  let r := min rate.toNat top
  .next (State.headUp (s.setHead k { h with precode := precoded h.lanes precode r }) k r)

/-- DIRECTED_SPEED_CHANGE (R142, R148): the link is in L0 at a rate other than the one the head advertises, because the
advertisement changed or because the link reached L0 below it. -/
def execDirectedSpeedChange (k : Fin 16) (s : State) : Host.Outcome State Fault Refusal :=
  let h := s.head k
  let adv := s.advertised k
  if h.link = .l0 ∧ h.rate.toNat ≠ adv then
    let t := s.setHead k { h with link := .speedChange }
    .next (t.lanesEnter h.lanes (if h.rate.toNat < adv then h.rate.toNat else adv - 1) adv)
  else .next s

/-- SPEED_CHANGE_COMPLETE (R135, R143). -/
def execSpeedChangeComplete (k : Fin 16) (rate : BitVec 3) (s : State) (precode : List (Fin 64) := []) :
    Host.Outcome State Fault Refusal :=
  let h := s.head k
  if h.link ≠ .speedChange then .next s else
  let r := min rate.toNat (s.advertised k)
  let t := s.setHead k { h with link := .l0, rate := BitVec.ofNat 3 r, precode := precoded h.lanes precode r }
  let t := h.lanes.foldl (fun t l => t.setFld (aLN_STATUS l) 2 3 r) t
  .next (t.cdatFollow k h.cap)

/-- LINK_RECOVERY_ENTRY (R166, 04 after R166). -/
def execLinkRecoveryEntry (k : Fin 16) (s : State) : Host.Outcome State Fault Refusal :=
  if (s.head k).link = .l0 then .next (s.setHead k { s.head k with link := .recovery }) else .next s

/-- LINK_RECOVERY_EXIT (R143). -/
def execLinkRecoveryExit (k : Fin 16) (s : State) : Host.Outcome State Fault Refusal :=
  if (s.head k).link = .recovery then .next (s.setHead k { s.head k with link := .l0 }) else .next s

/-- DESKEW_DRIFT_OVERFLOW (R162). -/
def execDeskewDriftOverflow (l : Fin 64) (s : State) : Host.Outcome State Fault Refusal :=
  let k := s.headOf l
  if (s.head k).link = .l0 ∧ (s.head k).lanes.contains l = true then
    .next ((s.setFlag (aLN_STATUS l) 13 true).setHead k { s.head k with link := .recovery })
  else .next s

/-- RECOVERY_FAILURE (R196): DL_Down after a failed Recovery. -/
def execRecoveryFailure (k : Fin 16) (s : State) : Host.Outcome State Fault Refusal :=
  if (s.head k).link = .recovery ∨ (s.head k).link = .speedChange then finish s (s.headDown k 0 .detect) else .next s

/-- HOT_RESET (R196). -/
def execHotReset (k : Fin 16) (s : State) : Host.Outcome State Fault Refusal :=
  if (s.head k).up then finish s (s.headDown k 3 .detect) else .next s

/-- LINK_DISABLE (R196). -/
def execLinkDisable (k : Fin 16) (s : State) : Host.Outcome State Fault Refusal :=
  if (s.head k).up then finish s (s.headDown k 3 .disabled) else .next s

/-- LOOPBACK_FOLLOWER_ENTRY (R171): whatever LN_TEST holds. -/
def execLoopbackFollowerEntry (k : Fin 16) (s : State) : Host.Outcome State Fault Refusal :=
  if (s.head k).up ∨ (s.head k).link = .training then finish s (s.headDown k 2 .loopback) else .next s

/-- PERST_N_ASSERT (R119, R196). -/
def execPerstNAssert (m : Fin 16) (s : State) : Host.Outcome State Fault Refusal :=
  let t := s.setFlag aMOD_PERST m.val false
  match (List.finRange 16).find? (fun (k : Fin 16) => t.present k.val && t.perstPin k.val == m.val) with
  | some k => finish s (t.headDown k 1 .detect)
  | none => .next t

/-- PERST_N_DEASSERT (R120). -/
def execPerstNDeassert (m : Fin 16) (s : State) : Host.Outcome State Fault Refusal :=
  .next (s.setFlag aMOD_PERST m.val true)

/-- FLIT_CRC_FAIL (R195): the flit is dropped and replayed. -/
def execFlitCrcFail (k : Fin 16) (s : State) : Host.Outcome State Fault Refusal :=
  if (s.head k).up then .next (s.bump (aHD_DOWN_CNT k) 16 16 1) else .next s

/-! Equalisation -/

/-- The request equals the setting in force (R154). -/
def eqMatches (v : Word) : EqRequest → Bool
  | .preset p => !v.getLsbD 4 && getBits v 0 4 == p.toNat
  | .coefficients pre2 pre1 post =>
    v.getLsbD 4 && getBits v 8 6 == pre2.toNat && getBits v 16 6 == pre1.toNat && getBits v 24 6 == post.toNat

/-- EQ_PHASE3_REQUEST (R154): the answer goes to the partner; the lane keeps its setting. -/
def execEqPhase3Request (l : Fin 64) (r : Fin 5) (request : EqRequest) (s : State) :
    Host.Outcome State Fault Refusal :=
  let v := match s.laneEq.find? (fun p => p.1 == l.val && p.2.1 == r.val) with
    | some p => p.2.2
    | none => s.eqEntry l r
  .next (s.emit (.eqAnswer l (eqMatches v request)))

/-- EQ_REDO_REQUEST (R148): on a lane of a link that runs at the rate. -/
def execEqRedoRequest (l : Fin 64) (r : Fin 5) (s : State) : Host.Outcome State Fault Refusal :=
  let h := s.head (s.headOf l)
  if h.up = true ∧ h.lanes.contains l = true ∧ h.rate.toNat = r.val + 2 then .next (s.laneEnter l r) else .next s

/-- EQ_BYPASS_REQUEST (R156): the training head goes directly to its highest rate, and its lanes enter equalisation there. -/
def execEqBypassRequest (k : Fin 16) (s : State) : Host.Outcome State Fault Refusal :=
  if (s.head k).link = .training then
    let t := s.setHead k { s.head k with bypass := true }
    .next (t.lanesEnter (t.head k).lanes (max 4 (t.advertised k - 1)) (t.advertised k))
  else .next s

/-- Bytes of the applied equalisation table in address order (R149). -/
def State.eqTableBytes (s : State) : List Byte :=
  (List.range 5).flatMap (fun r => (List.range 64).flatMap (fun l => toBytes 8 (s.reg (aLN_EQ r l)).toNat))

/-- EQ_DIGEST_DONE (R149). -/
def execEqDigestDone (s : State) : Host.Outcome State Fault Refusal :=
  if s.eqDigestBusy then
    .next (State.putDigest { s with eqDigestBusy := false } (aLANE_EQ_DIGEST 0) (shake256 s.eqTableBytes))
  else .next s

/-! Detectors (R164 to R166) -/

/-- Rising edges count while the lane is in the link, or test-owned with its checker enabled (R166). -/
def State.edgesCount (s : State) (l : Nat) : Bool :=
  s.flag (aLN_STATUS l) 5 || (s.flag (aLN_STATUS l) 14 && s.flag (aLN_TEST l) 2)

/-- LOS_ASSERT (R164, R166). -/
def execLosAssert (l : Fin 64) (linkIdle : Bool) (s : State) : Host.Outcome State Fault Refusal :=
  let t := s.setFlag (aLN_STATUS l) 0 true
  if s.flag (aLN_STATUS l) 0 = false ∧ linkIdle = false ∧ s.edgesCount l = true then
    finish s ((t.bump (aLN_CNT l) 0 16 1).raise 34 l 0)
  else .next t

/-- LOS_DEASSERT (R164). -/
def execLosDeassert (l : Fin 64) (s : State) : Host.Outcome State Fault Refusal :=
  .next (s.setFlag (aLN_STATUS l) 0 false)

/-- LOL_ASSERT (R165, R166). -/
def execLolAssert (l : Fin 64) (s : State) (linkIdle : Bool := false) : Host.Outcome State Fault Refusal :=
  let t := s.setFlag (aLN_STATUS l) 1 true
  if s.flag (aLN_STATUS l) 1 = false ∧ linkIdle = false ∧ s.edgesCount l = true then
    finish s ((t.bump (aLN_CNT l) 16 16 1).raise 35 l 0)
  else .next t

/-- LOL_DEASSERT (R165). -/
def execLolDeassert (l : Fin 64) (s : State) : Host.Outcome State Fault Refusal :=
  .next (s.setFlag (aLN_STATUS l) 1 false)

/-! Lane tests (R167 to R175) -/

/-- A bad configuration of R173. -/
def State.testBad (s : State) (l : Nat) (v : Word) : Bool :=
  let pattern := getBits v 3 3
  let rate := getBits v 9 3
  decide (4 < pattern) || decide (3 < getBits v 6 3) || (pattern == 4 && decide (rate < 5)) || decide (6 < rate)
    || (decide (2 ≤ rate ∧ rate ≤ 6) && !s.eqUsable l (rate - 2))

/-- R169 or R170 refuses the test. A far-end lead asked through another lane than the head's lowest is refused (log 40). -/
def State.testRefused (s : State) (l : Nat) (v : Word) : Bool :=
  let k := s.headOf l
  let h := s.head k
  if getBits v 6 3 = 3 then
    !((headLanes s.layout k).head? == some l && h.link == .l0 && (s.extCount k).1 == 0)
  else !(s.domOn (56 + l / 8) && (h.link == .detect || h.link == .disabled || !s.perstHigh k))

/-- The lane becomes test-owned with cleared counters (R172). -/
def State.testOwn (s : State) (l : Nat) : State :=
  let s := { s.setFlag (aLN_STATUS l) 14 true with laneErrs := sparsePut (fun _ => []) s.laneErrs l [] }
  ((s.setReg (aLN_ERRCNT l) 0).setReg (aLN_BITCNT l) 0).setFlag (aLN_TEST l) 14 false

/-- The lane's test ends. -/
def State.testFree (s : State) (l : Nat) : State :=
  (s.setFlag (aLN_STATUS l) 14 false).setFlag (aLN_TEST l) 14 false

/-- A test-owned lane runs at a rate code: LN_STATUS shows it, and the lane enters a table rate with its entry (R155,
R172). -/
def State.testAt (s : State) (l rate : Nat) : State :=
  let s := s.setFld (aLN_STATUS l) 2 3 rate
  if 2 ≤ rate then s.laneEnter l (rate - 2) else s

/-- ENABLE goes from 0 to 1 (R170, R172). -/
def State.testStart (s : State) (l : Nat) (v : Word) : State :=
  let k := s.headOf l
  let rate := getBits v 9 3
  let s := s.setFlag (aLN_TEST l) 0 true
  if getBits v 6 3 = 3 then
    let cap := (s.head k).cap
    let s := (headLanes s.layout k).foldl (fun s i => (s.testOwn i).testAt i rate) s
    let s := s.setHead k { s.head k with link := .loopback }
    s.cdatFollow k cap
  else (s.testOwn l).testAt l rate

/-- ENABLE goes from 1 to 0: far-end lead exits Loopback and the head returns through Detect (R170). -/
def State.testEnd (s : State) (l : Nat) : State :=
  let k := s.headOf l
  let lead := s.fld (aLN_TEST l) 6 3 = 3
  let s := s.setFlag (aLN_TEST l) 0 false
  if lead then
    let s := (headLanes s.layout k).foldl (fun s i => s.testFree i) s
    let s := s.laneStatus k [] 0 [] false
    s.setHead k { s.head k with link := .detect, lanes := [], reversed := false, rate := 0 }
  else (s.testFree l).setFld (aLN_STATUS l) 2 3 0

/-- LN_TEST as written (R169 to R173). -/
def State.testWrite (s : State) (l : Nat) (v : Word) : State :=
  if s.flag (aLN_TEST l) 0 then (if v.getLsbD 0 then s else s.testEnd l)
  else
    let s := s.setFld (aLN_TEST l) 1 11 (getBits v 1 11)
    let s := if v.getLsbD 12 then s.setFlag (aLN_TEST l) 12 false else s
    let s := if v.getLsbD 13 then s.setFlag (aLN_TEST l) 13 false else s
    if v.getLsbD 0 = false then s else
    let bad := s.testBad l v
    let busy := s.testRefused l v
    let s := if bad then s.setFlag (aLN_TEST l) 13 true else s
    let s := if busy then s.setFlag (aLN_TEST l) 12 true else s
    if bad || busy then s else s.testStart l v

/-- Bits flipped by a single or a burst injection (R174). -/
def injectBits (v : Word) : Nat :=
  match getBits v 0 2 with
  | 1 => 1
  | 2 => max 1 (getBits v 4 8)
  | _ => 0

/-- The checker of a lane compares its own stream. -/
def State.checking (s : State) (l : Nat) : Bool := s.flag (aLN_STATUS l) 14 && s.flag (aLN_TEST l) 14

/-- The generator of a lane runs: GEN of a test-owned lane, or far-end lead of its head (R170). -/
def State.generating (s : State) (l : Nat) : Bool :=
  s.flag (aLN_STATUS l) 14 && (s.flag (aLN_TEST l) 1 || (s.head (s.headOf l)).link == .loopback)

/-- The stream that an injection acts on runs (R175): the generator's, or the mission stream of a lane in its link while
MISSION_INJ permits it. -/
def State.injectable (s : State) (l : Nat) (mission : Bool) : Bool :=
  if mission then s.flag aLANE_CTRL 5 && s.flag (aLN_STATUS l) 5 && (s.head (s.headOf l)).up else s.generating l

/-- The places of the errors that a lane's checker remembers. -/
def State.errsOf (s : State) (l : Nat) : List Nat := sparseGet (fun _ => []) s.laneErrs l

/-- Those places replaced. -/
def State.setErrs (s : State) (l : Nat) (ps : List Nat) : State :=
  { s with laneErrs := sparsePut (fun _ => []) s.laneErrs l ps }

/-- A synchronised checker counts bit errors; with 32 of them within 1,024 bits it loses SYNC and counts no more (R168). -/
def State.countErrors (s : State) (l n : Nat) : State :=
  if s.checking l = false ∨ n = 0 then s else
  let p := (s.reg (aLN_BITCNT l)).toNat
  let old := (s.errsOf l).filter (fun q => decide (p < q + 1024))
  let m := min n (32 - old.length)
  let lost : Bool := decide (32 ≤ old.length + m)
  let s := s.setErrs l (if lost then [] else old ++ List.replicate m p)
  let s := s.bump (aLN_ERRCNT l) 0 64 m
  if lost then s.setFlag (aLN_TEST l) 14 false else s

/-- Bits of a stream flip: they leave on it, and the lane's own checker counts those of its generator (R174, R175). -/
def State.flipBits (s : State) (l : Nat) (mission : Bool) (n : Nat) : State :=
  let s := s.emit (.injected (lane64 l) mission n)
  if mission then s else s.countErrors l n

/-- LN_INJECT as written (R174, R175). An injection that finds no stream flips nothing (log 40). -/
def State.injectWrite (s : State) (l : Nat) (v : Word) : State :=
  let mission := v.getLsbD 2
  let go := v.getLsbD 3 && (!mission || s.flag aLANE_CTRL 5)
  let s := s.setReg (aLN_INJECT l) (putBits (v &&& 0x3FFFF) 3 1 (bit go))
  if go = true ∧ 0 < injectBits v ∧ s.injectable l mission = true then s.flipBits l mission (injectBits v) else s

/-- INJECT_DONE (R174). -/
def execInjectDone (l : Fin 64) (s : State) : Host.Outcome State Fault Refusal :=
  if s.flag (aLN_INJECT l) 3 = true ∧ (s.fld (aLN_INJECT l) 0 2 = 1 ∨ s.fld (aLN_INJECT l) 0 2 = 2) then
    .next (s.setFlag (aLN_INJECT l) 3 false)
  else .next s

/-- CHECKER_SYNC (R168): a synchronised checker counts the errors received since its last report; 64 error-free bits set
SYNC. -/
def execCheckerSync (l : Fin 64) (s : State) (errors : Nat := 0) : Host.Outcome State Fault Refusal :=
  if s.flag (aLN_STATUS l) 14 = true ∧ (s.flag (aLN_TEST l) 2 = true ∨ (s.head (s.headOf l)).link = .loopback) then
    .next ((s.countErrors l errors).setFlag (aLN_TEST l) 14 true)
  else .next s

/-- CHECKER_SYNC_LOSS (R168): the 32 errors are counted, and SYNC clears. -/
def execCheckerSyncLoss (l : Fin 64) (s : State) : Host.Outcome State Fault Refusal :=
  if s.checking l then .next (s.countErrors l 32) else .next s

/-- A rate code in quarter bits per stack-clock cycle (Table 4.1, R24). -/
def quarterBits (rate : Nat) : Nat :=
  match rate with
  | 0 => 5
  | 1 => 10
  | 2 => 16
  | 3 => 32
  | 4 => 64
  | 5 => 128
  | _ => 256

/-- The rate code at which a test-owned lane runs: in far-end lead the head's lowest lane sets it (R170, R172). -/
def State.testRate (s : State) (l : Nat) : Nat :=
  match (headLanes s.layout (s.headOf l)).head? with
  | some lo =>
    if s.flag (aLN_TEST lo) 0 = true ∧ s.fld (aLN_TEST lo) 6 3 = 3 then s.fld (aLN_TEST lo) 9 3
    else s.fld (aLN_TEST l) 9 3
  | none => s.fld (aLN_TEST l) 9 3

/-- The rate code of a lane's stream. -/
def State.streamRate (s : State) (l : Nat) (mission : Bool) : Nat :=
  if mission then (s.head (s.headOf l)).rate.toNat else s.testRate l

/-- Bits that a stream carries before a cycle. -/
def bitsBefore (rate cycle : Nat) : Nat := quarterBits rate * cycle / 4

/-- One cycle of a lane: a synchronised checker compares the cycle's bits, and a running rate injection flips one bit in every
2^RATE_EXP (R168, R174). -/
def State.laneCycle (s : State) (l : Nat) : State :=
  let s := if s.checking l then
      s.bump (aLN_BITCNT l) 0 64 (bitsBefore (s.testRate l) (s.cyc + 1) - bitsBefore (s.testRate l) s.cyc)
    else s
  let inj := s.reg (aLN_INJECT l)
  if getBits inj 0 2 ≠ 3 ∨ inj.getLsbD 3 = false ∨ s.injectable l (inj.getLsbD 2) = false then s else
  let e := max 10 (min 40 (getBits inj 12 6))
  let rate := s.streamRate l (inj.getLsbD 2)
  let n := bitsBefore rate (s.cyc + 1) / 2 ^ e - bitsBefore rate s.cyc / 2 ^ e
  if n = 0 then s else s.flipBits l (inj.getLsbD 2) n

end Sys2Proof.Machine
end

