-- ==== Sys2Proof/Machine/PowerOps.lean ====
section
/-! DEFINITION. The power controller: dependencies, refusals, the queue of requests, wakes on demand
(R339 to R342, R517 to R529). -/

namespace Sys2Proof.Machine

/-- Octets that carry a lane of a present head of pair `k` (Tables 3.6, 12.5). -/
def State.pairOctets (s : State) (k : Nat) : List Nat :=
  (List.range 8).filter (fun o => [2 * k, 2 * k + 1].any (fun h =>
    s.present h && (headLanes s.layout h).any (fun l => l / 8 == o)))

/-- The domains that a domain depends on while it is on (Table 12.5). -/
def State.dependsOn (s : State) (n : Nat) : List Nat :=
  if n < 16 then [16 + n]
  else if n < 40 then [40, 41]
  else if n < 43 then []
  else if n = 43 then [42]
  else if n < 48 then [40, 41, 42]
  else if n < 56 then [40, 41] ++ (s.pairOctets (n - 48)).map (fun o => 56 + o)
  else []

/-- The domain counts as on: on and in no transition, or on its way to on. -/
def Domain.holds (d : Domain) : Bool :=
  match d.moving with
  | none => d.st == .on
  | some (t, _, _) => t == .on

/-- As `Domain.holds`, by number. -/
def State.domHolds (s : State) (n : Nat) : Bool := if h : n < 64 then (s.dom ⟨n, h⟩).holds else false

/-- Channels of a layer's or a controller pair's domain. -/
def domChannels (n : Nat) : List Nat := if n < 32 then [2 * (n % 16), 2 * (n % 16) + 1] else []

/-- The stand-in of a lost channel is forming (XR_SI_STATUS.STATE 1 or 2). -/
def State.standinForming (s : State) (c : Nat) : Bool :=
  [0, 1].any (fun n => (s.fld (aXR_SI_STATUS n) 0 2 == 1 || s.fld (aXR_SI_STATUS n) 0 2 == 2)
    && s.fld (aXR_SI_STATUS n) 2 5 == c)

/-- A domain cannot leave on because a head's link is up (R139, cause 2). -/
def State.linkHolds (s : State) (n : Nat) : Bool :=
  (List.finRange 16).any (fun (k : Fin 16) => (s.head k).up
    && ((decide (48 ≤ n ∧ n < 56) && k.val / 2 == n - 48)
      || (decide (56 ≤ n ∧ n < 64) && (headLanes s.layout k.val).any (fun l => l / 8 == n - 56))))

/-- The carriages of a group are at work (R374, cause 3). -/
def State.groupBusy (s : State) (n : Nat) : Bool :=
  decide (44 ≤ n ∧ n < 48) && (List.finRange 32).any (fun (c : Fin 32) => c.val / 8 == n - 44
    && ((s.car c).st == .running || (s.car c).st == .waitt || (s.car c).st == .reserved))

/-- Slices that would remain on without slice `n`. -/
def State.slicesLeft (s : State) (n : Nat) : Nat :=
  ((List.range 8).filter (fun k => 32 + k != n && s.domHolds (32 + k))).length

/-- The first cause of Table 12.6 that holds for a domain of a request (R526); none when it complies. -/
def State.powerCause (s : State) (target : DomState) (mask : BitVec 64) (n : Nat) : Option Nat :=
  let leaving : Bool := target != .on && s.domHolds n
  let forming : Bool := (domChannels n).any (fun c => s.flag (aINT_CH_STATUS c) 0 || s.standinForming c)
  if leaving && (List.range 64).any (fun m => (s.dependsOn m).contains n && s.domHolds m && !s.pairAbsent m) then some 1
  else if leaving && s.linkHolds n then some 2
  else if leaving && s.groupBusy n then some 3
  else if (n = 42 ∨ n = 43) ∧ target ≠ .on then some 4
  else if forming then some 5
  else if s.fld aTH_STATUS 4 2 ≠ 0 then some 6
  else if n < 16 ∧ target = .off ∧ (s.flag aTT_IMAGE 0 = true ∨ s.grants ≠ []) then some 7
  else if leaving && decide (32 ≤ n ∧ n < 40) && decide (7 * s.slicesLeft n < ((List.range 17).map s.minOcc).sum) then some 8
  else if target = .on ∧ (s.dependsOn n).any (fun m => !(s.domOn m || (mask.getLsbD m && s.domHolds m))) = true then some 9
  else none

/-- Order in which a request's domains are handled (R525): for on, what others depend on first. -/
def powerOrder (target : DomState) : List Nat :=
  let up := [40, 41, 42, 43] ++ List.range' 56 8 ++ List.range' 16 24 ++ List.range' 44 12 ++ List.range 16
  if target = .on then up else up.reverse

/-- One domain of a request is judged: it complies, at once where it is in the target state already, or its bit enters the
refused mask (R339, R517, R526). Requests for absent head pairs are refused without a cause of Table 12.6, and during and after
a shutdown every request is refused (R516). -/
def State.judge (s : State) (r : PwrReq) (n : Fin 64) : State × BitVec 64 :=
  let d := s.dom n
  let bit : BitVec 64 := 1#64 <<< n.val
  if s.pairAbsent n then (s, bit)
  else if d.st = r.target ∧ s.fld aTH_STATUS 4 2 = 0 then (s, 0)
  else match s.powerCause r.target r.mask n with
  | some c => (s.setFld (aPWR_DOM n) 0 4 c, bit)
  | none =>
    let d := { d with moving := some (r.target, s.cyc, if r.thread then 0 else 4)
                      retained := if r.target = .retention then BitVec.ofNat 16 (s.fld (aPWR_DOM n) 16 16)
                                  else d.retained }
    (s.setDom n d, 0)

/-- A named domain of a request is in transition. -/
def State.namedMoving (s : State) (r : PwrReq) : Bool :=
  (List.finRange 64).any (fun (n : Fin 64) => r.mask.getLsbD n.val && (s.dom n).moving.isSome)

/-- The request is complete: PWR_REFUSED is written, its thread may have the mask, GO clears (R339, R526). -/
def State.finishRequest (s : State) (r : PwrReq) (rest : List PwrReq) : State :=
  let s := s.setReg aPWR_REFUSED r.refused
  let s := { s with power := { s.power with queue := rest } }
  let waiting : Bool := s.eng.threads.toList.any (fun th => match th.wait with | .power id _ => id == r.id | _ => false)
  if r.thread && !waiting then s
  else if r.thread then { s with power := { s.power with finished := s.power.finished ++ [(r.id, r.refused)] } }
  else if rest.any (fun q => !q.thread) then s else s.setFlag aPWR_MREQ_CTRL 2 false

/-- A request starts: its domains are judged in dependency order (R525). -/
def State.startRequest (s : State) (r : PwrReq) : State × PwrReq :=
  let order : List (Fin 64) := (powerOrder r.target).filterMap (fun n => if h : n < 64 then some ⟨n, h⟩ else none)
  let p := (order.filter (fun n => r.mask.getLsbD n.val)).foldl
    (fun (p : State × BitVec 64) n => let q := p.1.judge r n; (q.1, p.2 ||| q.2)) (s, 0)
  (p.1, { r with started := true, refused := p.2 })

/-- The queue of power requests moves on, one request at a time (R342); a domain in transition finishes first (R520).
The argument bounds the number of requests that end at once. -/
def State.pumpPower (s : State) : Nat → State
  | 0 => s
  | k + 1 =>
    match s.power.queue with
    | [] => s
    | r :: rest =>
      if s.namedMoving r then s
      else if r.started then State.pumpPower (s.finishRequest r rest) k
      else
        let p := s.startRequest r
        let s := { p.1 with power := { p.1.power with queue := p.2 :: rest } }
        if s.namedMoving p.2 then s else State.pumpPower (s.finishRequest p.2 rest) k

/-- The queue moves on as far as it can. -/
def State.pump (s : State) : State := s.pumpPower (s.power.queue.length + 1)

/-- A power request joins the controller's queue (R342, R524); its number. -/
def State.queuePower (s : State) (target : DomState) (mask : BitVec 64) (thread : Bool) : State × Nat :=
  let id := s.power.nextId
  let r : PwrReq := { id := id, target := target, mask := mask, started := false, refused := 0, thread := thread }
  (State.pump { s with power := { s.power with queue := s.power.queue ++ [r], nextId := id + 1 } }, id)

/-- Target of a power request by its code. -/
def domTarget (n : Nat) : DomState := if n = 0 then .on else if n = 1 then .retention else .off

/-- A wake on demand (R520, R527 to R529): a domain on its way out wakes once it is there. -/
def State.wake (s : State) (n : Nat) (src : Nat) : State :=
  if h : n < 64 then
    let d := s.dom ⟨n, h⟩
    match d.moving with
    | some (.on, _, _) => s
    | some _ => s.setDom ⟨n, h⟩ { d with wakeAfter := d.wakeAfter.or (some src) }
    | none => if d.st = .on then s else s.setDom ⟨n, h⟩ { d with moving := some (.on, s.cyc, src) }
  else s

end Sys2Proof.Machine
end

