-- ==== Sys2Proof/Machine/Wear.lean ====
section
/-! DEFINITION. Bond wear: rainflow counting of each layer's governing temperature (R121 to R130). Temperatures are in
quarter degrees. -/

namespace Sys2Proof.Machine

/-- A range between two temperatures. -/
def rangeOf (a b : Nat) : Nat := max a b - min a b

/-- `(ΔT / 40 K)²` in units of 1/65,536, truncated; nothing below 20 K (R124, R126). -/
def fullWeight (q : Nat) : Nat := if 80 ≤ q then q * q * 65536 / 25600 else 0

/-- Half of it (R124, R125). -/
def halfWeight (q : Nat) : Nat := if 80 ≤ q then q * q * 65536 / 51200 else 0

/-- The four-point rule on a stack, newest first, until it no longer applies; the count bounds the removals (R123). -/
def fourPoint : Nat → List Nat → List Nat × Nat
  | 0, l => (l, 0)
  | n + 1, l =>
    match l with
    | d :: c :: b :: a :: rest =>
      if rangeOf b c ≤ rangeOf a b ∧ rangeOf b c ≤ rangeOf c d then
        let p := fourPoint n (d :: a :: rest)
        (p.1, p.2 + fullWeight (rangeOf b c))
      else (l, 0)
    | _ => (l, 0)

/-- A reversal is pushed (R122 to R124): the new stack and what WEAR_COUNT gains. -/
def pushReversal (l : List Nat) (x : Nat) : List Nat × Nat :=
  let full : Bool := 32 ≤ l.length
  let half := if full then halfWeight (rangeOf (l.getD 31 0) (l.getD 30 0)) else 0
  let p := fourPoint 32 (x :: (if full then l.take 31 else l))
  (p.1, p.2 + half)

/-- Sum of the half weights of adjacent entries (R125). -/
def residue : List Nat → Nat
  | a :: b :: l => halfWeight (rangeOf a b) + residue (b :: l)
  | _ => 0

/-- One sample of a layer's temperature (R122). Before any reversal the current direction is that of the first sample that
differs from the first one (log 41). -/
def Wear.sample (w : Wear) (x : Nat) : Wear × Nat :=
  if w.stack.isEmpty then ({ w with stack := [x], extreme := x }, 0) else
  match w.rising with
  | none =>
    if x = w.extreme then (w, 0) else ({ w with rising := some (decide (w.extreme < x)), extreme := x }, 0)
  | some up =>
    let onward : Bool := if up then decide (w.extreme ≤ x) else decide (x ≤ w.extreme)
    if onward then ({ w with extreme := x }, 0)
    else if 8 ≤ rangeOf w.extreme x then
      let p := pushReversal w.stack w.extreme
      ({ w with rising := some (!up), extreme := x, stack := p.1 }, p.2)
    else (w, 0)

/-- WEAR_WARN and WEAR_LIMIT the first time WEAR_TOTAL reaches 80 % and 100 % of the rating (R130). -/
def State.wearCheck (s : State) (n : Fin 18) : State :=
  let total := s.wearTotal n
  let rating := s.fld aWEAR_RATING 0 16 * 65536
  let w := s.therm.wear[n]
  let warn := !w.warned && decide (8 * rating ≤ 10 * total)
  let limit := !w.limited && decide (rating ≤ total)
  let w := { w with warned := w.warned || warn, limited := w.limited || limit }
  let s := { s with therm := { s.therm with wear := s.therm.wear.set n w } }
  let s := if warn then (s.setFlag aWEAR_WARN n true).raise 11 n total else s
  if limit then (s.setFlag aWEAR_LIMIT n true).raise 12 n total else s

/-- A layer's governing temperature is sampled for wear (R121 to R126). -/
def State.wearSample (s : State) (n : Fin 18) (x : Nat) : State :=
  let (w, gain) := (s.therm.wear[n]).sample x
  let s := { s with therm := { s.therm with wear := s.therm.wear.set n w } }
  let s := s.bump (aWEAR_COUNT n) 0 32 gain
  let s := s.setReg (aWEAR_RESID n) (BitVec.ofNat 64 (satAt 32 (residue (w.extreme :: w.stack))))
  s.wearCheck n

end Sys2Proof.Machine
end

