-- ==== Sys2Proof/Machine/RegWrite.lean ====
section
/-! DEFINITION. Register accesses on every path: bus errors, locked and write-once writes, what each register does when
it is written (R568 to R576 and the register tables). -/

namespace Sys2Proof.Machine

/-! Legality (R16, R568) -/

/-- The register at an address is wide; none for a reserved address. Snapshot copies are registers too (R602). -/
def regWide (a : Nat) : Option Bool :=
  match regLookup a with
  | some (r, _, _) => some r.wide
  | none =>
    match snapSource a with
    | some b =>
      match regLookup b with
      | some (r, _, _) => some r.wide
      | none => none
    | none => none

/-- The access is one of the two legal forms. -/
def busOk (a width : Nat) : Bool :=
  match regWide a with
  | some true => width == 8 && a % 8 == 0
  | some false => width == 4 && a % 4 == 0
  | none => false

/-! Locked writes (R571) -/

/-- A write that a rule forbids to its path, to the register's present state or to a master that does not own the
resource. -/
def State.writeLocked (s : State) (p : Path) (r : RegName) (i : Nat) (a : Nat) (v : Word) : Bool :=
  let thread := match p with
    | .thread _ => true
    | _ => false
  let foreign := match p with
    | .head k => k.val != s.mgmtHead
    | _ => false
  let mgmt := s.management p
  foreign ||
  match r with
  | .TT_PC | .TT_G =>
    !(mgmt && (if h : i < 8 then (s.thread ⟨i, h⟩).st == .frozen || (s.thread ⟨i, h⟩).st == .halted else false))
  | .TT_HALT | .TT_THAW | .TT_CTRL | .CAR_THAW | .PWR_MREQ | .PWR_MREQ_CTRL => !mgmt
  | .CR_WIN_BASE | .CR_WIN_LIMIT | .CR_WIN_HEADS =>
    !(if h : i < 32 then (s.car ⟨i, h⟩).st == .idle || (s.car ⟨i, h⟩).st == .stopped else false)
  | .OTP_CTRL => !thread || (!v.getLsbD 0 && s.lockBlown 7)
  | .OWN_REQ_IMG => !thread
  | .OWN_REQ_FM => !mgmt
  | .TC_VALUE | .TC_PERIOD | .TC_TOL | .TC_CTRL =>
    s.tcOwner i != s.ownerCode p || s.ownerCode p == 0 || s.tcHeld i
  | .CTL_UPD_NOW => thread
  | .CTL_FREEZE => thread && s.flag aCTL_LOCK 1
  | .FC_SRC_CFG => thread && s.flag aCTL_LOCK 0
  | .CTL_LOCK => thread
  | .AUX_CFG =>
    (getBits v 0 4 != s.fld a 0 4 && s.auxOwner 0 != s.ownerCode p)
      || (getBits v 4 4 != s.fld a 4 4 && s.auxOwner 1 != s.ownerCode p)
  | .SNAP_CTRL => thread && v.getLsbD 0
  | .SU_CTRL => !thread
  | _ => false

/-- A second write to a write-once register (R575). -/
def State.writeAgain (s : State) (r : RegName) (i : Nat) : Bool :=
  match r with
  | .WEAR_BASE => s.flag aWEAR_STATUS i
  | .CTL_LOCK => s.lockWritten
  | _ => false

/-- The outcome of the checks of R571. -/
inductive WriteCheck where
  | ok | bus | locked | again
  deriving DecidableEq, Repr

/-- The checks of a write, in order: bus error, locked, write-once (R571). -/
def State.checkWrite (s : State) (p : Path) (a width : Nat) (v : Word) : WriteCheck :=
  if busOk a width = false then .bus else
  match regLookup a with
  | some (r, i, _) =>
    if s.writeLocked p r.name i a v then .locked else if s.writeAgain r.name i then .again else .ok
  | none => if (match p with | .head k => k.val != s.mgmtHead | _ => false) then .locked else .ok

/-- A dropped locked or write-once write (R576): the sticky flag, the latch, LOCKED_WRITE; the violation apart. -/
def State.dropWrite (s : State) (p : Path) (a : Nat) (again : Bool) : State :=
  let s := s.setFlag aCTL_STICKY (a / 0x10000 % 16) true
  let s := if s.flag aCTL_STICKY_SRC 29 then s else
    s.setReg aCTL_STICKY_SRC (packBits [(0, 20, a), (20, 8, pathCode p), (28, 1, bit again), (29, 1, 1)])
  s.raise 1 (pathCode p) a

/-- A bus error (R570). -/
def State.busError (s : State) (p : Path) (a : Nat) : State := s.raise 0 (pathCode p) a

/-! Effects of single registers -/

/-- TT_THAW bits (R351). -/
def State.ttThaw (s : State) (v : Word) : State :=
  (List.finRange 8).foldl (fun s (t : Fin 8) =>
    let th := s.thread t
    if v.getLsbD t.val ∧ (th.st = .frozen ∨ th.st = .halted) then
      s.setThread t { th with st := .run, wait := .none, haltReq := false }
    else s) s

/-- CAR_THAW bits (R371). -/
def State.carThaw (s : State) (v : Word) : State :=
  (List.finRange 32).foldl (fun s (c : Fin 32) =>
    if v.getLsbD c.val ∧ (s.car c).st = .frozen then s.setCar c { s.car c with st := .stopped } else s) s

/-- LC_CTRL.FLUSH (R243): every line dirty at this moment is to be written back. -/
def State.startFlush (s : State) : State :=
  let dirty := (s.cache.filter (fun l => l.dirty)).map (fun l => l.line)
  { s.setFlag aLC_CTRL 0 true with mem := { s.mem with flush := dirty } }

/-- Spares of a bank in use (R432). -/
def State.sparesUsed (s : State) (ch bank : Nat) : Nat :=
  (s.integ.repairs.filter (fun r => r.1 == ch && r.2.1 == bank)).length

/-- RPR_CMD with GO (R432, R433). -/
def State.startRepair (s : State) (v : Word) : State :=
  let ch := getBits v 0 5
  let bank := getBits v 5 6
  let row := getBits v 11 14
  let refuse (n : Nat) : State := s.setFld aRPR_STATUS 1 3 n
  if s.integ.repairing.isSome then refuse 4
  else if (if h : ch < 32 then (s.chan ⟨ch, h⟩).mode == .lost else true) || s.flag (aINT_CH_STATUS ch) 0 then refuse 3
  else if 2 ≤ s.sparesUsed ch bank then refuse 1
  else
    let spare := bit (s.integ.repairs.any (fun r => r.1 == ch && r.2.1 == bank && r.2.2.1 == 0))
    let s := { s with integ := { s.integ with repairing := some { chan := ch, bank := bank, row := row, spare := spare, moved := 0 } } }
    s.setReg aRPR_STATUS (packBits [(0, 1, 1), (4, 1, spare)])

/-- RET_ADD with GO (R431). -/
def State.retirePage (s : State) (v : Word) : State :=
  let page := getBits v 12 24
  if s.integ.retired.contains page then s.setFlag aRET_STATUS 12 true
  else if 1024 ≤ s.integ.retired.length then s.setFlag aRET_STATUS 11 true
  else { s with integ := { s.integ with retired := s.integ.retired ++ [page] } }

/-- PWR_MREQ_CTRL (R524). -/
def State.mgmtPower (s : State) (v : Word) : State :=
  let target := getBits v 0 2
  if target = 3 then s else
  let s := s.setFld aPWR_MREQ_CTRL 0 2 target
  if v.getLsbD 2 then ((s.setFlag aPWR_MREQ_CTRL 2 true).queuePower (domTarget target) (s.reg aPWR_MREQ) false).1 else s

/-- SNAP_CTRL (R599, R600). -/
def State.snapCtrl (s : State) (v : Word) : State :=
  let s := s.setReg aSNAP_CTRL (packBits [(2, 4, getBits v 2 4)])
  let s := if v.getLsbD 0 ∧ s.flag aSNAP_CTRL 4 = true then s.snapTrigger 4 0 0 else s
  if v.getLsbD 1 then s.snapRearm else s

/-- SU_CTRL.OPEN (R628, R629). -/
def State.openService (s : State) (v : Word) : State :=
  if v.getLsbD 0 = false ∨ s.flag aSU_CTRL 0 = true then s else
  let st := s.suStatus
  if st.getLsbD 9 && st.getLsbD 11 && st.getLsbD 12 then
    ((s.setFlag aSU_CTRL 0 true).setFld aSU_STATUS 0 4 9).setReg (aSU_STEP_RT 9) s.nowW
  else s.setFlag aSU_STATUS 15 true

/-- WEAR_BASE (R128 to R130). -/
def State.wearBase (s : State) (n : Nat) (v : Word) : State :=
  let s := (s.setReg (aWEAR_BASE n) v).setFlag aWEAR_STATUS n true
  if h : n < 18 then s.wearCheck ⟨n, h⟩ else s

/-- TU_ACK (R69, R70): the acknowledgement ends step hold; an initial set follows. -/
def State.tuAck (s : State) (v : Word) : State :=
  if v.getLsbD 0 ∧ s.tu.stepHold = true then
    State.retrust { s with tu := { s.tu with stepHold := false, needSet := true } }
  else s

/-- A register without behaviour of its own (R572 to R575): RW fields at once, RP fields pending, W1C fields cleared,
the first write of WO fields. -/
def State.plainWrite (s : State) (row : RegRow) (a : Nat) (v : Word) : State :=
  let rw := BitVec.ofNat 64 (row.rw ||| row.wo)
  let old := s.reg a
  let s := s.setReg a (((old &&& ~~~rw) ||| (v &&& rw)) &&& ~~~(v &&& BitVec.ofNat 64 row.w1c))
  if row.rp = 0 then s else s.makePending a (v &&& BitVec.ofNat 64 row.rp)

/-- The effect of a write that passed its checks. -/
def State.applyWrite (s : State) (a : Nat) (value : Word) : State :=
  match regLookup a with
  | none => s
  | some (row, i, j) =>
    let v : Word := if row.wide then value else value &&& 0xFFFFFFFF
    match row.name with
    | .TC_CTRL => if h : i < 64 then s.tcCtrlApply ⟨i, h⟩ v else s
    | .TC_VALUE => if h : i < 64 then s.tcValueApply ⟨i, h⟩ v else s
    | .TT_HALT => (List.finRange 8).foldl (fun s (t : Fin 8) => if v.getLsbD t.val then s.haltThread t else s) s
    | .TT_THAW => s.ttThaw v
    | .TT_PC => if h : i < 8 then
        s.setThread ⟨i, h⟩ { s.thread ⟨i, h⟩ with pc := (v.setWidth 23) &&& 0x7FFFF8 } else s
    | .TT_G => if h : i < 8 ∧ 0 < j ∧ j < 16 then
        s.setThread ⟨i, h.1⟩ { s.thread ⟨i, h.1⟩ with g := (s.thread ⟨i, h.1⟩).g.set j v h.2.2 } else s
    | .CAR_THAW => s.carThaw v
    | .CR_STATUS => if h : i < 32 then
        (if v.getLsbD 3 then s.setCar ⟨i, h⟩ { s.car ⟨i, h⟩ with late := false } else s) else s
    | .LC_CTRL => if v.getLsbD 0 then s.startFlush else s
    | .RPR_CMD =>
      let s := s.setReg a (v &&& 0x1FFFFFF)
      if v.getLsbD 31 then s.startRepair v else s
    | .RET_ADD =>
      let s := s.setReg a (v &&& 0xFFFFFF000)
      if v.getLsbD 0 then s.retirePage v else s
    | .PWR_MREQ_CTRL => s.mgmtPower v
    | .OTP_CTRL => (s.plainWrite row a v).supplyWatch
    | .OTP_CMD =>
      let s := s.setReg a (v &&& 0xFFF)
      if v.getLsbD 31 then s.otpCommand (getBits v 9 3) (getBits v 0 9) else s
    | .CTL_UPD_NOW => (s.strobe (getBits v 0 16) false).1
    | .CTL_UPD_DISCARD => s.discard (getBits v 0 16)
    | .OWN_REQ_IMG => s.ownRequest 1 v
    | .OWN_REQ_FM => s.ownRequest 2 v
    | .SNAP_CTRL => s.snapCtrl v
    | .SU_CTRL => s.openService v
    | .LN_TEST => s.testWrite i v
    | .LN_INJECT => s.injectWrite i v
    | .WEAR_BASE => s.wearBase i v
    | .TU_ACK => s.tuAck v
    | .CTL_LOCK => { s.plainWrite row a v with lockWritten := true }
    | .FC_SRC_CFG => if (faultClass i).isSome then s.plainWrite row a v else s
    | .FC_SRC_STAT =>
      if (faultClass i).isSome && v.getLsbD 8 then (s.setFlag a 8 false).setFld a 0 8 0 else s
    | .FC_FIRST => if v.getLsbD 8 then (s.setFlag a 8 false).setFlag a 9 false else s
    | _ => s.plainWrite row a v

/-! Whole accesses by path -/

/-- The path can carry an access: a head's link is up; a management path is enabled; I3C has its dynamic address and
answers from the end of step 2, or while the device is held in reset (R116, R176, R205, R206, R618). -/
def State.pathOpen (s : State) : Path → Bool
  | .head k => s.present k && (s.head k).up
  | .thread _ => true
  | .i3c => s.flag aHEAD_GCTRL 4 && s.mgmt.i3cAddr.isSome && (s.pins.held || decide (3 ≤ s.fld aSU_STATUS 0 4))
  | .mc => true
  | .vdm => s.flag aHEAD_GCTRL 5 && (if h : s.mgmtHead < 16 then s.present s.mgmtHead && (s.head ⟨s.mgmtHead, h⟩).up
      else false)

/-- The violation that a dropped write raises (R576, R585); nothing for the FM API, the management controller, or a
thread's write that was dropped at delivery. -/
def State.dropViolation (s : State) (p : Path) (a : Nat) (again : Bool) : State :=
  match p with
  | .head k => s.headViolation k (if again then 5 else 4) a s.stamp
  | _ => s

/-- A register write on a path (R568 to R576, R585). Answers Invalid Input to a bus error on the FM API (R213). -/
def State.writeReg (s : State) (p : Path) (a width : Nat) (v : Word) : State × Bool :=
  match s.checkWrite p a width v with
  | .bus => (s.busError p a, false)
  | .locked => ((s.dropWrite p a false).dropViolation p a false, true)
  | .again => ((s.dropWrite p a true).dropViolation p a true, true)
  | .ok => (s.applyWrite a v, true)

/-- A write of a 32-bit register at its address by a path, as its own command. -/
def State.commandWrite (s : State) (p : Path) (a width : Nat) (v : Word) : Host.Outcome State Fault Refusal :=
  if s.pathOpen p then finish s (s.writeReg p a width v).1 else .next s

/-- A register read on a path with its side effects; none for a bus error. -/
def State.readReg (s : State) (p : Path) (a width : Nat) : State × Option Word :=
  if busOk a width then (s.readEffects a, some (s.peek a)) else (s.busError p a, none)

end Sys2Proof.Machine
end

