-- ==== Sys2Proof/Machine/Issue.lean ====
section
/-! DEFINITION. Issue, completion, waits and freezes of Criost instructions, and the program store (R291 to R304, R317 to
R319, R347 to R350). -/

namespace Sys2Proof.Machine

/-- An address in the code region (Table 8.2). -/
def State.inCode (s : State) (a : Nat) : Bool := decide (a < s.fld aTT_CODE_END 0 23)

/-- An address from which an instruction may be fetched (R293, R318). -/
def State.fetchable (s : State) (a : Nat) : Bool := a % 8 == 0 && s.inCode a

/-- The address may be loaded from (Table 8.2). -/
def loadable (a : Nat) : Bool := decide (a < 0x800000)

/-- The address may be stored to (Table 8.2). -/
def State.storable (s : State) (a : Nat) : Bool := !s.inCode a && decide (a < 0x400000)

/-! The issue stage (R294 to R296). A command of this chapter stands for an instruction in its execute cycle: the stages of
all instructions are two engine cycles apart, so order and intervals are those of the issue cycles (log 8). -/

/-- A thread is ready: RUN, its last instruction finished, the issue interval elapsed (R294, R295). -/
def State.ready (s : State) (t : Fin 8) : Bool :=
  (s.thread t).st == .run && (s.thread t).wait == .none && !(s.thread t).haltReq && decide ((s.thread t).readyAt ≤ s.ecyc)

/-- A thread is at a YIELD of 0 and would otherwise be ready: its turn passes (Table 8.7). -/
def State.passing (s : State) (t : Fin 8) : Bool :=
  (s.thread t).st == .run && (s.thread t).wait == .yield 0 && decide ((s.thread t).readyAt ≤ s.ecyc)

/-- The rotation: the threads in order, from one past the thread that issued last (R294). -/
def State.rotation (s : State) : List (Fin 8) := (List.finRange 8).map (fun i => s.eng.lastIssuer + 1 + i)

/-- The thread issues its next instruction now: it is the first ready one of the rotation, no other has issued in this
engine cycle, and this is the first stack-clock cycle of it (R294, R296). -/
def State.canIssue (s : State) (t : Fin 8) : Bool :=
  s.ready t && s.tu.cycle % 2 == 0 && s.eng.issuedAt != some s.ecyc && s.rotation.find? s.ready == some t

/-- An instruction is counted as issued (TT_ISSUE, TT_ISSUED), with its issue interval (R294, R295). -/
def State.countIssue (s : State) (t : Fin 8) (cycles : Nat) : State :=
  let s := (s.bump aTT_ISSUE 0 64 1).bump (aTT_ISSUED t) 0 64 1
  let s := { s with eng := { s.eng with lastIssuer := t, issuedAt := some s.ecyc } }
  s.setThread t { s.thread t with readyAt := s.ecyc + cycles }

/-- The program counter advances by 8 (R293). -/
def State.advance (s : State) (t : Fin 8) : State := s.setThread t { s.thread t with pc := (s.thread t).pc + 8 }

/-- The thread's program counter as a number. -/
def State.pcOf (s : State) (t : Fin 8) : Nat := (s.thread t).pc.toNat

/-- An instruction of thread `t` issues with its opcode, fields and issue interval, and does `body` (R294, R305, R347):
no effect unless the thread can issue; a program counter outside the code freezes it with reason 3, an illegal word with
reason 2. -/
def State.issue (s : State) (t : Fin 8) (op : Nat) (f : InsnFields) (cycles : Nat) (body : State → State) : State :=
  if s.canIssue t = false then s
  else if s.fetchable (s.pcOf t) = false then s.threadViolation t 3 0 (s.pcOf t) false
  else
    let s := s.countIssue t cycles
    if insnLegal op f = false then s.threadViolation t 2 (insnWord op f) (s.pcOf t) false else body s

/-- An instruction that does `body` and advances the program counter. -/
def State.plain (s : State) (t : Fin 8) (op : Nat) (f : InsnFields) (cycles : Nat) (body : State → State) : State :=
  s.issue t op f cycles (fun s => (body s).advance t)

/-- An out-of-range access of the issuing instruction (R303, R317 to R319). -/
def State.outOfRange (s : State) (t : Fin 8) (op : Nat) (f : InsnFields) (a : Nat) : State :=
  s.threadViolation t 3 (insnWord op f) a false

/-! Waits -/

/-- The thread enters WAIT for a condition; its program counter stays on the instruction (R353). -/
def State.enterWait (s : State) (t : Fin 8) (w : WaitCond) : State :=
  s.setThread t { s.thread t with st := .wait, wait := w }

/-- The thread leaves WAIT (R301, TT_WAKE_RT). -/
def State.leaveWait (s : State) (t : Fin 8) : State :=
  (s.setThread t { s.thread t with st := .run, wait := .none, pc := (s.thread t).pc + 8 }).setReg (aTT_WAKE_RT t) s.nowW

/-- The thread's wait began in an earlier engine cycle: every instruction that waits has an interval of 2 (R301). -/
def State.waitAged (s : State) (t : Fin 8) : Bool := decide ((s.thread t).readyAt ≤ s.ecyc + 1)

/-- A TWAIT whose value RT has reached by `now` ends: gd takes RT (R329). -/
def State.twaitLeave (s : State) (now : Nat) (t : Fin 8) : State :=
  match (s.thread t).wait with
  | .time v d => if v ≤ now ∧ (s.thread t).st = .wait then (s.setGpr t d s.nowW).leaveWait t else s
  | _ => s

/-- An unfinished instruction of a thread in RUN ends: CRD or CWR; a halt that waited takes the thread now (R353). -/
def State.endBlocked (s : State) (t : Fin 8) : State :=
  let th := s.thread t
  s.setThread t { th with st := if th.haltReq then .halted else th.st, wait := .none, haltReq := false, pc := th.pc + 8 }

/-! The program store -/

/-- The 64-byte line of an address. -/
def lineOf (a : Nat) : Nat := a / 64

/-- A word of the device tables (R448, Tables 10.6 to 10.8, 9.6); none where no chapter gives a layout. -/
def State.tableWord (s : State) (a : Nat) : Option Word :=
  if 0x7E0000 ≤ a ∧ a < 0x7E0800 then
    let n := (a - 0x7E0000) / 8
    match s.integ.ce[n / 4]? with
    | some e => some (e.words.getD (n % 4) 0)
    | none => some 0
  else if 0x7E0800 ≤ a ∧ a < 0x7E0C00 then
    let n := (a - 0x7E0800) / 8
    match s.integ.ue[n / 4]? with
    | some e => some (e.words.getD (n % 4) 0)
    | none => some 0
  else if 0x7E1000 ≤ a ∧ a < 0x7F1000 then
    let n := (a - 0x7E1000) / 8 % 4096
    match s.integ.repairs.find? (fun r => (r.1 * 64 + r.2.1) * 2 + r.2.2.1 == n) with
    | some r => some (packBits [(0, 14, r.2.2.2), (15, 1, 1)])
    | none => some 0
  else if 0x7F1000 ≤ a ∧ a < 0x7F5000 then
    let n := (a - 0x7F1000) / 8 % 1024
    match s.integ.retired[n]? with
    | some p => some (packBits [(0, 1, 1), (12, 24, p)])
    | none => some 0
  else if 0x7FF000 ≤ a ∧ a < 0x7FF400 then some (BitVec.ofNat 64 (Memory.getN s.pstore a 8))
  else none

/-- The 64 bits at an 8-aligned address: code, data and the seal bitmap from the store, tables as their chapters lay
them out, free where none does (log 2). -/
def State.storeWord (s : State) (a : Nat) : State × Word :=
  if a < 0x600000 then (s, BitVec.ofNat 64 (Memory.getN s.pstore a 8))
  else
    match s.tableWord a with
    | some w => (s, w)
    | none => (s.freeNext, s.free)

/-- TT_FLAGS.DLOST set (R304). -/
def State.dlost (s : State) (t : Fin 8) : State := s.setFlag (aTT_FLAGS t) 9 true

/-- The SRAM record of lost data: it is sent for action 3 only, to the fabric manager (R447, Table 10.5). -/
def State.sramLost (s : State) (memory addr dpa : Nat) : State :=
  s.toFm .informational (s.record 0x22 63 [(12, 1, memory), (13, 1, 3), (16, 4, addr), (20, 8, dpa)])

/-- A read of a table that is held in two copies: a failing copy is rewritten from the good one; the loss of both copies is
TABLE_LOST (R435, R436, Table 10.3). -/
def State.tableCheck (s : State) (chk : SramCheck) (addr : Nat) : State :=
  match chk with
  | .good => s
  | .oneCopy => s.raise 63 0 addr
  | .bothCopies => ((s.raise 63 0 addr).sramLost 2 addr 0).raise 65 0 addr

/-- The bitmap bit of a granule (R383). -/
def State.granuleBit (s : State) (g : Nat) : Bool := (Memory.get s.pstore (0x400000 + g / 8)).getLsbD (g % 8)

/-- The bitmap bit of a granule set. -/
def State.setGranule (s : State) (g : Nat) : State :=
  let a := 0x400000 + g / 8
  { s with pstore := Memory.set s.pstore a (Memory.get s.pstore a ||| BitVec.ofNat 8 (2 ^ (g % 8))) }

/-- The granule counts as saved: its bit is set or its span is damaged (R393, R394). -/
def State.granuleSaved (s : State) (i : Fin 4) (g : Nat) : Bool :=
  s.granuleBit g || (s.seal i).spans.contains (g / 512)

/-- Granules of a seal's region that count as saved: those it saved, and those of its damaged spans whose bit is not set
(R393, R394). -/
def State.savedGranules (s : State) (i : Fin 4) : Nat :=
  let x := s.seal i
  let lost (span : Nat) : Nat := ((List.range 512).filter (fun j =>
    let g := span * 512 + j
    decide (x.base / 4096 ≤ g) && decide (g < (x.base + x.len) / 4096) && !s.granuleBit g)).length
  x.saved + (x.spans.map lost).sum

/-- A seal whose every granule is saved is COMPLETE in that cycle (R393). Granules that stand in its staging are still
written to the snapshot area (R387). -/
def State.sealCheck (s : State) (i : Fin 4) : State :=
  let x := s.seal i
  if x.st ≠ .active ∨ s.savedGranules i < x.len / 4096 then s else
  let s := x.carriages.foldl (fun s c =>
    let k := s.car c
    if k.st = .reserved then
      (s.setCar c { k with st := .idle, flight := [], ahead := 0, run := k.run + 1, share := none, elem := none, abort := none }).carEvent c
    else s) s
  let s := s.tcFree x.comp
  let s := { s with mem := { s.mem with accept := x.heldWrites ++ s.mem.accept } }
  let s := s.setSeal i { x with st := .complete, heldWrites := [], copies := [] }
  let s := if h : x.thread.toNat < 8 then s.setEvents ⟨x.thread.toNat, h⟩ (x.sigs.setWidth 16) else s
  s.sealRecord i (if x.damaged then 1 else 0)

/-- Held writes of granules that count as saved proceed (R386, R394). -/
def State.releaseHeld (s : State) (i : Fin 4) : State :=
  let x := s.seal i
  let go := x.heldWrites.filter (fun r => s.granuleSaved i (r.line / 64))
  let s := s.setSeal i { x with heldWrites := x.heldWrites.filter (fun r => !s.granuleSaved i (r.line / 64)) }
  { s with mem := { s.mem with accept := go ++ s.mem.accept } }

/-- A bitmap line is damaged: its span in every armed or active seal that holds granules of it (R394). -/
def State.spanDamaged (s : State) (span : Nat) : State :=
  (List.finRange 4).foldl (fun s (i : Fin 4) =>
    let x := s.seal i
    if (x.st = .active ∨ x.st = .armed) ∧ x.base / 2 ^ 21 ≤ span ∧ span * 2 ^ 21 < x.base + x.len
        ∧ x.spans.contains span = false then
      let s := s.setSeal i { x with damaged := true, damage := x.damage + 1, spans := x.spans ++ [span],
                                    copies := x.copies.filter (fun h => h.granule / 512 != span) }
      ((s.raise 53 i (span * 2 ^ 21)).releaseHeld i).sealCheck i
    else s) s

/-- The entries of a table line are dropped (Table 10.3): two entries of 32 bytes. -/
def dropPair {α : Type} (l : List α) (n : Nat) : List α := l.take (2 * n) ++ l.drop (2 * n + 2)

/-- What a load does when the line fails its check (R304, R394, R435, R436, Table 10.3): the state, and whether the load
returns 0 in place of the data. `bothFail` says that a map's other copy fails too. -/
def State.lineFails (s : State) (t : Fin 8) (a : Nat) (bothFail : Bool) : State × Bool :=
  let s := s.raise 63 0 a
  if a < 0x400000 then
    if s.inCode a = false ∧ s.eng.storedLines.contains (lineOf a) = true then
      let s := s.dlost t
      let s := s.sramLost 1 (64 * lineOf a) 0
      let s := s.raise 48 t a
      ({ s with pstore := Memory.setBytes s.pstore (64 * lineOf a) (List.replicate 64 0),
                eng := { s.eng with storedLines := s.eng.storedLines.filter (fun l => l != lineOf a) } }, true)
    else (s, false)
  else if a < 0x600000 then (((s.sramLost 2 (64 * lineOf a) 0).dlost t).spanDamaged ((a - 0x400000) / 64), true)
  else if 0x7E0000 ≤ a ∧ a < 0x7E0800 then
    let n := (a - 0x7E0000) / 64
    let s := { s with integ := { s.integ with ce := dropPair s.integ.ce n } }
    (((s.setFlag aINT_GSTATUS 0 true).dlost t).sramLost 2 (64 * lineOf a) 0, true)
  else if 0x7E0800 ≤ a ∧ a < 0x7E0C00 then
    let n := (a - 0x7E0800) / 64
    let s := { s with integ := { s.integ with ue := dropPair s.integ.ue n } }
    ((((s.setFlag aINT_GSTATUS 1 true).raise 59 0 a).dlost t).sramLost 2 (64 * lineOf a) 0, true)
  else if bothFail = true ∧ 0x7E1000 ≤ a ∧ a < 0x7F5000 then
    (((s.sramLost 2 (64 * lineOf a) 0).raise 65 0 a).dlost t, true)
  else (s, false)

/-- A load of 8 or 4 bytes: the value, zero-extended. -/
def State.loadValue (s : State) (t : Fin 8) (a width : Nat) (checkFails bothFail : Bool) : State × Word :=
  let p := if checkFails then s.lineFails t a bothFail else (s, false)
  if p.2 then (p.1, 0) else
  let q := p.1.storeWord (a / 8 * 8)
  if width = 8 then (q.1, q.2)
  else (q.1, (if a % 8 = 4 then q.2 >>> 32 else q.2) &&& 0xFFFFFFFF)

/-- A store into the data region marks its line as stored to (R304). -/
def State.storeValue (s : State) (a width : Nat) (v : Word) : State :=
  let s := { s with pstore := Memory.setN s.pstore a width v.toNat }
  if s.eng.storedLines.contains (lineOf a) then s
  else { s with eng := { s.eng with storedLines := s.eng.storedLines ++ [lineOf a] } }

end Sys2Proof.Machine
end

