-- ==== Sys2Proof/Machine/CarriageOps.lean ====
section
/-! DEFINITION. Launching carriages, arming seals and outings, and what ends them (R358 to R362, R382 to R400). -/

namespace Sys2Proof.Machine

/-! Launch (R359 to R362) -/

/-- A 64-byte unit of the data region (Table 8.2). -/
def State.dataUnit (s : State) (a n : Nat) : Bool := !s.inCode a && decide (a + n ≤ 0x400000)

/-- The address of a first descriptor is good (R359). -/
def State.chainOk (s : State) (a : Nat) : Bool := a % 64 == 0 && s.dataUnit a 64

/-- Start of the device region. -/
abbrev deviceRegion : Nat := 0xFF0000000

/-- The carriage's group domain is on (R334). -/
def State.groupOn (s : State) (c : Nat) : Bool := s.domOn (44 + c / 8)

/-- The carriage's window reaches above the device region's start (R360). -/
def State.windowHigh (s : State) (c : Nat) : Bool := decide (deviceRegion < (s.reg (aCR_WIN_LIMIT c)).toNat)

/-- A carriage starts on a chain: RUNNING, at a descriptor, entry and byte (R359, R367, R380). -/
def State.carStart (s : State) (c : Fin 32) (desc entry done : Nat) (acc : Word) : State :=
  let k := s.car c
  s.setCar c { k with st := .running, release := false, desc := desc, cur := none, entry := entry,
                      done := done, acc := acc, elem := none, packed := 0, recorded := false, poisoned := 0, flight := [],
                      ahead := done, post := none, run := k.run + 1, comp := none,
                      deadline := none, progressAt := s.cyc, abort := none, share := none }

/-- CLAUNCH of carriage `c` on a chain or from its progress record (R334, R359 to R362, R380): the state and STATUS. -/
def State.carLaunch (s : State) (c : Fin 32) (chain : Word) (t : Fin 8) : State × Nat :=
  let k := s.car c
  let resume := chain.getLsbD 63
  match k.st with
  | .running => (s, stBUSY)
  | .waitt => (s, stBUSY)
  | .reserved => (s, stBUSY)
  | .frozen => (s, stSTATE)
  | _ =>
    if s.windowHigh c then (s, stBADARG)
    else if s.groupOn c = false then (s, stPOWER)
    else if resume = true ∧ k.st = .idle then (s, stSTATE)
    else
      let s := s.setCar c { k with thread := some t }
      if resume then
        let p := k.prog
        let s := s.carStart c (getBits p[0] 0 32) (getBits p[0] 32 32) p[1].toNat p[2]
        (s.setCar c { s.car c with recorded := true }, stOK)
      else (s.carStart c chain.toNat 0 0 0, stOK)

/-- ga of CLAUNCH is well formed (R359). -/
def State.chainWord (s : State) (chain : Word) (any : Bool) : Bool :=
  if chain.getLsbD 63 then !any && chain == 0x8000000000000000#64
  else decide (chain.toNat < 2 ^ 23) && s.chainOk chain.toNat

/-- The lowest-numbered idle carriage whose group domain is on (Table 8.13). -/
def State.carAny (s : State) : Option (Fin 32) :=
  (List.finRange 32).find? (fun (c : Fin 32) => (s.car c).st == .idle && s.groupOn c.val)

/-- The carriage counts as running for CWAIT (R335, R362). -/
def CarState.busy (c : CarState) : Bool := c == .running || c == .waitt || c == .reserved

/-! Reservation -/

/-- A carriage enters RESERVED for a seal or outing that thread `t` arms (R362, R383, R396). -/
def State.carReserve (s : State) (c : Fin 32) (t : Fin 8) : State :=
  let k := s.car c
  s.setCar c { k with st := .reserved, before := k.st, thread := some t }

/-- A carriage may be reserved: IDLE or STOPPED, in a group whose domain is on (R382, R396). -/
def State.carFreeFor (s : State) (c : Fin 32) : Bool :=
  ((s.car c).st == .idle || (s.car c).st == .stopped) && s.groupOn c.val

/-- A field of a descriptor: `n` bytes at an offset. -/
def State.descField (s : State) (a off n : Nat) : Nat := Memory.getN s.pstore (a + off) n

/-- A descriptor lies where the program store holds bytes, 64-byte aligned (Tables 9.9, 9.11). -/
def descAddrOk (a : Nat) : Bool := a % 64 == 0 && decide (a < 0x600000)

/-! Seals -/

/-- The ranges overlap. -/
def overlaps (a n b m : Nat) : Bool := decide (a < b + m ∧ b < a + n)

/-- The seal bitmap bits of granules `g` to `g + n - 1` cleared (R383). -/
def clearGranules (m : List Host.Cell) (g n : Nat) : List Host.Cell :=
  m.filterMap (fun (c : Nat × Byte) =>
    if 0x400000 ≤ c.1 ∧ c.1 < 0x600000 then
      let base := (c.1 - 0x400000) * 8
      let keep : Nat := ((List.range 8).filter (fun i => !(decide (g ≤ base + i ∧ base + i < g + n)))).map (2 ^ ·) |>.sum
      let v := c.2 &&& BitVec.ofNat 8 keep
      if v = 0 then none else some (c.1, v)
    else some c)

/-- SEAL with mode 0 (R344, R382, R383): the state, the index of the result word, STATUS. -/
def State.sealArm (s : State) (i : Fin 4) (a : Nat) (t : Fin 8) : State × Nat × Nat :=
  let x := s.seal i
  if x.st = .armed ∨ x.st = .active then (s, i, stSTATE)
  else if descAddrOk a = false then (s, i, stBADARG)
  else
    let base := s.descField a 0 8
    let len := s.descField a 8 8
    let snap := s.descField a 16 8
    let tb := s.descField a 24 8
    let tol := s.descField a 32 4
    let sweep := s.descField a 36 4
    let hold := s.descField a 40 1
    let thread := s.descField a 41 1
    let reserved := s.descField a 43 1 + ((List.range 18).map (fun j => s.descField a (46 + j) 1)).sum
    if tb ≤ s.now then (s, i, stSTATE)
    else if h : hold < 32 then
      let hc : Fin 32 := ⟨hold, h⟩
      let cars := (List.finRange 32).filter (fun (c : Fin 32) => c == hc || sweep.testBit c.val)
      if base % 4096 ≠ 0 ∨ snap % 4096 ≠ 0 ∨ len = 0 ∨ len % 4096 ≠ 0 ∨ reserved ≠ 0 ∨ (8 ≤ thread ∧ thread ≠ 0xFF)
          ∨ deviceRegion < base + len ∨ deviceRegion < snap + len ∨ overlaps base len snap len = true
          ∨ tb < s.now + 20000 ∨ sweep.testBit hold = true ∨ cars.any (fun c => !s.carFreeFor c) = true then
        (s, i, stBADARG)
      else if (List.finRange 4).any (fun (j : Fin 4) => ((s.seal j).st == .armed || (s.seal j).st == .active)
          && [base, snap].any (fun p => [(s.seal j).base, (s.seal j).snap].any
              (fun q => overlaps p len q (s.seal j).len))) then (s, i, stOVERLAP)
      else
        if s.sealQuota = false then (s, i, stQUOTA) else
        match s.tcAny with
        | none => (s, i, stNONEFREE)
        | some n =>
          let s := (s.setReg (aTC_PERIOD n) 0).tcArm n 1 (BitVec.ofNat 64 tb) tol 6 i |>.1
          let s := cars.foldl (fun s c => s.carReserve c t) s
          let s := s.setSeal i { Seal.reset with
            st := .armed, hold := hc, comp := n, staged := x.staged, base := base, len := len, snap := snap, tb := tb,
            sweep := BitVec.ofNat 32 sweep, thread := BitVec.ofNat 8 thread,
            sigs := BitVec.ofNat 8 (s.descField a 42 1), heads := BitVec.ofNat 16 (s.descField a 44 2) }
          ({ s with pstore := clearGranules s.pstore (base / 4096) (len / 4096) }, n, stOK)
    else (s, i, stBADARG)

/-- SEAL with mode 1 (R345, R383): back to IDLE without a record. -/
def State.sealCancel (s : State) (i : Fin 4) : State × Nat :=
  let x := s.seal i
  if x.st = .armed then
    let s := s.tcFree x.comp
    let s := x.carriages.foldl (fun s c => s.carUnreserve c) s
    (s.setSeal i { x with st := .idle }, stOK)
  else (s, stSTATE)

/-! Outings -/

/-- The lowest free outing slot (R396). -/
def State.slotFree (s : State) : Option (Fin 8) :=
  (List.finRange 8).find? (fun (i : Fin 8) =>
    (s.outing i).st == .idle || (s.outing i).st == .absent || (s.outing i).st == .posted)

/-- OUTING with mode 0 (R346, R396): the state, the comparator, STATUS, the slot. -/
def State.outingArm (s : State) (index a : Nat) (t : Fin 8) : State × Nat × Nat × Nat :=
  if descAddrOk a = false then (s, index, stBADARG, 0) else
  let launch := s.descField a 0 8
  let tol := s.descField a 8 4
  let id := s.descField a 12 2
  let members := s.descField a 14 2
  let roll := s.descField a 16 8
  let head := s.descField a 24 1
  let car := s.descField a 25 1
  let chain := s.descField a 32 8
  let reserved := ((List.range 5).map (fun j => s.descField a (27 + j) 1)).sum
    + ((List.range 24).map (fun j => s.descField a (40 + j) 1)).sum
  match s.slotFree with
  | none => (s, index, stBADARG, 0)
  | some slot =>
    if h : car < 32 then
      let c : Fin 32 := ⟨car, h⟩
      if id = 0 ∨ members = 0 ∨ 4096 < members ∨ roll % 64 ≠ 0 ∨ reserved ≠ 0 ∨ s.flag aOUT_DEVINDEX 12 = false
          ∨ members ≤ s.fld aOUT_DEVINDEX 0 12 ∨ 16 ≤ head ∨ s.present head = false
          ∨ s.flag (aCR_WIN_HEADS car) head = false ∨ s.carFreeFor c = false
          ∨ (chain ≠ 0 ∧ s.chainWord (BitVec.ofNat 64 chain) true = false) then (s, index, stBADARG, 0)
      else if launch ≤ s.now then (s, index, stSTATE, 0)
      else
        match s.tcAllocate index with
        | .error e => (s, index, e, 0)
        | .ok n =>
          let s := (s.setReg (aTC_PERIOD n) 0).tcArm n 1 (BitVec.ofNat 64 launch) tol 5 slot |>.1
          let s := s.carReserve c t
          (s.setOuting slot { Outing.reset with
            st := .armed, comp := n, carriage := c, id := BitVec.ofNat 16 id, launch := launch, rollcall := roll,
            head := head, threads := BitVec.ofNat 8 (s.descField a 26 1), chain := chain }, n, stOK, slot)
    else (s, index, stBADARG, 0)

/-- OUTING with mode 1 (R346, R398): the armed outing on the comparator is absent with reason 3. -/
def State.outingCancel (s : State) (index : Nat) : State × Nat × List FaultEvent :=
  match (List.finRange 8).find? (fun (i : Fin 8) => (s.outing i).st == .armed && (s.outing i).comp.val == index) with
  | some i =>
    let q := (s.tcDisarm index).outingAbsent i 3 s.boundNow true
    (q.1, stOK, q.2)
  | none => (s, if 64 ≤ index then stBADARG else stSTATE, [])

end Sys2Proof.Machine
end

