-- ==== Sys2Proof/Machine/CriostTime.lean ====
section
/-! DEFINITION. The configuration, time and event instructions of Criost (Tables 8.11, 8.12, 8.15). -/

namespace Sys2Proof.Machine

/-! Configuration (R320 to R328) -/

/-- A write of the queue as its register sees it (R321). -/
def State.landWrite (s : State) (w : QWrite) : State :=
  (s.writeReg (.thread w.t) w.addr (if w.wide then 8 else 4) w.value).1

/-- Every write numbered below `n` has reached its register. -/
def Engine.landed (e : Engine) (n : Nat) : Bool := (e.queue ++ e.waiting).all (fun w => decide (n ≤ w.seq))

/-- Reads whose earlier writes have all landed now: their latency begins (R323). -/
def State.crdBegin (s : State) : State :=
  (List.finRange 8).foldl (fun s t =>
    let th := s.thread t
    match th.wait with
    | .crd a wide before d none =>
      if s.eng.landed before then s.setThread t { th with wait := .crd a wide before d (some s.ecyc) } else s
    | _ => s) s

/-- The state that every queued write leaves, in which the checks of R322 are made. -/
def State.afterQueue (s : State) : State := (s.eng.queue ++ s.eng.waiting).foldl State.landWrite s

/-- A bus error of CRD or CWR: the source of R570 and a freeze with reason 3 and BUS (R322, R347). -/
def State.configBusError (s : State) (t : Fin 8) (op : Nat) (f : InsnFields) (a : Nat) : State :=
  (s.busError (.thread t) a).threadViolation t 3 (insnWord op f) a true

/-- CRD: checked at issue; the value comes with CRD_RETURN (R322, R323). -/
def execCrd (t : Fin 8) (f : InsnFields) (s : State) : Host.Outcome State Fault Refusal :=
  finish s (s.issue t 0x40 f 16 (fun s =>
    let a := (s.insnAddr t f).toNat
    let wide := f.mode == 1
    if busOk a (if wide then 8 else 4) = false then s.configBusError t 0x40 f a
    else State.crdBegin (s.setThread t { s.thread t with wait := .crd a wide s.eng.nextSeq f.d none })))

/-- Registers of the lane block (Table 16.1). -/
def laneBlock (a : Nat) : Bool := decide (0x20000 ≤ a ∧ a < 0x22A00)

/-- Engine cycles from the landing of the last earlier write to a CRD's value (R323). -/
def crdLatency (a : Nat) : Nat := if laneBlock a then 60 else 16

/-- CRD_RETURN (R323). -/
def execCrdReturn (t : Fin 8) (s : State) : Host.Outcome State Fault Refusal :=
  match (s.thread t).wait with
  | .crd a wide _ d (some since) =>
    if since + crdLatency a ≤ s.ecyc then
      let p := s.readReg (.thread t) a (if wide then 8 else 4)
      finish s ((p.1.setGpr t d (p.2.getD 0)).endBlocked t)
    else .next s
  | _ => .next s

/-- CWR: checked at issue against the state that the queue leaves, then queued, or held while the queue is full
(R320, R322, R348). -/
def execCwr (t : Fin 8) (f : InsnFields) (s : State) : Host.Outcome State Fault Refusal :=
  finish s (s.issue t 0x41 f 2 (fun s =>
    let a := (s.insnAddr t f).toNat
    let wide := f.mode == 1
    let v : Word := if wide then s.gpr t f.b else s.gpr t f.b &&& 0xFFFFFFFF
    match s.afterQueue.checkWrite (.thread t) a (if wide then 8 else 4) v with
    | .bus => s.configBusError t 0x41 f a
    | .locked => (s.dropWrite (.thread t) a false).threadViolation t 4 (insnWord 0x41 f) a false
    | .again => (s.dropWrite (.thread t) a true).threadViolation t 5 (insnWord 0x41 f) a false
    | .ok =>
      let w : QWrite := { seq := s.eng.nextSeq, t := t, addr := a, wide := wide, value := v }
      if s.eng.queue.length < 64 ∧ s.eng.waiting = [] then
        State.advance { s with eng := { s.eng with queue := s.eng.queue ++ [w], nextSeq := s.eng.nextSeq + 1 } } t
      else
        let s := { s with eng := { s.eng with waiting := s.eng.waiting ++ [w], nextSeq := s.eng.nextSeq + 1 } }
        s.setThread t { s.thread t with wait := .cwr }))

/-- CWR_QUEUE_ENTRY_FREE: the oldest waiting write enters the queue (R320). -/
def execCwrQueueEntryFree (s : State) : Host.Outcome State Fault Refusal :=
  match s.eng.waiting with
  | [] => .next s
  | w :: ws =>
    if s.eng.queue.length < 64 then
      .next (State.endBlocked { s with eng := { s.eng with queue := s.eng.queue ++ [w], waiting := ws } } w.t)
    else .next s

/-- CWR_DELIVERY: the oldest queued write reaches its register, or is dropped as a locked write (R321, R322). -/
def execCwrDelivery (s : State) : Host.Outcome State Fault Refusal :=
  match s.eng.queue with
  | [] => .next s
  | w :: ws => finish s (State.landWrite { s with eng := { s.eng with queue := ws } } w).crdBegin

/-- UPD enters WAIT until every earlier write has landed (R324). -/
def execUpd (t : Fin 8) (f : InsnFields) (s : State) : Host.Outcome State Fault Refusal :=
  finish s (s.issue t 0x42 f 2 (fun s => s.enterWait t (.upd (f.imm.setWidth 16) s.eng.nextSeq f.d)))

/-- UPD_EXECUTE: the strobes apply and gd takes the mask of groups that held pending writes; Z from gd (R324 to
R328). -/
def execUpdExecute (t : Fin 8) (s : State) : Host.Outcome State Fault Refusal :=
  match (s.thread t).wait with
  | .upd mask before d =>
    if s.eng.landed before = true ∧ s.waitAged t = true ∧ s.tu.cycle % 2 = 0 then
      let p := s.strobe mask.toNat false
      finish s (((p.1.setGpr t d (BitVec.ofNat 64 p.2)).setZ t (p.2 == 0)).leaveWait t)
    else .next s
  | _ => .next s

/-- Allocation and arming for the image (R330 to R332): the state, the index of the result word, STATUS. `period` is the
period to set, none to keep it. -/
def State.armForImage (s : State) (index : Nat) (value : Word) (tol target tindex : Nat) (period : Option Nat) :
    State × Nat × Nat :=
  if targetOk target tindex = false then (s, index, stBADARG)
  else if target = 7 ∧ s.auxOwner tindex ≠ 1 then (s, index, stBUSY)
  else
    match s.tcAllocate index with
    | .error e => (s, index, e)
    | .ok n =>
      let s := match period with
        | some p => s.setReg (aTC_PERIOD n) (BitVec.ofNat 64 p)
        | none => s
      ((s.tcArm n 1 value tol target tindex).1, n, stOK)

/-- TARM and UPDT write their result word, and L from whether the value had been reached (R309, R310). -/
def State.armResult (s : State) (t : Fin 8) (f : InsnFields) (target tindex : Nat) (period : Option Nat) : State :=
  let value := s.gpr t f.a
  let p := s.armForImage f.s8.toNat value ((s.gpr t f.b).toNat % 2 ^ 32) target tindex period
  (p.1.putResult t f.d p.2.1 p.2.2 0).setL t (decide (value.toNat ≤ s.now))

/-- UPDT (R327). -/
def execUpdt (t : Fin 8) (f : InsnFields) (s : State) : Host.Outcome State Fault Refusal :=
  finish s (s.plain t 0x43 f 4 (fun s => s.armResult t f 3 (f.imm.toNat % 16) (some 0)))

/-! Time -/

/-- TNOW: RT in whole ns, or in 1/256 ns with mode 1 (R296). -/
def execTnow (t : Fin 8) (f : InsnFields) (s : State) : Host.Outcome State Fault Refusal :=
  finish s (s.plain t 0x50 f 2 (fun s =>
    s.setGpr t f.d (if f.mode = 1 then BitVec.ofNat 64 (s.now * 256 + s.rtFrac) else s.nowW)))

/-- TWAIT: WAIT until RT reaches ga + imm32; L when it already has (R310, R329). -/
def execTwait (t : Fin 8) (f : InsnFields) (s : State) : Host.Outcome State Fault Refusal :=
  finish s (s.issue t 0x51 f 2 (fun s =>
    let v := (s.insnAddr t f).toNat
    (s.setL t (decide (v ≤ s.now))).enterWait t (.time v f.d)))

/-- TWAIT_END: in the engine cycle after the one in which RT reached the value, so at most 1 ns later (R301, R329). -/
def execTwaitEnd (t : Fin 8) (s : State) : Host.Outcome State Fault Refusal :=
  .next (if s.waitAged t then s.twaitLeave s.tu.engNow t else s)

/-- TARM (R330 to R332). -/
def execTarm (t : Fin 8) (f : InsnFields) (s : State) : Host.Outcome State Fault Refusal :=
  finish s (s.plain t 0x52 f 4 (fun s =>
    s.armResult t f (f.imm.toNat / 16 % 16) (f.imm.toNat / 256 % 32) (if f.mode = 1 then none else some 0)))

/-- TDISARM in both modes (R333). -/
def State.disarmInsn (s : State) (t : Fin 8) (f : InsnFields) : State :=
  let n := s.insnIndex t f
  if 64 ≤ n then s.putResult t f.d n stBADARG 0
  else if s.tcOwner n ≠ 1 ∨ s.tcHeld n = true then s.putResult t f.d n stBUSY 0
  else
    let was := s.fld (aTC_STATUS n) 0 6
    (if f.mode = 1 then s.tcFree n else s.tcDisarm n).putResult t f.d n stOK was

/-- TDISARM; the word's mode decides whether the comparator is freed too (log 23). -/
def execTdisarm (t : Fin 8) (f : InsnFields) (s : State) : Host.Outcome State Fault Refusal :=
  finish s (s.plain t 0x53 f 4 (fun s => s.disarmInsn t f))

/-- TDISARM with mode 1. -/
def execTdisarmFree (t : Fin 8) (f : InsnFields) (s : State) : Host.Outcome State Fault Refusal :=
  finish s (s.plain t 0x53 f 4 (fun s => s.disarmInsn t f))

/-- TTRUST (Table 8.12). -/
def execTtrust (t : Fin 8) (f : InsnFields) (s : State) : Host.Outcome State Fault Refusal :=
  finish s (s.plain t 0x54 f 2 (fun s =>
    (s.setGpr t f.d (packBits [(0, 2, trustCode s.tu.trust), (2, 2, sourceCode s.tu.source), (6, 1, bit s.tu.stepHold),
        (7, 1, bit s.tu.disciplined), (8, 1, bit s.tu.stepHold), (32, 32, s.boundNow)])).setZ t (s.tu.trust == .locked)))

/-! Events -/

/-- The deadline of EWAIT and CWAIT: ga when a ≠ 0. -/
def State.insnDeadline (s : State) (t : Fin 8) (f : InsnFields) : Option Nat :=
  if f.a = 0 then none else some (s.gpr t f.a).toNat

/-- EWAIT (R301). -/
def execEwait (t : Fin 8) (f : InsnFields) (s : State) : Host.Outcome State Fault Refusal :=
  finish s (s.issue t 0x70 f 2 (fun s => s.enterWait t (.events (f.imm.setWidth 16) (s.insnDeadline t f) f.d)))

/-- RT has reached a deadline, if there is one, by the end of the previous engine cycle (R301). -/
def State.pastDeadline (s : State) : Option Nat → Bool
  | some v => decide (v ≤ s.tu.engNow)
  | none => false

/-- Events of a thread that stood before this engine cycle (R301). -/
def State.oldEvents (s : State) (t : Fin 8) : BitVec 16 :=
  let th := s.thread t
  if th.freshAt = s.ecyc then th.events &&& ~~~th.fresh else th.events

/-- EWAIT_END: in the engine cycle after the one in which a masked event was set or the deadline passed (R301); gd takes the
masked events, or 0 on the deadline. -/
def execEwaitEnd (t : Fin 8) (s : State) : Host.Outcome State Fault Refusal :=
  match (s.thread t).wait with
  | .events mask deadline d =>
    let hit := (s.thread t).events &&& mask
    if (s.thread t).st = .wait ∧ s.waitAged t = true
        ∧ (s.oldEvents t &&& mask ≠ 0 ∨ s.pastDeadline deadline = true) then .next ((s.setGpr t d (hit.setWidth 64)).leaveWait t) else .next s
  | _ => .next s

/-- ESIG (R337); an index above 7 from gb has no effect. -/
def execEsig (t : Fin 8) (f : InsnFields) (s : State) : Host.Outcome State Fault Refusal :=
  finish s (s.plain t 0x71 f 1 (fun s =>
    if h : s.insnIndex t f < 8 then s.setEvents ⟨s.insnIndex t f, h⟩ (f.imm.setWidth 16 &&& 0xFF) else s))

/-- ECLR; a bit set in the same engine cycle survives (R338). -/
def execEclr (t : Fin 8) (f : InsnFields) (s : State) : Host.Outcome State Fault Refusal :=
  finish s (s.plain t 0x72 f 1 (fun s =>
    let th := s.thread t
    let keep := if th.freshAt = s.ecyc then th.fresh else 0
    s.setThread t { th with events := th.events &&& (~~~(f.imm.setWidth 16) ||| keep) }))

end Sys2Proof.Machine
end

