-- ==== Sys2Proof/Machine/CriostSystem.lean ====
section
/-! DEFINITION. The carriage and system instructions of Criost, and the control of threads by management (Tables 8.13,
8.16, R351, R353). -/

namespace Sys2Proof.Machine

/-! Carriages (Table 8.13) -/

/-- CLAUNCH (R334, R359 to R362). -/
def execClaunch (t : Fin 8) (f : InsnFields) (s : State) : Host.Outcome State Fault Refusal :=
  finish s (s.plain t 0x60 f 4 (fun s =>
    let chain := s.gpr t f.a
    let any := f.s8 == 0xFF
    if s.chainWord chain any = false then s.putResult t f.d f.s8.toNat stBADARG 0
    else if h : f.s8.toNat < 32 then
      let p := s.carLaunch ⟨f.s8.toNat, h⟩ chain t
      p.1.putResult t f.d f.s8.toNat p.2 0
    else
      match s.carAny with
      | none => s.putResult t f.d 0xFF stNONEFREE 0
      | some c =>
        let p := s.carLaunch c chain t
        p.1.putResult t f.d c p.2 0))

/-- The result word of CWAIT and CSTAT: the carriage's status register in gd[63:32] (Table 8.13). -/
def State.carResult (s : State) (t : Fin 8) (d : BitVec 4) (c : Fin 32) (status : Nat) : State :=
  s.putResult t d c status ((s.crStatus c).toNat % 2 ^ 32 * 2 ^ 16)

/-- CWAIT enters WAIT (R335). -/
def execCwait (t : Fin 8) (f : InsnFields) (s : State) : Host.Outcome State Fault Refusal :=
  finish s (s.issue t 0x61 f 2 (fun s =>
    let n := s.insnIndex t f
    if h : n < 32 then s.enterWait t (.carriage ⟨n, h⟩ (s.insnDeadline t f) f.d)
    else (s.putResult t f.d n stBADARG 0).advance t))

/-- One thread that waits on carriage `c` leaves in the engine cycle after the one in which the carriage stopped running or
the deadline passed (R301). -/
def State.cwaitLeave (s : State) (c : Fin 32) (t : Fin 8) : State :=
  match (s.thread t).wait with
  | .carriage c' deadline d =>
    if c' = c ∧ (s.thread t).st = .wait ∧ s.waitAged t = true then
      if (s.car c).st.busy = false ∧ (s.car c).leftAt < s.ecyc then (s.carResult t d c stOK).leaveWait t
      else if s.pastDeadline deadline then (s.carResult t d c stTIMEOUT).leaveWait t
      else s
    else s
  | _ => s

/-- CWAIT_END: every thread that waits on the carriage (R335). -/
def execCwaitEnd (c : Fin 32) (s : State) : Host.Outcome State Fault Refusal :=
  .next ((List.finRange 8).foldl (fun s t => s.cwaitLeave c t) s)

/-- CSTAT (R334). -/
def execCstat (t : Fin 8) (f : InsnFields) (s : State) : Host.Outcome State Fault Refusal :=
  finish s (s.plain t 0x62 f 4 (fun s =>
    let n := s.insnIndex t f
    if h : n < 32 then s.carResult t f.d ⟨n, h⟩ stOK else s.putResult t f.d n stBADARG 0))

/-- CABORT (R335). -/
def execCabort (t : Fin 8) (f : InsnFields) (s : State) : Host.Outcome State Fault Refusal :=
  finish s (s.plain t 0x63 f 4 (fun s =>
    let n := s.insnIndex t f
    if h : n < 32 then
      match (s.car ⟨n, h⟩).st with
      | .reserved => s.putResult t f.d n stBUSY 0
      | .running => (s.carStopAtLine ⟨n, h⟩ 1 0xFFFF).putResult t f.d n stOK 0
      | .waitt => (s.carStopAtLine ⟨n, h⟩ 1 0xFFFF).putResult t f.d n stOK 0
      | _ => s.putResult t f.d n stSTATE 0
    else s.putResult t f.d n stBADARG 0))

/-! Power (R339 to R342) -/

/-- PREQ joins the power controller's queue and waits. -/
def execPreq (t : Fin 8) (f : InsnFields) (s : State) : Host.Outcome State Fault Refusal :=
  finish s (s.issue t 0x80 f 2 (fun s =>
    let s := s.enterWait t (.power s.power.nextId f.d)
    (s.queuePower (domTarget f.mode.toNat) (s.gpr t f.a) true).1))

/-- PREQ_COMPLETE: gd takes the mask of domains that refused; Z when none did (Table 8.16). -/
def execPreqComplete (t : Fin 8) (s : State) : Host.Outcome State Fault Refusal :=
  match (s.thread t).wait with
  | .power id d =>
    match s.power.finished.find? (fun p => p.1 == id) with
    | some p =>
      let s := { s with power := { s.power with finished := s.power.finished.filter (fun q => q.1 != id) } }
      .next (((s.setGpr t d p.2).setZ t (p.2 == 0)).leaveWait t)
    | none => .next s
  | _ => .next s

/-! Snapshots (R343) -/

/-- SNAP in both modes. -/
def State.snapInsn (s : State) (t : Fin 8) (f : InsnFields) : State :=
  if f.mode = 1 then s.snapRearm.putResult t f.d 0 stOK 0
  else if s.flag aSNAP_STATUS 0 then s.putResult t f.d 0 stSTATE 0
  else (s.snapTrigger 1 0 0).putResult t f.d 0 stOK 0

/-- SNAP with mode 0; the word's mode decides (log 23). -/
def execSnap (t : Fin 8) (f : InsnFields) (s : State) : Host.Outcome State Fault Refusal :=
  finish s (s.plain t 0x90 f 2 (fun s => s.snapInsn t f))

/-- SNAP with mode 1. -/
def execSnapRe (t : Fin 8) (f : InsnFields) (s : State) : Host.Outcome State Fault Refusal :=
  finish s (s.plain t 0x90 f 2 (fun s => s.snapInsn t f))

/-! Seals (R344, R345) -/

/-- SEAL in its three modes. -/
def State.sealInsn (s : State) (t : Fin 8) (f : InsnFields) : State :=
  let i : Fin 4 := ⟨f.s8.toNat % 4, Nat.mod_lt _ (by decide)⟩
  if f.mode = 0 then
    let p := s.sealArm i (s.gpr t f.a).toNat t
    p.1.putResult t f.d p.2.1 p.2.2 0
  else if f.mode = 1 then
    let p := s.sealCancel i
    p.1.putResult t f.d i p.2 0
  else s.putResult t f.d i stOK ((s.slStatus i).toNat % 2 ^ 32 * 2 ^ 16)

/-- SEAL with mode 0; the word's mode decides (log 23). -/
def execSealArm (t : Fin 8) (f : InsnFields) (s : State) : Host.Outcome State Fault Refusal :=
  finish s (s.plain t 0x91 f 8 (fun s => s.sealInsn t f))

/-- SEAL with mode 1. -/
def execSealCancel (t : Fin 8) (f : InsnFields) (s : State) : Host.Outcome State Fault Refusal :=
  finish s (s.plain t 0x91 f 8 (fun s => s.sealInsn t f))

/-- SEAL with mode 2. -/
def execSealRead (t : Fin 8) (f : InsnFields) (s : State) : Host.Outcome State Fault Refusal :=
  finish s (s.plain t 0x91 f 8 (fun s => s.sealInsn t f))

/-! Outings (R346) -/

/-- OUTING in both modes. -/
def State.outingInsn (s : State) (t : Fin 8) (f : InsnFields) : State :=
  if f.mode = 0 then
    let p := s.outingArm f.s8.toNat (s.gpr t f.a).toNat t
    p.1.putResult t f.d p.2.1 p.2.2.1 p.2.2.2
  else
    let p := s.outingCancel f.s8.toNat
    (p.1.putResult t f.d f.s8.toNat p.2.1 0).raiseList p.2.2

/-- OUTING with mode 0; the word's mode decides (log 23). -/
def execOutingArm (t : Fin 8) (f : InsnFields) (s : State) : Host.Outcome State Fault Refusal :=
  finish s (s.plain t 0x92 f 8 (fun s => s.outingInsn t f))

/-- OUTING with mode 1. -/
def execOutingCancel (t : Fin 8) (f : InsnFields) (s : State) : Host.Outcome State Fault Refusal :=
  finish s (s.plain t 0x92 f 8 (fun s => s.outingInsn t f))

/-! FAULT (R593) -/

/-- FAULT with and without the stop option: the source PROGRAM_FAULT with detail imm32[15:0] and ga. -/
def State.faultInsn (s : State) (t : Fin 8) (f : InsnFields) : State :=
  s.issue t 0xA0 f 2 (fun s =>
    let stop := f.mode == 1
    let ga := (s.gpr t f.a).toNat
    let s := s.advance t
    let s := if stop then s.setThread t { s.thread t with st := .stopped } else s
    s.raiseList [{ src := 7, idx := f.imm.toNat, val := ga, master := some (.thread t 6 (insnWord 0xA0 f) ga false),
                   noFreeze := stop }])

/-- FAULT; the word's mode decides (log 23). -/
def execFault (t : Fin 8) (f : InsnFields) (s : State) : Host.Outcome State Fault Refusal := finish s (s.faultInsn t f)

/-- FAULT with the stop option. -/
def execFaultWithStop (t : Fin 8) (f : InsnFields) (s : State) : Host.Outcome State Fault Refusal :=
  finish s (s.faultInsn t f)

end Sys2Proof.Machine
end

