-- ==== Sys2Proof/Machine/Accesses.lean ====
section
/-! DEFINITION. Commands that are accesses to one register, and the accesses of the FM API and of BAR2 (R209, R213,
R568 to R576 and the rule that each names). -/

namespace Sys2Proof.Machine

/-- A write of a 32-bit register by a path. -/
def State.write32 (s : State) (p : Path) (a : Nat) (v : BitVec 32) : Host.Outcome State Fault Refusal :=
  s.commandWrite p a 4 (v.setWidth 64)

/-- TC_CTRL_WRITE (R608). -/
def execTcCtrlWrite (p : Path) (n : Fin 64) (value : BitVec 32) (s : State) : Host.Outcome State Fault Refusal :=
  s.write32 p (aTC_CTRL n) value

/-- TC_VALUE_WRITE (R84). -/
def execTcValueWrite (p : Path) (n : Fin 64) (value : Word) (s : State) : Host.Outcome State Fault Refusal :=
  s.commandWrite p (aTC_VALUE n) 8 value

/-- TU_ACK_WRITE (R69). -/
def execTuAckWrite (p : Path) (value : BitVec 32) (s : State) : Host.Outcome State Fault Refusal :=
  s.write32 p aTU_ACK value

/-- TT_HALT_WRITE (R353). -/
def execTtHaltWrite (p : Path) (value : BitVec 32) (s : State) : Host.Outcome State Fault Refusal :=
  s.write32 p aTT_HALT value

/-- TT_THAW_WRITE (R351). -/
def execTtThawWrite (p : Path) (value : BitVec 32) (s : State) : Host.Outcome State Fault Refusal :=
  s.write32 p aTT_THAW value

/-- CAR_THAW (R371). -/
def execCarThaw (p : Path) (value : BitVec 32) (s : State) : Host.Outcome State Fault Refusal :=
  s.write32 p aCAR_THAW value

/-- LN_TEST_ENABLE (R172); the value's ENABLE bit decides (log 23). -/
def execLnTestEnable (p : Path) (l : Fin 64) (value : BitVec 32) (s : State) : Host.Outcome State Fault Refusal :=
  s.write32 p (aLN_TEST l) value

/-- LN_TEST_DISABLE (R170). -/
def execLnTestDisable (p : Path) (l : Fin 64) (value : BitVec 32) (s : State) : Host.Outcome State Fault Refusal :=
  s.write32 p (aLN_TEST l) value

/-- INJECT_SINGLE (R174); the value's TYPE decides (log 23). -/
def execInjectSingle (p : Path) (l : Fin 64) (value : BitVec 32) (s : State) : Host.Outcome State Fault Refusal :=
  s.write32 p (aLN_INJECT l) value

/-- INJECT_BURST (R174). -/
def execInjectBurst (p : Path) (l : Fin 64) (value : BitVec 32) (s : State) : Host.Outcome State Fault Refusal :=
  s.write32 p (aLN_INJECT l) value

/-- INJECT_RATE (R174). -/
def execInjectRate (p : Path) (l : Fin 64) (value : BitVec 32) (s : State) : Host.Outcome State Fault Refusal :=
  s.write32 p (aLN_INJECT l) value

/-- INJECT_STOP (R174). -/
def execInjectStop (p : Path) (l : Fin 64) (value : BitVec 32) (s : State) : Host.Outcome State Fault Refusal :=
  s.write32 p (aLN_INJECT l) value

/-- LC_FLUSH (R243). -/
def execLcFlush (p : Path) (value : BitVec 32) (s : State) : Host.Outcome State Fault Refusal :=
  s.write32 p aLC_CTRL value

/-- ROW_REPAIR (R432, R433). -/
def execRowRepair (p : Path) (value : BitVec 32) (s : State) : Host.Outcome State Fault Refusal :=
  s.write32 p aRPR_CMD value

/-- RETIRE_PAGE (R431). -/
def execRetirePage (p : Path) (value : Word) (s : State) : Host.Outcome State Fault Refusal :=
  s.commandWrite p aRET_ADD 8 value

/-- MGMT_POWER_REQUEST (R524). -/
def execMgmtPowerRequest (p : Path) (value : BitVec 32) (s : State) : Host.Outcome State Fault Refusal :=
  s.write32 p aPWR_MREQ_CTRL value

/-- OTP_CMD with GO. -/
def State.otpCmdWrite (s : State) (p : Path) (op : Nat) (word : BitVec 9) : Host.Outcome State Fault Refusal :=
  s.commandWrite p aOTP_CMD 4 (packBits [(0, 9, word.toNat), (9, 3, op), (31, 1, 1)])

/-- OTP_NORMAL_READ (R537). -/
def execOtpNormalRead (p : Path) (word : BitVec 9) (s : State) : Host.Outcome State Fault Refusal :=
  s.otpCmdWrite p 0 word

/-- OTP_STRICT_READ (R537). -/
def execOtpStrictRead (p : Path) (word : BitVec 9) (s : State) : Host.Outcome State Fault Refusal :=
  s.otpCmdWrite p 1 word

/-- OTP_DUAL_READ (R537). -/
def execOtpDualRead (p : Path) (word : BitVec 9) (s : State) : Host.Outcome State Fault Refusal :=
  s.otpCmdWrite p 2 word

/-- OTP_PROGRAM (R540). -/
def execOtpProgram (p : Path) (word : BitVec 9) (s : State) : Host.Outcome State Fault Refusal :=
  s.otpCmdWrite p 3 word

/-- OTP_RAISE_COUNTER (R551). -/
def execOtpRaiseCounter (p : Path) (word : BitVec 9) (s : State) : Host.Outcome State Fault Refusal :=
  s.otpCmdWrite p 4 word

/-- CTL_UPD_NOW (R578). -/
def execCtlUpdNow (p : Path) (value : BitVec 32) (s : State) : Host.Outcome State Fault Refusal :=
  s.write32 p aCTL_UPD_NOW value

/-- CTL_UPD_DISCARD (R580). -/
def execCtlUpdDiscard (p : Path) (value : BitVec 32) (s : State) : Host.Outcome State Fault Refusal :=
  s.write32 p aCTL_UPD_DISCARD value

/-- SEVERE_CLEAR (R591). -/
def execSevereClear (p : Path) (n : Fin 128) (value : BitVec 32) (s : State) : Host.Outcome State Fault Refusal :=
  s.write32 p (aFC_SRC_STAT n) value

/-- FC_FIRST_CLEAR (R595). -/
def execFcFirstClear (p : Path) (value : BitVec 32) (s : State) : Host.Outcome State Fault Refusal :=
  s.write32 p aFC_FIRST value

/-- SNAP_CTRL_FIRE (R599). -/
def execSnapCtrlFire (p : Path) (value : BitVec 32) (s : State) : Host.Outcome State Fault Refusal :=
  s.write32 p aSNAP_CTRL value

/-- SNAP_CTRL_REARM (R600). -/
def execSnapCtrlRearm (p : Path) (value : BitVec 32) (s : State) : Host.Outcome State Fault Refusal :=
  s.write32 p aSNAP_CTRL value

/-- OWN_CLAIM_IMG (R605); the value's RELEASE bit decides (log 23). -/
def execOwnClaimImg (p : Path) (value : BitVec 32) (s : State) : Host.Outcome State Fault Refusal :=
  s.write32 p aOWN_REQ_IMG value

/-- OWN_RELEASE_IMG (R607). -/
def execOwnReleaseImg (p : Path) (value : BitVec 32) (s : State) : Host.Outcome State Fault Refusal :=
  s.write32 p aOWN_REQ_IMG value

/-- OWN_CLAIM_FM (R605). -/
def execOwnClaimFm (p : Path) (value : BitVec 32) (s : State) : Host.Outcome State Fault Refusal :=
  s.write32 p aOWN_REQ_FM value

/-- OWN_RELEASE_FM (R607). -/
def execOwnReleaseFm (p : Path) (value : BitVec 32) (s : State) : Host.Outcome State Fault Refusal :=
  s.write32 p aOWN_REQ_FM value

/-- SU_OPEN (R628). -/
def execSuOpen (p : Path) (value : BitVec 32) (s : State) : Host.Outcome State Fault Refusal :=
  s.write32 p aSU_CTRL value

/-- REGISTER_WRITE (R573). -/
def execRegisterWrite (p : Path) (addr width : Nat) (value : Word) (s : State) : Host.Outcome State Fault Refusal :=
  s.commandWrite p addr width value

/-- A read with its side effects and its answer; Completer Abort for a bus error (R570, R574). -/
def State.readAnswer (s : State) (p : Path) (a width : Nat) : State :=
  match s.readReg p a width with
  | (s', some v) => s'.emit (.regValue p v)
  | (s', none) => s'.emit (.completerAbort p)

/-- REGISTER_READ (R574): a BAR2 read of a head. -/
def execRegisterRead (k : Fin 16) (addr width : Nat) (s : State) : Host.Outcome State Fault Refusal :=
  if s.pathOpen (.head k) then finish s (s.readAnswer (.head k) addr width) else .next s

/-- TU_RT_READ (R41). -/
def execTuRtRead (p : Path) (s : State) : Host.Outcome State Fault Refusal :=
  if s.pathOpen p then finish s (s.readAnswer p aTU_RT 8) else .next s

/-- The reply of an FM API command, and of a mailbox command. -/
def State.reply (s : State) (p : Path) (status : String) (payload : List Byte) : State :=
  s.emit (.reply p status payload)

/-- A path of the FM API that can carry a command (R205). -/
def State.fmOpen (s : State) (p : Path) : Bool := (p == .i3c || p == .vdm) && s.pathOpen p

/-- READ_REGISTER: FM API command 0xC100 (R213, Table 5.9). -/
def execReadRegister (p : Path) (addr width : Nat) (s : State) : Host.Outcome State Fault Refusal :=
  if s.fmOpen p = false then .next s else
  match s.readReg p addr width with
  | (t, some v) => finish s (t.reply p "Success" (toBytes 8 v.toNat))
  | (t, none) => finish s (t.reply p "Invalid Input" [])

/-- A value written to a register names an absent head in one of its fields: HEAD_GCTRL.MGMT_HEAD, TU_CTRL.PTM_HEAD or
CR_WIN_HEADS (R176). -/
def State.namesAbsent (s : State) (a : Nat) (v : Word) : Bool :=
  match regLookup a with
  | some (r, _, _) =>
    match r.name with
    | .HEAD_GCTRL => !s.present (getBits v 0 4)
    | .TU_CTRL => !s.present (getBits v 4 4)
    | .CR_WIN_HEADS => (List.range 16).any (fun k => v.getLsbD k && !s.present k)
    | _ => false
  | none => false

/-- WRITE_REGISTER: FM API command 0xC101 (R176, R213, Table 5.9). A write that would take effect and names an absent head
is refused without an access (log 28). -/
def execWriteRegister (p : Path) (addr width : Nat) (value : Word) (s : State) : Host.Outcome State Fault Refusal :=
  if s.fmOpen p = false then .next s else
  if s.checkWrite p addr width value = .ok ∧ s.namesAbsent addr value = true then finish s (s.reply p "Invalid Input" []) else
  match s.writeReg p addr width value with
  | (t, true) => finish s (t.reply p "Success" [])
  | (t, false) => finish s (t.reply p "Invalid Input" [])

end Sys2Proof.Machine
end

