-- ==== Sys2Proof/Machine/Descriptors.lean ====
section
/-! DEFINITION. Descriptors: their layout and checks, the pieces a carriage cuts them into, what it does with the lines
it has read, and the end of a descriptor (R358, R363 to R371, R376 to R380, R391; Tables 9.3 and 9.4). -/

namespace Sys2Proof.Machine

/-! Layout and checks (Tables 9.3 and 9.4, R365) -/

/-- The descriptor at an address, read in full (R363). -/
def State.readDesc (s : State) (a : Nat) : Desc :=
  let w (off : Nat) : Word := BitVec.ofNat 64 (s.descField a off 8)
  { op := BitVec.ofNat 8 (s.descField a 0 1), flags := BitVec.ofNat 8 (s.descField a 1 1),
    head := BitVec.ofNat 16 (s.descField a 2 2), reserved := BitVec.ofNat 32 (s.descField a 4 4),
    o0 := w 8, o1 := w 16, o2 := w 24, o3 := w 32, o4 := w 40 }

/-- Operations of Table 9.4. -/
def opListed (op : Nat) : Bool := decide (1 ≤ op ∧ op ≤ 12) || op == 15

/-- Flags that Table 9.4 defines for an operation. -/
def opFlags (op : Nat) : Nat := if op = 3 then 1 else if op = 4 then 3 else if op = 10 then 1 else if op = 11 then 31 else 0

/-- Every unused byte of the operands is 0. -/
def Desc.unusedZero (d : Desc) : Bool :=
  let tail := d.o3 == 0 && d.o4 == 0
  match d.op.toNat with
  | 5 => tail && decide (d.o1.toNat < 2 ^ 32)
  | 6 => tail && decide (d.o1.toNat < 2 ^ 32)
  | 9 => tail && decide (d.o0.toNat < 4)
  | 10 => tail && decide (d.o1.toNat < 2 ^ 32)
  | 11 => tail && d.o2 == 0 && decide (d.o0.toNat < 2 ^ 40) && decide (d.o1.toNat < 2 ^ 32)
  | 12 => tail && d.o1 == 0 && d.o2 == 0
  | 15 => tail && d.o0 == 0 && d.o1 == 0 && d.o2 == 0
  | _ => tail

/-- DPA ranges that a descriptor names: start and length (R365, R370). The entries of a list are ranges of their own. -/
def Desc.ranges (d : Desc) : List (Nat × Nat) :=
  let a := d.o0.toNat
  let b := d.o1.toNat
  let n := d.o2.toNat
  match d.op.toNat with
  | 1 => [(a, n), (b, n)]
  | 2 => [(a, b)]
  | 3 => [(a, n), (b, n)]
  | 4 => [(a, b)]
  | 7 => [(a, n)]
  | 8 => [(b, n)]
  | _ => []

/-- A range whose LEN is in range and that ends at or below DPA 0x10_0000_0000. -/
def rangeOk (r : Nat × Nat) : Bool := decide (r.2 ≤ 2 ^ 36 ∧ r.1 + r.2 ≤ 2 ^ 36)

/-- The rules of R365, R369 and R376 that one operation alone has. -/
def State.operandsOk (s : State) (c : Fin 32) (d : Desc) : Bool :=
  match d.op.toNat with
  | 1 => d.o2 == 0 || !overlaps d.o0.toNat d.o2.toNat d.o1.toNat d.o2.toNat
  | 5 => listOk d
  | 6 => listOk d
  | 7 => peerOk d
  | 8 => peerOk d
  | 9 => d.o1.toNat % 4096 == 0 && d.o2.toNat % 4096 == 0 && decide (d.o2.toNat ≤ 2 ^ 36)
  | 11 => !d.flags.getLsbD 4 || (d.o1.toNat % 4 == 0 && s.dataUnit d.o1.toNat 4)
  | 12 => s.chainOk d.o0.toNat
  | _ => true
where
  listOk (d : Desc) : Bool :=
    let n := d.o1.toNat % 2 ^ 32
    decide (1 ≤ n ∧ n ≤ 65536) && d.o0.toNat % 16 == 0 && s.dataUnit d.o0.toNat (16 * n)
      && decide (d.o2.toNat ≤ 2 ^ 36)
  peerOk (d : Desc) : Bool :=
    d.o0.toNat % 16 == 0 && d.o1.toNat % 16 == 0 && d.o2.toNat % 16 == 0 && decide (d.head.toNat < 16)
      && s.present d.head.toNat && s.flag (aCR_WIN_HEADS c) d.head.toNat

/-- The descriptor keeps every condition of R365 that is checked before its first line. -/
def State.descOk (s : State) (c : Fin 32) (a : Nat) (d : Desc) : Bool :=
  let op := d.op.toNat
  opListed op && d.flags.toNat &&& opFlags op == d.flags.toNat && d.reserved == 0
    && (op == 7 || op == 8 || d.head == 0) && d.unusedZero && d.ranges.all rangeOk && s.operandsOk c d
    && (op == 12 || op == 15 || s.dataUnit (a + 64) 64)

/-! Windows (R370, R371, R478) -/

/-- Blocks that a stand-in has taken (R476, R477). -/
def State.siBlocks (s : State) (n : Nat) : List Nat :=
  ((List.range 9).map (fun q => s.fld (aXR_SI_BLK n (q / 4)) (8 * (q % 4)) 8)).filter (fun b => b != 0xFF)

/-- The first DPA of a range that a carriage may not touch: outside its window, or in a stand-in block. -/
def State.offending (s : State) (c : Fin 32) (r : Nat × Nat) : Option Nat :=
  let base := (s.reg (aCR_WIN_BASE c)).toNat
  let limit := (s.reg (aCR_WIN_LIMIT c)).toNat
  if r.2 = 0 then none
  else
    let out : List Nat := if r.1 < base then [r.1] else if limit < r.1 + r.2 then [max r.1 limit] else []
    let held := ((s.siBlocks 0 ++ s.siBlocks 1).filter (fun b => overlaps r.1 r.2 (b * 2 ^ 28) (2 ^ 28))).map
      (fun b => max r.1 (b * 2 ^ 28))
    match out ++ held with
    | [] => none
    | x :: xs => some (xs.foldl min x)

/-- The first offending DPA of a list of ranges. -/
def State.offendingAny (s : State) (c : Fin 32) (rs : List (Nat × Nat)) : Option Nat := rs.findSome? (s.offending c)

/-! Pieces -/

/-- The lines that `n` bytes from a DPA touch. -/
def linesOf (a n : Nat) : List Nat := if n = 0 then [] else List.range' (a / 64) ((a + n - 1) / 64 - a / 64 + 1)

/-- Bytes from offset `pos` of a range at `a`, at most to the end of the line. -/
def pieceLen (a len pos : Nat) : Nat := min (64 - (a + pos) % 64) (len - pos)

/-- Whether the operation walks a list. -/
def Desc.isList (d : Desc) : Bool := d.op == 5 || d.op == 6

/-- Source, destination and length of the bytes a copying descriptor moves; for a list, of its entry in progress. -/
def Desc.movePlan (d : Desc) (elem : Option (Nat × Nat)) (packed : Nat) : Nat × Nat × Nat :=
  match elem with
  | some e => if d.op = 5 then (e.1, d.o2.toNat + packed, e.2) else (d.o2.toNat + packed, e.1, e.2)
  | none => (d.o0.toNat, d.o1.toNat, d.o2.toNat)

/-- The plan of the descriptor in progress. -/
def Carriage.plan (k : Carriage) (d : Desc) : Nat × Nat × Nat := d.movePlan (if d.isList then k.elem else none) k.packed

/-- Length of the descriptor, or of its entry in progress. -/
def Carriage.opLen (k : Carriage) (d : Desc) : Nat := if d.op = 2 ∨ d.op = 4 then d.o1.toNat else (k.plan d).2.2

/-- The piece at an offset: the lines to read, the bytes it covers (R376, Table 9.4). -/
def Carriage.piece (k : Carriage) (d : Desc) (pos : Nat) : List Nat × Nat :=
  let a := d.o0.toNat
  match d.op.toNat with
  | 2 => ([], pieceLen a d.o1.toNat pos)
  | 3 =>
    let n := pieceLen a d.o2.toNat pos
    ((linesOf (a + pos) n ++ linesOf (d.o1.toNat + pos) n).eraseDups, n)
  | 4 => let n := pieceLen a d.o1.toNat pos; (linesOf (a + pos) n, n)
  | 7 =>
    let n := min (256 - (d.o1.toNat + pos) % 256) (d.o2.toNat - pos)
    (linesOf (a + pos) n, n)
  | 8 => ([], min (256 - (a + pos) % 256) (d.o2.toNat - pos))
  | _ =>
    let p := k.plan d
    let n := pieceLen p.2.1 p.2.2 pos
    (linesOf (p.1 + pos) n, n)

/-- The byte at a DPA among the lines in staging. -/
def stagedByte (got : List (Nat × LineVal)) (a : Nat) : Byte :=
  match got.find? (fun g => g.1 == a / 64) with
  | some g => g.2.data.byte (a % 64)
  | none => 0

/-- One of the lines is poisoned. -/
def stagedPoison (got : List (Nat × LineVal)) (ls : List Nat) : Bool :=
  got.any (fun g => ls.contains g.1 && g.2.poison)

/-- The write of bytes to part of one line: `n` bytes from a DPA, byte `i` given. -/
def lineWrite (a n : Nat) (poison : Bool) (byteAt : Nat → Byte) : LineWrite :=
  let off := a % 64
  { line := a / 64
    val := { data := Line.ofBytes ((List.range 64).map (fun j => if off ≤ j ∧ j < off + n then byteAt (j - off) else 0))
             poison := poison }
    mask := BitVec.ofNat 64 ((2 ^ n - 1) * 2 ^ off) }

/-- Writes of bytes to a range, one for each line. -/
def rangeWrites (a n : Nat) (poison : Bool) (byteAt : Nat → Byte) : List LineWrite :=
  (linesOf a n).map (fun l =>
    let lo := max a (l * 64)
    let hi := min (a + n) (l * 64 + 64)
    lineWrite lo (hi - lo) poison (fun j => byteAt (lo - a + j)))

/-- A line in staging. -/
def lineIn (got : List (Nat × LineVal)) (l : Nat) : LineVal :=
  match got.find? (fun g => g.1 == l) with
  | some g => g.2
  | none => { data := 0, poison := true }

/-! CRC (Table 9.4) -/

/-- One byte through a reflected CRC register of polynomial `poly`. -/
def crcStep (poly reg : Word) (b : Byte) : Word :=
  (List.range 8).foldl (fun r _ => if r.getLsbD 0 then (r >>> 1) ^^^ poly else r >>> 1) (reg ^^^ b.setWidth 64)

/-- CRC-32C or CRC-64/NVME, reflected. -/
def crcPoly (alg : Bool) : Word := if alg then 0x9A6C9329AC4BC9B5 else 0x82F63B78

/-- All ones of the algorithm's width. -/
def crcOnes (alg : Bool) : Word := if alg then 0xFFFFFFFFFFFFFFFF else 0xFFFFFFFF

/-- The register that a CRC starts with: SEED, or the register behind a finished CRC. -/
def Desc.crcInit (d : Desc) : Word :=
  let alg := d.flags.getLsbD 0
  let seed := d.o2 &&& crcOnes alg
  if d.flags.getLsbD 1 then seed ^^^ crcOnes alg else seed

/-- ACC at the start of a descriptor. -/
def Desc.accInit (d : Desc) : Word :=
  if d.op = 3 then 0xFFFFFFFFFFFFFFFF else if d.op = 4 then d.crcInit else 0

/-- ACC after the piece at DONE, the oldest under way. -/
def Carriage.fold (k : Carriage) (d : Desc) (p : Piece) : Word :=
  let a := d.o0.toNat + p.pos
  match d.op.toNat with
  | 3 =>
    let b := d.o1.toNat + p.pos
    if k.acc ≠ 0xFFFFFFFFFFFFFFFF then k.acc else
    match (List.range p.bytes).find? (fun i => stagedByte p.got (a + i) != stagedByte p.got (b + i)
        || stagedPoison p.got [(a + i) / 64, (b + i) / 64]) with
    | some i => BitVec.ofNat 64 (p.pos + i)
    | none => k.acc
  | 4 =>
    let zero := stagedPoison p.got [a / 64]
    (List.range p.bytes).foldl (fun r i =>
      crcStep (crcPoly (d.flags.getLsbD 0)) r (if zero then 0 else stagedByte p.got (a + i))) k.acc
  | _ => k.acc

/-- The piece has its lines in staging: what it writes is formed; a FILL has no lines to wait for (Table 9.4). -/
def Carriage.form (k : Carriage) (d : Desc) (p : Piece) : Piece :=
  if p.formed = true ∨ p.toRead ≠ [] ∨ p.asked ≠ [] then p else
  match d.op.toNat with
  | 2 =>
    { p with formed := true, toWrite := [lineWrite (d.o0.toNat + p.pos) p.bytes false (fun j =>
        d.o2.extractLsb' (8 * ((d.o0.toNat + p.pos + j) % 8)) 8)] }
  | 3 => { p with formed := true }
  | 4 => { p with formed := true }
  | 7 => p
  | 8 => p
  | 9 => p
  | _ =>
    let q := k.plan d
    let src := q.1 + p.pos
    { p with formed := true, toWrite := [lineWrite (q.2.1 + p.pos) p.bytes (stagedPoison p.got (linesOf src p.bytes))
        (fun j => stagedByte p.got (src + j))] }

/-- Nothing of the piece is left to do. -/
def Piece.complete (p : Piece) : Bool :=
  p.formed && p.toRead.isEmpty && p.asked.isEmpty && p.toWrite.isEmpty && p.sent.isEmpty && !p.peer

/-- Lines in the carriage's staging. -/
def Carriage.inStaging (k : Carriage) : List (Nat × LineVal) := k.flight.flatMap (fun p => p.got)

/-- The next piece; a line that stands in staging is not read again. -/
def Carriage.nextPiece (k : Carriage) (d : Desc) : Piece :=
  let p := k.piece d k.ahead
  let kept := p.1.filterMap (fun l => k.inStaging.find? (fun g => g.1 == l))
  k.form d { pos := k.ahead, bytes := p.2, toRead := p.1.filter (fun l => !kept.any (fun g => g.1 == l)), asked := [],
             got := kept, formed := false, toWrite := [], sent := [], peer := false }

/-- The first piece that has a line to admit, with its place. -/
def Carriage.wanting (k : Carriage) : Option (Nat × Piece) :=
  (k.flight.mapIdx (fun i p => (i, p))).find? (fun (q : Nat × Piece) => q.2.wants)

/-- A piece replaced. -/
def Carriage.setPiece (k : Carriage) (i : Nat) (p : Piece) : Carriage := { k with flight := k.flight.set i p }

/-! Moving (R358, R364, R365, R370, R379) -/

/-- DONE advances over a piece, with a progress record at each 64 KiB of the descriptor (R379). -/
def State.carAdvance (s : State) (c : Fin 32) (n : Nat) : State :=
  let k := s.car c
  let s := s.setCar c { k with done := k.done + n }
  if (k.packed + k.done) / 65536 < (k.packed + k.done + n) / 65536 then
    s.writeProgress c k.desc k.entry (k.done + n) k.acc
  else s

/-- Bytes of the list entries before entry `n`. -/
def State.listPacked (s : State) (d : Desc) (n : Nat) : Nat :=
  ((List.range n).map (fun i => s.descField (d.o0.toNat + 16 * i) 8 4)).sum

/-- The list entry at the carriage's position is read and checked: it, a bad entry, or an offending DPA. -/
def State.listEntry (s : State) (c : Fin 32) (d : Desc) : Except (Option Nat) (Nat × Nat) :=
  let k := s.car c
  let a := d.o0.toNat + 16 * k.entry
  let dpa := s.descField a 0 8
  let len := s.descField a 8 4
  let share := d.o2.toNat + k.packed
  if len = 0 ∨ s.descField a 12 4 ≠ 0 ∨ 2 ^ 36 < dpa + len ∨ 2 ^ 36 < share + len then .error none
  else match s.offendingAny c (if d.op = 5 then [(dpa, len), (share, len)] else [(share, len), (dpa, len)]) with
    | some x => .error (some x)
    | none => .ok (dpa, len)

/-- A list moves to its entry in progress; when that is done, to the next one (R363, R365). A resume may stand at the end
of an entry (R380), so two steps may be needed; the argument bounds them. -/
def State.listMove (s : State) (c : Fin 32) (d : Desc) : Nat → State
  | 0 => s
  | fuel + 1 =>
    let k := s.car c
    match k.elem with
    | some e =>
      if e.2 ≤ k.done ∧ k.flight = [] then
        State.listMove (s.setCar c { k with entry := k.entry + 1, done := 0, ahead := 0, packed := k.packed + e.2,
                                            elem := none }) c d fuel
      else s
    | none =>
      if d.o1.toNat ≤ k.entry then s
      else match s.listEntry c d with
        | .ok e => State.listMove (s.setCar c { k with elem := some e }) c d fuel
        | .error none => (s.writeProgress c k.desc k.entry 0 0).carStop c 3
        | .error (some x) => (s.writeProgress c k.desc k.entry 0 0).carriageViolation c x

/-- A seal's hold carriage waits for staging (R388): it is served before read-ahead (R613). -/
def State.sealWaits (s : State) : Bool :=
  s.seals.toList.any (fun x => decide (x.copies.length < 8) && x.heldWrites.any (fun r =>
    !x.copies.any (fun h => h.granule == r.line / 64)))

/-- The carriage has staging for more lines: its slice, or shared space that neither journal nor seals wait for (R358,
R613). -/
def State.stagingRoom (s : State) (c : Fin 32) (n : Nat) : Bool :=
  decide ((s.car c).lines + n ≤ sliceLines) || (decide (0 < s.sharedFree) && !s.sealWaits)

/-- The carriage sets up its next piece now: none under way has a line to admit, none still reads a line that the next one
needs, and the staging has room; at most 64 peer requests are outstanding (R358, R376). -/
def State.mayPiece (s : State) (c : Fin 32) (d : Desc) : Bool :=
  let k := s.car c
  k.st == .running && k.abort.isNone && k.post.isNone && !k.wants && decide (k.ahead < k.opLen d)
    && (!d.isList || k.elem.isSome) && d.op != 9 && d.op != 10 && d.op != 11
    && (d.op != 8 || decide (k.flight.length < 64))
    && !(k.nextPiece d).toRead.any (fun l => k.flight.any (fun p => p.asked.contains l))
    && s.stagingRoom c (k.nextPiece d).lines

/-! Peer requests (R376, R377) -/

/-- Outstanding peer requests. -/
def Carriage.peers (k : Carriage) : Nat := (k.flight.filter (fun p => p.peer)).length

/-- The UIO request of a piece: its output, once its lines are in staging. -/
def Desc.peerRequest (d : Desc) (p : Piece) : Option Output :=
  if p.formed = true ∨ p.peer = true ∨ p.toRead ≠ [] ∨ p.asked ≠ [] then none
  else if d.op = 7 then
    let src := d.o0.toNat + p.pos
    some (.peer d.head.toNat (d.o1.toNat + p.pos) ((List.range p.bytes).map (fun j => stagedByte p.got (src + j))) true
      (stagedPoison p.got (linesOf src p.bytes)))
  else if d.op = 8 then some (.peerRead d.head.toNat (d.o0.toNat + p.pos) p.bytes)
  else none

/-- The carriage's UIO requests leave in the order of its pieces, up to 64 of them, once its head is up (R199, R376). -/
def State.carSend (s : State) (c : Fin 32) : State :=
  let k := s.car c
  match k.cur with
  | none => s
  | some d =>
    let up : Bool := if h : d.head.toNat < 16 then (s.head ⟨d.head.toNat, h⟩).up else false
    if k.st ≠ .running ∨ k.abort.isSome = true ∨ up = false then s else
    let go := (((k.flight.mapIdx (fun i p => (i, p))).filterMap (fun (q : Nat × Piece) =>
      (d.peerRequest q.2).map (fun o => (q.1, q.2, o)))).take (64 - k.peers) : List (Nat × Piece × Output))
    go.foldl (fun s q => (s.setCar c ((s.car c).setPiece q.1 { q.2.1 with formed := true, peer := true })).emit q.2.2) s

/-- Pieces that are complete leave from the front: ACC folds them in order and DONE advances (R379). -/
def State.carRetire (s : State) (c : Fin 32) : Nat → State
  | 0 => s
  | fuel + 1 =>
    let k := s.car c
    match k.cur, k.flight with
    | some d, p :: rest =>
      if p.complete then
        State.carRetire ((s.setCar c { k with acc := k.fold d p, flight := rest }).carAdvance c p.bytes) c fuel
      else s
    | _, _ => s

/-- The next pieces are set up, as far as the carriage may go ahead. -/
def State.carAhead (s : State) (c : Fin 32) (d : Desc) : Nat → State
  | 0 => s
  | fuel + 1 =>
    if s.mayPiece c d then
      let k := s.car c
      let p := k.nextPiece d
      State.carAhead ((s.setCar c { k with flight := k.flight ++ [p], ahead := k.ahead + p.bytes }).carSend c) c d fuel
    else s

/-- A carriage goes on with the descriptor that moves lines: complete pieces retire, a list turns to its next entry, and new
pieces are set up, until it waits for something. -/
def State.carRun (s : State) (c : Fin 32) : Nat → State
  | 0 => s
  | fuel + 1 =>
    match (s.car c).cur with
    | none => s
    | some d =>
      let t := s.carRetire c 64
      let t := if d.isList = true ∧ (t.car c).abort = none then t.listMove c d 4 else t
      let t := if (t.car c).cur = some d then (t.carSend c).carAhead c d 64 else t
      if t.car c = s.car c then t else State.carRun t c fuel

/-! Sweeps (R390, R391) -/

/-- The granules a sealing carriage walks: seal, first granule, number; none when it runs no SEALCOPY (R390, R391). -/
def State.sweepRange (s : State) (c : Fin 32) : Option (Fin 4 × Nat × Nat) :=
  let k := s.car c
  match k.share with
  | some p => some p
  | none =>
    match k.cur with
    | some d =>
      if d.op = 9 then
        let i : Fin 4 := ⟨d.o0.toNat % 4, Nat.mod_lt _ (by decide)⟩
        some (i, (s.seal i).base / 4096 + d.o1.toNat / 4096, d.o2.toNat / 4096)
      else none
    | none => none

/-- A carriage copies this granule of the seal. -/
def State.sweeping (s : State) (i : Fin 4) (g : Nat) : Bool :=
  s.cars.toList.any (fun k => k.sealing && k.elem == some (g, i.val))

/-- A granule is under hold copy (R391). -/
def State.holding (s : State) (i : Fin 4) (g : Nat) : Bool := (s.seal i).copies.any (fun h => h.granule == g)

/-- The piece in which a sweep reads a granule. -/
def granulePiece (pos g : Nat) : Piece :=
  { pos := pos, bytes := 4096, toRead := List.range' (g * 64) 64, asked := [], got := [], formed := false, toWrite := [],
    sent := [], peer := false }

/-- A SEALCOPY walks to its next unsaved granule, and reads it once the seal has staging for it; each granule it skips is
progress (R373, R388, R391). The argument bounds the walk by the granules left. -/
def State.sweepMove (s : State) (c : Fin 32) (i : Fin 4) (first n : Nat) : Nat → State
  | 0 => s
  | fuel + 1 =>
    let k := s.car c
    let g := first + k.done / 4096
    if n ≤ k.done / 4096 ∨ k.flight ≠ [] ∨ k.abort ≠ none then s
    else if (s.seal i).st ≠ .active ∨ s.granuleSaved i g = true ∨ s.holding i g = true then
      let s := s.carAdvance c 4096
      State.sweepMove (s.setCar c { s.car c with progressAt := s.cyc }) c i first n fuel
    else if s.sweeping i g = true ∨ s.sealRoom i = false then s
    else s.setCar c { k with elem := some (g, i.val), flight := [granulePiece k.done g] }

/-- A carriage goes on with what it runs: a SEALCOPY, a share of a sweep, a descriptor that moves lines, a post. -/
def State.carGo (s : State) (c : Fin 32) : State :=
  let k := s.car c
  if k.post.isSome then s.carPost c else
  match s.sweepRange c with
  | some (i, first, n) => if k.st = .running ∨ k.st = .reserved then s.sweepMove c i first n (n - k.done / 4096 + 1) else s
  | none => if k.st = .running then s.carRun c 8 else s

/-! Granules of a seal (R387, R388, R389, R391, R392) -/

/-- The hold carriage takes up the granules that held writes wait for: in stamp order of the writes, up to 8 at a time, each
once the seal staging has room for it (R386, R388). -/
def State.holdFill (s : State) (i : Fin 4) : State :=
  ((sortBy (fun (r : Req) => r.stamp) (s.seal i).heldWrites).map (fun r => r.line / 64)).eraseDups.foldl (fun s g =>
    let x := s.seal i
    if x.st = .active ∧ x.copies.length < 8 ∧ s.holding i g = false ∧ s.sweeping i g = false
        ∧ s.granuleSaved i g = false ∧ s.sealRoom i = true then
      s.setSeal i { x with copies := x.copies ++ [{ granule := g, toRead := List.range' (g * 64) 64, asked := [], got := [] }] }
    else s) s

/-- A write of a whole line to the snapshot area. -/
def wholeLine (line : Nat) (v : LineVal) : LineWrite := { line := line, val := v, mask := BitVec.allOnes 64 }

/-- The old data of a granule is complete in seal staging: its bit is set, its poisoned lines count, its writes to the
snapshot area wait for admission, held writes proceed, and the seal may be complete (R386, R387, R392, R393). -/
def State.granuleDone (s : State) (i : Fin 4) (g : Nat) (hold : Bool) (got : List (Nat × LineVal)) : State :=
  let x := s.seal i
  let snap := x.snap / 64 + (g - x.base / 4096) * 64
  let ws := (List.range 64).map (fun j => wholeLine (snap + j) (lineIn got (g * 64 + j)))
  let s := s.setGranule g
  let s := s.setSeal i { x with
    saved := x.saved + 1, held := x.held + bit hold, poison := x.poison + (got.filter (fun p => p.2.poison)).length,
    copies := x.copies.filter (fun h => h.granule != g),
    staged := x.staged ++ [{ granule := g, hold := hold, toWrite := ws, sent := [] }] }
  ((s.releaseHeld i).sealCheck i).holdFill i

/-- A line of a hold copy has come. -/
def State.holdGot (s : State) (i : Fin 4) (line : Nat) (v : LineVal) : State :=
  let x := s.seal i
  s.setSeal i { x with copies := x.copies.map (fun h =>
    if h.asked.contains line then { h with asked := h.asked.erase line, got := h.got ++ [(line, v)] } else h) }

/-- A line of the snapshot area has been accepted: a granule without further ones leaves the staging (R387, R613). -/
def State.stagedPut (s : State) (i : Fin 4) (line : Nat) : State :=
  let x := s.seal i
  let g := x.staged.map (fun g => if g.sent.contains line then { g with sent := g.sent.erase line } else g)
  (s.setSeal i { x with staged := g.filter (fun g => !g.toWrite.isEmpty || !g.sent.isEmpty) }).holdFill i

/-- A sweep has read its granule: it is staged, and the carriage goes on with the next one (R390, R391). -/
def State.sweepStaged (s : State) (c : Fin 32) (got : List (Nat × LineVal)) : State :=
  match s.sweepRange c, (s.car c).elem with
  | some (i, _, _), some (g, _) =>
    let k := s.car c
    let s := s.setCar c { k with elem := none, flight := [], progressAt := s.cyc }
    let s := if (s.seal i).st = .active ∧ s.granuleSaved i g = false then s.granuleDone i g false got else s
    if (s.car c).st = k.st then (s.carAdvance c 4096).carGo c else s
  | _, _ => s

/-! Lines of a carriage -/

/-- A line a carriage read has come: it enters the staging, poison counts, and a full piece acts on its data (R33, R364,
R373). A stop that waited for the line boundary takes place. -/
def State.carGot (s : State) (c : Fin 32) (run line : Nat) (v : LineVal) : State :=
  let k := s.car c
  match (k.flight.mapIdx (fun i p => (i, p))).find? (fun (q : Nat × Piece) => q.2.asked.contains line) with
  | none => s
  | some q =>
    if k.run ≠ run then s else
    let p := { q.2 with asked := q.2.asked.erase line, got := q.2.got ++ [(line, v)] }
    let p := match k.cur with
      | some d => if (s.sweepRange c).isSome then p else k.form d p
      | none => p
    let k := { k.setPiece q.1 p with poisoned := k.poisoned + bit v.poison,
                                     progressAt := if (s.sweepRange c).isSome then k.progressAt else s.cyc }
    let s := s.setCar c k
    match k.abort with
    | some a => (s.carRetire c 64).carStopBy c a.1 a.2
    | none =>
      if (s.sweepRange c).isNone then s.carGo c
      else if p.toRead = [] ∧ p.asked = [] then s.sweepStaged c p.got else s

/-- A line a carriage wrote has been accepted (R34, R373). -/
def State.carPut (s : State) (c : Fin 32) (run line : Nat) : State :=
  let k := s.car c
  match (k.flight.mapIdx (fun i p => (i, p))).find? (fun (q : Nat × Piece) => q.2.sent.contains line) with
  | none => s
  | some q =>
    if k.run ≠ run then s else
    let s := s.setCar c { k.setPiece q.1 { q.2 with sent := q.2.sent.erase line } with progressAt := s.cyc }
    match k.abort with
    | some a => (s.carRetire c 64).carStopBy c a.1 a.2
    | none => s.carGo c

/-- The piece whose next write fails its staging check reads its source again, or asks the peer again (Table 10.3). -/
def State.carReread (s : State) (c : Fin 32) (i : Nat) (p : Piece) : State :=
  let k := s.car c
  match k.cur with
  | some d =>
    let q := { p with toRead := (k.piece d p.pos).1, asked := [], got := [], formed := false, toWrite := [] }
    ((s.raise 63 0 c.val).setCar c (k.setPiece i (k.form d q))).carGo c
  | none => s

/-- After a channel replay a carriage restarts its descriptor, or its share of a sweep, from its last progress record
without stopping (R381, R395); a descriptor whose chain has written none starts again from its beginning. One with a stop
that waits for a line boundary stops now. -/
def State.carRestart (s : State) (c : Fin 32) : State :=
  let k := s.car c
  match k.abort with
  | some a => s.carStopBy c a.1 a.2
  | none =>
  let k := { k with flight := [], run := k.run + 1, elem := none }
  let p := k.prog
  if k.share.isSome then
    let n := if k.recorded then p[1].toNat else 0
    (s.setCar c { k with done := n, ahead := n }).carGo c
  else
    match k.cur with
    | none => s
    | some d =>
      if (k.st ≠ .running ∧ k.st ≠ .reserved) ∨ k.post.isSome then s else
      let here : Bool := k.recorded && getBits p[0] 0 32 == k.desc
      let entry := if here then getBits p[0] 32 32 else 0
      let n := if here then p[1].toNat else 0
      (s.setCar c { k with entry := entry, done := n, ahead := n, acc := if n = 0 ∧ entry = 0 then d.accInit else p[2],
                           packed := if d.isList then s.listPacked d (min entry d.o1.toNat) else 0 }).carGo c

/-! Start and end of a descriptor -/

/-- A carriage may start the descriptor at its position (R361, R363). -/
def State.mayStart (s : State) (c : Fin 32) : Bool :=
  let k := s.car c
  k.st == .running && k.cur.isNone && k.abort.isNone

/-- A carriage starts the descriptor at its position if its operation is `op`; one that breaks R365 stops the carriage,
whatever the command (R363, R365, R371). `body` is what starts. -/
def State.descStart (s : State) (c : Fin 32) (op : Nat) (body : State → Desc → State) : State :=
  let k := s.car c
  if s.mayStart c = false then s
  else if s.chainOk k.desc = false then s.carStop c 3
  else
    let d := s.readDesc k.desc
    if opListed d.op.toNat = false then s.carStop c 3
    else if d.op.toNat ≠ op then s
    else if s.descOk c k.desc d = false then s.carStop c 3
    else match s.offendingAny c d.ranges with
      | some x => s.carriageViolation c x
      | none =>
        body (s.setCar c { k with cur := some d, elem := none, poisoned := 0, progressAt := s.cyc, ahead := k.done,
                                  packed := if d.isList then s.listPacked d (min k.entry d.o1.toNat) else 0,
                                  acc := if k.done = 0 then d.accInit else k.acc }) d

/-- A descriptor that moves lines starts with its first piece. -/
def State.moveStart (s : State) (c : Fin 32) (op : Nat) : State :=
  s.descStart c op (fun s _ => s.carGo c)

/-- The operation of the descriptor in progress has been performed. -/
def State.descFinished (s : State) (c : Fin 32) : Bool :=
  let k := s.car c
  match k.cur with
  | none => false
  | some d =>
    k.st == .running && k.flight.isEmpty && k.post.isNone &&
      (match d.op.toNat with
      | 5 => k.elem.isNone && decide (d.o1.toNat ≤ k.entry)
      | 6 => k.elem.isNone && decide (d.o1.toNat ≤ k.entry)
      | 9 => decide (d.o2.toNat ≤ k.done)
      | 10 => true
      | 11 => true
      | 12 => true
      | 15 => false
      | _ => decide (k.opLen d ≤ k.done))

/-- RESULT of a completed descriptor. -/
def Carriage.result (k : Carriage) (d : Desc) : Word :=
  if d.op = 3 then k.acc else if d.op = 4 then k.acc ^^^ crcOnes (d.flags.getLsbD 0) else 0

/-- A descriptor completes: bytes 48 to 63 are written back, then the progress record that points at the next
descriptor, then the chain goes on; a CMP that found a difference with STOP stops it (R364, R379, Table 9.4). After an END
no descriptor follows: its record points at the END itself (log 24). -/
def State.descComplete (s : State) (c : Fin 32) (d : Desc) : State :=
  let k := s.car c
  let r := k.result d
  let m := Memory.setN s.pstore (k.desc + 48) 8 (bit (decide (0 < k.poisoned)) + min k.poisoned 0xFFFFFFFF * 2 ^ 32)
  let s := { s with pstore := Memory.setN m (k.desc + 56) 8 r.toNat }
  let next := if d.op = 12 then d.o0.toNat else if d.op = 15 then k.desc else k.desc + 64
  let s := s.setCar c { k with cur := none, desc := next, entry := 0, done := 0, acc := 0, elem := none, packed := 0,
                               ahead := 0, poisoned := 0, progressAt := s.cyc }
  let s := s.writeProgress c next 0 0 0
  if d.op = 3 ∧ d.flags.getLsbD 0 = true ∧ r ≠ 0xFFFFFFFFFFFFFFFF then s.carStop c 9 else s

/-! Meanings -/

/-- DESC_COPY (R364). -/
def execDescCopy (c : Fin 32) (s : State) : Host.Outcome State Fault Refusal := finish s (s.moveStart c 1)

/-- DESC_FILL (R364). -/
def execDescFill (c : Fin 32) (s : State) : Host.Outcome State Fault Refusal := finish s (s.moveStart c 2)

/-- DESC_CMP (R364). -/
def execDescCmp (c : Fin 32) (s : State) : Host.Outcome State Fault Refusal := finish s (s.moveStart c 3)

/-- DESC_CRC (R364). -/
def execDescCrc (c : Fin 32) (s : State) : Host.Outcome State Fault Refusal := finish s (s.moveStart c 4)

/-- DESC_GATHER (R365). -/
def execDescGather (c : Fin 32) (s : State) : Host.Outcome State Fault Refusal := finish s (s.moveStart c 5)

/-- DESC_SCATTER (R365). -/
def execDescScatter (c : Fin 32) (s : State) : Host.Outcome State Fault Refusal := finish s (s.moveStart c 6)

/-- PEERWR (R376). -/
def execPeerwr (c : Fin 32) (s : State) : Host.Outcome State Fault Refusal := finish s (s.moveStart c 7)

/-- PEERRD (R376). -/
def execPeerrd (c : Fin 32) (s : State) : Host.Outcome State Fault Refusal := finish s (s.moveStart c 8)

/-- The range of a SEALCOPY lies in the region of a seal that is ACTIVE (R370, R391). -/
def State.sealcopyOk (s : State) (d : Desc) : Bool :=
  let x := s.seal ⟨d.o0.toNat % 4, Nat.mod_lt _ (by decide)⟩
  x.st == .active && decide (d.o1.toNat + d.o2.toNat ≤ x.len)

/-- The bitmap line of the granule at a sealing carriage's position fails its check (R394). -/
def State.sweepDamage (s : State) (c : Fin 32) (bitmapFails : Bool) : State :=
  match s.sweepRange c with
  | some (_, first, n) =>
    let at_ := (s.car c).done / 4096
    if bitmapFails = true ∧ at_ < n then (s.raise 63 0 ((first + at_) / 512)).spanDamaged ((first + at_) / 512) else s
  | none => s

/-- SEALCOPY (R390, R391, R394): a chain's descriptor, or the share of a sweep carriage. The operand says that the bitmap
line of the granule at its position fails its check. -/
def execSealcopy (c : Fin 32) (s : State) (bitmapFails : Bool := false) : Host.Outcome State Fault Refusal :=
  let k := s.car c
  if k.share.isSome ∨ (k.st = .running ∧ (s.sweepRange c).isSome) then finish s ((s.sweepDamage c bitmapFails).carGo c)
  else finish s (s.descStart c 9 (fun s d =>
    if s.sealcopyOk d then (s.sweepDamage c bitmapFails).carGo c else s.carStop c 3))

/-- WAITT with EXTERNAL = 0 allocates and arms a comparator (R366). -/
def State.waittStart (s : State) (c : Fin 32) (d : Desc) : State :=
  match s.tcAny with
  | none => s.carStop c 7
  | some n =>
    let s := (s.setReg (aTC_PERIOD n) 0).tcArm n 1 d.o0 (d.o1.toNat % 2 ^ 32) 2 c |>.1
    s.setCar c { s.car c with st := .waitt, comp := some n }

/-- WAITT with EXTERNAL = 1 consumes a latched release or waits for one (R367). -/
def State.waittExternal (s : State) (c : Fin 32) (d : Desc) : State :=
  let k := s.car c
  if k.release then s.setCar c { k with release := false }
  else s.setCar c { k with st := .waitt, deadline := if d.o2 = 0 then none else some d.o2.toNat }

/-- WAITT (R366). -/
def execWaitt (c : Fin 32) (s : State) : Host.Outcome State Fault Refusal :=
  finish s (s.descStart c 10 (fun s d => if d.flags.getLsbD 0 then s.waittExternal c d else s.waittStart c d))

/-- WAITT_EXTERNAL (R367). -/
def execWaittExternal (c : Fin 32) (s : State) : Host.Outcome State Fault Refusal :=
  finish s (s.descStart c 10 (fun s d => if d.flags.getLsbD 0 then s.waittExternal c d else s.waittStart c d))

/-- VALUE of a NOTIFY, direct or from the program store (R369). -/
def State.notifyValue (s : State) (d : Desc) : Nat :=
  let v := d.o1.toNat % 2 ^ 32
  if d.flags.getLsbD 4 then Memory.getN s.pstore v 4 else v

/-- The roll call of a NOTIFY: a slot that has not launched stops the chain; otherwise the carriage has the record to post
(R369, R399, R400). -/
def State.notifyRollcall (s : State) (c : Fin 32) (d : Desc) : State :=
  let slot := getBits d.o0 32 8
  if h : slot < 8 then
    let o := s.outing ⟨slot, h⟩
    if o.st = .launched ∨ o.st = .posted then
      let p : Post := { slot := ⟨slot, h⟩, outing := o, status := if d.flags.getLsbD 3 then 3 else 1, reason := 0,
                        value := s.notifyValue d, sent := false }
      (s.setCar c { s.car c with post := some p }).carPost c
    else s.carStop c 3
  else s.carStop c 3

/-- NOTIFY's actions in order (R369). -/
def State.notifyActions (s : State) (c : Fin 32) (d : Desc) : State :=
  let t := getBits d.o0 0 8
  let s := if d.flags.getLsbD 0 = true then
      (if h : t < 8 then s.setEvents ⟨t, h⟩ (BitVec.ofNat 16 (getBits d.o0 8 8)) else s) else s
  let s := if d.flags.getLsbD 1 then
      let r := s.record 0x12 0xFFFF [(12, 1, c), (16, 4, s.notifyValue d), (20, 4, (s.car c).desc)]
      (s.toHeads ((List.finRange 16).filter (fun k => d.o0.getLsbD (16 + k.val))) .informational r).toFm .informational r
    else s
  if d.flags.getLsbD 2 then s.notifyRollcall c d else s

/-- NOTIFY (R369). A THREAD above 7 with ESIG names no thread and breaks the descriptor (log 24). -/
def execNotify (c : Fin 32) (s : State) : Host.Outcome State Fault Refusal :=
  finish s (s.descStart c 11 (fun s d =>
    if d.flags.getLsbD 0 = true ∧ 8 ≤ getBits d.o0 0 8 then s.carStop c 3 else s.notifyActions c d))

/-- LINK: the descriptor completes at once and the chain goes on at NEXT (R364, R365). -/
def execDescLink (c : Fin 32) (s : State) : Host.Outcome State Fault Refusal :=
  finish s (s.descStart c 12 (fun s d => s.descComplete c d))

/-- END (R361, R364): it completes as every descriptor does; the carriage is IDLE with code 0, and its thread has the
CARRIAGE event. -/
def execDescEnd (c : Fin 32) (s : State) : Host.Outcome State Fault Refusal :=
  finish s (s.descStart c 15 (fun s d =>
    let s := s.descComplete c d
    (s.setCar c { s.car c with st := .idle, code := 0 }).carEvent c))

/-- DESCRIPTOR_COMPLETE (R364). -/
def execDescriptorComplete (c : Fin 32) (s : State) : Host.Outcome State Fault Refusal :=
  match (s.car c).cur with
  | none => .next s
  | some d => finish s (if s.descFinished c then s.descComplete c d else s)

/-- WAITT_DEADLINE (R367). -/
def execWaittDeadline (c : Fin 32) (s : State) : Host.Outcome State Fault Refusal :=
  let k := s.car c
  match k.deadline with
  | some v => if k.st = .waitt ∧ v ≤ s.now then finish s (s.carStop c 2) else .next s
  | none => .next s

/-- Time without progress counts against the carriage's timeout: while it is RUNNING, sweeps its share, or posts (R373,
R399). -/
def State.timed (s : State) (c : Fin 32) : Bool :=
  let k := s.car c
  k.st == .running || (k.st == .reserved && (k.post.isSome || (match k.share with
    | some p => decide (k.done / 4096 < p.2.2)
    | none => false)))

/-- CARRIAGE_TIMEOUT (R373): time without a line of progress. -/
def execCarriageTimeout (c : Fin 32) (s : State) : Host.Outcome State Fault Refusal :=
  let us := s.fld (aCR_CTRL c) 0 24
  if s.timed c = true ∧ us ≠ 0 ∧ (s.car c).progressAt + cycUs us ≤ s.cyc then finish s (s.carStop c 2)
  else .next s

/-- The outstanding peer request at a place of the order in which the pieces stand. -/
def Carriage.peerAt (k : Carriage) (index : Nat) : Option (Nat × Piece) :=
  ((k.flight.mapIdx (fun i p => (i, p))).filter (fun (q : Nat × Piece) => q.2.peer))[index]?

/-- The completion of a peer request (R376, R377): a write's ends its piece; read data is written to the destination, as
poison where it came so; an error status stops the carriage. -/
def State.peerDone (s : State) (c : Fin 32) (d : Desc) (i : Nat) (p : Piece) (status : UioStatus) (poisoned : Bool)
    (data : List Byte) : State :=
  let k := s.car c
  if status ≠ .ok then s.carStop c 8 else
  let ws := if d.op = 8 then rangeWrites (d.o1.toNat + p.pos) p.bytes poisoned (fun j => data.getD j 0) else []
  let k := { k.setPiece i { p with peer := false, toWrite := ws } with
             progressAt := s.cyc, poisoned := k.poisoned + (if poisoned then ws.length else 0) }
  (s.setCar c k).carGo c

/-- The completion of a roll-call post (R377, R399): a carriage reserved for an absent outing returns to its earlier state,
a NOTIFY's goes on; an error status stops the carriage. -/
def State.postDone (s : State) (c : Fin 32) (status : UioStatus) : State :=
  let k := s.car c
  if status ≠ .ok then s.carStop c 8
  else if k.st = .reserved then s.carUnreserve c
  else
    let s := s.setCar c { k with post := none, progressAt := s.cyc }
    match k.abort with
    | some a => s.carStopBy c a.1 a.2
    | none => s

/-- UIO_COMPLETION (R376, R377, R399): the completion of outstanding request `index` of a carriage, or of its post. -/
def execUioCompletion (c : Fin 32) (index : Nat) (status : UioStatus) (poisoned : Bool) (s : State) (data : List Byte := []) :
    Host.Outcome State Fault Refusal :=
  let k := s.car c
  match k.post with
  | some p => finish s (if p.sent then s.postDone c status else s)
  | none =>
    match k.cur, k.peerAt index with
    | some d, some q => finish s (if k.st = .running then s.peerDone c d q.1 q.2 status poisoned data else s)
    | _, _ => .next s

end Sys2Proof.Machine
end

