-- ==== Sys2Proof/Machine/Gf.lean ====
section
/-! DEFINITION. The line code: GF(2^8), the systematic RS(72,64) code, poison, and the decoder with erasures (R402 to
R409). -/

namespace Sys2Proof.Machine

/-! The field (R402) -/

/-- Multiplication by alpha, modulo 0x11D. -/
def gfTwice (a : Byte) : Byte := if a.getLsbD 7 then (a <<< 1) ^^^ 0x1D else a <<< 1

/-- The product, from bit `n - 1` of `b` down. -/
def gfMulFrom (a b : Byte) : Nat → Byte → Byte
  | 0, acc => acc
  | n + 1, acc => gfMulFrom a b n (gfTwice acc ^^^ (if b.getLsbD n then a else 0))

/-- The product of two elements. -/
def gfMul (a b : Byte) : Byte := gfMulFrom a b 8 0

/-- A power of an element. -/
def gfPow (a : Byte) : Nat → Byte
  | 0 => 1
  | n + 1 => gfMul a (gfPow a n)

/-- The inverse of a nonzero element. -/
def gfInv (a : Byte) : Byte := gfPow a 254

/-! The code (R402 to R404) -/

/-- The product of a polynomial, low coefficient first, and (x - r). -/
def polyTimesRoot (p : List Byte) (r : Byte) : List Byte :=
  (List.range (p.length + 1)).map (fun i => (if i = 0 then 0 else p.getD (i - 1) 0) ^^^ gfMul r (p.getD i 0))

/-- The polynomial with the given roots, low coefficient first. -/
def polyOfRoots (rs : List Byte) : List Byte := rs.foldl polyTimesRoot [1]

/-- Coefficients 0 to 7 of the generator g(x). -/
def rsGenerator : List Byte := (polyOfRoots ((List.range 8).map (gfPow 2))).take 8

/-- One step of the division by g(x): the remainder after one more coefficient, highest first. -/
def rsStep (r : List Byte) (d : Byte) : List Byte :=
  let f := d ^^^ r.getD 7 0
  (List.range 8).map (fun j => (if j = 0 then 0 else r.getD (j - 1) 0) ^^^ gfMul f (rsGenerator.getD j 0))

/-- Check symbols p_0 to p_7 of data bytes 0 to 63 (R403). -/
def checkSymbols (data : List Byte) : List Byte := data.reverse.foldl rsStep (List.replicate 8 0)

/-- The poison constant's bytes, P_0 first (R408). -/
def poisonBytes : List Byte := [0x96, 0x3C, 0x5A, 0xE1, 0x0F, 0xC3, 0x78, 0xA5]

/-- A stored word with its poison mark turned over. -/
def flipPoison (w : List Byte) : List Byte := w.mapIdx (fun i b => if i < 64 then b else b ^^^ poisonBytes.getD (i - 64) 0)

/-- The 72 symbols of a stored line: symbol i is data byte i, symbol 64 + j is check symbol p_j (R404, R408). -/
def codeword (v : LineVal) : List Byte :=
  let d := v.data.bytes
  let w := d ++ checkSymbols d
  if v.poison then flipPoison w else w

/-! The decoder (R405, R409) -/

/-- The locator of a symbol: alpha to the power of its coefficient's exponent (R403). -/
def symbolLocator (i : Nat) : Byte := gfPow 2 (if i < 64 then i + 8 else i - 64)

/-- Syndrome j of a received word: its value at alpha^j, by Horner's rule from the highest coefficient. -/
def syndrome (w : List Byte) (j : Nat) : Byte :=
  let x := gfPow 2 j
  let coeffs := (w.take 64).reverse ++ (w.drop 64).reverse
  coeffs.foldl (fun acc c => gfMul acc x ^^^ c) 0

/-- The value of a linear form on a sequence. -/
def applyForm : List Byte → List Byte → Byte
  | c :: cs, s :: ss => gfMul c s ^^^ applyForm cs ss
  | _, _ => 0

/-- The syndromes that the recurrence of a set of symbols leaves: entry i is the form of the set's polynomial on the
syndromes from i on. They all vanish exactly when errors at these symbols alone explain the syndromes. -/
def reducedSyndromes (roots : List Byte) (syn : List Byte) : List Byte :=
  let f := polyOfRoots roots
  (List.range (syn.length - roots.length)).map (fun i => applyForm f (syn.drop i))

/-- Pairs of a list in order. -/
def orderedPairs : List Nat → List (List Nat)
  | [] => []
  | x :: xs => xs.map (fun y => [x, y]) ++ orderedPairs xs

/-- The symbols that two errors can stand at: the roots of the locator that four syndromes determine. -/
def locatorRoots (free : List Nat) (t : List Byte) : List Nat :=
  let a := t.getD 0 0
  let b := t.getD 1 0
  let c := t.getD 2 0
  let d := t.getD 3 0
  let inv := gfInv (gfMul b b ^^^ gfMul a c)
  let sum := gfMul inv (gfMul b c ^^^ gfMul a d)
  let product := gfMul inv (gfMul b d ^^^ gfMul c c)
  free.filter (fun i => let x := symbolLocator i; gfMul x x ^^^ gfMul sum x ^^^ product == 0)

/-- The unknown symbols in error for a word with erasures `f` and these syndromes: the least number e of them, e ≤ 2 and
2e + f ≤ 8 (R405); none when the word does not decode. -/
def errorSymbols (f : List Nat) (syn : List Byte) : Option (List Nat) :=
  if 8 < f.length then none else
  let t := reducedSyndromes (f.map symbolLocator) syn
  let known (e : List Nat) : Bool := (reducedSyndromes (e.map symbolLocator) t).all (fun x => x == 0)
  let free := (List.range 72).filter (fun i => !f.contains i)
  if t.all (fun x => x == 0) then some []
  else if f.length ≤ 6 ∧ free.any (fun i => known [i]) = true then (free.find? (fun i => known [i])).map (fun i => [i])
  else if f.length ≤ 4 then (orderedPairs (locatorRoots free t)).find? known
  else none

/-- The magnitude of the error at symbol `p` among the symbols `e`, from the syndromes. -/
def magnitude (e : List Nat) (syn : List Byte) (p : Nat) : Byte :=
  let f := polyOfRoots ((e.filter (fun q => q != p)).map symbolLocator)
  let x := symbolLocator p
  gfMul (applyForm f syn) (gfInv (applyForm f ((List.range f.length).map (gfPow x))))

/-- A word decoded as a codeword: its data and the symbols corrected beside the erasures. -/
def decodeWord (f : List Nat) (w : List Byte) : Option (List Byte × List Nat) :=
  let syn := (List.range 8).map (syndrome w)
  (errorSymbols f syn).map (fun e =>
    let all := f ++ e
    (w.mapIdx (fun i b => if all.contains i then b ^^^ magnitude all syn i else b), e))

/-- What a decode finds. -/
inductive Decoded where
  /-- A line, with the unknown symbols that were corrected. -/
  | line (v : LineVal) (fixed : List Nat)
  | uncorrectable
  deriving DecidableEq, Repr

/-- The line a decoded word holds. -/
def wordLine (w : List Byte) (poison : Bool) : LineVal := { data := Line.ofBytes (w.take 64), poison := poison }

/-- The decode under both hypotheses (R409). -/
def decode (f : List Nat) (w : List Byte) : Decoded :=
  match decodeWord f w, decodeWord f (flipPoison w) with
  | some p, none => .line (wordLine p.1 false) p.2
  | none, some p => .line (wordLine p.1 true) p.2
  | _, _ => .uncorrectable

/-- A word with error patterns: symbol and the bits it turns over. -/
def withErrors (w : List Byte) (errors : List (Nat × Byte)) : List Byte :=
  errors.foldl (fun w e => w.set e.1 (w.getD e.1 0 ^^^ e.2)) w

end Sys2Proof.Machine
end

