-- ==== Sys2Proof/Machine/Place.lean ====
section
/-! DEFINITION. Where a line lives: its channel, or its line in a stand-in; what the cells hold; the symbols of a channel
carried as erasures (R222, R404, R405, R469 to R482). -/

namespace Sys2Proof.Machine

/-! Stand-ins (R474 to R482) -/

/-- XR_SI_STATUS.STATE of a stand-in. -/
def State.siState (s : State) (n : Nat) : Nat := s.fld (aXR_SI_STATUS n) 0 2

/-- The lost channel that a stand-in serves. -/
def State.siChannel (s : State) (n : Nat) : Nat := s.fld (aXR_SI_STATUS n) 2 5

/-- The stand-in of a channel. -/
def State.siOf (s : State) (c : Nat) : Option Nat := [0, 1].find? (fun n => s.siState n != 0 && s.siChannel n == c)

/-- Survivor channels of a stand-in, ascending (R475). -/
def State.siSurvivors (s : State) (n : Nat) : List Nat :=
  match s.links.survivors.find? (fun p => p.1 == n) with
  | some p => p.2
  | none => []

/-- Slot `slot` of a stand-in at the position of a line: survivor channel and line (R476). -/
def State.slotLine (s : State) (n slot line : Nat) : Option (Nat × Nat) :=
  let surv := s.siSurvivors n
  match (s.siBlocks n)[slot / surv.length]?, surv[slot % surv.length]? with
  | some b, some v => some (v, b * 2 ^ 22 + line / 32 % 2 ^ 17 * 32 + (v ^^^ (line / 2 ^ 17 % 32)))
  | _, _ => none

/-- The channel is lost. -/
def State.isLost (s : State) (c : Nat) : Bool := if h : c < 32 then (s.chan ⟨c, h⟩).mode == .lost else false

/-- Where a line lives: channel and line of that channel. A line of a lost channel without its stand-in in service is
held on that channel; none where it has no stand-in at all (R474, R480 to R482). -/
def State.place (s : State) (line : Nat) : Option (Nat × Nat) :=
  let c := lineChannel line
  if s.isLost c = false then some (c, line) else
  match s.siOf c with
  | none => none
  | some n =>
    if s.siState n ≠ 3 then some (c, line) else
    match s.slotLine n (line / 2 ^ 22) line with
    | none => none
    | some (v, l) =>
      if s.isLost v = false then some (v, l)
      else if n = 0 ∧ s.siOf v = some 1 ∧ (s.siSurvivors 0).length = 31 then
        if s.siState 1 ≠ 3 then some (v, l) else
        match s.slotLine 1 (256 + line / 2 ^ 22 / 31) line with
        | some (u, l2) => if s.isLost u then none else some (u, l2)
        | none => none
      else none

/-- The channel a line is served by, 32 for none. -/
def State.placeChan (s : State) (line : Nat) : Nat :=
  match s.place line with
  | some p => p.1
  | none => 32

/-! Cells -/

/-- A poisoned line of zero data (R419). -/
def poisonLine : LineVal := { data := 0, poison := true }

/-- Symbols of a line turned over to or from their differences from what the fill of its slot wrote (Links.filled). -/
def State.overFill (s : State) (l : Nat) (w : List Byte) : List Byte :=
  if s.links.filled.contains (lineChannel l, l / 2 ^ 22) then List.zipWith (fun (a b : Byte) => a ^^^ b) w (codeword poisonLine)
  else w

/-- The 72 symbols stored for a line of a channel (R404). -/
def State.cells (s : State) (l : Nat) : List Byte := s.overFill l (Memory.bytes s.dram (l * 72) 72)

/-- A line stored in its cells as a codeword (R403, R408). -/
def State.storeLine (s : State) (l : Nat) (v : LineVal) : State :=
  { s with dram := Memory.setBytes s.dram (l * 72) (s.overFill l (codeword v)) }

/-- Every line of some slots, pairs of a channel and a block, reads as zero or as poison (R186, R479). -/
def State.fillSlots (s : State) (slots : List (Nat × Nat)) (poison : Bool) : State :=
  { s with dram := s.dram.filter (fun c => !slots.contains (lineChannel (c.1 / 72), c.1 / 72 / 2 ^ 22)),
           links := { s.links with
             filled := s.links.filled.filter (fun p => !slots.contains p) ++ (if poison then slots.eraseDups else []) } }

/-- What the cells hold, read without errors. -/
def State.cellLine (s : State) (l : Nat) : LineVal :=
  match decode [] (s.cells l) with
  | .line v _ => v
  | .uncorrectable => poisonLine

/-! Wires (R405, R466 to R472) -/

/-- A DQ wire of a channel is dead. -/
def State.dqDead (s : State) (c i : Nat) : Bool :=
  if i < 64 then s.flag (aXR_CH_DQDEAD c) i else s.flag (aXR_CH_DEADHI c) (i - 64)

/-- DQ spare `j` is dead. -/
def State.spareDead (s : State) (c j : Nat) : Bool := s.flag (aXR_CH_DEADHI c) (8 + j)

/-- The DQ that spare `j` carries, 0x7F for none. -/
def State.spareWire (s : State) (c j : Nat) : Nat := s.fld (aXR_CH_SPMAP c) (8 * j) 7

/-- Spare `j` stands in for a measurement. -/
def State.spareTemp (s : State) (c j : Nat) : Bool := s.flag (aXR_CH_SPMAP c) (8 * j + 7)

/-- A live spare carries the wire. -/
def State.dqCovered (s : State) (c i : Nat) : Bool :=
  (List.range 4).any (fun j => s.spareWire c j == i && !s.spareDead c j)

/-- First wire of the active half of a channel in limp (R470). -/
def State.halfBase (s : State) (c : Nat) : Nat := if s.flag (aXR_CH_STATUS c) 7 then 36 else 0

/-- A channel is in limp. -/
def State.isLimp (s : State) (c : Nat) : Bool := if h : c < 32 then (s.chan ⟨c, h⟩).mode == .limp else false

/-- The symbols of a channel that its dead wires make erasures (R405, R468, R472, Table 11.4). -/
def State.erasures (s : State) (c : Nat) : List Nat :=
  let bad (i : Nat) : Bool := s.dqDead c i && !s.dqCovered c i
  if s.isLimp c then
    ((List.range' (s.halfBase c) 36).filter bad).flatMap (fun w => [w, (w + 36) % 72])
  else (List.range 72).filter bad

end Sys2Proof.Machine
end

