-- ==== Sys2Proof/Machine/LinkOps.lean ====
section
/-! DEFINITION. Wires: the tap of a sweep, dead wires and their stages, limp, channel faults (R438, R439, R450 to R452,
R462 to R473). -/

namespace Sys2Proof.Machine

/-- INT_CH_STATUS.REPLAYING. -/
def State.replaying (s : State) (c : Nat) : Bool := s.flag (aINT_CH_STATUS c) 0

/-! Channel faults (R438, R439) -/

/-- The spares that stand in for measurements of a channel are free again; the measured wires keep their taps (R463). -/
def State.dropStandins (s : State) (c : Nat) : State :=
  let s := (List.range 4).foldl (fun s j => if s.spareTemp c j then s.setFld (aXR_CH_SPMAP c) (8 * j) 8 0x7F else s) s
  let s := if s.flag (aXR_CH_CASPMAP c) 5 then s.setFld (aXR_CH_CASPMAP c) 0 6 0x1F else s
  if s.flag (aXR_CH_CASPMAP c) 13 then s.setFld (aXR_CH_CASPMAP c) 8 6 0x1F else s

/-- A measurement in progress in either group of a channel is abandoned: a tap that waits for its change instant goes too
(R463). -/
def State.dropMeasures (s : State) (c : Nat) : State :=
  let s := { s with links := { s.links with
    measuring := s.links.measuring.filter (fun m => m.1 != c && m.1 != 32 + c),
    pendingTaps := s.links.pendingTaps.filter (fun p => p.1 != c && p.1 != 32 + c) } }
  (s.dropStandins c).setFlag (aXR_CH_STATUS c) 8 false

/-- A channel fault: causes 0 parity, 1 burst pattern, 2 missing clock. The channel stops; every read and every journal
entry is kept, those of writes in flight too; a measurement in progress is abandoned (R463). -/
def State.channelFault (s : State) (c : Fin 32) (cause : Nat) : State :=
  let was := s.replaying c
  let ch := s.chan c
  let back := ch.writing.map (fun w => w.1)
  let s := s.setChan c { ch with
    pool := ch.pool.map (fun e => { e with issued := if e.fwd.isSome then e.issued else none, retry := false }), wbuf := back ++ ch.wbuf, writing := [],
    banks := [], decodes := [], inService := false, impossible := if was then ch.impossible else false,
    faultAt := if was then ch.faultAt else s.cyc, faultCause := if was then ch.faultCause else cause,
    spilled := if was then ch.spilled else 0, spilling := was && ch.spilling }
  let s := s.dropMeasures c
  let s := (s.setFlag (aINT_CH_STATUS c) 0 true).setFld (aINT_CH_STATUS c) 1 2 cause
  let s := s.bump (aINT_CH_STATUS c) 16 16 1
  let s := if was then s else s.setReg (aINT_CH_FAULT_RT c) s.nowW
  s.raise 66 c cause

/-! Sweeps and taps (R450 to R452) -/

/-- Start and length of the widest run of passing taps, the lower of two equal ones (R451). -/
def widestRun (p : BitVec 32) : Nat × Nat :=
  let step (x : Nat × Nat × Nat × Nat) (i : Nat) : Nat × Nat × Nat × Nat :=
    let (cs, cl, bs, bl) := x
    if p.getLsbD i then
      let cs := if cl = 0 then i else cs
      if bl < cl + 1 then (cs, cl + 1, cs, cl + 1) else (cs, cl + 1, bs, bl)
    else (0, 0, bs, bl)
  let r := (List.range 32).foldl step (0, 0, 0, 0)
  (r.2.2.1, r.2.2.2)

/-- The tap a sweep picks, or none for a dead wire (R451, R452, Table 11.1). -/
def bestTap (p : BitVec 32) (minRun : Nat) (redundant : Bool) : Option Nat :=
  let r := widestRun p
  if r.2 < minRun then none else
  let c := r.1 + (r.2 - 1) / 2
  some (if redundant = false then c else if c < 6 then c + 20 else if 25 < c then c - 20 else c)

/-- Tap of a wire by its index in XR_TAPS. -/
def State.tapOf (s : State) (i : Nat) : Nat := s.fld (aXR_TAPS (i / 4)) (8 * (i % 4)) 5

/-- A tap applied to a live wire. -/
def State.setTap (s : State) (i t : Nat) : State := s.setFld (aXR_TAPS (i / 4)) (8 * (i % 4)) 8 (0x80 + t)

/-- LIVE of a wire cleared. -/
def State.killTap (s : State) (i : Nat) : State := s.setFlag (aXR_TAPS (i / 4)) (8 * (i % 4) + 7) false

/-! Wires of a channel (Table 11.1; index w: 0 to 71 DQ, 72 to 75 DQ spares, 76 to 97 CA, 98 and 99 CA spares) -/

/-- The wire is dead. -/
def State.wireDead (s : State) (c w : Nat) : Bool :=
  if w < 72 then s.dqDead c w
  else if w < 76 then s.spareDead c (w - 72)
  else s.flag (aXR_CH_CADEAD c) (w - 76)

/-- The wire is marked dead until power-up (R466). -/
def State.markDead (s : State) (c w : Nat) : State :=
  let s := s.killTap (100 * c + w)
  if w < 64 then s.setFlag (aXR_CH_DQDEAD c) w true
  else if w < 72 then s.setFlag (aXR_CH_DEADHI c) (w - 64) true
  else if w < 76 then s.setFlag (aXR_CH_DEADHI c) (8 + (w - 72)) true
  else s.setFlag (aXR_CH_CADEAD c) (w - 76) true

/-- The DQ spares a channel may use: all four, or those of the active half in limp (R464, R470). -/
def State.usableSpares (s : State) (c : Nat) : List Nat :=
  let js := if s.isLimp c then [s.halfBase c / 18, s.halfBase c / 18 + 1] else [0, 1, 2, 3]
  js.filter (fun j => !s.spareDead c j)

/-- A DQ spare that carries nothing. -/
def State.spareIdle (s : State) (c j : Nat) : Bool := s.spareWire c j == 0x7F

/-- DQ spares that carry no wire permanently: idle, or standing in for a measurement. -/
def State.freeDqSpares (s : State) (c : Nat) : List Nat :=
  (s.usableSpares c).filter (fun j => s.spareIdle c j || s.spareTemp c j)

/-- DQ spare `j` carries a wire from now on. -/
def State.setSpare (s : State) (c j wire : Nat) (temp : Bool) : State :=
  s.setFld (aXR_CH_SPMAP c) (8 * j) 8 (wire + 0x80 * bit temp)

/-- Command/address spare `j`'s wire, 0x1F for none. -/
def State.caSpareWire (s : State) (c j : Nat) : Nat := s.fld (aXR_CH_CASPMAP c) (8 * j) 5

/-- Command/address spare `j` stands in for a measurement. -/
def State.caSpareTemp (s : State) (c j : Nat) : Bool := s.flag (aXR_CH_CASPMAP c) (8 * j + 5)

/-- Command/address spares that carry no wire permanently. -/
def State.freeCaSpares (s : State) (c : Nat) : List Nat :=
  [0, 1].filter (fun j => !s.flag (aXR_CH_CADEAD c) (22 + j) && (s.caSpareWire c j == 0x1F || s.caSpareTemp c j))

/-- Command/address spare `j` carries a wire from now on. -/
def State.setCaSpare (s : State) (c j wire : Nat) (temp : Bool) : State :=
  s.setFld (aXR_CH_CASPMAP c) (8 * j) 6 (wire + 0x20 * bit temp)

/-- A live spare carries the command/address wire. -/
def State.caCovered (s : State) (c i : Nat) : Bool :=
  [0, 1].any (fun j => s.caSpareWire c j == i && !s.flag (aXR_CH_CADEAD c) (22 + j))

/-- Counts that XR_CH_STATUS shows. -/
def State.refreshWires (s : State) (c : Nat) : State :=
  let used := ((List.range 4).filter (fun j => !s.spareIdle c j && !s.spareTemp c j && !s.spareDead c j)).length
  let ca := ([0, 1].filter (fun j => s.caSpareWire c j != 0x1F && !s.caSpareTemp c j
    && !s.flag (aXR_CH_CADEAD c) (22 + j))).length
  let a := aXR_CH_STATUS c
  let s := ((s.setFld a 0 3 used).setFld a 3 4 (s.erasures c).length).setFld a 9 2 ca
  s.setFlag a 8 (s.links.measuring.any (fun m => m.1 == c || m.1 == 32 + c))

/-! Stages (R467 to R472) -/

/-- Half `h` of a channel is fully good (R469). -/
def State.halfGood (s : State) (c h : Nat) : Bool :=
  decide (((List.range' (36 * h) 36).filter (s.dqDead c)).length
    ≤ ([2 * h, 2 * h + 1].filter (fun j => !s.spareDead c j)).length)

/-- A channel enters limp (R470): half A if it is fully good, else half B; its spares take its dead wires, lowest first. A measurement of the DQ group that is still in progress ends without a tap. -/
def State.enterLimp (s : State) (c : Fin 32) : State :=
  let h := if s.halfGood c 0 then 0 else 1
  let s := (s.setFlag (aXR_CH_STATUS c) 7 (h == 1)).setReg (aXR_CH_SPMAP c) 0x7F7F7F7F
  let live := [2 * h, 2 * h + 1].filter (fun j => !s.spareDead c j)
  let dead := (List.range' (36 * h) 36).filter (s.dqDead c)
  let s := (live.zip dead).foldl (fun s (p : Nat × Nat) => s.setSpare c p.1 p.2 false) s
  let s := s.setChan c { s.chan c with mode := .limp }
  let s := { s with links := { s.links with limpDue := s.links.limpDue.filter (fun x => x != c.val),
                                            measuring := s.links.measuring.filter (fun m => m.1 != c.val) } }
  s.refreshWires c

/-- A dead DQ wire that no spare can take: erasure, limp at the next halt boundary, or lost (R468). -/
def State.deadStage (s : State) (c : Fin 32) (w : Nat) : State :=
  let f := (s.erasures c).length
  if s.isLimp c then
    if w / 36 ≠ s.halfBase c / 36 then s
    else if f ≤ 4 then s.raise 75 c w else s.channelFault c 1
  else if f ≤ 4 then s.raise 75 c w
  else if s.halfGood c 0 = true ∨ s.halfGood c 1 = true then
    if s.links.limpDue.contains c.val then s else
    State.raise { s with links := { s.links with limpDue := s.links.limpDue.filter (fun x => x != c.val) ++ [c.val] } } 76 c w
  else s.channelFault c 1

/-- A DQ wire dies outside a training: a free spare takes it at the next halt boundary, or the next stage holds (R468). -/
def State.deadDq (s : State) (c : Fin 32) (w : Nat) : State :=
  let s := s.markDead c w
  let waiting := ((List.range 72).filter (fun i => s.dqDead c i && !s.dqCovered c i)).length
  let s := if waiting ≤ (s.freeDqSpares c).length then s.raise 74 c w else s.deadStage c w
  s.refreshWires c

/-- A DQ is flagged by the decoder's tracking (R467): measured next if a free spare exists, else dead. In limp a symbol's
wire is that of the active half. -/
def State.flagWire (s : State) (c : Fin 32) (symbol : Nat) : State :=
  let w := if s.isLimp c then s.halfBase c + symbol % 36 else symbol
  let ch := s.chan c
  if s.dqDead c w = true ∨ ch.flagged.contains w = true then s
  else if (s.freeDqSpares c).isEmpty then s.deadDq c w
  else s.setChan c { ch with flagged := ch.flagged ++ [w] }

end Sys2Proof.Machine
end

