-- ==== Sys2Proof/Machine/Media.lean ====
section
/-! DEFINITION. The journal and the write buffers, corrected and uncorrectable lines and their tables, channel faults
(R231 to R236, R412 to R423, R437 to R439, R467). -/

namespace Sys2Proof.Machine

/-! Lines -/

/-- The bits of a line that a byte mask enables. -/
def byteMask (m : BitVec 64) : Line :=
  Line.ofBytes ((List.range 64).map (fun i => if m.getLsbD i then (0xFF : Byte) else 0))

/-- The mask covers the line. -/
def fullMask (m : BitVec 64) : Bool := m == BitVec.allOnes 64

/-- A write merged into a line: a full line replaces it, a partial one leaves a poisoned line poisoned (R32, Table 5.5). -/
def mergeLine (old new : LineVal) (m : BitVec 64) : LineVal :=
  if fullMask m then new
  else { data := (old.data &&& ~~~(byteMask m)) ||| (new.data &&& byteMask m), poison := old.poison || new.poison }

/-- A cached line. -/
def State.cached (s : State) (line : Nat) : Option CacheLine := s.cache.find? (fun l => l.line == line)

/-- Journal entries of a line, in order of acceptance. -/
def State.journalOf (s : State) (line : Nat) : List JEntry := s.mem.journal.filter (fun e => e.line == line)

/-- The newest full line that the journal holds of a line (R234). -/
def State.journalLine (s : State) (line : Nat) : Option LineVal :=
  ((s.journalOf line).filter (fun e => fullMask e.mask)).getLast?.map (fun e => e.val)

/-- The newest data of a line without its cached copy: the cells, then the journal's writes in order. -/
def State.storedNow (s : State) (line : Nat) : LineVal :=
  let base := match s.place line with
    | some p => s.cellLine p.2
    | none => poisonLine
  (s.journalOf line).foldl (fun v e => mergeLine v e.val e.mask) base

/-- The newest data of a line, wherever it stands (R31, R234). -/
def State.lineNow (s : State) (line : Nat) : LineVal :=
  match s.cached line with
  | some l => l.val
  | none => s.storedNow line

/-- The first line of the staging area and of the image-copy area (R554, R556). -/
abbrev stageLine : Nat := 0xFF0000000 / 64
abbrev copyLine : Nat := 0xFF0500000 / 64

/-- The line of the image copy that serves the refetch of a program-store address cannot be read (R304, R430): the code
follows the header's two lines, and the data follows the code. -/
def State.copyLost (s : State) (a : Nat) : Bool := decide (a < 0x400000) && (s.lineNow (copyLine + 2 + a / 64)).poison

/-! Channel state -/

/-- Replay of a channel has proved impossible and it is not back in service (R444). -/
def State.impossible (s : State) (c : Nat) : Bool := if h : c < 32 then (s.chan ⟨c, h⟩).impossible else false

/-- Reads queued in a channel: pool entries without their RD that are not forwarded. -/
def Channel.waiting (ch : Channel) : List PoolEntry := ch.pool.filter (fun e => e.issued.isNone && e.fwd.isNone)

/-- Journal entry by number. -/
def State.jEntry (s : State) (n : Nat) : Option JEntry := s.mem.journal.find? (fun e => e.seq == n)

/-! Records about media (R416, R419) -/

/-- Heads whose extents hold a line's block. -/
def State.holders (s : State) (line : Nat) : List (Fin 16) :=
  (List.finRange 16).filter (fun k => s.grants.any (fun g => g.head == k.val && g.block == line / 2 ^ 22))

/-- A media record goes to the holders of the block and the fabric manager, or to the latter alone (R219, R416, R419). -/
def State.mediaRecord (s : State) (line : Nat) (log : EventLog) (r : Record) : State :=
  (s.toHeads (s.holders line) log r).toFm log r

/-- A record whose layout CXL 3.1 gives (R416, R419, log 7): 0x101 General Media, 0x102 DRAM. -/
def State.cxlRecord (s : State) (ty line : Nat) : Record :=
  { rtype := ty, time := s.now, bytes := Config.standardReply ty [line * 64, lineChannel line, lineBank line, lineRow line, s.now],
    overflow := false }

/-! Tables -/

/-- The page of a line is on the retirement map (R420). -/
def State.pageRetired (s : State) (line : Nat) : Bool := s.integ.retired.contains (line / 64)

/-- An uncorrectable-error entry is made; a full table moves its oldest entry to the spill area (R421). -/
def State.ueAdd (s : State) (e : UeEntry) : State :=
  let t := s.integ
  if t.ue.length < 32 then { s with integ := { t with ue := t.ue ++ [e] } }
  else if t.spill.length < 4096 then
    { s with integ := { t with ue := t.ue.tail ++ [e], spill := t.spill ++ t.ue.take 1 } }
  else (s.setFlag aINT_GSTATUS 1 true).raise 59 0 (e.line * 64)

/-- The CLEARED flag of a line's entries (R423). -/
def State.ueClear (s : State) (line : Nat) : State :=
  let f (e : UeEntry) : UeEntry := if e.line = line then { e with cleared := true } else e
  { s with integ := { s.integ with ue := s.integ.ue.map f, spill := s.integ.spill.map f } }

/-- An entry of the uncorrectable-error table with the records of R419. -/
def State.logUe (s : State) (line source : Nat) (master : Byte) (written : Bool) (stamp : Nat) : State :=
  let s := s.ueAdd { line := line, rt := s.now, source := source, master := master, poisonWritten := written,
                     reported := true, cleared := false, stamp := stamp }
  s.mediaRecord line .failure (s.cxlRecord 0x101 line)

/-! Journal and write buffers (R231, R233, R236, R437) -/

/-- The lowest free line slot of the journal; an entry takes the same slot of copy A and of copy B (R30, Table 14.7). -/
def State.nextSlot (s : State) : Nat :=
  let used := s.journalSlots
  ((List.range (used.length + 1)).find? (fun n => !used.contains n)).getD used.length

/-- A free slot beyond the floor in a page that the journal holds. -/
def State.heldSlot (s : State) : Option Nat :=
  let used := s.journalSlots
  (((used.filter (fun n => journalFloor ≤ n)).map (· / 64)).eraseDups.flatMap (fun p => List.range' (64 * p) 64)).find?
    (fun n => !used.contains n)

/-- The slot that a new entry takes: of the floor, of a page held, or of a new pair of shared pages (R612, R613); none while
the journal cannot take an entry (R437). -/
def State.journalSlot (s : State) : Option Nat :=
  let n := s.nextSlot
  if n < journalFloor then some n
  else match s.heldSlot with
    | some m => some m
    | none => if n < 2 * journalFloor ∧ 2 ≤ s.sharedFree then some n else none

/-- The journal can take a new entry (R437). -/
def State.journalRoom (s : State) : Bool := s.journalSlot.isSome

/-- An entry of the journal changed. -/
def State.setJPlace (s : State) (n : Nat) (p : JPlace) : State :=
  { s with mem := { s.mem with journal := s.mem.journal.map (fun e => if e.seq = n then { e with place := p } else e) } }

/-- Entries of the journal released. -/
def State.dropEntries (s : State) (ns : List Nat) : State :=
  { s with mem := { s.mem with journal := s.mem.journal.filter (fun e => !ns.contains e.seq) } }

/-- Entries of a channel that wait in the hamper for buffer space: full lines without an earlier entry of their line outside
the buffer, in order of acceptance (R236). -/
def State.waitingFor (s : State) (c : Fin 32) : List JEntry :=
  s.mem.journal.filter (fun e => e.place == .hamper && fullMask e.mask && s.placeChan e.line == c.val
    && !(s.mem.journal.any (fun f => f.seq < e.seq && f.line == e.line && f.place != .buffer)))

/-- The buffer entry holds the line of some writes. -/
def State.entryHolds (s : State) (ns : List Nat) (line : Nat) : Bool := ns.any (fun n => (s.jEntry n).any (fun f => f.line == line))

/-- Writes enter the write buffer while it has room; a write of a line that it holds replaces the entry's data in place,
and every write keeps its journal entry until the burst of that entry completes (R31, R233, R236). -/
def State.refill (s : State) (c : Fin 32) : Nat → State
  | 0 => s
  | fuel + 1 =>
    let ch := s.chan c
    match (s.waitingFor c).find? (fun e => decide (ch.wbuf.length < 64) || ch.wbuf.any (fun ns => s.entryHolds ns e.line)) with
    | none => s
    | some e =>
      let buf := if ch.wbuf.any (fun ns => s.entryHolds ns e.line)
        then ch.wbuf.map (fun ns => if s.entryHolds ns e.line then e.seq :: ns else ns)
        else ch.wbuf ++ [[e.seq]]
      State.refill ((s.setChan c { ch with wbuf := buf }).setJPlace e.seq .buffer) c fuel

/-- A new entry of the journal in a place; where the journal has no slot free it stands beyond the last one, and the
journal takes nothing until it has drained (log 10). -/
def State.journalAdd (s : State) (line : Nat) (v : LineVal) (mask : BitVec 64) (src : Option Src) (stamp : Nat)
    (place : JPlace) : State :=
  let slot := if place = .spilled then none else some (s.journalSlot.getD s.nextSlot)
  let e : JEntry := { seq := s.mem.nextSeq, slot := slot, line := line, val := v, mask := mask, src := src, stamp := stamp,
                      place := place }
  { s with mem := { s.mem with journal := s.mem.journal ++ [e], nextSeq := s.mem.nextSeq + 1,
                               installs := s.mem.installs.filter (fun l => l.line != line) } }

/-- Writes that the journal holds for a channel go on: into its buffer, or to the spill area while the channel's entries are
spilled (R443). -/
def State.journalGo (s : State) (n : Nat) : State :=
  match s.jEntry n with
  | none => s
  | some e =>
    let c := s.placeChan e.line
    if h : c < 32 then
      let ch := s.chan ⟨c, h⟩
      if s.flag (aINT_CH_STATUS c) 0 && ch.spilling then
        let s := { s with mem := { s.mem with journal := s.mem.journal.map (fun (f : JEntry) =>
          if f.seq = n then { f with place := .spilled, slot := none } else f) } }
        s.setChan ⟨c, h⟩ { ch with spilled := ch.spilled + 1 }
      else (s.setJPlace n .hamper).refill ⟨c, h⟩ 65
    else s

/-- A write of a line on a channel whose replay proved impossible: discarded, its line poisoned and logged (R444). -/
def State.replayLost (s : State) (line : Nat) : State :=
  match s.place line with
  | some p => State.logUe (s.storeLine p.2 poisonLine) line 5 0xFF true 0
  | none => s

/-- A write enters the journal for its channel (R31, R34, R443). A line without a home drops it (R482); on a channel
whose replay proved impossible it is discarded and logged (R444). -/
def State.journalPush (s : State) (line : Nat) (v : LineVal) (mask : BitVec 64) (src : Option Src) (stamp : Nat) :
    State :=
  match s.place line with
  | none => s
  | some p =>
    if s.impossible p.1 then s.replayLost line
    else (s.journalAdd line v mask src stamp .hamper).journalGo s.mem.nextSeq

/-- A dirty line is written back and stays valid and clean (R31, R243). -/
def State.writeBack (s : State) (line : Nat) : State :=
  match s.cached line with
  | some l =>
    if l.dirty then
      let s := { s with cache := s.cache.map (fun (x : CacheLine) => if x.line = line then { x with dirty := false } else x) }
      s.journalPush line l.val (BitVec.allOnes 64) none s.stamp
    else s
  | none => s

/-! Corrected lines (R412 to R417, R467) -/

/-- Newer data of the line will reach DRAM on its own: dirty in the cache, or in the journal or write buffer (R413). The
comparison is by place, since a stand-in line has two names. -/
def State.newerAhead (s : State) (line : Nat) : Bool :=
  let same (l : Nat) : Bool := l == line || s.place l == s.place line
  s.cache.any (fun l => l.dirty && same l.line) || s.mem.journal.any (fun e => same e.line)

/-- Free spare rows of a bank (R417, R432). -/
def State.freeSpares (s : State) (c b : Nat) : Nat :=
  2 - (((s.integ.repairs.filter (fun r => r.1 == c && r.2.1 == b)).map (fun r => r.2.2.1)).eraseDups).length

/-- A hard line: CE_HARD, the DRAM event record and the RETIRE record (R416, R417, R447). -/
def State.hardLine (s : State) (e : CeEntry) : State :=
  let l := e.line
  let s := s.raise 56 (lineChannel l) (l * 64)
  let s := s.mediaRecord l .warning (s.cxlRecord 0x102 l)
  s.mediaRecord l .warning (s.record 0x20 56 [(12, 1, lineChannel l), (13, 1, lineBank l), (14, 2, lineRow l),
    (16, 8, l * 64), (24, 8, l / 64 * 4096), (32, 2, satAt 16 e.count), (34, 1, e.sym0.toNat), (35, 1, e.sym1.toNat),
    (36, 8, e.firstRt), (44, 1, s.freeSpares (lineChannel l) (lineBank l))])

/-- The corrected-error table takes a correction (R415, R416). -/
def State.ceAdd (s : State) (line : Nat) (fixed : List Nat) (scrub : Bool) : State :=
  let n := s.fld aHARD_CTRL 0 8
  let w := s.fld aHARD_CTRL 8 8 * 3600000000000
  let s0 : Byte := BitVec.ofNat 8 (fixed.getD 0 0xFF)
  let s1 : Byte := BitVec.ofNat 8 (fixed.getD 1 0xFF)
  let fresh : CeEntry := { line := line, firstRt := s.now, lastRt := s.now, count := 1, sym0 := s0, sym1 := s1,
                           hard := false, scrub := scrub, repaired := false }
  let t := s.integ.ce
  let e : CeEntry := match t.find? (fun e => e.line == line) with
    | some o => if o.firstRt + w < s.now then { fresh with repaired := o.repaired }
      else { o with count := o.count + 1, lastRt := s.now, sym0 := s0, sym1 := s1, scrub := scrub }
    | none => fresh
  let hard : Bool := !e.hard && decide (n ≤ e.count)
  let e := if hard then { e with hard := true } else e
  let t := if t.any (fun x => x.line == line) then t.map (fun x => if x.line = line then e else x)
    else if t.length < 64 then t ++ [e]
    else
      let oldest := (t.map (fun x => x.lastRt)).foldl min (t.headD e).lastRt
      match t.findIdx? (fun x => x.lastRt == oldest) with
      | some i => t.set i e
      | none => t
  let s := { s with integ := { s.integ with ce := t } }
  if hard then s.hardLine e else s

/-- The corrected symbols of the last 16 corrections of a channel; a symbol in 8 of them flags its DQ (R467). -/
def State.trackSymbols (s : State) (c : Fin 32) (fixed : List Nat) : State :=
  let ch := s.chan c
  let cs := (fixed :: ch.corrections).take 16
  let seen (i : Nat) : Bool := decide (8 ≤ (cs.filter (fun f => f.contains i)).length)
  (fixed.filter seen).foldl (fun s i => s.flagWire c i) (s.setChan c { ch with corrections := cs })

/-- A correction on a channel is counted and logged (R414 to R416, R467). -/
def State.countCorrected (s : State) (c : Fin 32) (line : Nat) (fixed : List Nat) (scrub : Bool) : State :=
  let s := s.bump (aINT_CH_CE c) 0 32 1
  let s := s.bump aCE_TOTAL 0 64 1
  let s := s.trackSymbols c fixed
  if s.pageRetired line then s else s.ceAdd line fixed scrub

/-- A correction on a channel (R412 to R416): the corrected line is written back unless newer data is on its way. -/
def State.corrected (s : State) (c : Fin 32) (line : Nat) (v : LineVal) (fixed : List Nat) (scrub : Bool) : State :=
  let s := s.countCorrected c line fixed scrub
  if s.newerAhead line then s else s.journalPush line v (BitVec.allOnes 64) none s.stamp

/-! Uncorrectable lines (R419 to R422) -/

/-- An uncorrectable line read for a request (R419, R420, R422). -/
def State.uncorrectable (s : State) (c : Fin 32) (line source : Nat) (master : Byte) (stamp : Nat) : State :=
  let s := s.bump (aINT_CH_UE c) 0 32 1
  let s := s.bump aUE_TOTAL 0 64 1
  let ahead := s.newerAhead line
  let s := if ahead then s else s.journalPush line poisonLine (BitVec.allOnes 64) none s.stamp
  if s.pageRetired line then s
  else (s.logUe line source master (!ahead) stamp).raise (if source = 2 then 58 else 57) c (line * 64)

end Sys2Proof.Machine
end

