-- ==== Sys2Proof/Machine/PathOps.lean ====
section
/-! DEFINITION. The request path: responses, the line cache, the pools, lookup, and acceptance of writes (R180, R181,
R188 to R194, R227, R229, R234, R238 to R246, R266 to R268, R30 to R35, R386, R521, R527). -/

namespace Sys2Proof.Machine

/-! Responses (R180, R181, R191, R378) -/

/-- A read is answered (R180): to a head by MemData or a UIO completion, to a carriage or a seal's hold copy by its line; the
scrubber takes no data. -/
def State.respondRead (s : State) (r : Req) (v : LineVal) : State :=
  match r.src with
  | .head k =>
    if r.kind = .spec then s else
    let s := s.bump (aHD_RD_CNT k) 0 64 1
    if r.uio then s.emit (.uio k r.tag (some v) false) else s.emit (.memData k r.tag v (s.head k).load)
  | .carriage c => s.carGot c r.tag r.line v
  | .seal i => s.holdGot i r.line v
  | .scrub => s
  | .zeroFill => s

/-- One line of a UIO write is accepted; the last one completes the write (R378). -/
def State.uioLine (s : State) (k : Fin 16) (tag : Nat) : State :=
  match s.mem.uioOpen.find? (fun p => p.1 == k && p.2.1 == tag) with
  | none => s
  | some p =>
    let rest := s.mem.uioOpen.filter (fun q => !(q.1 == k && q.2.1 == tag))
    if p.2.2 ≤ 1 then State.emit { s with mem := { s.mem with uioOpen := rest } } (.uio k tag none false)
    else { s with mem := { s.mem with uioOpen := rest ++ [(k, tag, p.2.2 - 1)] } }

/-- A line of the zero-fill is accepted (R186). -/
def State.fillLine (s : State) (block : Nat) : State :=
  { s with filling := s.filling.map (fun f => if f.block = block then { f with done := f.done + 1 } else f) }

/-- A write is complete (R191): a head whose link is up gets its Cmp or its UIO completion. -/
def State.respondWrite (s : State) (r : Req) : State :=
  match r.src with
  | .head k =>
    let s := s.bump (aHD_WR_CNT k) 0 64 1
    if (s.head k).up then (if r.uio then s.uioLine k r.tag else s.emit (.memCmp k r.tag (s.head k).load)) else s
  | .carriage c => s.carPut c r.tag r.line
  | .seal i => s.stagedPut i r.line
  | .zeroFill => s.fillLine (r.line / blockLines)
  | .scrub => s

/-- A write request. -/
def Req.isWrite (r : Req) : Bool := r.kind == .write || r.kind == .partialWrite

/-- A request that is not performed is completed by Table 5.5: poison for a read, Cmp for a write, nothing for a hint,
one Completer Abort over CXL.io. -/
def State.respondRefused (s : State) (k : Fin 16) (r : Req) : State :=
  if r.uio then
    if r.isWrite then
      if s.mem.uioOpen.any (fun p => p.1 == k && p.2.1 == r.tag) then
        State.emit { s with mem := { s.mem with uioOpen := s.mem.uioOpen.filter (fun p => !(p.1 == k && p.2.1 == r.tag)) } }
          (.uio k r.tag none true)
      else s
    else s.emit (.uio k r.tag none true)
  else
  match r.kind with
  | .spec => s
  | .read => s.emit (.memData k r.tag poisonLine (s.head k).load)
  | _ => s.emit (.memCmp k r.tag (s.head k).load)

/-! The line cache (R238 to R243, R521) -/

/-- Slice of a line (R238). -/
def lineSlice (line : Nat) : Nat := (line % 8) ^^^ (line / 2 ^ 17 % 8)

/-- Set of a line within its slice (R238). -/
def lineSet (line : Nat) : Nat := line / 8 % 4096

/-- Domain of a line's slice (Table 12.5). -/
def State.sliceDom (s : State) (line : Nat) : Domain := s.dom ⟨(32 + lineSlice line) % 64, Nat.mod_lt _ (by decide)⟩

/-- The slice is looked up (R521). -/
def State.sliceServes (s : State) (line : Nat) : Bool := (s.sliceDom line).st == .on

/-- The slice is in retention: a request wakes it and waits (R521). -/
def State.sliceWaits (s : State) (line : Nat) : Bool := (s.sliceDom line).st == .retention

/-- A lookup. -/
def State.lookup (s : State) (line : Nat) : Option CacheLine := if s.sliceServes line then s.cached line else none

/-- Lookups counted: hit or miss, and hits while a halt is open. -/
def State.countLookup (s : State) (hit : Bool) : State :=
  if hit then
    let s := s.bump aLC_HITS 0 64 1
    if s.windowOpen then s.bump aLC_HALT_HITS 0 64 1 else s
  else s.bump aLC_MISSES 0 64 1

/-- A line becomes the most recently used of its set. -/
def State.touch (s : State) (line : Nat) : State :=
  match s.cached line with
  | some l => { s with cache := l :: s.cache.filter (fun (x : CacheLine) => x.line != line) }
  | none => s

/-- Lines a master owns (R240, R268). -/
def State.owned (s : State) (m : Nat) : Nat := (s.cache.filter (fun (x : CacheLine) => x.owner == m)).length

/-- The way an install of master `m` takes: the least recently used of those it may take (R240). -/
def State.victim (s : State) (line m : Nat) : Option CacheLine :=
  (s.cache.filter (fun (x : CacheLine) => lineSlice x.line == lineSlice line && lineSet x.line == lineSet line)).reverse.find?
    (fun (x : CacheLine) => x.owner == m || decide (s.minOcc x.owner * 8192 < s.owned x.owner))

/-- What comes of an install (R239 to R241, R521): the line stands in the cache; no way qualifies or the slice takes nothing;
or a dirty victim cannot enter the journal yet. -/
inductive Install where
  | done (s : State)
  | noWay
  | wait
  deriving DecidableEq, Repr

/-- A line that the cache does not hold is installed. -/
def State.install (s : State) (n : CacheLine) : Install :=
  let d := s.sliceDom n.line
  if d.st ≠ .on ∨ d.moving.isSome = true then .noWay else
  let ways := s.cache.filter (fun (x : CacheLine) =>
    lineSlice x.line == lineSlice n.line && lineSet x.line == lineSet n.line)
  if ways.length < 16 then .done { s with cache := n :: s.cache } else
  match s.victim n.line n.owner with
  | none => .noWay
  | some x =>
    if x.dirty = true ∧ s.journalRoom = false then .wait
    else
      let s := s.writeBack x.line
      .done { s with cache := n :: s.cache.filter (fun (y : CacheLine) => y.line != x.line) }

/-- A clean install; one whose victim finds no journal entry waits (R241). -/
def State.installClean (s : State) (n : CacheLine) : State :=
  match s.install n with
  | .done t => t
  | .noWay => s
  | .wait => { s with mem := { s.mem with installs := s.mem.installs ++ [n] } }

/-- A cached line takes a write and becomes dirty (R239). -/
def State.cacheWrite (s : State) (line : Nat) (v : LineVal) (m : BitVec 64) : State :=
  State.touch { s with cache := s.cache.map (fun (x : CacheLine) =>
    if x.line = line then { x with val := mergeLine x.val v m, dirty := true } else x) } line

/-! Pools (R227, R229, R265, R267) -/

/-- Entries of a master in a channel's pool. -/
def Channel.poolUsed (ch : Channel) (m : Nat) : Nat := (ch.pool.filter (fun e => e.req.src.master == m)).length

/-- A pool entry is available to a master (R227, R267). -/
def State.poolFree (s : State) (c : Fin 32) (m : Nat) : Bool :=
  let ch := s.chan c
  let used := ch.poolUsed m
  let reserved := ((List.range 17).map s.minPool).sum
  let shared := ((List.range 17).map (fun j => ch.poolUsed j - s.minPool j)).sum
  decide (used < s.minPool m) || decide (shared < 128 - reserved)

/-- An accepted write that its journal entry holds for its install (R31, R241): it updates the line that has come into the
cache since, or installs dirty, or goes on to its channel where no way takes it. -/
def State.tryInstall (s : State) (n : Nat) : State :=
  match s.jEntry n with
  | none => s
  | some e =>
    if (s.cached e.line).isSome then (s.dropEntries [n]).cacheWrite e.line e.val e.mask else
    match s.install { line := e.line, val := e.val, dirty := true, owner := (e.src.map Src.master).getD 16 } with
    | .done t => t.dropEntries [n]
    | .noWay => s.journalGo n
    | .wait => s

/-- Installs that waited for the journal are tried again (R241). -/
def State.retryInstalls (s : State) : State :=
  let s := ((s.mem.journal.filter (fun e => e.place == .install)).map (fun e => e.seq)).foldl State.tryInstall s
  let ls := s.mem.installs
  ls.foldl (fun s n => if (s.cached n.line).isSome then s else s.installClean n)
    { s with mem := { s.mem with installs := [] } }

/-- Domains that a line needs wake on demand (R262, R527): the source is head or carriage traffic (R529). The scrubber wakes
nothing (R427). -/
def State.wakeFor (s : State) (line : Nat) (src : Src) : State :=
  let code := match src with
    | .head _ => 1
    | _ => 2
  if src = .scrub then s else
  let c := s.placeChan line
  let s := if c < 32 then (s.wake (16 + c / 2) code).wake (c / 2) code else s
  if s.sliceWaits line then s.wake (32 + lineSlice line) code else s

/-- The data that a read brought is the newest of its line: the journal holds no write of it, or its newest one. -/
def State.isNewest (s : State) (line : Nat) (v : LineVal) : Bool :=
  match (s.journalOf line).getLast? with
  | none => true
  | some e => fullMask e.mask && e.val == v

/-- Data has come for a request (R32, R33, R239, R244 to R246): a host's partial write is merged and goes to acceptance;
another one is merged in its journal entry; a read is answered and, for a head, installed clean unless newer data
stands in the cache or the journal. -/
def State.deliver (s : State) (r : Req) (v : LineVal) : State :=
  match r.kind, r.src with
  | .partialWrite, .head _ =>
    let q := { r with val := mergeLine v r.val r.mask, mask := BitVec.allOnes 64 }
    { s with mem := { s.mem with accept := s.mem.accept ++ [q] } }
  | .partialWrite, _ =>
    let j := s.mem.journal.map (fun (e : JEntry) =>
      if e.seq = r.tag then { e with val := mergeLine v e.val e.mask, mask := BitVec.allOnes 64 } else e)
    State.journalGo { s with mem := { s.mem with journal := j } } r.tag
  | _, .head k =>
    let s := s.respondRead r v
    if (s.cached r.line).isSome = true ∨ s.isNewest r.line v = false then s
    else s.installClean { line := r.line, val := v, dirty := false, owner := k }
  | _, _ => s.respondRead r v

/-- A request to a line that only poison stands for: a read is answered with it and nothing is installed; a partial write is
merged into it (R194, R444, R482). -/
def State.deliverPoison (s : State) (r : Req) : State :=
  if r.kind = .partialWrite then s.deliver r poisonLine else s.respondRead r poisonLine

/-- A request reaches its channel controller and takes its pool entry (R227, R234, R249): a line that the write buffer or
the journal holds is forwarded once the check has ended; a lost line without a home, or one whose replay proved
impossible, is poison. -/
def State.toPool (s : State) (r : Req) : State :=
  match s.place r.line with
  | none => s.deliverPoison r
  | some p =>
    if h : p.1 < 32 then
      let c : Fin 32 := ⟨p.1, h⟩
      let s := if r.kind = .partialWrite then s.bump (aCH_RMW c) 0 32 1 else s
      if s.impossible c then s.deliverPoison r else
      let fwd := if r.src = .scrub then none else s.journalLine r.line
      let s := if fwd.isSome then s.bump (aCH_FWD c) 0 32 1 else s.wakeFor r.line r.src
      let held := s.windowOpen && fwd.isNone
      let s := if held then s.countHeld c r.src else s
      let ch := s.chan c
      let e : PoolEntry := { req := r, issued := if fwd.isSome then some s.cyc else none, retry := false, fwd := fwd,
                             counted := held }
      s.setChan c { ch with pool := ch.pool ++ [e] }
    else s

/-- A miss goes to its channel: it takes an entry at once, or waits in the miss queue (R229). -/
def State.miss (s : State) (r : Req) : State :=
  let c := s.placeChan r.line
  if h : c < 32 then
    if s.poolFree ⟨c, h⟩ r.src.master then s.toPool r
    else { s with mem := { s.mem with missQ := s.mem.missQ ++ [r] } }
  else s.toPool r

/-! Order (R189, R246, R387, R432) -/

/-- Requests that wait in the miss queue or hold a pool entry. -/
def State.outstanding (s : State) : List Req :=
  s.mem.missQ ++ s.chans.toList.flatMap (fun ch => ch.pool.map (fun e => e.req))

/-- Writes admitted and not yet accepted, the held ones too. -/
def State.unaccepted (s : State) : List Req := s.mem.accept ++ s.seals.toList.flatMap (fun x => x.heldWrites)

/-- The row of a line is being copied by a row repair (R432). -/
def State.rowBusy (s : State) (line : Nat) : Bool :=
  match s.integ.repairing, s.place line with
  | some q, some p => q.chan == p.1 && q.bank == lineBank p.2 && q.row == lineRow p.2
  | _, _ => false

/-- A write of the line is between admission and acceptance, or a read-modify-write of it is in progress, or its row is
being repaired: later requests to the line wait (R246, R432). -/
def State.lineBusy (s : State) (line : Nat) : Bool :=
  s.unaccepted.any (fun r => r.line == line)
    || s.outstanding.any (fun r => r.line == line && r.kind == .partialWrite)
    || s.mem.journal.any (fun e => e.line == line && !fullMask e.mask) || s.rowBusy line

/-- An earlier request of the same source to the same line is still under way (R189). -/
def State.sameAhead (s : State) (r : Req) : Bool := s.outstanding.any (fun q => q.line == r.line && q.src == r.src)

/-- A request may not be admitted yet for the sake of order, of the journal's room, or of a slice on its way out of
retention (R189, R246, R387, R437, R521). Behind its source's earlier read, a write waits, and so does a read that would
not reach the channel after it. -/
def State.blocked (s : State) (r : Req) : Bool :=
  s.lineBusy r.line || s.sliceWaits r.line || (r.isWrite && !s.journalRoom)
    || ((r.isWrite || r.kind == .inv || (s.lookup r.line).isSome || !(s.journalOf r.line).isEmpty) && s.sameAhead r)

/-- A write of the line stamped before a boundary has not been accepted (R387). The boundary is in ns, stamps in half
ns. -/
def State.earlierWrite (s : State) (line tb : Nat) : Bool :=
  (s.mem.ports ++ s.outstanding ++ s.mem.accept).any (fun r => r.isWrite && r.line == line && decide (r.stamp < 2 * tb))

/-- The requests of a head that may go: no earlier one of their line stands before them (R189, R190). -/
def State.portReady (s : State) (k : Fin 16) : List Req :=
  let rs := s.mem.ports.filter (fun r => r.src == .head k)
  rs.filter (fun r => !s.blocked r && !(rs.takeWhile (fun q => q != r)).any (fun q => q.line == r.line))

/-- The request a head would have admitted next: the oldest that may go. -/
def State.pickPort (s : State) (k : Fin 16) : Option Req := (s.portReady k).head?

/-- A MemInv or MemSpecRd that had to wait and may now pass admission (R180, R189, R266). -/
def State.pickQuick (s : State) (k : Fin 16) : Option Req :=
  let rs := s.mem.ports.filter (fun r => r.src == .head k)
  rs.find? (fun r => (r.kind == .spec || (r.kind == .inv && !s.blocked r))
    && !(rs.takeWhile (fun q => q != r)).any (fun q => q.line == r.line))

/-- No data. -/
def noData : LineVal := { data := 0, poison := false }

/-- A read of a line by a source of the carriage class, stamped at admission (R35). -/
def State.classRead (s : State) (src : Src) (line tag : Nat) : Req :=
  { src := src, kind := .read, uio := false, line := line, val := noData, mask := 0, stamp := s.stamp, tag := tag }

/-- A write by a source of the carriage class, stamped at admission (R35, R384). -/
def State.classWrite (s : State) (src : Src) (w : LineWrite) (tag : Nat) : Req :=
  { src := src, kind := if fullMask w.mask then .write else .partialWrite, uio := false, line := w.line, val := w.val,
    mask := w.mask, stamp := s.stamp, tag := tag }

/-- The next line of a carriage, with the piece it belongs to: reads go before writes (R35, R384). -/
def State.carRequest (s : State) (c : Fin 32) : Option (Nat × Piece × Req) :=
  let k := s.car c
  match k.wanting with
  | none => none
  | some (i, p) =>
    match p.toRead, p.toWrite with
    | l :: _, _ => some (i, p, s.classRead (.carriage c) l k.run)
    | [], w :: _ => some (i, p, s.classWrite (.carriage c) w k.run)
    | [], [] => none

/-- The next read of a seal's hold copies (R387, R389): copies go in the order in which they began. -/
def State.holdRequest (s : State) (i : Fin 4) : Option Req :=
  ((s.seal i).copies.find? (fun h => !h.toRead.isEmpty)).bind (fun h => h.toRead.head?.map (fun l => s.classRead (.seal i) l 0))

/-- The next write of a seal's staging to the snapshot area (R387, R389). -/
def State.stageRequest (s : State) (i : Fin 4) : Option Req :=
  ((s.seal i).staged.find? (fun g => !g.toWrite.isEmpty)).bind (fun g =>
    g.toWrite.head?.map (fun w => s.classWrite (.seal i) w 0))

/-- The next line of the zero-fill (R186): blocks in the order of their release. -/
def State.zeroRequest (s : State) : Option Req :=
  (s.filling.find? (fun f => decide (f.sent < blockLines))).map (fun f =>
    s.classWrite .zeroFill (wholeLine (f.block * blockLines + f.sent) noData) 0)

/-! Lookup of an admitted request (R239, R435) -/

/-- A hit fails its SRAM check (Table 10.3): a clean line is invalidated, and so is a dirty one whose newest write the
journal still holds; another dirty one is lost, its DRAM line poisoned and logged with source 4. The address of a line
of the cache's SRAM is a free value (log 2). -/
def State.cacheFails (s : State) (l : CacheLine) (master : Byte) (stamp : Nat) : State :=
  let s := s.raise 63 0 (l.line * 64)
  let s := { s with cache := s.cache.filter (fun (x : CacheLine) => x.line != l.line) }
  if l.dirty = false ∨ s.journalLine l.line = some l.val then s else
  let s := s.journalPush l.line poisonLine (BitVec.allOnes 64) none stamp
  let s := s.logUe l.line 4 master true stamp
  let s := s.raise 64 0 (l.line * 64)
  State.freeNext (s.sramLost 0 (s.free.toNat % 2 ^ 32) (l.line * 64))

/-- MASTER of a request's source in Table 10.7: the copies of a seal are its hold carriage's. -/
def State.srcMaster (s : State) : Src → Byte
  | .head k => BitVec.ofNat 8 k
  | .carriage c => BitVec.ofNat 8 c
  | .seal i => BitVec.ofNat 8 (s.seal i).hold
  | .scrub => 0xFF
  | .zeroFill => 0xFF

/-- An admitted request is looked up (stage 6 of R188, Table 6.4); `checkFails` says that the line it hits fails its SRAM
check. -/
def State.lookupReq (s : State) (r : Req) (checkFails : Bool) : State :=
  if r.kind = .partialWrite ∧ r.mask = 0 then s.respondWrite r else
  let hit := s.lookup r.line
  let s := s.countLookup hit.isSome
  let s := match hit with
    | some l => if checkFails then s.cacheFails l (s.srcMaster r.src) (r.stamp / 2) else s
    | none => s
  match s.lookup r.line with
  | some l =>
    if r.isWrite then { s with mem := { s.mem with accept := s.mem.accept ++ [r] } }
    else (s.touch r.line).respondRead r l.val
  | none =>
    match r.kind, r.src with
    | .read, _ => s.miss r
    | .partialWrite, .head _ => s.miss r
    | .spec, _ => s
    | .inv, _ => s
    | _, _ => { s with mem := { s.mem with accept := s.mem.accept ++ [r] } }

/-! Acceptance (R30, R31, R34, R191, R245, R386) -/

/-- The seal that holds a write before acceptance (R384, R386). -/
def State.sealHolds (s : State) (r : Req) : Option (Fin 4) :=
  (List.finRange 4).find? (fun (i : Fin 4) =>
    let x := s.seal i
    x.st == .active && decide (x.base ≤ r.line * 64 ∧ r.line * 64 < x.base + x.len) && decide (2 * x.tb ≤ r.stamp)
      && !s.granuleSaved i (r.line / 64))

/-- A carriage's write that misses the cache enters the journal; a partial one is merged behind it (R34, R245). -/
def State.journalWrite (s : State) (r : Req) : State :=
  let n := s.mem.nextSeq
  let s := s.journalPush r.line r.val r.mask (some r.src) r.stamp
  if fullMask r.mask = false ∧ (s.jEntry n).isSome then s.miss { r with kind := .partialWrite, tag := n } else s

/-- A host's full line enters the journal, and from it the cache (R30, R31, R241). A write to a line without a home is
discarded (R482); one to a channel whose replay proved impossible is not accepted, and its line is poisoned and logged
(R194, R444). -/
def State.hostWrite (s : State) (r : Req) : State :=
  match s.place r.line with
  | none => s
  | some p =>
    if s.impossible p.1 then s.replayLost r.line
    else (s.journalAdd r.line r.val r.mask (some r.src) r.stamp .install).tryInstall s.mem.nextSeq

/-- A write takes its effect (R31, R34): an update of the cached line, a dirty install, or the journal; a full line clears
the entries of its line (R423). A host's partial write whose line left the cache since its lookup reads the line first
(R32). -/
def State.acceptWrite (s : State) (r : Req) : State :=
  let s := if fullMask r.mask then s.ueClear r.line else s
  match s.lookup r.line, r.src with
  | some _, _ => (s.cacheWrite r.line r.val r.mask).respondWrite r
  | none, .head _ => if fullMask r.mask then (s.hostWrite r).respondWrite r else s.miss r
  | none, _ => (s.journalWrite r).respondWrite r

end Sys2Proof.Machine
end

