-- ==== Sys2Proof/Machine/Admission.lean ====
section
/-! DEFINITION. Admission: what waits, what order and precedence let go, and the decision by token or by weight (R246,
R264, R266, R269 to R276, R387, R389, R432, R509). -/

namespace Sys2Proof.Machine

/-! What may go (R246, R264, R387, R389, R432) -/

/-- A copying read of a seal's region waits: for writes of the line stamped before the boundary, for a merge or a row repair
in progress, for its slice (R246, R387, R432, R521). The writes that the seal holds wait for it in turn (R386). -/
def State.copyBlocked (s : State) (line tb : Nat) : Bool :=
  s.earlierWrite line tb || s.mem.journal.any (fun e => e.line == line && !fullMask e.mask) || s.rowBusy line
    || s.sliceWaits line

/-- A carriage's line may not be admitted yet; a sweep's follows the rule of the copies. -/
def State.carBlocked (s : State) (c : Fin 32) (r : Req) : Bool :=
  (s.car c).abort.isSome || (match s.sweepRange c with
    | some (i, _, _) => s.copyBlocked r.line (s.seal i).tb
    | none => s.blocked r)

/-- The scrubber's read is due and its line is not in use (R246, R264). -/
def State.scrubReady (s : State) : Bool := s.scrubWaits && !s.lineBusy s.scrubLine

/-- A hold copy's read may go (R264, R389). -/
def State.holdReady (s : State) (i : Fin 4) : Bool :=
  match s.holdRequest i with
  | some r => !s.copyBlocked r.line (s.seal i).tb
  | none => false

/-- A write of a seal's staging may go (R387, R389). -/
def State.stageReady (s : State) (i : Fin 4) : Bool :=
  match s.stageRequest i with
  | some r => !s.blocked r
  | none => false

/-- A carriage's next line may go (R264). -/
def State.carReady (s : State) (c : Fin 32) : Bool :=
  (s.car c).wants && (match s.carRequest c with
    | some (_, _, r) => !s.carBlocked c r
    | none => false)

/-- A line of the zero-fill may go (R186, R264). -/
def State.zeroReady (s : State) : Bool :=
  match s.zeroRequest with
  | some r => !s.blocked r
  | none => false

/-- Work of the class that goes first: 0 the scrubber, 1 hold copies, 2 the stand-in fill, 3 the zero-fill, 4 every other
request (R264). It may be admitted when none of a lower number can be. -/
def State.classTurn (s : State) (rank : Nat) : Bool :=
  !((decide (0 < rank) && s.scrubReady) || (decide (1 < rank) && (List.finRange 4).any s.holdReady)
    || (decide (2 < rank) && (s.siFillWants 0 || s.siFillWants 1)) || (decide (3 < rank) && s.zeroReady))

/-! What waits (R201, R203, R271, R513) -/

/-- The head's held or waiting requests may be admitted now (R201, R203, R513). -/
def State.headServes (s : State) (k : Fin 16) : Bool :=
  s.fld aTH_STATUS 4 2 == 0 && (match (s.head k).mode with | .frozen _ => false | _ => true)

/-- Master `m` has a request that waits at admission. -/
def State.waits (s : State) (m : Nat) : Bool :=
  if h : m < 16 then
    s.headServes ⟨m, h⟩ && s.mem.ports.any (fun r => r.src == .head ⟨m, h⟩)
  else s.fld aTH_STATUS 4 2 == 0 && s.classWaits

/-! The decision (R269 to R273, R509) -/

/-- Requests of the carriage class that nothing but regulation keeps from admission, one for each of its sources (R264). -/
def State.classReady (s : State) : Nat :=
  bit s.scrubReady + bit s.zeroReady + bit (s.siFillWants 0) + bit (s.siFillWants 1)
    + ((List.finRange 4).filter s.holdReady).length + ((List.finRange 4).filter s.stageReady).length
    + ((List.finRange 32).filter s.carReady).length
    + (match s.integ.repairing with
      | some r => bit (decide (r.moved < repairMoves))
      | none => 0)

/-- Requests of a master that nothing but regulation keeps from admission. -/
def State.readyCount (s : State) (m : Nat) : Nat :=
  if h : m < 16 then (if s.headServes ⟨m, h⟩ then (s.portReady ⟨m, h⟩).length else 0)
  else if s.fld aTH_STATUS 4 2 = 0 then s.classReady else 0

/-- Master `m` has such a request. -/
def State.mayGo (s : State) (m : Nat) : Bool := decide (0 < s.readyCount m)

/-- The master waits for a pool entry, or its entry was granted in this cycle: admission of its requests stops (R273). -/
def State.poolBlocked (s : State) (m : Nat) : Bool :=
  s.mem.missQ.any (fun r => r.src.master == m) || decide (s.cyc < sparseGet (fun _ => 0) s.regul.resume m)

/-- Requests in the miss queue: from the lookup miss until a pool entry is taken (R272). A carriage's partial write that
missed is among them while it waits for acceptance. -/
def State.missCount (s : State) : Nat :=
  s.mem.missQ.length + (s.mem.accept.filter (fun r => r.kind == .partialWrite && r.src.master == 16
    && !s.cache.any (fun (l : CacheLine) => l.line == r.line))).length

/-- A guarantee token is there (R269, R272). -/
def State.hasToken (s : State) (m : Nat) : Bool := decide (1024 ≤ s.bucket m) && decide (s.missCount < 2048)

/-- Admission by weight is open (R272, R509). -/
def State.weightOpen (s : State) : Bool :=
  decide (s.missCount < 1536) && (!s.enforcing || decide (1024 ≤ s.regul.deviceBucket))

/-- Masters that may take a weight slot: a request is ready, the bucket is empty, no pool entry is awaited (R271, R273). -/
def State.weightWaiters (s : State) : List Nat :=
  (List.range 17).filter (fun m => decide (s.bucket m < 1024) && !s.poolBlocked m && s.mayGo m)

/-- Deficits of the masters that wait: one with no request waiting keeps none (R271). -/
def State.keptDeficits (s : State) : List (Nat × Nat) := s.regul.deficit.filter (fun p => s.waits p.1)

/-- The deficits with a new round credited, when no master that may take a slot has a line left of the last one (R271). A
waiting master that is held for a pool entry, or by the order of its lines, keeps its credit and earns none (log 43). -/
def State.roundDeficits (s : State) : List (Nat × Nat) :=
  let ws := s.weightWaiters
  if ws.any (fun m => decide (0 < s.deficit m)) then s.keptDeficits
  else ws.foldl (fun d m => sparsePut (fun _ => 0) d m (max 1 (s.weight m))) s.keptDeficits

/-- Requests of a master that its tokens would admit in this cycle (R270). -/
def State.tokenReady (s : State) (m : Nat) : Nat :=
  if s.hasToken m && !s.poolBlocked m then min (s.readyCount m) (s.bucket m / 1024) else 0

/-- Master `m` may take the next slot: all that is ready fits into the cycle, or the rotation has come to it (R270). -/
def State.inTurn (s : State) (m : Nat) : Bool :=
  let ready := (List.range 17).map s.tokenReady
  decide (s.regul.inCycle + ready.sum ≤ 16)
    || ((List.range 17).map (fun i => (s.regul.lastServed + 1 + i) % 17)).find? (fun j => decide (0 < ready.getD j 0)) == some m

/-- Whether master `m` may be admitted now, and by token or by weight (R269 to R273). -/
inductive Admission where
  | token | weight | no
  deriving DecidableEq, Repr

/-- The admission decision for a master (R269 to R273, R509). Requests with tokens go first. -/
def State.admission (s : State) (m : Nat) : Admission :=
  if 16 ≤ s.regul.inCycle ∨ s.poolBlocked m = true ∨ s.mayGo m = false then .no
  else if s.hasToken m then (if s.inTurn m then .token else .no)
  else if s.weightOpen = false then .no
  else if (List.range 17).any (fun j => s.hasToken j && !s.poolBlocked j && s.mayGo j) then .no
  else if 0 < sparseGet (fun _ => 0) s.roundDeficits m then .weight
  else .no

/-- The debit of an admitted line (R266, R269, R271, R509) and its count in REG_M_ADM. -/
def State.chargeLine (s : State) (m : Nat) (a : Admission) : State :=
  let s := match a with
    | .token => s.setBucket m (s.bucket m - 1024)
    | .weight =>
      let d := s.roundDeficits
      { s with regul := { s.regul with deficit := sparsePut (fun _ => 0) d m (sparseGet (fun _ => 0) d m - 1) } }
    | .no => s
  let s := { s with regul := { s.regul with inCycle := s.regul.inCycle + 1, lastServed := m,
                                            firstServed := s.regul.firstServed.orElse (fun _ => some m),
                                            deviceBucket := s.regul.deviceBucket - 1024 } }
  s.bump (aREG_M_ADM m) 0 64 1

/-- A new cycle of regulation: the buckets fill, `effBw` Gbit/s being `effBw` half bits in 0.5 ns (R269), and the device
bucket at the floor while enforcement is in force (R509); credit without a waiting request is gone (R271); the rotation
stands one past the master served first in the last cycle (R270); the admission capacities are noted (R282). -/
def State.fillBuckets (s : State) : State :=
  let s := (List.range 17).foldl (fun s m => s.setBucket m (min (s.bucketDepth m) (s.bucket m + s.effBw m))) s
  let dev := if s.enforcing then min (2 * (s.regul.floor * 1000)) (s.regul.deviceBucket + s.regul.floor) else 0
  { s with regul := { s.regul with deviceBucket := dev, inCycle := 0, deficit := s.keptDeficits,
                                   lastServed := s.regul.firstServed.getD s.regul.lastServed, firstServed := none,
                                   caps := (List.range 17).map s.admCap } }

end Sys2Proof.Machine
end

