-- ==== Sys2Proof/Machine/MemCmds.lean ====
section
/-! DEFINITION. The rows of the memory protocol and of the request path: requests of heads, admission, pools, acceptance,
freeze windows, Device Load, flush and hold copies (05, 06, 07, R387). -/

namespace Sys2Proof.Machine

/-! Requests of a head (R180, R181, R185, R188, R201, R203, R378, R587) -/

/-- A head carries CXL.mem: its link is in L0 at a rate that allows it, and the shutdown has not closed it (R177, R513). -/
def State.memOpen (s : State) (k : Fin 16) : Bool :=
  s.present k && (s.head k).link == .l0 && (s.head k).memEn && s.fld aTH_STATUS 4 2 == 0

/-- A head takes UIO requests: its link is in L0 and the shutdown has not closed it. -/
def State.uioOpenFor (s : State) (k : Fin 16) : Bool :=
  s.present k && (s.head k).link == .l0 && s.fld aTH_STATUS 4 2 == 0

/-- The line of the array behind a host address: the first HDM decoder of the head that holds it maps it (R200, R378, log
37). -/
def State.lineOf (s : State) (k : Fin 16) (addr : Nat) : Option Nat :=
  ((s.head k).hdm.find? (fun d => decide (d.base ≤ addr ∧ addr < d.base + d.size))).map (fun d =>
    (d.dpa + (addr - d.base)) / 64)

/-- The block of a line is in the head's extents (R185). -/
def State.granted (s : State) (k : Fin 16) (line : Nat) : Bool :=
  s.grants.any (fun g => g.head == k.val && g.block == line / 2 ^ 22)

/-- A MemInv or a MemSpecRd passes admission in the cycle in which it reaches it (R266): the first completes with Cmp, the
second may start a DRAM read when its head has a pool entry and 512 bits of guarantee. -/
def State.passNow (s : State) (k : Fin 16) (r : Req) : State :=
  let s := s.emit (.credit k)
  if r.kind = .inv then s.emit (.memCmp k r.tag (s.head k).load) else
  let c := s.placeChan r.line
  if (s.lookup r.line).isSome ∨ s.sliceWaits r.line = true ∨ s.lineBusy r.line = true then s else
  if h : c < 32 then
    if s.poolFree ⟨c, h⟩ k ∧ 1024 ≤ s.bucket k then
      let s := (s.setBucket k (s.bucket k - 1024)).bump (aREG_M_ADM k) 0 64 1
      State.toPool { s with regul := { s.regul with deviceBucket := s.regul.deviceBucket - 1024 } } r
    else s
  else s

/-- A request of a head, one line of it: the line is 0 where no decoder holds its address. -/
def State.hostReq (s : State) (k : Fin 16) (kind : ReqKind) (uio : Bool) (addr : Nat) (val : LineVal) (mask : BitVec 64)
    (tag : Nat) : Req :=
  { src := .head k, kind := kind, uio := uio, line := (s.lineOf k addr).getD 0, val := val, mask := mask, stamp := s.stamp,
    tag := tag }

/-- The read of the extent table that checks a request; the SRAM address of its line is a free value (R435, log 2). -/
def State.extentRead (s : State) (chk : SramCheck) : State :=
  if chk = .good then s else State.freeNext (s.tableCheck chk (s.free.toNat % 2 ^ 32))

/-- A MemInv or a MemSpecRd of a head in service passes at once unless it stands behind an earlier request of its line
(R189, R266). -/
def State.passesNow (s : State) (k : Fin 16) (r : Req) : Bool :=
  (r.kind == .spec || (r.kind == .inv && !s.blocked r && !s.mem.ports.any (fun q => q.src == .head k && q.line == r.line)))
    && s.headServes k

/-- A request that has passed CRC is stamped, decoded and checked, and its lines wait for admission (R188, stages 2 to 4). A
fenced head's requests complete at decode; a request outside the extents, or outside the decoders, is a violation; one
whose line of the extent table is lost cannot be checked and is refused (R436); a frozen head's wait. -/
def State.arrive (s : State) (k : Fin 16) (addr : Nat) (rs : List Req) (extents : SramCheck) : State :=
  match rs with
  | [] => s
  | r :: _ =>
    if (s.head k).mode = .fenced then (s.respondRefused k r).bump (aHD_DISCARD k) 16 16 1 else
    let s := s.extentRead extents
    if extents = .bothCopies then s.respondRefused k r
    else if (s.lineOf k addr).isNone = true ∨ rs.any (fun q => !s.granted k q.line) = true then
      (s.respondRefused k r).headViolation k 0 (((s.lineOf k addr).map (· * 64)).getD addr) (r.stamp / 2)
    else if s.passesNow k r then s.passNow k r
    else { s with mem := { s.mem with ports := s.mem.ports ++ rs } }

/-- A CXL.mem request of a head. -/
def State.memRequest (s : State) (k : Fin 16) (kind : ReqKind) (addr : Nat) (data : Line) (mask : BitVec 64) (tag : Nat)
    (extents : SramCheck) : State :=
  if s.memOpen k then s.arrive k addr [s.hostReq k kind false addr { data := data, poison := false } mask tag] extents else s

/-- MEM_RD (R180). -/
def execMemRd (k : Fin 16) (addr tag : Nat) (s : State) (extents : SramCheck := .good) :
    Host.Outcome State Fault Refusal :=
  finish s (s.memRequest k .read addr 0 0 tag extents)

/-- MEM_RD_DATA (R180). -/
def execMemRdData (k : Fin 16) (addr tag : Nat) (s : State) (extents : SramCheck := .good) :
    Host.Outcome State Fault Refusal :=
  finish s (s.memRequest k .read addr 0 0 tag extents)

/-- MEM_INV (R180). -/
def execMemInv (k : Fin 16) (addr tag : Nat) (s : State) (extents : SramCheck := .good) :
    Host.Outcome State Fault Refusal :=
  finish s (s.memRequest k .inv addr 0 0 tag extents)

/-- MEM_SPEC_RD (R180, R266). -/
def execMemSpecRd (k : Fin 16) (addr tag : Nat) (s : State) (extents : SramCheck := .good) :
    Host.Outcome State Fault Refusal :=
  finish s (s.memRequest k .spec addr 0 0 tag extents)

/-- MEM_WR (R181). -/
def execMemWr (k : Fin 16) (addr : Nat) (data : Line) (tag : Nat) (s : State) (extents : SramCheck := .good) :
    Host.Outcome State Fault Refusal :=
  finish s (s.memRequest k .write addr data (BitVec.allOnes 64) tag extents)

/-- MEM_WR_PTL (R181). A mask that covers the line makes it a partial write of every byte all the same. -/
def execMemWrPtl (k : Fin 16) (addr : Nat) (data : Line) (mask : BitVec 64) (tag : Nat) (s : State)
    (extents : SramCheck := .good) :
    Host.Outcome State Fault Refusal :=
  finish s (s.memRequest k .partialWrite addr data mask tag extents)

/-- UIO_MEMORY_READ (R378): each of its lines is read and completed (log 37). -/
def execUioMemoryRead (k : Fin 16) (addr tag : Nat) (s : State) (len : Nat := 64) (extents : SramCheck := .good) :
    Host.Outcome State Fault Refusal :=
  finish s (if s.uioOpenFor k then
      s.arrive k addr ((linesOf addr len).map (fun l => s.hostReq k .read true (l * 64) noData 0 tag)) extents
    else s)

/-- The part of a UIO write that falls into one line of the host's addresses: its bytes and those that are enabled. -/
def uioPart (addr : Nat) (data : List Byte) (enables : Nat) (poisoned : Bool) (l : Nat) : LineVal × BitVec 64 :=
  let at_ (j : Nat) : Option Nat := if addr ≤ l * 64 + j ∧ l * 64 + j < addr + data.length then some (l * 64 + j - addr) else none
  ({ data := Line.ofBytes ((List.range 64).map (fun j => ((at_ j).map (fun i => data.getD i 0)).getD 0)), poison := poisoned },
   BitVec.ofNat 64 (((List.range 64).map (fun j => if (at_ j).any (fun i => enables.testBit i) then 2 ^ j else 0)).sum))

/-- UIO_MEMORY_WRITE (R378): each line is a write, a partial one where not all its bytes are enabled, poisoned where the
request is; the completion goes out when the last line is accepted. -/
def execUioMemoryWrite (k : Fin 16) (addr : Nat) (data : List Byte) (enables : Nat) (tag : Nat) (s : State)
    (poisoned : Bool := false) (extents : SramCheck := .good) :
    Host.Outcome State Fault Refusal :=
  let ls := linesOf addr data.length
  let rs := ls.map (fun l =>
    let p := uioPart addr data enables poisoned l
    s.hostReq k (if fullMask p.2 then .write else .partialWrite) true (l * 64) p.1 p.2 tag)
  finish s (if s.uioOpenFor k then
      State.arrive { s with mem := { s.mem with uioOpen := s.mem.uioOpen ++ [(k, tag, ls.length)] } } k addr rs extents
    else s)

/-! Admission (R264, R269 to R276) -/

/-- The first entry of a list equal to a request taken out. -/
def dropFirst (r : Req) : List Req → List Req
  | [] => []
  | q :: qs => if q = r then qs else q :: dropFirst r qs

/-- A request leaves its port. -/
def State.dropPort (s : State) (r : Req) : State := { s with mem := { s.mem with ports := dropFirst r s.mem.ports } }

/-- A head's request is admitted: debit, credit, lookup (R188, R274). -/
def State.admitHead (s : State) (k : Fin 16) (r : Req) (a : Admission) (cacheFails : Bool) : State :=
  let s := (s.chargeLine k a).dropPort r
  let s := s.setHead k { s.head k with admitted := (s.head k).admitted + 1 }
  let s := if r.uio then s else s.emit (.credit k)
  s.lookupReq r cacheFails

/-- A line of the carriage class is admitted when its turn has come and it waits for nothing else (R264, R269 to R273); a
line whose slice is in retention wakes it and waits (R521, R527). -/
def State.classAdmit (before s : State) (rank : Nat) (r : Req) (held : Bool) (go : State → State) :
    Host.Outcome State Fault Refusal :=
  if s.sliceWaits r.line then finish before (s.wakeFor r.line r.src) else
  match s.admission 16 with
  | .no => finish before s
  | a => if s.classTurn rank = false ∨ held = true then finish before s else finish before (go (s.chargeLine 16 a))

/-- Work of the class that has no line in the path: the fill of a stand-in, the copy of a row repair. -/
def State.plainAdmit (s : State) (rank : Nat) (go : State → State) : Host.Outcome State Fault Refusal :=
  match s.admission 16 with
  | .no => .next s
  | a => if s.classTurn rank then finish s (go (s.chargeLine 16 a)) else .next s

/-- A head's next request is admitted; a MemInv or a MemSpecRd that waited passes free of charge. -/
def State.headAdmit (s : State) (k : Fin 16) (cacheFails : Bool) : Host.Outcome State Fault Refusal :=
  match if s.headServes k then s.pickQuick k else none with
  | some r => finish s ((s.dropPort r).passNow k r)
  | none =>
    match s.admission k, s.pickPort k with
    | .no, _ => .next s
    | a, some r => finish s (s.admitHead k r a cacheFails)
    | _, none =>
      let rs := s.mem.ports.filter (fun r => r.src == .head k && s.sliceWaits r.line)
      .next (rs.foldl (fun s r => s.wakeFor r.line r.src) s)

/-- A carriage's next line is admitted. A write whose line fails its check in the carriage's staging is formed again from its
source instead (Table 10.3). -/
def State.carAdmit (s : State) (c : Fin 32) (cacheFails stagingFails : Bool) : Host.Outcome State Fault Refusal :=
  match if (s.car c).wants then s.carRequest c else none with
  | none => .next s
  | some (i, p, r) =>
    if r.isWrite = true ∧ stagingFails = true ∧ (s.car c).abort = none then finish s (s.carReread c i p)
    else
      let q := if r.isWrite then { p with toWrite := p.toWrite.tail, sent := p.sent ++ [r.line] }
        else { p with toRead := p.toRead.tail, asked := p.asked ++ [r.line] }
      State.classAdmit s s 4 r (s.carBlocked c r) (fun t => (t.setCar c ((t.car c).setPiece i q)).lookupReq r cacheFails)

/-- The next read of a seal's hold copies is admitted (R388, R389). -/
def State.holdAdmit (s : State) (i : Fin 4) (cacheFails : Bool) : Host.Outcome State Fault Refusal :=
  let t := s.holdFill i
  match t.holdRequest i with
  | none => finish s t
  | some r =>
    State.classAdmit s t 1 r (t.copyBlocked r.line (t.seal i).tb) (fun t =>
      let x := t.seal i
      (t.setSeal i { x with copies := x.copies.map (fun h =>
        if h.toRead.head? = some r.line then { h with toRead := h.toRead.tail, asked := h.asked ++ [r.line] } else h) }).lookupReq
        r cacheFails)

/-- A line of seal staging fails its check: the granule's lines are written to the snapshot area as poisoned, and counted
(Tables 10.3 and 10.5). The address of the line in the SRAM is a free value (log 2). -/
def State.stagingLost (s : State) (i : Fin 4) (granule : Nat) : State :=
  let x := s.seal i
  let snap := x.snap / 64 + (granule - x.base / 4096) * 64
  let f (g : Staged) : Staged := if g.granule = granule
    then { g with toWrite := (List.range 64).map (fun j => wholeLine (snap + j) poisonLine) } else g
  let s := ((s.raise 63 0 i.val).sramLost 4 (s.free.toNat % 2 ^ 32) (granule * 4096)).freeNext
  s.setSeal i { x with poison := x.poison + 64, staged := x.staged.map f }

/-- The next write of a seal's staging is admitted (R387, R389). -/
def State.stageAdmit (s : State) (i : Fin 4) (stagingFails : Bool) : Host.Outcome State Fault Refusal :=
  match (s.seal i).staged.find? (fun g => !g.toWrite.isEmpty), s.stageRequest i with
  | some g, some r =>
    if stagingFails then finish s (s.stagingLost i g.granule)
    else
      State.classAdmit s s (if g.hold then 1 else 4) r (s.blocked r) (fun t =>
        let x := t.seal i
        let f (q : Staged) : Staged := if q = g then { q with toWrite := q.toWrite.tail, sent := q.sent ++ [r.line] } else q
        (t.setSeal i { x with staged := x.staged.map f }).lookupReq r false)
  | _, _ => .next s

/-- A line of a stand-in's fill is admitted; FILLED counts 1 MiB (R479). -/
def State.fillAdmit (s : State) (n : Nat) : Host.Outcome State Fault Refusal :=
  if s.siFillWants n = false then .next s else
  s.plainAdmit 2 (fun t =>
    let sent := t.siSent n + 1
    State.setFld { t with links := { t.links with siSent := sparsePut (fun _ => 0) t.links.siSent n sent } }
      (aXR_SI_STATUS n) 12 12 (sent / 16384))

/-- A line of the zero-fill is admitted (R186). -/
def State.zeroAdmit (s : State) (cacheFails : Bool) : Host.Outcome State Fault Refusal :=
  match s.zeroRequest with
  | none => .next s
  | some r =>
    State.classAdmit s s 3 r (s.blocked r) (fun t =>
      State.lookupReq { t with filling := t.filling.map (fun f => if f.block = r.line / blockLines then { f with sent := f.sent + 1 } else f) }
        r cacheFails)

/-- A read or a write of a row repair's copy is admitted (R432). -/
def State.repairAdmit (s : State) : Host.Outcome State Fault Refusal :=
  match s.integ.repairing with
  | none => .next s
  | some r =>
    if repairMoves ≤ r.moved then .next s
    else s.plainAdmit 4 (fun t => { t with integ := { t.integ with repairing := some { r with moved := r.moved + 1 } } })

/-- REGULATION_ADMIT (R264, R269): the next request of a head, or the next line of some work of the carriage class. The
operands say that the line it hits in the cache, or the line it takes from staging, fails its SRAM check. -/
def execRegulationAdmit (who : Requester) (cacheFails : Bool) (s : State) (stagingFails : Bool := false) :
    Host.Outcome State Fault Refusal :=
  match who with
  | .head k => s.headAdmit k cacheFails
  | .carriage c => s.carAdmit c cacheFails stagingFails
  | .hold i => s.holdAdmit i cacheFails
  | .stage i => s.stageAdmit i stagingFails
  | .standinFill n => s.fillAdmit n
  | .zeroFill => s.zeroAdmit cacheFails
  | .rowRepair => s.repairAdmit

/-- A read of a line waits for the merge of a partial write of it in the journal, unless it is that merge's own (R234,
R246). -/
def State.mergeAhead (s : State) (r : Req) : Bool :=
  s.mem.journal.any (fun e => e.line == r.line && !fullMask e.mask
    && !(r.kind == .partialWrite && (match r.src with | .head _ => false | _ => e.seq == r.tag)))

/-- POOL_ENTRY_GRANT (R229, R273): request `index` of the miss queue takes an entry, if one is available to its master; the
master's admission resumes in the cycle after. -/
def execPoolEntryGrant (index : Nat) (s : State) : Host.Outcome State Fault Refusal :=
  match s.mem.missQ[index]? with
  | none => .next s
  | some r =>
    let c := s.placeChan r.line
    let free : Bool := if h : c < 32 then s.poolFree ⟨c, h⟩ r.src.master else true
    let earlier := (s.mem.missQ.take index).any (fun q => q.line == r.line && q.src == r.src)
    if free ∧ earlier = false ∧ s.mergeAhead r = false then
      finish s (State.toPool { s with mem := { s.mem with missQ := s.mem.missQ.eraseIdx index },
                                      regul := { s.regul with resume := sparsePut (fun _ => 0) s.regul.resume r.src.master (s.cyc + 1) } } r)
    else .next s

/-- A write lies in the region of an ACTIVE seal, at or after its boundary: its bitmap bit is read (R383, R384). -/
def State.subject (s : State) (r : Req) : Bool :=
  s.seals.toList.any (fun x => x.st == .active && decide (x.base ≤ r.line * 64 ∧ r.line * 64 < x.base + x.len)
    && decide (2 * x.tb ≤ r.stamp))

/-- A write that reaches acceptance waits: an earlier write of its line is not accepted, or is held, or awaits its install;
the journal is full; a merge that has to be read again finds the miss queue full (R189, R246, R272, R386, R437). -/
def State.acceptBlocked (s : State) (index : Nat) (r : Req) : Bool :=
  (s.mem.accept.take index).any (fun q => q.line == r.line) || !s.journalRoom
    || s.seals.toList.any (fun x => x.heldWrites.any (fun q => q.line == r.line))
    || s.mem.journal.any (fun e => e.line == r.line && e.place == .install)
    || (!fullMask r.mask && (s.lookup r.line).isNone && decide (2048 ≤ s.missCount) && r.src.master != 16)

/-- WRITE_ACCEPT (R30, R386, R394): admitted write `index` is accepted once the journal holds it; a seal may hold it first,
and its hold carriage then takes up the granule. The operand says that the bitmap line of the write's granule fails its
check. -/
def execWriteAccept (index : Nat) (s : State) (bitmapFails : Bool := false) : Host.Outcome State Fault Refusal :=
  match s.mem.accept[index]? with
  | none => .next s
  | some r =>
    if s.acceptBlocked index r then .next s
    else if s.sliceWaits r.line then .next (s.wakeFor r.line r.src)
    else
      let t := { s with mem := { s.mem with accept := s.mem.accept.eraseIdx index } }
      let span := r.line / 2 ^ 15
      let t := if bitmapFails = true ∧ s.subject r = true then (t.raise 63 0 span).spanDamaged span else t
      match t.sealHolds r with
      | some i => finish s ((t.setSeal i { t.seal i with heldWrites := (t.seal i).heldWrites ++ [r] }).holdFill i)
      | none => finish s (t.acceptWrite r)

/-! Freeze, load, flush -/

/-- Held requests complete under Table 5.5, each counted in HD_DISCARD once; the lines of a UIO request go together. -/
def State.refuseHeld (s : State) (k : Fin 16) (rs : List Req) : State :=
  (rs.foldl (fun (p : State × List (Bool × Nat)) r =>
    if r.uio && p.2.contains (r.isWrite, r.tag) then p
    else ((p.1.respondRefused k r).bump (aHD_DISCARD k) 16 16 1, if r.uio then (r.isWrite, r.tag) :: p.2 else p.2)) (s, [])).1

/-- FREEZE_WINDOW_END (R203): the head is fenced, its held requests complete under Table 5.5, a FENCE record goes out. -/
def execFreezeWindowEnd (k : Fin 16) (s : State) : Host.Outcome State Fault Refusal :=
  match (s.head k).mode with
  | .frozen u =>
    if u ≤ s.cyc then
      let held := s.mem.ports.filter (fun r => r.src == .head k)
      let s' := { s with mem := { s.mem with ports := s.mem.ports.filter (fun (r : Req) => r.src != Src.head k) } }
      let s' := (s'.setHead k { s'.head k with mode := .fenced }).refuseHeld k held
      finish s (s'.toHeadAndFm k .failure (s'.record 5 0xFFFF [(12, 1, k)]))
    else .next s
  | _ => .next s

/-- Table 5.4 for a head. -/
def State.loadOf (s : State) (k : Fin 16) : BitVec 2 :=
  let h := s.head k
  if s.enforcing = true ∨ s.regul.scale < 0x8000 then 3
  else if s.flag aTH_STATUS 1 = true ∨ min 100 (s.fld aHEAD_GCTRL 8 7) * 2000 < 100 * h.waitCycles then 2
  else if 1024 * h.admitted < 1000 * s.minBw k then 0
  else 1

/-- DEVICE_LOAD_EVAL (R193): each 1 µs, every head's value is evaluated again and its measurement restarts. -/
def execDeviceLoadEval (s : State) : Host.Outcome State Fault Refusal :=
  .next ((List.finRange 16).foldl (fun s k =>
    s.setHead k { s.head k with load := s.loadOf k, waitCycles := 0, admitted := 0 }) s)

/-- Write-backs of a flush as far as the journal takes them (R243). -/
def State.flushSome (s : State) : List Nat → State
  | [] => { s with mem := { s.mem with flush := [] } }
  | l :: ls =>
    if s.journalRoom then State.flushSome (s.writeBack l) ls else { s with mem := { s.mem with flush := l :: ls } }

/-- LC_FLUSH_DONE (R243): the last write-back of the flush enters the journal and FLUSH clears. -/
def execLcFlushDone (s : State) : Host.Outcome State Fault Refusal :=
  let t := s.flushSome s.mem.flush
  finish s (if t.mem.flush = [] then t.setFlag aLC_CTRL 0 false else t)

/-! Hold copies (R386 to R389) -/

/-- SEAL_HOLD_COPY_DONE (R386, R387, R389, R394): the hold carriage has read a granule that writes wait for; its bit is set
and the writes proceed. The operand says that the bitmap line of the granule fails its check. -/
def execSealHoldCopyDone (i : Fin 4) (granule : Nat) (s : State) (bitmapFails : Bool := false) :
    Host.Outcome State Fault Refusal :=
  let x := s.seal i
  match x.copies.find? (fun h => h.granule == granule) with
  | none => .next s
  | some h =>
    if x.st = .active ∧ h.toRead = [] ∧ h.asked = [] then
      finish s (if bitmapFails then (s.raise 63 0 (granule / 512)).spanDamaged (granule / 512)
        else s.granuleDone i granule true h.got)
    else .next s

end Sys2Proof.Machine
end

