-- ==== Sys2Proof/Machine/ChannelCmds.lean ====
section
/-! DEFINITION. The channel controllers: the pick of a DRAM command, the data of reads, the end of writes, the retry
(R223 to R236, R405 to R409, R418, R438, R471). -/

namespace Sys2Proof.Machine

/-! The pick (R230 to R235) -/

/-- Cycles of a burst on the bus: 2, or 4 in limp (R220, R471). -/
def Channel.burst (ch : Channel) : Nat := if ch.mode = .limp then 4 else 2

/-- A bank of a channel; an untouched one is closed. -/
def Channel.bank (ch : Channel) (b : Nat) : Bank :=
  match ch.banks.find? (fun p => p.1 == b) with
  | some p => p.2
  | none => { row := none, hits := 0, capped := 0, actAt := 0, preAt := 0, rdAt := 0, wrEnd := 0 }

/-- A bank replaced. -/
def Channel.setBank (ch : Channel) (b : Nat) (x : Bank) : Channel :=
  { ch with banks := (b, x) :: ch.banks.filter (fun p => p.1 != b) }

/-- A request as the pick sees it: line of the channel, order, its place in the pool or in the write buffer, whether it is
a write, and whether it is the retry of a read. -/
structure PickReq where
  cell : Nat
  order : Nat
  id : Nat
  write : Bool
  retry : Bool
  deriving DecidableEq, Repr

/-- The cell of a line on a channel. -/
def State.cellOn (s : State) (c line : Nat) : Option Nat :=
  match s.place line with
  | some p => if p.1 = c then some p.2 else none
  | none => none

/-- The cell of a line whose row is not being copied by a row repair (R432). -/
def State.cellFree (s : State) (c line : Nat) : Option Nat := if s.rowBusy line then none else s.cellOn c line

/-- Reads of a channel that wait for their RD, by stamp; one behind an earlier read of its source and line waits for that
one (R228, R418). -/
def State.readReqs (s : State) (c : Fin 32) : List PickReq :=
  let pool := (s.chan c).pool
  pool.mapIdx (fun i e => (i, e)) |>.filterMap (fun (p : Nat × PoolEntry) =>
    let e := p.2
    if e.issued.isSome || e.fwd.isSome
        || (pool.take p.1).any (fun q => q.req.src == e.req.src && q.req.line == e.req.line && q.issued.isNone) then none
    else (s.cellFree c e.req.line).map (fun l =>
      { cell := l, order := e.req.stamp, id := p.1, write := false, retry := e.retry }))

/-- Lines of the write buffer, oldest entry first (R233). -/
def State.writeReqs (s : State) (c : Fin 32) : List PickReq :=
  (s.chan c).wbuf.mapIdx (fun i ns => (i, ns)) |>.filterMap (fun (p : Nat × List Nat) =>
    (p.2.head?.bind s.jEntry).bind (fun e => (s.cellFree c e.line).map (fun l =>
      { cell := l, order := p.1, id := p.1, write := true, retry := false })))

/-- Requests of the mode in force, and the retries of reads in either mode: a retry is the next command of its bank
(R418). -/
def State.pickReqs (s : State) (c : Fin 32) (write : Bool) : List PickReq :=
  if write then (s.readReqs c).filter (fun r => r.retry) ++ s.writeReqs c else s.readReqs c

/-- A request came before another one: equal stamps keep their order of arrival (R228). -/
def PickReq.before (a b : PickReq) : Bool := decide (a.order < b.order) || (a.order == b.order && decide (a.id < b.id))

/-- The oldest of a list. -/
def oldest : List PickReq → Option PickReq
  | [] => none
  | r :: rs => some (rs.foldl (fun a b => if b.before a then b else a) r)

/-- A bank's candidate (R231, R418). -/
def Channel.candidate (ch : Channel) (cap b : Nat) (rs : List PickReq) : Option PickReq :=
  let q := rs.filter (fun r => lineBank r.cell == b)
  let x := ch.bank b
  match q.find? (fun r => r.retry), x.row with
  | some r, _ => some r
  | none, none => oldest q
  | none, some row =>
    match oldest (q.filter (fun r => lineRow r.cell == row)), oldest q with
    | some h, some o => if cap ≤ x.capped ∧ o.before h = true then some o else some h
    | _, o => o

/-- An older request to another row of the bank waits while this one is served (R231). -/
def overtakes (r : PickReq) (rs : List PickReq) : Bool :=
  rs.any (fun q => lineBank q.cell == lineBank r.cell && lineRow q.cell != lineRow r.cell && q.before r)

/-- Numbers `0` to `n - 1` in rotation, starting one past `last`. -/
def rotate (n last : Nat) : List Nat := (List.range n).map (fun i => (last + 1 + i) % n)

/-- Banks in the order of the scan: groups from one past `group`, within each from one past the bank last served there
(R230). -/
def Channel.scan (ch : Channel) (group : Nat) : List Nat :=
  (rotate 16 group).flatMap (fun g =>
    let last := match ch.lastBank.find? (fun p => p.1 == g) with
      | some p => p.2
      | none => 3
    (rotate 4 last).map (fun i => g * 4 + i))

/-- A column command to a bank is legal now (Table 6.3, R471): tRCD, tCCD, the bus gap of a change of direction. -/
def Channel.columnLegal (ch : Channel) (now b row : Nat) (write : Bool) : Bool :=
  let x := ch.bank b
  let gap := max ch.burst (if b / 4 = ch.lastColGroup then 4 else 2)
  x.row == some row && decide (x.actAt + 28 ≤ now) && decide (ch.lastCol + gap ≤ now)
    && (if write then decide (ch.lastRdEnd + 6 ≤ now + 12) else decide (ch.lastWrEnd + 24 ≤ now + 28))

/-- An ACT to a closed bank is legal now: tRP, tRC, tFAW, and no ACT stop (Table 6.3, R248). -/
def Channel.actLegal (ch : Channel) (now b : Nat) (stopped : Bool) : Bool :=
  let x := ch.bank b
  !stopped && x.row.isNone && decide (x.preAt + 28 ≤ now) && (x.actAt == 0 || decide (x.actAt + 84 ≤ now))
    && decide ((ch.acts.filter (fun a => now < a + 24)).length < 4)

/-- The channel's layer or its controller pair is on its way out of on (R261, R520). -/
def State.leaving (s : State) (c : Nat) : Bool :=
  let leaves (n : Nat) : Bool := if h : n < 64 then
      (match (s.dom ⟨n, h⟩).moving with
      | some (t, _, _) => t != .on
      | none => false) else false
  leaves (c / 2) || leaves (16 + c / 2)

/-- The write buffer drains: the channel is on its way out, or the device is shutting down (R261, R513, R520). -/
def State.draining (s : State) (c : Nat) : Bool := s.leaving c || s.fld aTH_STATUS 4 2 == 1

/-- The domain's state is on, whether or not it is on its way out. -/
def State.domStays (s : State) (n : Nat) : Bool := if h : n < 64 then (s.dom ⟨n, h⟩).st == .on else false

/-- The controller issues commands: in service, awake, no halt open, a command slot free (R224, R225, R439); on the way out
it does no more than drain its write buffer (R261). -/
def State.picking (s : State) (c : Fin 32) : Bool :=
  let ch := s.chan c
  ch.mode != .lost && !ch.selfRefresh && !s.replaying c && !s.windowOpen && decide (ch.slotFree ≤ s.cyc)
    && s.domStays (c.val / 2) && s.domStays (16 + c.val / 2) && (!s.leaving c || !ch.wbuf.isEmpty)

/-- Read mode or write mode after the rules of R235. -/
def State.pickMode (s : State) (c : Fin 32) : Channel :=
  let ch := s.chan c
  let reads := !ch.waiting.isEmpty
  let n := ch.wbuf.length
  if ch.writeMode then
    if n = 0 then { ch with writeMode := false, idleDrain := false }
    else if s.draining c then ch
    else if ch.idleDrain then (if reads then { ch with writeMode := false, idleDrain := false } else ch)
    else if n ≤ s.fld aARR_GCTRL 8 7 then { ch with writeMode := false } else ch
  else if s.fld aARR_GCTRL 0 7 ≤ n ∧ 0 < n then { ch with writeMode := true, idleDrain := false }
  else if 0 < n ∧ (reads = false ∨ s.draining c = true) then { ch with writeMode := true, idleDrain := true }
  else ch

/-- What the pick issues. -/
inductive Pick where
  | column (b : Nat) (r : PickReq)
  | act (b row : Nat)
  | pre (b : Nat)
  | nothing
  deriving DecidableEq, Repr

/-- The pick of one cycle (R230). -/
def State.pick (s : State) (c : Fin 32) : Pick :=
  let ch := s.chan c
  let rs := (s.pickReqs c ch.writeMode).filter (fun r => r.write || !s.leaving c)
  let cap := s.fld aARR_GCTRL 16 6
  let now := s.cyc
  let cand (b : Nat) : Option PickReq := ch.candidate cap b rs
  let col := (ch.scan ch.lastColGroup).findSome? (fun b =>
    match cand b with
    | some r => if ch.columnLegal now b (lineRow r.cell) r.write then some (Pick.column b r) else none
    | none => none)
  let row := (ch.scan ch.lastRowGroup).findSome? (fun b =>
    match cand b with
    | some r =>
      match (ch.bank b).row with
      | none => if ch.actLegal now b s.halt.actStopped then some (Pick.act b (lineRow r.cell)) else none
      | some open_ =>
        if open_ ≠ lineRow r.cell ∧ (ch.bank b).preFrom ≤ now then some (Pick.pre b) else none
    | none => none)
  (col.orElse (fun _ => row)).getD .nothing

/-- The group's bank served last. -/
def Channel.served (ch : Channel) (b : Nat) : List (Nat × Nat) :=
  (b / 4, b % 4) :: ch.lastBank.filter (fun p => p.1 != b / 4)

/-- A bank after a column command at `now` (R231, CH_HITS). -/
def Channel.afterColumn (ch : Channel) (b : Nat) (r : PickReq) (rs : List PickReq) : Bank :=
  let x := ch.bank b
  { x with hits := x.hits + 1, capped := if overtakes r rs then x.capped + 1 else 0 }

/-- A RD issues for a pool entry (Table 6.3). -/
def State.issueRead (s : State) (c : Fin 32) (b : Nat) (r : PickReq) : State :=
  let ch := s.chan c
  let x := ch.afterColumn b r (s.pickReqs c ch.writeMode)
  let s := s.bump (aCH_RD c) 0 64 1
  let s := if 1 < x.hits then s.bump (aCH_HITS c) 0 32 1 else s
  let ch2 := ch.setBank b { x with rdAt := s.cyc }
  s.setChan c { ch2 with
    burstCount := ch2.burstCount + 1,
    pool := ch.pool.mapIdx (fun i (e : PoolEntry) => if i = r.id then { e with issued := some s.cyc } else e),
    lastCol := s.cyc, lastColGroup := b / 4, lastBank := ch.served b, lastRdEnd := s.cyc + 28 + ch.burst,
    slotFree := s.cyc + 1 }

/-- A WR issues for an entry of the write buffer. -/
def State.issueWrite (s : State) (c : Fin 32) (b : Nat) (r : PickReq) : State :=
  let ch := s.chan c
  let fin := s.cyc + 12 + ch.burst
  let x := ch.afterColumn b r (s.pickReqs c ch.writeMode)
  let s := s.bump (aCH_WR c) 0 64 1
  let s := if 1 < x.hits then s.bump (aCH_HITS c) 0 32 1 else s
  let ch2 := ch.setBank b { x with wrEnd := fin }
  s.setChan c { ch2 with
    burstCount := ch2.burstCount + 1, wbuf := ch.wbuf.eraseIdx r.id, writing := ch.writing ++ [(ch.wbuf.getD r.id [], fin)],
    lastCol := s.cyc, lastColGroup := b / 4, lastBank := ch.served b, lastWrEnd := fin, slotFree := s.cyc + 1 }

/-- The journal's copies of a write as they are read (R435, Table 10.3): a failing copy is rewritten from the good one; a
write that has lost both is lost, its line poisoned and logged. -/
def State.journalCheck (s : State) (chk : SramCheck) (n : Nat) : State :=
  match s.jEntry n with
  | none => s
  | some e =>
    let addr := 64 * e.slot.getD 0
    match chk with
    | .good => s
    | .oneCopy => s.raise 63 0 addr
    | .bothCopies =>
      let s := ((s.raise 63 0 addr).sramLost 3 addr (e.line * 64)).logUe e.line 5 0xFF true e.stamp
      { s with mem := { s.mem with journal := s.mem.journal.map (fun (f : JEntry) =>
          if f.seq = n then { f with val := poisonLine, mask := BitVec.allOnes 64 } else f) } }

/-- Address of the repair map's entries of a bank (R448). -/
def repairMapAddr (c b : Nat) : Nat := 0x7E1000 + (c * 64 + b) * 16

/-- CHANNEL_COMMAND_PICK (R224, R230): at most one command of a channel in a cycle. The operands give the checks of the
SRAM lines that the command reads: an ACT the repair map, a WR the journal's line (R435). An ACT whose line of the map is
lost in both copies cannot be redirected and does not issue (R436, log 38). -/
def execChannelCommandPick (c : Fin 32) (s : State) (repairMap : SramCheck := .good) (journal : SramCheck := .good) :
    Host.Outcome State Fault Refusal :=
  if s.picking c then
    let s' := s.setChan c (s.pickMode c)
    let ch := s'.chan c
    match s'.pick c with
    | .column b r =>
      if r.write then finish s ((s'.journalCheck journal ((ch.wbuf.getD r.id []).headD 0)).issueWrite c b r)
      else finish s (s'.issueRead c b r)
    | .act b row =>
      let s' := s'.tableCheck repairMap (repairMapAddr c b)
      if repairMap = .bothCopies then finish s s' else
      let x := ch.bank b
      let ch2 := ch.setBank b { x with row := some row, hits := 0, capped := 0, actAt := s.cyc }
      let s' := s'.bump (aCH_ACT c) 0 32 1
      finish s (s'.setChan c { ch2 with actCount := ch2.actCount + 1, acts := (s.cyc :: ch.acts).take 4, lastRowGroup := b / 4, slotFree := s.cyc + 1 })
    | .pre b =>
      let ch2 := ch.setBank b { ch.bank b with row := none, hits := 0, capped := 0, preAt := s.cyc }
      finish s (s'.setChan c { ch2 with lastRowGroup := b / 4, slotFree := s.cyc + 1 })
    | .nothing => finish s s'
  else .next s

/-! The pre-close of a halt (R226, R248) -/

/-- Banks of a channel that the pre-close names: open rows with no queued read of that row (R228, Table 6.6, log 39). -/
def Channel.precloseBanks (ch : Channel) (queued : Nat → Nat → Bool) : List Nat :=
  ch.banks.filterMap (fun b =>
    match b.2.row with
    | some r => if queued b.1 r then none else some b.1
    | none => none)

/-- The pre-close of one channel: a PREM whose tRP counts from the last of its three slots. -/
def State.preclose (s : State) (c : Fin 32) : State :=
  let ch := s.chan c
  if ch.selfRefresh then s else
  let queued (b r : Nat) : Bool := ch.waiting.any (fun e =>
    (s.cellOn c e.req.line).any (fun l => lineBank l == b && lineRow l == r))
  let names := ch.precloseBanks queued
  let banks := ch.banks.map (fun b =>
    if names.contains b.1 then (b.1, { b.2 with row := none, hits := 0, capped := 0, preAt := max (s.cyc + 2) b.2.preFrom }) else b)
  (s.setChan c { ch with banks := banks, slotFree := if names.isEmpty then ch.slotFree else s.cyc + 3 }).bump
    (aCH_PRECLOSE c) 0 32 names.length

/-- HALT_PRECLOSE (R248): once for each announced halt, from 32 ns before it opens; a halt that a change of the schedule or
of RT has moved further ahead has its pre-close again. -/
def execHaltPreclose (s : State) : Host.Outcome State Fault Refusal :=
  if 64 < s.nextHaltIn then .next { s with halt := { s.halt with preclosed := false } }
  else if s.halt.preclosed = false ∧ 0 < s.nextHaltIn then
    .next ((List.finRange 32).foldl (fun s c => s.preclose c) { s with halt := { s.halt with preclosed := true } })
  else .next s

/-! Data (R405 to R409, R412, R418, R419, R438) -/

/-- Cycle in which the data of an entry is there: RL and the burst after its RD, or the end of the check that forwards its
line (R234, Table 6.3). -/
def Channel.arrival (ch : Channel) (e : PoolEntry) : Option Nat :=
  e.issued.map (fun t => if e.fwd.isSome then t + 6 else t + 28 + ch.burst)

/-- The first entry whose data has come; `retry` selects the retries. The reads of one source and line come in the order of
their stamps (R189, R228). -/
def State.arrivedRead (s : State) (c : Fin 32) (retry : Bool) : Option (Nat × PoolEntry) :=
  let ch := s.chan c
  let at_ (p : Nat × PoolEntry) : Nat := (ch.arrival p.2).getD 0
  let es := ch.pool.mapIdx (fun i e => (i, e)) |>.filter (fun (p : Nat × PoolEntry) =>
    p.2.retry == retry && p.2.issued.isSome && decide (at_ p ≤ s.cyc)
      && !(ch.pool.take p.1).any (fun q => q.req.src == p.2.req.src && q.req.line == p.2.req.line))
  match es with
  | [] => none
  | e :: rest => some (rest.foldl (fun a b => if at_ b < at_ a then b else a) e)

/-- A pool entry leaves. -/
def State.dropPool (s : State) (c : Fin 32) (i : Nat) : State :=
  s.setChan c { s.chan c with pool := (s.chan c).pool.eraseIdx i }

/-- Lines of the image copy in block 255 (R430, log 20). -/
def imageCopyLine (line : Nat) : Bool := decide (copyLine ≤ line ∧ line < copyLine + 0x500000 / 64)

/-- A line that stays uncorrectable for the scrubber (R425, R426, R430). -/
def State.scrubLost (s : State) (c : Fin 32) (line : Nat) : State :=
  if s.newerAhead line then
    let s := s.bump (aINT_CH_UE c) 0 32 1
    let s := s.bump aUE_TOTAL 0 64 1
    s.ueAdd { line := line, rt := s.now, source := 6, master := 0xFF, poisonWritten := false, reported := false,
              cleared := false, stamp := 0 }
  else
    let s := s.uncorrectable c line 2 0xFF 0
    if imageCopyLine line then s.raise 62 c (line * 64) else s

/-- Source code of an uncorrectable line by its request (Table 10.7). -/
def Req.ueSource (r : Req) : Nat :=
  if r.kind = .partialWrite then 3 else
  match r.src with
  | .head _ => 0
  | _ => 1

/-- What comes of a decoded word for a request (R412, R419, R422, R425): its data, the correction or the loss counted. -/
def State.decoded (s : State) (c : Fin 32) (r : Req) (d : Decoded) : State :=
  match d with
  | .line v fixed =>
    let s := if fixed.isEmpty then s else s.corrected c r.line v fixed (r.src == .scrub)
    s.deliver r v
  | .uncorrectable =>
    if r.src = .scrub then s.scrubLost c r.line
    else (s.uncorrectable c r.line r.ueSource (s.srcMaster r.src) (r.stamp / 2)).deliver r poisonLine

/-- The word a read of a line brings: its symbols with the errors of this burst. -/
def State.burstWord (s : State) (line : Nat) (errors : List (Nat × Byte)) : List Byte :=
  match s.place line with
  | some p => withErrors (s.cells p.2) errors
  | none => withErrors (codeword poisonLine) errors

/-- The first decode of a burst enters the last 16 (R438). -/
def State.noteDecode (s : State) (c : Fin 32) (bad : Bool) : State :=
  s.setChan c { s.chan c with decodes := (bad :: (s.chan c).decodes).take 16 }

/-- DRAM_READ_DATA (R234, R405, R418, R438): the first data to come is that of a forwarded line, or of a burst, which is
decoded. An uncorrectable first decode waits for its retry; two in 16 bursts are a channel fault. -/
def execDramReadData (c : Fin 32) (errors : List (Nat × Byte)) (s : State) : Host.Outcome State Fault Refusal :=
  if s.replaying c then .next s else
  match s.arrivedRead c false with
  | none => .next s
  | some (i, e) =>
    match e.fwd with
    | some v => finish s ((s.dropPool c i).deliver e.req v)
    | none =>
      let d := decode (s.erasures c) (s.burstWord e.req.line errors)
      if d = .uncorrectable then
        let s' := s.noteDecode c true
        let ch := s'.chan c
        let s' := s'.setChan c { ch with
          pool := ch.pool.mapIdx (fun j (x : PoolEntry) => if j = i then { x with issued := none, retry := true } else x) }
        finish s (if 2 ≤ (ch.decodes.filter id).length then s'.channelFault c 1 else s')
      else finish s (((s.noteDecode c false).dropPool c i).decoded c e.req d)

/-- UE_RETRY (R418): the one retry of an uncorrectable first decode has its data. -/
def execUeRetry (c : Fin 32) (errors : List (Nat × Byte)) (s : State) : Host.Outcome State Fault Refusal :=
  if s.replaying c then .next s else
  match s.arrivedRead c true with
  | none => .next s
  | some (i, e) =>
    let d := decode (s.erasures c) (s.burstWord e.req.line errors)
    let clean : Bool := match d with
      | .line _ fixed => fixed.isEmpty
      | .uncorrectable => false
    let s' := (s.noteDecode c false).dropPool c i
    let s' := if clean then s'.bump (aINT_CH_TRANS c) 0 32 1 else s'
    finish s (s'.decoded c e.req d)

/-- DRAM_WRITE_DONE (R233, R236, R241): the oldest WR burst has completed; the cells hold the newest of its entry's writes,
their journal entries are released, and what waited for buffer or journal space goes on. -/
def execDramWriteDone (c : Fin 32) (s : State) : Host.Outcome State Fault Refusal :=
  let ch := s.chan c
  match ch.writing with
  | [] => .next s
  | (ns, fin) :: rest =>
    if s.cyc < fin then .next s else
    let s' := s.setChan c { ch with writing := rest }
    let s' := match ns.head?.bind s.jEntry with
      | some e =>
        match s.place e.line with
        | some p => s'.storeLine p.2 e.val
        | none => s'
      | none => s'
    finish s ((s'.dropEntries ns).refill c 65).retryInstalls

/-- CA_PARITY_ALERT (R438): a channel that drives commands declares a fault with cause 0. -/
def execCaParityAlert (c : Fin 32) (s : State) : Host.Outcome State Fault Refusal :=
  if (s.chan c).mode = .lost ∨ (s.chan c).selfRefresh = true then .next s else finish s (s.channelFault c 0)

end Sys2Proof.Machine
end

