-- ==== Sys2Proof/Machine/LinkCmds.lean ====
section
/-! DEFINITION. Training, lost channels and stand-ins, retraining and replay, recalibration, express columns and the clock
spine (R441 to R446, R453 to R465, R474 to R492). -/

namespace Sys2Proof.Machine

/-! Training of a group (R451, R456, R457, R459, R468, R473) -/

/-- Passing taps of a wire in the result of a sweep; a wire that is not listed keeps its tap. -/
def sweepOf (sweep : List (Nat × BitVec 32)) (i : Nat) : Option (BitVec 32) := (sweep.find? (fun p => p.1 == i)).map (fun p => p.2)

/-- The five taps of a verification pass (R456). -/
def verifyPasses (p : BitVec 32) (t step : Nat) : Bool :=
  decide (2 * step ≤ t ∧ t + 2 * step ≤ 31)
    && [t - 2 * step, t - step, t, t + step, t + 2 * step].all (fun x => p.getLsbD x)

/-- A wire that failed its verification is counted and swept (R457). -/
def State.fixedReject (s : State) (i : Nat) : State :=
  let s := (s.bump aXR_GSTATUS 16 16 1).setFlag aXR_GSTATUS 1 true
  s.raise 72 (i / 100) i

/-- One wire of a channel is trained: verified where a fixed tap is supplied and asked for, else swept. -/
def State.trainWire (s : State) (c w : Nat) (sweep : List (Nat × BitVec 32)) (fixed : Bool) : State :=
  let i := 100 * c + w
  if s.wireDead c w then s else
  match sweepOf sweep i with
  | none => s
  | some p =>
    let dq := decide (w < 76)
    let fx := s.fld (aXR_FIXED (i / 4)) (8 * (i % 4)) 8
    let use : Bool := fixed && fx.testBit 7
    let t := fx % 32
    if use = true ∧ verifyPasses p t (if dq then 1 else 2) = true then s.setTap i t
    else
      let s := if use then s.fixedReject i else s
      match bestTap p (if dq then 8 else 16) dq with
      | some t => s.setTap i t
      | none => s.markDead c w

/-- Dead wires take the lowest-numbered free spares, lowest wire first. -/
def State.assignDq (s : State) (c : Fin 32) : State :=
  let lo := if s.isLimp c then s.halfBase c else 0
  let dead := (List.range' lo (if s.isLimp c then 36 else 72)).filter (fun i => s.dqDead c i && !s.dqCovered c i)
  let free := (s.usableSpares c).filter (fun j => s.spareIdle c j)
  (free.zip dead).foldl (fun s (p : Nat × Nat) => (s.setSpare c p.1 p.2 false).raise 74 c p.2) s

/-- The DQ group of a channel is trained; true when the channel is lost (R459, R468). -/
def State.trainDq (s : State) (c : Fin 32) (sweep : List (Nat × BitVec 32)) (fixed : Bool) : State × Bool :=
  let before := s.erasures c
  let s := (List.range 76).foldl (fun s w => s.trainWire c w sweep fixed) s
  let s := s.assignDq c
  let now := s.erasures c
  let news := now.filter (fun i => !before.contains i)
  if now.length ≤ 4 then ((s.raiseList (news.map (fun i => .plain 75 c i))).refreshWires c, false)
  else if s.isLimp c = false ∧ (s.halfGood c 0 = true ∨ s.halfGood c 1 = true) then
    ((s.raise 76 c 0).enterLimp c, false)
  else (s.refreshWires c, true)

/-- The command/address group of a channel is trained; true when the channel is lost (R459, R473). -/
def State.trainCa (s : State) (c : Fin 32) (sweep : List (Nat × BitVec 32)) (fixed : Bool) : State × Bool :=
  let s := (List.range' 76 24).foldl (fun s w => s.trainWire c w sweep fixed) s
  let dead := (List.range 22).filter (fun i => s.flag (aXR_CH_CADEAD c) i && !s.caCovered c i)
  let free := [0, 1].filter (fun j => !s.flag (aXR_CH_CADEAD c) (22 + j) && s.caSpareWire c j == 0x1F)
  let s := (free.zip dead).foldl (fun s (p : Nat × Nat) => s.setCaSpare c p.1 p.2 false) s
  (s.refreshWires c, decide (free.length < dead.length))

/-! Lost channels and stand-ins (R474 to R482) -/

/-- Blocks of a stand-in written to its registers, ascending (R476). -/
def State.setSiBlocks (s : State) (n : Nat) (bs : List Nat) : State :=
  let sorted := (List.range 256).filter (fun b => bs.contains b)
  let s := (List.range 9).foldl (fun s q => s.setFld (aXR_SI_BLK n (q / 4)) (8 * (q % 4)) 8 (sorted.getD q 0xFF)) s
  s.setFld (aXR_SI_STATUS n) 7 4 sorted.length

/-- A stand-in with nine blocks forms: its survivors are the channels not lost now, and the fill begins (R475, R479). -/
def State.siForm (s : State) (n : Nat) : State :=
  if (s.siBlocks n).length < 9 then s else
  let surv := (List.range 32).filter (fun c => !s.isLost c)
  let s := { s with links := { s.links with survivors := s.links.survivors.filter (fun (p : Nat × List Nat) => p.1 != n) ++ [(n, surv)] } }
  s.setFld (aXR_SI_STATUS n) 0 2 2

/-- User blocks in no extent, not being filled and in no stand-in, highest first (R477). -/
def State.freeBlocks (s : State) : List Nat :=
  ((List.range 255).filter (fun b => !s.grants.any (fun g => g.block == b) && !s.filling.any (fun f => f.block == b)
    && !(s.siBlocks 0).contains b && !(s.siBlocks 1).contains b)).reverse

/-- A released block goes to a stand-in that collects, in place of the zero-fill (R477); none takes it otherwise. -/
def State.siTake (s : State) (b : Nat) : Option State :=
  match [0, 1].find? (fun n => s.siState n == 1) with
  | some n => some ((s.setSiBlocks n (b :: s.siBlocks n)).siForm n)
  | none => none

/-- A stand-in begins to form for a channel (R474, R477). -/
def State.siBegin (s : State) (n : Nat) (c : Fin 32) : State :=
  let s := s.setReg (aXR_SI_STATUS n) (packBits [(0, 2, 1), (2, 5, c.val)])
  let s := (s.setSiBlocks n (s.freeBlocks.take 9)).siForm n
  if s.siState n = 1 then s.raise 78 c 0 else s

/-- The channels a line's home passes through: its own, then the survivors of its slots (R476, R481). -/
def State.homes (s : State) (line : Nat) : List Nat :=
  let c := lineChannel line
  if s.isLost c = false then [c] else
  match s.siOf c with
  | none => [c]
  | some n =>
    match s.slotLine n (line / 2 ^ 22) line with
    | none => [c]
    | some (v, _) =>
      if s.isLost v = false then [c, v] else
      match s.slotLine 1 (256 + line / 2 ^ 22 / 31) line with
      | some (u, _) => [c, v, u]
      | none => [c, v]

/-- The journal entries of a channel that is not in service: of the lines whose home passes through it, those not in
another channel's buffer. -/
def State.entriesOf (s : State) (c : Fin 32) : List JEntry :=
  s.mem.journal.filter (fun e => (s.homes e.line).contains c.val
    && (e.place != .buffer || (s.chan c).wbuf.any (fun ns => ns.contains e.seq)
      || (s.chan c).writing.any (fun w => w.1.contains e.seq)))

/-- The read half of a merge in the channel controller (R245): its write stands in the journal. -/
def Req.isMerge (r : Req) : Bool := r.kind == .partialWrite && (match r.src with
  | .head _ => false
  | _ => true)

/-- A REPLAY record (R446, R447, Table 10.5); outcome 1 goes to the Failure log. -/
def State.replayRecord (s : State) (c : Fin 32) (outcome entries reads : Nat) : State :=
  let ch := s.chan c
  let mode := match ch.mode with
    | .normal => 0
    | .limp => 1
    | .lost => 2
  let s := s.setReg (aINT_CH_REPLAY c) (packBits [(0, 16, satAt 16 entries), (16, 16, satAt 16 reads)])
  let r := s.record 0x21 0xFFFF [(12, 1, c), (13, 1, ch.faultCause), (14, 1, mode), (15, 1, outcome), (16, 4, entries),
    (20, 4, reads), (24, 8, (s.reg (aINT_CH_FAULT_RT c)).toNat), (32, 8, s.now), (40, 4, ch.spilled)]
  s.toFm (if outcome = 1 then .failure else .informational) r

/-- The held reads of a channel end with poison, its journal entries are discarded and their lines logged with source 5
(R444); the cells of a channel that is not lost then hold poison, so the lines read so until they are rewritten. -/
def State.giveUp (s : State) (c : Fin 32) : State × Nat × Nat :=
  let es := s.entriesOf c
  let ch := s.chan c
  let reads := ch.pool
  let lines := (es.map (fun e => e.line)).eraseDups
  let s := s.setChan c { ch with pool := [], wbuf := [], writing := [] }
  let s := { s with mem := { s.mem with journal := s.mem.journal.filter (fun e => !es.any (fun f => f.seq == e.seq)) } }
  let s := lines.foldl (fun s l =>
    let s := match s.place l with
      | some p => s.storeLine p.2 poisonLine
      | none => s
    s.logUe l 5 0xFF true 0) s
  let s := reads.foldl (fun s e => if e.req.isMerge then s else s.deliverPoison e.req) s
  (s, es.length, reads.length)

/-- A channel is declared lost (R474, R482). Its cached lines become dirty; a stand-in begins, or, for a third channel,
its lines have no home: held reads end with poison, its writes are dropped, and the period ends (log 26). -/
def State.loseChannel (s : State) (c : Fin 32) : State :=
  let was := s.homes
  let s := { s with cache := s.cache.map (fun (x : CacheLine) =>
    if (was x.line).contains c.val then { x with dirty := true } else x) }
  let s := s.setChan c { s.chan c with mode := .lost, inService := false }
  let s := s.raise 77 c 0
  match [0, 1].find? (fun n => s.siState n == 0) with
  | some n => s.siBegin n c
  | none =>
    let s := s.raise 79 c 0
    let reads := (s.chan c).pool
    let es := s.entriesOf c
    let s := s.setChan c { s.chan c with pool := [], wbuf := [], writing := [] }
    let s := { s with mem := { s.mem with journal := s.mem.journal.filter (fun e => !es.any (fun f => f.seq == e.seq)) } }
    let s := reads.foldl (fun s e => if e.req.isMerge then s else s.deliverPoison e.req) s
    (s.replayRecord c 1 es.length reads.length).setFlag (aINT_CH_STATUS c) 0 false

/-- The slot that holds the moved lines of the first stand-in: every slot whose survivor is the channel the second
stand-in serves (R481). -/
def State.movedSlots (s : State) : List Nat :=
  if (s.siSurvivors 0).length = 31 then
    (List.range 256).filter (fun k => (s.siSurvivors 0)[k % 31]? == some (s.siChannel 1))
  else []

/-- Every line of some slots of a stand-in is written as poisoned (R476, R479). -/
def State.poisonSlots (s : State) (n : Nat) (slots : List Nat) : State :=
  s.fillSlots (slots.filterMap (fun k => (s.slotLine n k 0).map (fun p => (p.1, p.2 / 2 ^ 22)))) true

/-- Every copy of some lines that the cache and the journal hold is gone. -/
def State.dropLines (s : State) (gone : Nat → Bool) : State :=
  let dead := (s.mem.journal.filter (fun e => gone e.line)).map (fun e => e.seq)
  { s with cache := s.cache.filter (fun (x : CacheLine) => !gone x.line),
           mem := { s.mem with journal := s.mem.journal.filter (fun e => !gone e.line),
                               installs := s.mem.installs.filter (fun l => !gone l.line) },
           chans := s.chans.map (fun (ch : Channel) =>
             { ch with wbuf := (ch.wbuf.map (fun ns => ns.filter (fun n => !dead.contains n))).filter (fun ns => !ns.isEmpty),
                       writing := (ch.writing.map (fun w => (w.1.filter (fun n => !dead.contains n), w.2))).filter (fun w => !w.1.isEmpty) }) }

/-- The fill of a stand-in is complete (R479, R481): the slots hold poison, and the stand-in and its channel are in
service. -/
def State.siFill (s : State) (n : Nat) : State :=
  let t := s.dropLines (fun line => (s.siBlocks n).contains (line / 2 ^ 22))
  let t := t.poisonSlots n (List.range 256)
  let t := if n = 1 then t.poisonSlots 1 (t.movedSlots.map (fun k => 256 + k / 31)) else t
  let t := (t.setFld (aXR_SI_STATUS n) 0 2 3).setFld (aXR_SI_STATUS n) 12 12 2048
  let c := t.siChannel n
  if h : c < 32 then t.setChan ⟨c, h⟩ { t.chan ⟨c, h⟩ with inService := true } else t

/-- STANDIN_FILL_DONE (R479, R481): every line of the fill has been admitted. -/
def execStandinFillDone (n : Fin 2) (s : State) : Host.Outcome State Fault Refusal :=
  finish s (if s.siState n = 2 ∧ s.siSent n = standinLines then s.siFill n else s)

/-! Retraining and replay (R440 to R446) -/

/-- CHANNEL_RETRAIN_DONE (R440, R441, R459): the groups of Table 11.2 are trained; the channel is back in service, or
lost. Retraining suspends in a halt window (R442). -/
def execChannelRetrainDone (c : Fin 32) (sweep : List (Nat × BitVec 32)) (s : State) :
    Host.Outcome State Fault Refusal :=
  let ch := s.chan c
  if s.replaying c = false ∨ ch.inService = true ∨ ch.mode = .lost ∨ s.windowOpen = true then .next s else
  let fixed := s.flag aXR_GCTRL 1
  let cause := s.fld (aINT_CH_STATUS c) 1 2
  let (t, l1) := if cause = 1 then (s, false) else s.trainCa c sweep fixed
  let (t, l2) := if cause = 0 then (t, false) else t.trainDq c sweep fixed
  if l1 || l2 then finish s (t.loseChannel c)
  else finish s (t.setChan c { t.chan c with inService := true })

/-- A replayed entry is written to its place; a partial one is merged with the line as the earlier entries left it
(R441). -/
def State.replayEntry (s : State) (e : JEntry) : State :=
  match s.place e.line with
  | some p => s.storeLine p.2 (mergeLine (s.cellLine p.2) e.val e.mask)
  | none => s

/-- The checks of the journal's copies as a replay reads them, by number of the entry (R435). -/
def State.copyChecks (s : State) (es : List JEntry) (copies : List (Nat × SramCheck)) : State :=
  copies.foldl (fun s p =>
    match es.find? (fun e => e.seq == p.1) with
    | none => s
    | some e =>
      let addr := 64 * e.slot.getD 0
      match p.2 with
      | .good => s
      | .oneCopy => s.raise 63 0 addr
      | .bothCopies => (s.raise 63 0 addr).sramLost 3 addr (e.line * 64)) s

/-- Replay proves impossible: what the channel held is given up, REPLAY_LOST is raised and the record goes out (R444,
R446). -/
def State.replayFails (s : State) (c : Fin 32) : State :=
  let (t, n, r) := s.giveUp c
  let t := t.setChan c { t.chan c with impossible := true }
  (t.raise 67 c 0).replayRecord c 1 n r

/-- Carriages with lines in flight among some reads (R381). -/
def carriagesOf (held : List PoolEntry) : List (Fin 32) :=
  (List.finRange 32).filter (fun c => held.any (fun e => e.req.src == .carriage c))

/-- The entries of a channel that is back in service are written in order of acceptance, the held reads reissue in stamp
order, and carriages with lines among them restart from their progress records (R381, R441, R446, log 27). -/
def State.replay (s : State) (c : Fin 32) : State :=
  let ch := s.chan c
  let es := s.entriesOf c
  let reads := ch.pool.filter (fun e => !(e.req.isMerge && es.any (fun f => f.seq == e.req.tag)))
  let held := reads.filter (fun e => match e.req.src with
    | .carriage _ => false
    | _ => true)
  let t := es.foldl (fun t e => t.replayEntry e) s
  let t := t.dropEntries (es.map (fun e => e.seq))
  let t := if ch.impossible then t else t.replayRecord c 0 es.length reads.length
  let t := t.setChan c { t.chan c with wbuf := [], writing := [], impossible := false, spilled := 0, spilling := false,
                                       pool := if ch.mode = .lost then [] else held }
  let t := t.setFlag (aINT_CH_STATUS c) 0 false
  let t := if ch.mode = .lost then
      (sortBy (fun (e : PoolEntry) => e.req.stamp) held).foldl (fun t e => t.toPool e.req) t else t
  ((carriagesOf reads).foldl State.carRestart t).retryInstalls

/-- REPLAY_DONE (R441, R444, R446): the replay of a channel that is back in service. The operand gives the checks of the
entries' two copies; an entry that has lost both makes the replay impossible. -/
def execReplayDone (c : Fin 32) (s : State) (copies : List (Nat × SramCheck) := []) :
    Host.Outcome State Fault Refusal :=
  let ch := s.chan c
  if s.replaying c = false ∨ ch.inService = false ∨ s.windowOpen = true then .next s else
  let es := s.entriesOf c
  let t := s.copyChecks es copies
  let lost : Bool := copies.any (fun p => p.2 == .bothCopies && es.any (fun e => e.seq == p.1))
  finish s ((if lost then t.replayFails c else t).replay c)

/-- REPLAY_SPILL (R443): after 1 ms the entries of the channel stand in the spill area. -/
def execReplaySpill (c : Fin 32) (s : State) : Host.Outcome State Fault Refusal :=
  let ch := s.chan c
  if s.replaying c = false ∨ ch.inService = true ∨ ch.spilling = true ∨ s.cyc < ch.faultAt + cycMs 1 then .next s else
  let es := s.entriesOf c
  let j := s.mem.journal.map (fun e => if es.any (fun f => f.seq == e.seq) then { e with place := .spilled, slot := none } else e)
  let t := { s with mem := { s.mem with journal := j } }
  finish s (t.setChan c { ch with spilling := true, spilled := es.length, wbuf := [], writing := [] }).retryInstalls

/-- INT_CTRL.REPLAY_LIMIT in ms (R444). -/
def State.replayLimit (s : State) : Nat := max 1 (s.fld aINT_CTRL 0 16)

/-- REPLAY_LIMIT_EXPIRY (R444, R446): replay has proved impossible. -/
def execReplayLimitExpiry (c : Fin 32) (s : State) : Host.Outcome State Fault Refusal :=
  let ch := s.chan c
  if s.replaying c = false ∨ ch.inService = true ∨ ch.impossible = true ∨ s.cyc < ch.faultAt + cycMs s.replayLimit then
    .next s
  else finish s (s.replayFails c).retryInstalls

/-! Recalibration (R453, R460 to R465) -/

/-- The taps that a change instant applies to a group, counting those that change. -/
def State.applyTaps (s : State) (key base : Nat) : State :=
  let news := s.links.pendingTaps.filter (fun p => p.1 == key)
  let s := news.foldl (fun s (p : Nat × Nat × Nat) =>
    let i := base + p.2.1
    let s := if s.tapOf i ≠ p.2.2 ∧ key < 64 then s.bump (aXR_CH_STATUS (key % 32)) 16 16 1 else s
    s.setTap i p.2.2) s
  let done (m : Nat × Nat × Nat) : Bool := news.any (fun p => p.1 == m.1 && p.2.1 == m.2.1)
  { s with links := { s.links with pendingTaps := s.links.pendingTaps.filter (fun p => p.1 != key),
                                   measuring := s.links.measuring.filter (fun m => !done m) } }

/-- The next wire of a group's rotation after the last one measured, among `ws`. -/
def State.nextWire (s : State) (key : Nat) (ws : List Nat) : Option Nat :=
  let last := (s.links.rotation.find? (fun p => p.1 == key)).map (fun p => p.2)
  match last with
  | none => ws.head?
  | some l => (ws.find? (fun w => l < w)).or ws.head?

/-- A measurement begins. -/
def State.beginMeasure (s : State) (key w spare : Nat) : State :=
  { s with links := { s.links with measuring := s.links.measuring ++ [(key, w, spare)],
                                   rotation := (key, w) :: s.links.rotation.filter (fun p => p.1 != key) } }

/-- A group without a free spare stops recalibrating (R462). -/
def State.recalStop (s : State) (a i idx val : Nat) : State :=
  if s.flag a i then s else (s.setFlag a i true).raise 73 idx val

/-- The DQ group of a channel at a change instant: the new tap, limp that is due, dead wires onto spares, the next
measurement. -/
def State.changeDq (s : State) (c : Fin 32) : State :=
  let s := s.applyTaps c (100 * c)
  let s := if s.links.limpDue.contains c.val then s.enterLimp c else s
  let s := (List.range 4).foldl (fun s j =>
    if s.spareTemp c j && !s.links.measuring.any (fun m => m.1 == c.val && m.2.2 == j) then s.setSpare c j 0x7F false
    else s) s
  let dead := (List.range 72).filter (fun i => s.dqDead c i && !s.dqCovered c i
    && (!s.isLimp c || i / 36 == s.halfBase c / 36))
  let s := (((s.usableSpares c).filter (fun j => s.spareIdle c j)).zip dead).foldl
    (fun s (p : Nat × Nat) => s.setSpare c p.1 p.2 false) s
  let s := s.refreshWires c
  if s.flag aXR_GCTRL 0 = false ∨ s.links.measuring.any (fun m => m.1 == c.val) = true then s else
  match ((s.usableSpares c).filter (fun j => s.spareIdle c j)).getLast? with
  | none => s.recalStop (aXR_CH_STATUS c) 11 c 0
  | some j =>
    let lo := if s.isLimp c then s.halfBase c else 0
    let wires := (List.range' lo (if s.isLimp c then 36 else 72)).filter (fun i => !s.dqDead c i)
    let carrying := ((s.usableSpares c).filter (fun i => !s.spareIdle c i && !s.spareTemp c i)).map (72 + ·)
    let flagged := (s.chan c).flagged.filter (fun w => wires.contains w)
    match flagged.head?.or (s.nextWire c (wires ++ carrying)) with
    | none => s
    | some w =>
      let s := s.setChan c { s.chan c with flagged := (s.chan c).flagged.filter (fun x => x != w) }
      let signal := if w < 72 then w else s.spareWire c (w - 72)
      ((s.setSpare c j signal true).beginMeasure c w j).refreshWires c

/-- The command/address group of a channel at a change instant. -/
def State.changeCa (s : State) (c : Fin 32) : State :=
  let key := 32 + c.val
  let s := s.applyTaps key (100 * c)
  let s := [0, 1].foldl (fun s j =>
    if s.caSpareTemp c j && !s.links.measuring.any (fun m => m.1 == key && m.2.2 == j) then s.setCaSpare c j 0x1F false
    else s) s
  let dead := (List.range 22).filter (fun i => s.flag (aXR_CH_CADEAD c) i && !s.caCovered c i)
  let idle (s : State) := [0, 1].filter (fun j => !s.flag (aXR_CH_CADEAD c) (22 + j) && s.caSpareWire c j == 0x1F)
  let s := ((idle s).zip dead).foldl (fun s (p : Nat × Nat) => s.setCaSpare c p.1 p.2 false) s
  let s := s.refreshWires c
  if s.flag aXR_GCTRL 0 = false ∨ s.links.measuring.any (fun m => m.1 == key) = true then s else
  match (idle s).getLast? with
  | none => s.recalStop (aXR_CH_STATUS c) 11 c 1
  | some j =>
    let wires := (List.range' 76 22).filter (fun w => !s.wireDead c w)
    let carrying := ([0, 1].filter (fun i => s.caSpareWire c i != 0x1F && !s.caSpareTemp c i
      && !s.flag (aXR_CH_CADEAD c) (22 + i))).map (98 + ·)
    match s.nextWire key (wires ++ carrying) with
    | none => s
    | some w =>
      let signal := if w < 98 then w - 76 else s.caSpareWire c (w - 98)
      ((s.setCaSpare c j signal true).beginMeasure key w j).refreshWires c

/-- RECAL_CHANGE_INSTANT (R453, R460, R461): 20 ns after a halt opened, once in each window. -/
def execRecalChangeInstant (c : Fin 32) (s : State) : Host.Outcome State Fault Refusal :=
  let ch := s.chan c
  match s.halt.openAt with
  | none => .next s
  | some o =>
    if s.cyc < o + 40 ∨ ch.mode = .lost ∨ ch.selfRefresh = true ∨ s.replaying c = true
        ∨ s.links.changedAt.contains (c.val, o) = true ∨ s.flag aXR_GSTATUS 0 = false
        ∨ s.domStays (c.val / 2) = false then .next s
    else
      let n := (c.val, o) :: s.links.changedAt.filter (fun p => p.1 != c.val)
      let t := { s with links := { s.links with changedAt := n } }
      finish s ((t.changeDq c).changeCa c)

/-- Position `w` of an express group is dead. -/
def State.xgDead (s : State) (d l w : Nat) : Bool := s.flag (aXR_XG d l) (10 + w)

/-- Rate code of Table 11.7; 7 excludes the lane. -/
def expressLimit (a : Nat) : Nat :=
  if 16 ≤ a then 6 else if 8 ≤ a then 5 else if 4 ≤ a then 4 else if 2 ≤ a then 3 else if a = 1 then 2 else 7

/-- The fields of an express group after its dead wires, and E (R483, R484, R486, R277). -/
def State.refreshExpress (s : State) (d l : Nat) : State :=
  let live := ((List.range 17).filter (fun w => !s.xgDead d l w)).length
  let a := min 16 live
  let used := (List.range 16).any (fun w => s.xgDead d l w) && !s.xgDead d l 16
  let r := aXR_XG d l
  let s := ((s.setFld r 0 5 a).setFlag r 5 used).setFld r 7 3 (expressLimit a)
  let e := ((List.range 64).map (fun m => s.fld (aXR_XG d m) 0 5)).sum
  s.setFld aREG_EXPRESS (16 * d) 11 e

/-- Lane `l` runs above what its express groups allow (R485). -/
def State.laneNarrow (s : State) (l : Nat) : Bool :=
  let k := s.headOf l
  let h := s.head k
  h.up && h.lanes.contains (lane64 l) && [0, 1].any (fun (d : Nat) =>
    let lim := s.fld (aXR_XG d l) 7 3
    lim == 7 || decide (lim < h.rate.toNat))

/-- The first wire index of an express group. -/
def expressBase (d l : Nat) : Nat := 3200 + d * 1088 + l * 17

/-- EXPRESS_RECAL_TICK (R460 to R462): the measured wire of an express group returns with its tap and the next one is
measured. -/
def execExpressRecalTick (d : Fin 2) (l : Fin 64) (s : State) : Host.Outcome State Fault Refusal :=
  if s.flag aXR_GSTATUS 0 = false then .next s else
  let key := 64 + 64 * d.val + l.val
  let t := s.applyTaps key (expressBase d l)
  if t.flag aXR_GCTRL 0 = false ∨ t.links.measuring.any (fun m => m.1 == key) = true then .next t else
  if t.flag (aXR_XG d l) 5 = true ∨ t.xgDead d l 16 = true then finish s (t.recalStop (aXR_XG d l) 6 l d)
  else match t.nextWire key ((List.range 16).filter (fun w => !t.xgDead d l w)) with
    | some w => .next (t.beginMeasure key w 16)
    | none => .next t

/-- The measurement of a wire of a channel ends (R450, R451, R465, R473). -/
def State.sweepEnds (s : State) (c : Fin 32) (w : Nat) (p : BitVec 32) : State :=
  let dq := decide (w < 76)
  let key := if dq then c.val else 32 + c.val
  match s.links.measuring.find? (fun m => m.1 == key && m.2.1 == w) with
  | none => s
  | some m =>
    if s.links.pendingTaps.any (fun q => q.1 == key && q.2.1 == w) then s else
    match bestTap p (if dq then 8 else 16) dq with
    | some t => { s with links := { s.links with pendingTaps := s.links.pendingTaps ++ [(key, w, t)] } }
    | none =>
      let s := s.markDead c w
      let s := { s with links := { s.links with measuring := s.links.measuring.filter (fun x => x != m) } }
      if dq then
        let s := s.setSpare c m.2.2 (s.spareWire c m.2.2) false
        let s := if 72 ≤ w then s.setSpare c (w - 72) 0x7F false else s
        (s.raise 74 c w).refreshWires c
      else
        let s := s.setCaSpare c m.2.2 (s.caSpareWire c m.2.2) false
        let s := if 98 ≤ w then s.setCaSpare c (w - 98) 0x1F false else s
        (s.refreshWires c).channelFault c 0

/-- SWEEP_DONE (R450, R451, R465, R473, R483, R485): the sweep of a measured wire ends, and its tap waits for the change
instant; a wire without a wide enough run is dead. -/
def execSweepDone (wire : Nat) (passing : BitVec 32) (s : State) : Host.Outcome State Fault Refusal :=
  if h : wire < 3200 then
    finish s (s.sweepEnds ⟨wire / 100, by omega⟩ (wire % 100) passing)
  else if wire < 5376 then
    let d := (wire - 3200) / 1088
    let l := (wire - 3200) % 1088 / 17
    let w := (wire - 3200) % 17
    let key := 64 + 64 * d + l
    match s.links.measuring.find? (fun m => m.1 == key && m.2.1 == w) with
    | none => .next s
    | some m =>
      if s.links.pendingTaps.any (fun q => q.1 == key && q.2.1 == w) then .next s else
      match bestTap passing 8 true with
      | some t => .next { s with links := { s.links with pendingTaps := s.links.pendingTaps ++ [(key, w, t)] } }
      | none =>
        let t := (s.killTap wire).setFlag (aXR_XG d l) (10 + w) true
        let t := { t with links := { t.links with measuring := t.links.measuring.filter (fun x => x != m) } }
        let was := s.laneNarrow l
        let t := (t.refreshExpress d l)
        finish s (if t.laneNarrow l && !was then t.raise 36 l d else t)
  else .next s

/-! The clock spine (R487 to R493) -/

/-- Column `k` of a layer's clock spine is dead. -/
def State.clkDead (s : State) (n k : Nat) : Bool := s.flag (aXR_CLK n) (4 + k)

/-- MISSING_CLOCK (R489, R490, R492, R493, R438): the selected column is dead and the layer turns to the next live one;
a DRAM layer's channels fault, and a layer without a live column loses them. -/
def execMissingClock (n : Fin 17) (s : State) : Host.Outcome State Fault Refusal :=
  let r := aXR_CLK n
  if s.flag aXR_GSTATUS 0 = false ∨ s.flag r 8 = true ∨ (0 < n.val ∧ s.domStays (n.val - 1) = false) then .next s else
  let sel := s.fld r 0 2
  let t := s.setFlag r (4 + sel) true
  let chans : List (Fin 32) := if h : 0 < n.val then [⟨2 * (n.val - 1), by omega⟩, ⟨2 * (n.val - 1) + 1, by omega⟩] else []
  let live := chans.filter (fun c => (t.chan c).mode != .lost)
  match (rotate 4 sel).find? (fun k => !t.clkDead n k) with
  | some k =>
    let t := ((t.setFld r 0 2 k).bump r 16 16 1).raise 80 n k
    finish s (live.foldl (fun t c => t.channelFault c 2) t)
  | none =>
    let t := t.setFlag r 8 true
    if n.val = 0 then finish s (t.raise 82 0 0)
    else
      let t := t.raise 81 n 0
      let t := live.foldl (fun t c => t.channelFault c 2) t
      let t := live.foldl (fun t c => t.setChan c { t.chan c with mode := .lost }) t
      finish s (live.foldl (fun t c => t.loseChannel c) t)

/-- CLOCK_COLUMN_WATCH (R488): unselected columns that showed no edge are dead. -/
def execClockColumnWatch (n : Fin 17) (silent : BitVec 4) (s : State) : Host.Outcome State Fault Refusal :=
  if s.flag aXR_GSTATUS 0 = false then .next s else
  let sel := s.fld (aXR_CLK n) 0 2
  .next ((List.range 4).foldl (fun s k =>
    if silent.getLsbD k && k != sel then s.setFlag (aXR_CLK n) (4 + k) true else s) s)

end Sys2Proof.Machine
end

