-- ==== Sys2Proof/Machine/ScrubCmds.lean ====
section
/-! DEFINITION. The patrol scrubber and soft row repair (R424 to R434). -/

namespace Sys2Proof.Machine

/-- The pass is more than 1 % of HOURS behind its even spacing (R428). -/
def State.scrubBehind (s : State) : Bool := decide (s.scrubDue + s.passNs / 100 < s.now)

/-- The position moves to the next line; after the last one the next pass begins (R424, R428). -/
def State.scrubAdvance (s : State) : State :=
  let n := s.scrubLine + 1
  let s := if n < arrayLines then s.setReg aSCRUB_POS (BitVec.ofNat 64 (n * 64))
    else
      let s := (s.setReg aSCRUB_POS 0).bump aSCRUB_STATUS 16 16 1
      let s := s.setReg aSCRUB_PASS_RT s.nowW
      { s with integ := { s.integ with scrubStart := s.now, scrubFrom := 0 } }
  if s.scrubBehind then s else s.setFlag aSCRUB_STATUS 0 false

/-- The scrubber skips a line: its channel sleeps, is lost or is off, or its page is retired (R427, R519). -/
def State.scrubSkips (s : State) (line : Nat) : Bool :=
  let c := lineChannel line
  s.isLost c || s.pageRetired line || !s.domStays (c / 2) || !s.domStays (16 + c / 2)
    || (if h : c < 32 then (s.chan ⟨c, h⟩).selfRefresh else true)

/-- Address of the retirement map (R448). -/
abbrev retireMapAddr : Nat := 0x7F1000

/-- The check of an SRAM line by its two copies (R435). -/
def sramCheck (failsA failsB : Bool) : SramCheck :=
  if failsA && failsB then .bothCopies else if failsA || failsB then .oneCopy else .good

/-- SCRUB_READ (R264, R424 to R427): the scrubber's read of the line that is due goes to its channel, past the cache, once
the class admits it; a line that is skipped is counted. The operands say which copies of the retirement map's line fail
their check; without that map the scrubber does not go on (R436, log 38). -/
def execScrubRead (retiredA retiredB : Bool) (s : State) : Host.Outcome State Fault Refusal :=
  if s.scrubWaits = false then .next s else
  let line := s.scrubLine
  let retired := sramCheck retiredA retiredB
  let t := s.tableCheck retired retireMapAddr
  if retired = .bothCopies then finish s t
  else if t.scrubSkips line then finish s ((t.bump aSCRUB_SKIPPED 0 32 1).scrubAdvance)
  else if t.scrubReady = false then finish s t
  else match t.admission 16 with
    | .no => finish s t
    | a => finish s (((t.chargeLine 16 a).miss (t.classRead .scrub line 0)).scrubAdvance)

/-- SCRUB_LAG (R428). -/
def execScrubLag (s : State) : Host.Outcome State Fault Refusal :=
  if s.scrubBehind = true ∧ s.flag aSCRUB_STATUS 0 = false ∧ s.flag aXR_GSTATUS 0 = true then
    finish s ((s.setFlag aSCRUB_STATUS 0 true).raise 60 0 s.scrubLine)
  else .next s

/-- The line of a channel at a bank, row and column (Table 6.2). -/
def lineAt (c bank row col : Nat) : Nat :=
  (c ^^^ (row / 2 % 32)) + 32 * (bank / 4) + 512 * (bank % 4) + 2048 * col + 65536 * row

/-- One line of the row goes through the decoder to the spare (R432): stored as it decodes, corrected or poisoned (R412,
R419). -/
def State.repairLine (s : State) (c : Fin 32) (line : Nat) (errors : List (Nat × Byte)) : State :=
  match decode (s.erasures c) (withErrors (s.cells line) errors) with
  | .line v fixed => (if fixed.isEmpty then s else s.countCorrected c line fixed false).storeLine line v
  | .uncorrectable => (s.storeLine line poisonLine).uncorrectable c line 1 0xFF 0

/-- ROW_REPAIR_DONE (R432, R433): once the copy's reads and writes are admitted, the 32 lines stand in the spare row; the
repair map has the entry, and the row's classified lines may classify again (R416). It waits for halts. The operand gives
the errors of the lines by their columns. -/
def execRowRepairDone (s : State) (errors : List (Nat × List (Nat × Byte)) := []) : Host.Outcome State Fault Refusal :=
  match s.integ.repairing with
  | none => .next s
  | some r =>
    if s.windowOpen = true ∨ s.replaying r.chan = true ∨ r.moved < repairMoves then .next s else
    if h : r.chan < 32 then
      let line (col : Nat) : Nat := lineAt r.chan r.bank r.row col
      let errs (col : Nat) : List (Nat × Byte) := (errors.filter (fun p => p.1 == col)).flatMap (fun p => p.2)
      let t := (List.range 32).foldl (fun t col => t.repairLine ⟨r.chan, h⟩ (line col) (errs col)) s
      let old := t.integ.repairs.filter (fun q => !(q.1 == r.chan && q.2.1 == r.bank && q.2.2.2 == r.row))
      let lines := (List.range 32).map line
      let fix (e : CeEntry) : CeEntry := if lines.contains e.line then { e with hard := false, repaired := true } else e
      let i := { t.integ with repairs := old ++ [(r.chan, r.bank, r.spare, r.row)], repairing := none, ce := t.integ.ce.map fix }
      finish s (State.setReg { t with integ := i } aRPR_STATUS (packBits [(4, 1, r.spare)]))
    else .next s

end Sys2Proof.Machine
end

