-- ==== Sys2Proof/Machine/Capacity.lean ====
section
/-! DEFINITION. Dynamic capacity: adds and releases of extents, the zero-fill, and the commands that end a freeze
(R182 to R187, R204, R208, R477, R478, R629). -/

namespace Sys2Proof.Machine

/-! What every mailbox and FM API command shares -/

/-- The mailbox of a head can be reached (R176, R210). -/
def State.mailOpen (s : State) (k : Fin 16) : Bool := s.present k && (s.head k).up

/-- A command that needs DRAM or the program store can be served: start-up has reached step 6 and no shutdown is complete
(R516, R618). -/
def State.storeReady (s : State) : Bool := decide (6 ≤ s.fld aSU_STATUS 0 4) && decide (s.fld aTH_STATUS 4 2 < 2)

/-- A present head named by a command (R176). -/
def State.headArg (s : State) (x : BitVec 8) : Option (Fin 16) :=
  if h : x.toNat < 16 then (if s.present x.toNat then some ⟨x.toNat, h⟩ else none) else none

/-- One mailbox command of a head: nothing where the mailbox cannot be reached. -/
def State.mailbox (s : State) (k : Fin 16) (body : State → State) : Host.Outcome State Fault Refusal :=
  if s.mailOpen k then finish s (body s) else .next s

/-- One FM API command: nothing where the path cannot carry it. -/
def State.fmCommand (s : State) (p : Path) (body : State → State) : Host.Outcome State Fault Refusal :=
  if s.fmOpen p then finish s (body s) else .next s

/-! Extents -/

/-- The size of a block (R182). -/
abbrev blockSize : Nat := 2 ^ 28

/-- The end of DC region 0, where block 255 begins (R182, R183). -/
abbrev regionEnd : Nat := 0xFF0000000

/-- The blocks of an extent that meets R183. -/
def extentBlocks (dpa len : Nat) : Option (List Nat) :=
  if dpa % blockSize = 0 ∧ len % blockSize = 0 ∧ 0 < len ∧ dpa + len ≤ regionEnd then
    some (List.range' (dpa / blockSize) (len / blockSize))
  else none

/-- A head's blocks. -/
def State.blocksOf (s : State) (k : Nat) : List Nat :=
  (List.range 255).filter (fun b => s.grants.any (fun g => g.head == k && g.block == b))

/-- A block in a stand-in (R478). -/
def State.standinBlock (s : State) (b : Nat) : Bool := (s.siBlocks 0).contains b || (s.siBlocks 1).contains b

/-- An add of a block to a head breaks R184 or R478. -/
def State.addBreaks (s : State) (k : Nat) (tag b : Nat) : Bool :=
  s.standinBlock b
    || s.grants.any (fun g => g.block == b && (g.head == k || tag == 0 || g.tag != tag))

/-- A released block is being filled (R186). -/
def State.isFilling (s : State) (b : Nat) : Bool := s.filling.any (fun f => f.block == b)

/-- Status of an add of an extent (R183, R184, R186, R478): Invalid Input before Busy (log 28). -/
def State.addStatus (s : State) (k : Nat) (dpa len tag : Nat) : String × List Nat :=
  match extentBlocks dpa len with
  | none => ("Invalid Input", [])
  | some bs =>
    if bs.any (s.addBreaks k tag) then ("Invalid Input", [])
    else if bs.any s.isFilling then ("Busy", [])
    else ("Success", bs)

/-- Blocks granted to a head. -/
def State.grantBlocks (s : State) (k tag : Nat) (bs : List Nat) : State :=
  { s with grants := s.grants ++ bs.map (fun (b : Nat) => { head := k, block := b, tag := tag : Grant }) }

/-- A block leaves a head; one that no head holds then goes to a stand-in that collects blocks, or is filled with zero
data (R186, R477). -/
def State.releaseBlock (s : State) (k b : Nat) : State :=
  let s := { s with grants := s.grants.filter (fun g => !(g.head == k && g.block == b)) }
  if s.grants.any (fun g => g.block == b) then s else
  match s.siTake b with
  | some t => t
  | none => { s with filling := s.filling ++ [{ block := b, sent := 0, done := 0 }] }

/-- A Dynamic Capacity record of a head's extent, to the head and the fabric manager (R217, R219; event types of CXL 3.1,
log 28): 0 an add, 1 a release, 2 a forced release. -/
def State.dcRecord (s : State) (k : Fin 16) (event dpa len tag : Nat) : State :=
  s.toHeadAndFm k .dynamicCapacity
    { rtype := 0x104, time := s.now, bytes := Config.standardReply 0x104 [event, k.val, dpa, len, tag, s.now], overflow := false }

/-- A release of an extent of a head: every block must be the head's (log 28). -/
def State.release (s : State) (k : Fin 16) (event dpa len : Nat) : State × String :=
  match extentBlocks dpa len with
  | none => (s, "Invalid Input")
  | some bs =>
    if bs.all (fun b => s.grants.any (fun g => g.head == k.val && g.block == b)) then
      ((bs.foldl (fun s b => s.releaseBlock k b) s).dcRecord k event dpa len 0, "Success")
    else (s, "Invalid Input")

/-- Payload of an extent list: the blocks of a head with their tags, in a layout of CXL 3.1 (log 7). -/
def State.extentReply (s : State) (code k : Nat) : List Byte :=
  Config.standardReply code ((s.grants.filter (fun g => g.head == k)).flatMap (fun g => [g.block, g.tag]))

/-- Payload that describes DC region 0 (R182, log 7): its base, its length, its block size. -/
def regionReply (code : Nat) : List Byte := Config.standardReply code [0, regionEnd, blockSize]

/-- GET_DYNAMIC_CAPACITY_CONFIGURATION (R182). -/
def execGetDynamicCapacityConfiguration (k : Fin 16) (s : State) : Host.Outcome State Fault Refusal :=
  s.mailbox k (fun s => s.reply (.head k) "Success" (regionReply 0x4800))

/-- GET_DYNAMIC_CAPACITY_EXTENT_LIST (R210, Table 5.7). -/
def execGetDynamicCapacityExtentList (k : Fin 16) (s : State) : Host.Outcome State Fault Refusal :=
  s.mailbox k (fun s => s.reply (.head k) "Success" (s.extentReply 0x4801 k))

/-- ADD_DYNAMIC_CAPACITY_RESPONSE (R210): an add takes effect at once, so the response changes nothing (log 28). -/
def execAddDynamicCapacityResponse (k : Fin 16) (_dpa _len : Nat) (s : State) : Host.Outcome State Fault Refusal :=
  s.mailbox k (fun s => s.reply (.head k) "Success" [])

/-- RELEASE_DYNAMIC_CAPACITY (R186). -/
def execReleaseDynamicCapacity (k : Fin 16) (dpa len : Nat) (s : State) : Host.Outcome State Fault Refusal :=
  s.mailbox k (fun s =>
    if s.storeReady = false then s.reply (.head k) "Busy" [] else
    let p := s.release k 1 dpa len
    p.1.reply (.head k) p.2 [])

/-- GET_DCD_INFO (R182, R208). -/
def execGetDcdInfo (p : Path) (s : State) : Host.Outcome State Fault Refusal :=
  s.fmCommand p (fun s => s.reply p "Success" (regionReply 0x5600))

/-- GET_HOST_DC_REGION_CONFIGURATION (R176, R182, R208). -/
def execGetHostDcRegionConfiguration (p : Path) (head : BitVec 8) (s : State) : Host.Outcome State Fault Refusal :=
  s.fmCommand p (fun s =>
    match s.headArg head with
    | some _ => s.reply p "Success" (regionReply 0x5601)
    | none => s.reply p "Invalid Input" [])

/-- SET_DC_REGION_CONFIGURATION (R208): only a block size of 256 MiB is accepted. -/
def execSetDcRegionConfiguration (p : Path) (head : BitVec 8) (size : Nat) (s : State) :
    Host.Outcome State Fault Refusal :=
  s.fmCommand p (fun s =>
    match s.headArg head with
    | some _ => s.reply p (if size = blockSize then "Success" else "Invalid Input") []
    | none => s.reply p "Invalid Input" [])

/-- GET_DC_REGION_EXTENT_LISTS (R176, R208). -/
def execGetDcRegionExtentLists (p : Path) (head : BitVec 8) (s : State) : Host.Outcome State Fault Refusal :=
  s.fmCommand p (fun s =>
    match s.headArg head with
    | some k => s.reply p "Success" (s.extentReply 0x5603 k)
    | none => s.reply p "Invalid Input" [])

/-- INITIATE_DYNAMIC_CAPACITY_ADD (R183, R184, R186, R478, R629). -/
def execInitiateDynamicCapacityAdd (p : Path) (head : BitVec 8) (dpa len tag : Nat) (s : State) :
    Host.Outcome State Fault Refusal :=
  s.fmCommand p (fun s =>
    if s.flag aSU_CTRL 0 = false ∨ s.storeReady = false then s.reply p "Busy" [] else
    match s.headArg head with
    | none => s.reply p "Invalid Input" []
    | some k =>
      let r := s.addStatus k dpa len tag
      let t := if r.2.isEmpty then s else (s.grantBlocks k tag r.2).dcRecord k 0 dpa len tag
      t.reply p r.1 [])

/-- INITIATE_DYNAMIC_CAPACITY_RELEASE (R186): the forced release. -/
def execInitiateDynamicCapacityRelease (p : Path) (head : BitVec 8) (dpa len : Nat) (s : State) :
    Host.Outcome State Fault Refusal :=
  s.fmCommand p (fun s =>
    if s.storeReady = false then s.reply p "Busy" [] else
    match s.headArg head with
    | none => s.reply p "Invalid Input" []
    | some k =>
      let r := s.release k 2 dpa len
      r.1.reply p r.2 [])

/-! The zero-fill (R186) -/

/-- A line put at its place; a line without a home takes nothing. -/
def State.putAt (s : State) (line : Nat) (v : LineVal) : State :=
  match s.place line with
  | some p => s.storeLine p.2 v
  | none => s

/-- ZERO_FILL_DONE (R186, R264): once all its lines are accepted, every line of the block reads as zero, whatever the cache
and the journal held of it, and adds of the block are accepted again. The lines of one channel in a block live in one slot,
so 32 lines name them all. -/
def execZeroFillDone (block : Nat) (s : State) : Host.Outcome State Fault Refusal :=
  if s.filling.any (fun f => f.block == block && f.done == blockLines) then
    let t := s.dropLines (fun line => line / 2 ^ 22 == block)
    let t := t.fillSlots ((List.range 32).filterMap (fun k =>
      (t.place (block * 2 ^ 22 + k)).map (fun p => (p.1, p.2 / 2 ^ 22)))) false
    .next { t with filling := t.filling.filter (fun f => f.block != block) }
  else .next s

/-! Thaw (R204) -/

/-- Requests of a head that pass admission in the cycle they reach it, one after the other. -/
def State.passQuick (s : State) (k : Fin 16) : Nat → State
  | 0 => s
  | n + 1 =>
    match s.pickQuick k with
    | some r => State.passQuick ((s.dropPort r).passNow k r) k n
    | none => s

/-- The freeze of a head ends: its held requests proceed, those that pass in the cycle they reach admission at once. -/
def State.unfreeze (s : State) (k : Fin 16) : State :=
  (s.setHead k { s.head k with mode := .normal }).passQuick k s.mem.ports.length

/-- THAW_HEAD: FM API command 0xC102 (R204, Table 5.9). -/
def execThawHead (p : Path) (head : BitVec 8) (s : State) : Host.Outcome State Fault Refusal :=
  s.fmCommand p (fun s =>
    match s.headArg head with
    | none => s.reply p "Invalid Input" []
    | some k =>
      match (s.head k).mode with
      | .normal => s.reply p "Success" []
      | _ =>
        let t := s.unfreeze k
        (t.toHeadAndFm k .informational (t.record 6 0xFFFF [(12, 1, k)])).reply p "Success" [])

end Sys2Proof.Machine
end

