-- ==== Sys2Proof/Machine/Mailbox.lean ====
section
/-! DEFINITION. The mailbox and FM API commands that report and those of events and media, the vendor DVSEC, CDAT, the
addresses of the management paths (R176, R182, R206, R208, R210, R214 to R219, R423, Tables 5.7 to 5.10). -/

namespace Sys2Proof.Machine

/-! Events (R210, R219) -/

/-- The UUID of the vendor records (R218). -/
def vendorUuid : List Byte :=
  [0xE2, 0xC4, 0xA7, 0xD0, 0x31, 0xB6, 0x4F, 0x0E, 0x9A, 0x58, 0x07, 0xD3, 0xC6, 0x1B, 0x5F, 0x24]

/-- A record as Get Event Records returns it. A vendor record has the 48-byte common header of CXL 3.1 with its UUID and the
Timestamp (PRESUMED places: bytes 0 and 24; the bytes between and after are the standard's, log 7) and its 80 bytes of data
(R217, R218); a record whose layout CXL 3.1 gives is that layout. -/
def Record.whole (r : Record) : List Byte :=
  if 0x100 ≤ r.rtype then r.bytes
  else vendorUuid ++ (List.range 8).map (fun i => Config.headerByte r.rtype (16 + i)) ++ toBytes 8 r.time
    ++ (List.range 16).map (fun i => Config.headerByte r.rtype (32 + i)) ++ r.bytes

/-- A log as Get Event Records returns it: the standard's header with the overflow flag, then at most `count` records,
oldest first. -/
def logReply (l : Log) (count : Nat) : List Byte :=
  Config.standardReply 0x0100 [bit l.overflow, (l.records.take count).length, l.records.length]
    ++ (l.records.take count).flatMap Record.whole

/-- The oldest `count` records removed; a log with room again is no longer in overflow (log 29). -/
def Log.clear (l : Log) (count : Nat) : Log :=
  let rs := l.records.drop count
  { records := rs, overflow := l.overflow && decide (64 ≤ rs.length) }

/-- GET_EVENT_RECORDS (R219). -/
def execGetEventRecords (k : Fin 16) (log : EventLog) (count : Nat) (s : State) : Host.Outcome State Fault Refusal :=
  s.mailbox k (fun s => s.reply (.head k) "Success" (logReply ((s.head k).logs.get log) count))

/-- CLEAR_EVENT_RECORDS (R210). -/
def execClearEventRecords (k : Fin 16) (log : EventLog) (count : Nat) (s : State) : Host.Outcome State Fault Refusal :=
  s.mailbox k (fun s =>
    let l := (s.head k).logs
    (s.setHead k { s.head k with logs := l.set log ((l.get log).clear count) }).reply (.head k) "Success" [])

/-- GET_EVENT_INTERRUPT_POLICY (R210). -/
def execGetEventInterruptPolicy (k : Fin 16) (s : State) : Host.Outcome State Fault Refusal :=
  s.mailbox k (fun s => s.reply (.head k) "Success" (toBytes 4 (s.head k).policy.toNat))

/-- SET_EVENT_INTERRUPT_POLICY (R210); the policy returns to 0 at link-up (R200). -/
def execSetEventInterruptPolicy (k : Fin 16) (policy : BitVec 32) (s : State) : Host.Outcome State Fault Refusal :=
  s.mailbox k (fun s => (s.setHead k { s.head k with policy := policy }).reply (.head k) "Success" [])

/-- FM_EVENTS (R208, R219): the fabric manager's own log. -/
def execFmEvents (p : Path) (log : EventLog) (clear : Bool) (count : Nat) (s : State) :
    Host.Outcome State Fault Refusal :=
  s.fmCommand p (fun s =>
    let l := s.mgmt.fmLogs
    if clear then
      State.reply { s with mgmt := { s.mgmt with fmLogs := l.set log ((l.get log).clear count) } } p "Success" []
    else s.reply p "Success" (logReply (l.get log) count))

/-! Timestamp, logs, identify (R182, R210, Table 5.7) -/

/-- GET_TIMESTAMP (R210). -/
def execGetTimestamp (k : Fin 16) (s : State) : Host.Outcome State Fault Refusal :=
  s.mailbox k (fun s => s.reply (.head k) "Success" (toBytes 8 s.now))

/-- SET_TIMESTAMP, and every opcode that Table 5.7 does not list (R210). -/
def execSetTimestamp (k : Fin 16) (_value : Word) (s : State) (_other : Option (BitVec 16) := none) :
    Host.Outcome State Fault Refusal :=
  s.mailbox k (fun s => s.reply (.head k) "Unsupported" [])

/-- GET_SUPPORTED_LOGS (R210): the Command Effects Log alone. -/
def execGetSupportedLogs (k : Fin 16) (s : State) : Host.Outcome State Fault Refusal :=
  s.mailbox k (fun s => s.reply (.head k) "Success" (Config.standardReply 0x0400 []))

/-- GET_LOG (R210): the Command Effects Log; the answer to another log's identifier is that of CXL 3.1 (log 28). -/
def execGetLog (k : Fin 16) (s : State) (commandEffects : Bool := true) : Host.Outcome State Fault Refusal :=
  s.mailbox k (fun s =>
    if commandEffects then s.reply (.head k) "Success" (Config.standardReply 0x0401 [])
    else s.reply (.head k) "Invalid Log" [])

/-- IDENTIFY_MEMORY_DEVICE (R182): no static capacity of either kind; total capacity 0 in each. -/
def execIdentifyMemoryDevice (k : Fin 16) (s : State) : Host.Outcome State Fault Refusal :=
  s.mailbox k (fun s => s.reply (.head k) "Success" (Config.standardReply 0x4000 [0, 0, 0]))

/-- The hottest governing temperature of a layer in quarter degrees (Table 5.7). -/
def State.hottest (s : State) : Nat := (List.range 18).foldl (fun m n => max m (s.fld (aTH_LAYER n) 0 10)) 0

/-- GET_HEALTH_INFO (R210). -/
def execGetHealthInfo (k : Fin 16) (s : State) : Host.Outcome State Fault Refusal :=
  s.mailbox k (fun s => s.reply (.head k) "Success" (Config.standardReply 0x4200 [s.hottest]))

/-! Media (R423) -/

/-- Entries that Get Poison List returns: DPA, source, RT. -/
def State.poisonList (s : State) (k : Fin 16) : List Nat :=
  ((s.integ.ue ++ s.integ.spill).filter (fun e => s.granted k e.line && !e.cleared)).flatMap
    (fun e => [e.line * 64, e.source, e.rt])

/-- GET_POISON_LIST (R423). -/
def execGetPoisonList (k : Fin 16) (s : State) : Host.Outcome State Fault Refusal :=
  s.mailbox k (fun s =>
    if s.storeReady = false then s.reply (.head k) "Busy" []
    else s.reply (.head k) "Success" (Config.standardReply 0x4300 (s.poisonList k)))

/-- A whole line written by a media command: the cached copy, or the journal. -/
def State.mediaWrite (s : State) (line : Nat) (v : LineVal) : State :=
  match s.lookup line with
  | some _ => s.cacheWrite line v (BitVec.allOnes 64)
  | none => s.journalPush line v (BitVec.allOnes 64) none s.stamp

/-- What Inject Poison and Clear Poison share: the management head only, a line within its extents, room for the write
(Table 5.7, R618). -/
def State.mediaCommand (s : State) (k : Fin 16) (dpa : Nat) (act : State → State) : State :=
  if s.mgmtHead ≠ k.val then s.reply (.head k) "Unsupported" []
  else if s.storeReady = false then s.reply (.head k) "Busy" []
  else if dpa % 64 ≠ 0 ∨ s.granted k (dpa / 64) = false then s.reply (.head k) "Invalid Input" []
  else if s.journalRoom = false ∨ s.lineBusy (dpa / 64) = true ∨ s.sliceWaits (dpa / 64) = true then s.reply (.head k) "Busy" []
  else (act s).reply (.head k) "Success" []

/-- INJECT_POISON (R423): the line is stored as poisoned, with an entry of source 7. -/
def execInjectPoison (k : Fin 16) (dpa : Nat) (s : State) : Host.Outcome State Fault Refusal :=
  s.mailbox k (fun s => s.mediaCommand k dpa (fun s =>
    let t := s.mediaWrite (dpa / 64) { (s.lineNow (dpa / 64)) with poison := true }
    t.ueAdd { line := dpa / 64, rt := t.now, source := 7, master := BitVec.ofNat 8 k.val, poisonWritten := true,
              reported := false, cleared := false, stamp := 0 }))

/-- CLEAR_POISON (R423): the line is written with the data given, and its entries are CLEARED. -/
def execClearPoison (k : Fin 16) (dpa : Nat) (data : Line) (s : State) : Host.Outcome State Fault Refusal :=
  s.mailbox k (fun s => s.mediaCommand k dpa (fun s =>
    (s.mediaWrite (dpa / 64) { data := data, poison := false }).ueClear (dpa / 64)))

/-! Vendor commands (Tables 5.8 and 5.9) -/

/-- The pending halt change: the value written and the RT of the strobe armed for group 1 (R215). -/
def State.pendHalt (s : State) : Option (Word × Nat) :=
  match s.pendValue aHALT_CTRL with
  | none => none
  | some v =>
    let rts := ((List.range 64).filter (fun n => s.tcArmed n && s.tcTarget n == 3 && s.tcIndex n == 1)).map
      (fun n => (s.reg (aTC_VALUE n)).toNat)
    match rts with
    | [] => none
    | r :: rs => some (v, rs.foldl min r)

/-- Reply of 0xC000, 24 bytes. -/
def State.haltTimetable (s : State) : List Byte :=
  let (valid, ph, dbl, rt) : Bool × Nat × Bool × Nat := match s.pendHalt with
    | some (v, rt) => (true, getBits v 0 12, v.getLsbD 12, rt)
    | none => (false, 0, false, 0)
  toBytes 2 s.halt.phase
    ++ toBytes 2 (bit s.halt.inDouble + 2 * bit s.halt.program + 4 * bit valid + 8 * bit dbl)
    ++ toBytes 2 ph ++ toBytes 2 s.halt.gen.toNat ++ toBytes 8 s.nextHaltRt ++ toBytes 8 rt

/-- GET_HALT_TIMETABLE: 0xC000 (R259). -/
def execGetHaltTimetable (k : Fin 16) (s : State) : Host.Outcome State Fault Refusal :=
  s.mailbox k (fun s => s.reply (.head k) "Success" s.haltTimetable)

/-- Reply of 0xC001, 24 bytes. -/
def State.timeState (s : State) : List Byte :=
  let u := s.tu
  toBytes 1 (trustCode u.trust) ++ toBytes 1 (sourceCode u.source) ++ toBytes 2 (s.fld aTU_DOMAIN 16 16)
    ++ toBytes 4 s.boundNow ++ toBytes 8 s.now ++ toBytes 4 (signedBits 32 (satErr u.lastErr))
    ++ toBytes 4 (bit u.disciplined + 2 * bit u.stepHold + 4 * bit u.stepHold)

/-- GET_TIME_STATE: 0xC001 (R63). ACK_PENDING follows TU_ACK. -/
def execGetTimeState (k : Fin 16) (s : State) : Host.Outcome State Fault Refusal :=
  s.mailbox k (fun s => s.reply (.head k) "Success" s.timeState)

/-- Reply of 0xC002, 16 bytes. -/
def State.headState (s : State) (k : Fin 16) : List Byte :=
  toBytes 4 (s.hdStatus k).toNat ++ toBytes 4 (s.peek (aHD_EXT_COUNT k)).toNat ++ toBytes 4 (s.freezeLeft k)
    ++ toBytes 2 (s.minBw k) ++ toBytes 2 s.regul.scale

/-- GET_HEAD_STATE: 0xC002 (R176, Table 5.8). -/
def execGetHeadState (k : Fin 16) (head : BitVec 8) (s : State) : Host.Outcome State Fault Refusal :=
  s.mailbox k (fun s =>
    match s.headArg head with
    | some j => s.reply (.head k) "Success" (s.headState j)
    | none => s.reply (.head k) "Invalid Input" [])

/-- FM_GET_HEAD_STATE: 0xC103 (R176, Table 5.9). -/
def execFmGetHeadState (p : Path) (head : BitVec 8) (s : State) : Host.Outcome State Fault Refusal :=
  s.fmCommand p (fun s =>
    match s.headArg head with
    | some j => s.reply p "Success" (s.headState j)
    | none => s.reply p "Invalid Input" [])

/-- Reply of 0xC003, 8 bytes. -/
def State.floorReply (s : State) : List Byte :=
  toBytes 2 s.regul.floor ++ toBytes 2 s.committed ++ toBytes 2 s.regul.scale ++ toBytes 1 s.floorCauses
    ++ toBytes 1 s.limpCount

/-- GET_FLOOR: 0xC003 (R279). -/
def execGetFloor (k : Fin 16) (s : State) : Host.Outcome State Fault Refusal :=
  s.mailbox k (fun s => s.reply (.head k) "Success" s.floorReply)

/-- Reply of 0xC004, 1,797 bytes (R560). -/
def State.identityReply (s : State) : List Byte :=
  let st := s.fld aID_STATUS 0 2
  let key : List Byte := if st = 1 then s.identityKey.take 1793 else []
  toBytes 1 st ++ toBytes 2 (s.fld aID_STATUS 2 2) ++ [0] ++ key ++ List.replicate (1793 - key.length) 0

/-- GET_IDENTITY_KEY: 0xC004, answered on every head (R560). -/
def execGetIdentityKey (k : Fin 16) (s : State) : Host.Outcome State Fault Refusal :=
  s.mailbox k (fun s => s.reply (.head k) "Success" s.identityReply)

/-- FM_GET_IDENTITY_KEY: 0xC104 (R560). -/
def execFmGetIdentityKey (p : Path) (s : State) : Host.Outcome State Fault Refusal :=
  s.fmCommand p (fun s => s.reply p "Success" s.identityReply)

/-! FM API information (R208) -/

/-- FM_INFORMATION_AND_STATUS (R208, log 7). -/
def execFmInformationAndStatus (p : Path) (s : State) : Host.Outcome State Fault Refusal :=
  s.fmCommand p (fun s => s.reply p "Success" (Config.standardReply 0x0001 [Config.vendorId.toNat, s.identityTrim.1]))

/-- GET_MULTI_HEADED_INFO (R176, R208): the layout and the number of heads. -/
def execGetMultiHeadedInfo (p : Path) (s : State) : Host.Outcome State Fault Refusal :=
  s.fmCommand p (fun s => s.reply p "Success" (Config.standardReply 0x5500 [s.layout, headCount s.layout]))

/-- GET_HEAD_INFO (R176, R208). -/
def execGetHeadInfo (p : Path) (head : BitVec 8) (s : State) : Host.Outcome State Fault Refusal :=
  s.fmCommand p (fun s =>
    match s.headArg head with
    | some k => s.reply p "Success" (Config.standardReply 0x5501 [k, (s.hdStatus k).toNat])
    | none => s.reply p "Invalid Input" [])

/-! The vendor DVSEC (R214, R215, Table 5.10) -/

/-- A 64-bit field of the DVSEC. -/
def State.dvsecWide (s : State) (off : Nat) : Nat :=
  if off = 0x20 then s.nextHaltRt else match s.pendHalt with
    | some (_, rt) => rt
    | none => 0

/-- A 32-bit word of the DVSEC of a head; the high words of 64-bit fields as they stand now. -/
def State.dvsecWord (s : State) (k : Fin 16) (off : Nat) : Nat :=
  match off with
  | 0x00 => 0x00010023
  | 0x04 => Config.vendorId.toNat + 0x40 * 2 ^ 20
  | 0x08 => 0x0001
  | 0x0C => s.identityTrim.1 + s.identityTrim.2 * 2 ^ 8 + k.val * 2 ^ 10 + s.layout * 2 ^ 14 + s.fld aOUT_DEVINDEX 0 12 * 2 ^ 16
      + bit (s.flag aOUT_DEVINDEX 12) * 2 ^ 28
  | 0x10 => trustCode s.tu.trust + sourceCode s.tu.source * 4 + s.fld aTU_DOMAIN 16 16 * 2 ^ 16
  | 0x14 => s.boundNow
  | 0x18 => s.halt.phase + bit s.halt.inDouble * 2 ^ 12 + bit s.halt.program * 2 ^ 13 + s.halt.gen.toNat * 2 ^ 16
  | 0x1C => match s.pendHalt with
    | some (v, _) => getBits v 0 12 + bit (v.getLsbD 12) * 2 ^ 12 + 2 ^ 13
    | none => 0
  | 0x20 => s.dvsecWide 0x20 % 2 ^ 32
  | 0x24 => s.dvsecWide 0x20 / 2 ^ 32
  | 0x28 => s.dvsecWide 0x28 % 2 ^ 32
  | 0x2C => s.dvsecWide 0x28 / 2 ^ 32
  | 0x30 => s.regul.floor + s.committed * 2 ^ 16
  | 0x34 => s.minBw k + s.regul.scale * 2 ^ 16
  | 0x38 => (s.head k).cap
  | 0x3C => modeCode (s.head k).mode
  | _ => 0

/-- A read of a DVSEC word (R214): the low word of a 64-bit field latches the high word for the next read, which takes
it. -/
def State.dvsecRead (s : State) (k : Fin 16) (off : Nat) : State × Nat :=
  if off = 0x20 ∨ off = 0x28 then
    (s.setHead k { s.head k with dvsecLatch := some (BitVec.ofNat 32 (s.dvsecWide off / 2 ^ 32)) }, s.dvsecWord k off)
  else if off = 0x24 ∨ off = 0x2C then
    match (s.head k).dvsecLatch with
    | some v => (s.setHead k { s.head k with dvsecLatch := none }, v.toNat)
    | none => (s, s.dvsecWord k off)
  else (s, s.dvsecWord k off)

/-- A configuration register outside the DVSEC: the Vendor ID is fixed (R214); BAR2, registers 0x18 and 0x1C of the PCI
header, is a 1 MiB, 64-bit, non-prefetchable memory BAR whose address reads 0 at link-up (R200, R209); every other register
reads as last written since link-up (R200, log 7). -/
def Head.cfgWord (h : Head) (off : Nat) : BitVec 32 :=
  let stored (reset : BitVec 32) : BitVec 32 := match h.cfg.find? (fun p => p.1 == off) with
    | some p => p.2
    | none => reset
  match off with
  | 0x00 => (Config.configReset 0 &&& 0xFFFF0000) ||| Config.vendorId.setWidth 32
  | 0x18 => (stored 0 &&& 0xFFF00000) ||| 4
  | 0x1C => stored 0
  | _ => stored (Config.configReset off)

/-- An HDM decoder programmed (R200, log 37): its base, size and DPA are whole blocks of 256 MiB; a size of 0 takes the
decoder out of use. -/
def Head.setHdm (h : Head) (d : Hdm) : List Hdm :=
  let rest := h.hdm.filter (fun e => e.index != d.index)
  if d.size = 0 then rest else rest.filter (fun e => e.index < d.index) ++ [d] ++ rest.filter (fun e => d.index < e.index)

/-- CXL_IO_CONFIG_ACCESS (R176, R200, R209, R214): an absent head has no configuration space; the DVSEC ignores writes. -/
def execCxlIoConfigAccess (k : Fin 16) (access : CfgAccess) (s : State) : Host.Outcome State Fault Refusal :=
  s.mailbox k (fun s =>
    match access with
    | .dvsecRead off =>
      let r := s.dvsecRead k (off.toNat / 4 * 4)
      r.1.emit (.regValue (.head k) (BitVec.ofNat 64 r.2))
    | .dvsecWrite _ _ => s
    | .otherRead off => s.emit (.regValue (.head k) (((s.head k).cfgWord (off.toNat / 4 * 4)).setWidth 64))
    | .otherWrite off v =>
      let a := off.toNat / 4 * 4
      s.setHead k { s.head k with cfg := (a, v) :: (s.head k).cfg.filter (fun p => p.1 != a) }
    | .hdmDecoder index base size dpa =>
      let blocks (x : BitVec 64) : Nat := x.toNat / blockSize * blockSize
      s.setHead k { s.head k with
        hdm := (s.head k).setHdm { index := index, base := blocks base, size := blocks size, dpa := blocks dpa } })

/-- CDAT_TABLE_ACCESS (R216): DSMAS, DSEMTS, and a DSLBIS for each latency and bandwidth. -/
def execCdatTableAccess (k : Fin 16) (s : State) : Host.Outcome State Fault Refusal :=
  s.mailbox k (fun s =>
    let cap := (s.head k).cap
    s.emit (.cdat k (Config.standardReply 0xCDA7
      [(s.head k).cdatSeq, 0, regionEnd, 1, 0, 0, 538, 110, 45, cap, cap])))

/-! Addresses (R206) -/

/-- I3C_ENTDAA (R206): the device takes the dynamic address it is given. -/
def execI3cEntdaa (addr : BitVec 7) (s : State) : Host.Outcome State Fault Refusal :=
  .next { s with mgmt := { s.mgmt with i3cAddr := some addr } }

/-- SET_ENDPOINT_ID (R206): the MCTP endpoint of a path takes its ID. -/
def execSetEndpointId (p : Path) (eid : Byte) (s : State) : Host.Outcome State Fault Refusal :=
  s.fmCommand p (fun s =>
    match p with
    | .i3c => { s with mgmt := { s.mgmt with eidI3c := some eid } }
    | .vdm => { s with mgmt := { s.mgmt with eidVdm := some eid } }
    | _ => s)

end Sys2Proof.Machine
end

