-- ==== Sys2Proof/Machine/Image.lean ====
section
/-! DEFINITION. Images: transfer, the checks of Table 13.7, activation, load and release (R211, R212, R299, R354, R355,
R553 to R556, R618, R620, R621). -/

namespace Sys2Proof.Machine

/-- The staging area and the image copy hold 5 MiB each. -/
abbrev stageMax : Nat := 0x500000

/-- Bytes of a line. -/
def lineBytes (v : LineVal) : List Byte := (List.range 64).map (fun i => v.data.extractLsb' (8 * i) 8)

/-- A line written where it lives, with no older copy of it left. -/
def State.overwrite (s : State) (line : Nat) (v : LineVal) : State := (s.dropLines (fun l => l == line)).putAt line v

/-- Bytes `off` to `off + n - 1` of the staging area. -/
def State.stagedBytes (s : State) (off n : Nat) : List Byte :=
  (((List.range' (off / 64) ((off % 64 + n + 63) / 64)).flatMap (fun i => lineBytes (s.lineNow (stageLine + i)))).drop
    (off % 64)).take n

/-- Bytes written to the staging area from `off` on, line by line. -/
def State.stageWrite (s : State) (off : Nat) (data : List Byte) : State :=
  let first := off / 64
  let old := s.stagedBytes (64 * first) (off % 64)
  let n := off % 64 + data.length
  let tail := s.stagedBytes (64 * first + n) ((64 - n % 64) % 64)
  let all := old ++ data ++ tail
  (List.range ((n + 63) / 64)).foldl (fun s i =>
    s.overwrite (stageLine + first + i) { data := Line.ofBytes ((all.drop (64 * i)).take 64), poison := false }) s

/-- A little-endian field of the staged image's header (Table 13.6). -/
def State.imgField (s : State) (off n : Nat) : Nat := fromBytes (s.stagedBytes off n)

/-- Fields of the header by name. -/
def State.imgLen (s : State) : Nat := s.imgField 8 4
def State.imgCode (s : State) : Nat := s.imgField 12 4
def State.imgData (s : State) : Nat := s.imgField 16 4
def State.imgEntry (s : State) (t : Nat) : Nat := s.imgField (28 + 4 * t) 4
def State.imgSvn (s : State) : Nat := s.imgField 60 2
def State.imgPk (s : State) : Nat := s.imgField 104 4
def State.imgSig (s : State) : Nat := s.imgField 108 4
def State.imgSigLen (s : State) : Nat := s.imgField 112 2

/-- The image digest (R553). -/
def State.imgDigest (s : State) : List Byte := shake256 (s.stagedBytes 0 s.imgSig)

/-- Every byte of a run of the staged image is 0. -/
def State.imgZero (s : State) (off n : Nat) : Bool := (s.stagedBytes off n).all (fun b => b == 0)

/-- Check 2 of Table 13.7: every header field meets Table 13.6, and the padding is 0. -/
def State.imgForm (s : State) : Bool :=
  let c := s.imgCode
  let dEnd := 0x80 + c + s.imgData
  let entries := (List.range 8).map s.imgEntry
  decide (s.imgField 0 4 = 0x34364649 ∧ s.imgField 4 2 = 1 ∧ s.imgField 6 2 = 0x80)
    && decide (s.imgLen = s.imgSig + s.imgSigLen)
    && decide (c % 8 = 0 ∧ 8 ≤ c ∧ c + s.imgData ≤ 0x400000)
    && decide (s.imgField 20 4 = 0x80 ∧ s.imgField 24 4 = 0x80 + c)
    && entries.all (fun e => decide (e = 0xFFFFFFFF ∨ (e % 8 = 0 ∧ e < c)))
    && entries.any (fun e => e != 0xFFFFFFFF)
    && decide (s.imgSvn ≤ 64)
    && s.imgZero 72 32
    && decide (s.imgPk = (dEnd + 7) / 8 * 8 ∧ s.imgSig = s.imgPk + 1800)
    && decide (1 ≤ s.imgSigLen ∧ s.imgSigLen ≤ 2048)
    && s.imgZero 114 14 && s.imgZero dEnd (s.imgPk - dEnd) && s.imgZero (s.imgPk + 1793) 7

/-- Bytes of a key slot (R533, R548). -/
def State.slotBytes (s : State) (k : Nat) : List Byte := (slotWords k).flatMap (fun w => toBytes 8 (s.otpValue w).toNat)

/-- The LIVE slot that holds the digest of the image's public key, lowest first. -/
def State.imgSlot (s : State) : Option Nat :=
  let d := shake256 (s.stagedBytes s.imgPk 1793)
  (List.range 4).find? (fun k => s.keyState k == 2 && s.slotBytes k == d)

/-- Table 13.7 in its order: the reason of the first check that fails, 0 for none, and the slot (R555). -/
def State.imgCheck (s : State) : Nat × Nat :=
  if s.img.complete = false ∨ s.imgLen ≠ s.img.staged then (1, 0)
  else if s.imgForm = false then (2, 0)
  else if s.imgField 62 1 ≠ 0xB0 ∨ s.fld aROM_VERSION 0 8 < s.imgField 63 1 then (3, 0)
  else match s.imgSlot with
    | none => (4, 0)
    | some k =>
      if s.imgSvn < s.arcValue then (5, k)
      else if Config.falconVerify (s.stagedBytes s.imgPk 1793) s.imgDigest (s.stagedBytes s.imgSig s.imgSigLen) then (0, k)
      else (6, k)

/-- A path that may bring an image: the mailbox of a head that can be reached, or the FM API (R211). -/
def State.imagePath (s : State) (p : Path) : Bool :=
  match p with
  | .head k => s.mailOpen k
  | _ => s.fmOpen p

/-- A head other than the management head (R211). -/
def State.imageUnsupported (s : State) (p : Path) : Bool :=
  match p with
  | .head k => s.mgmtHead != k.val
  | _ => false

/-- An activation is in progress (R207, R212). -/
def State.activating (s : State) : Bool := s.img.phase != .idle

/-- The staging is discarded. -/
def State.dropStage (s : State) : State := { s with img := { s.img with staged := 0, complete := false } }

/-- TRANSFER_FW (R211, R554, R618, R620), into slot 1, the one slot (Table 5.7, log 28). Busy while an activation reads the
staging (log 30). -/
def execTransferFw (p : Path) (slot : Byte) (offset : Nat) (data : List Byte) (s : State) (last : Bool := false) :
    Host.Outcome State Fault Refusal :=
  if s.imagePath p = false then .next s
  else if s.imageUnsupported p then finish s (s.reply p "Unsupported" [])
  else if slot ≠ 1 then finish s (s.reply p "Invalid Slot" [])
  else if s.storeReady = false ∨ s.activating = true then finish s (s.reply p "Busy" [])
  else
    let t := if offset = 0 then s.dropStage else s
    if offset ≠ t.img.staged ∨ t.img.complete = true ∨ stageMax < offset + data.length then
      finish s (t.dropStage.reply p "Invalid Input" [])
    else
      let t := t.stageWrite offset data
      let t := { t with img := { t.img with staged := offset + data.length, complete := last } }
      finish s (t.reply p "Success" [])

/-- GET_FW_INFO (R210, Table 5.7): one slot; the management head only. -/
def execGetFwInfo (k : Fin 16) (s : State) : Host.Outcome State Fault Refusal :=
  s.mailbox k (fun s =>
    if s.mgmtHead ≠ k.val then s.reply (.head k) "Unsupported" []
    else s.reply (.head k) "Success" (Config.standardReply 0x0200
      [1, bit (s.flag aTT_IMAGE 0), bit s.img.complete, (s.reg aIMG_BUILD).toNat, s.fld aIMG_STATUS 0 7]))

/-- ACTIVATE_FW (R207, R212, R555, R618): the background operation starts, for slot 1 and online activation alone (Table
5.7, log 28). -/
def execActivateFw (p : Path) (s : State) (slot : Byte := 1) (action : Byte := 0) : Host.Outcome State Fault Refusal :=
  if s.imagePath p = false then .next s
  else if s.imageUnsupported p then finish s (s.reply p "Unsupported" [])
  else if slot ≠ 1 then finish s (s.reply p "Invalid Slot" [])
  else if action ≠ 0 then finish s (s.reply p "Invalid Input" [])
  else if s.storeReady = false ∨ s.activating = true then finish s (s.reply p "Busy" [])
  else finish s (State.reply { s with img := { s.img with phase := .checking p } } p "Background Command Started" [])

/-- A step of Table 15.1 starts (R614). -/
def State.startStep (s : State) (n : Nat) : State := (s.setFld aSU_STATUS 0 4 n).setReg (aSU_STEP_RT n) s.nowW

/-- TT_CTRL.STOP_WAIT in cycles (R354). -/
def State.stopWait (s : State) : Nat := cycMs (s.fld aTT_CTRL 0 16)

/-- IMAGE_CHECKS_DONE (R212, R555, R614): a rejection, or the wait for the threads, or the load. -/
def execImageChecksDone (s : State) : Host.Outcome State Fault Refusal :=
  match s.img.phase with
  | .checking p =>
    let (reason, slot) := s.imgCheck
    if reason ≠ 0 then
      let t := { s with img := { s.img with phase := .idle } }
      let t := (t.setFld aIMG_STATUS 9 3 reason).raise 102 reason 0
      finish s (t.reply p "Invalid Security State" [])
    else
      let t := if s.fld aSU_STATUS 0 4 = 6 then s.startStep 7 else s
      let run := t.flag aTT_IMAGE 0
      let ph : ActPhase := if run then .waiting p (t.cyc + t.stopWait) else .loading p
      .next (State.setFlag { t with img := { t.img with phase := ph, slot := slot } } aTT_IMAGE 1 true)
  | _ => .next s

/-- ACTIVATION_THREADS_QUIESCED (R354): every thread is STOPPED or IDLE. -/
def execActivationThreadsQuiesced (s : State) : Host.Outcome State Fault Refusal :=
  match s.img.phase with
  | .waiting p _ =>
    if s.eng.threads.toList.all (fun th => th.st == .stopped || th.st == .idle) then
      .next { s with img := { s.img with phase := .loading p } }
    else .next s
  | _ => .next s

/-- ACTIVATION_STOP_WAIT_EXPIRY (R353, R354): the remaining threads are halted. -/
def execActivationStopWaitExpiry (s : State) : Host.Outcome State Fault Refusal :=
  match s.img.phase with
  | .waiting p d =>
    if d ≤ s.cyc then
      let t := s.haltAll
      .next { t with img := { t.img with phase := .loading p } }
    else .next s
  | _ => .next s

/-- The image copied to its area (R556, step 1). -/
def State.copyImage (s : State) : State :=
  (List.range ((s.img.staged + 63) / 64)).foldl (fun t i => t.overwrite (copyLine + i) (s.lineNow (stageLine + i))) s

/-- Code and data loaded, the rest of the data region zero (R302, R556, step 2). -/
def State.loadStore (s : State) : State :=
  let bytes := (s.stagedBytes 0x80 (s.imgCode + s.imgData)).take 0x400000
  let s' := { s with pstore := Memory.setBytes (s.pstore.filter (fun c => decide (0x400000 ≤ c.1))) 0 bytes,
                     eng := { s.eng with storedLines := [] } }
  s'.setReg aTT_CODE_END (BitVec.ofNat 64 s.imgCode)

/-- SVN, slot, build and digest recorded (R556, step 3). -/
def State.recordImage (s : State) : State :=
  let s' := (s.setFld aIMG_STATUS 0 7 s.imgSvn).setFld aIMG_STATUS 7 2 s.img.slot
  let s' := s'.setReg aIMG_BUILD (BitVec.ofNat 64 (s.imgField 64 8))
  s'.putDigest (aIMG_DIGEST 0) s.imgDigest

/-- A thread released by an image, or left idle (R299, R355). -/
def releasedThread (entry : Nat) : Thread :=
  if entry = 0xFFFFFFFF then Thread.reset else { Thread.reset with st := .run, pc := BitVec.ofNat 23 entry }

/-- The registers of a thread's block that an image release clears: DLOST, TT_ISSUED, and the latches of its last
violation and wait (R299, R355; the latches: log 8). -/
def State.clearThreadRegs (s : State) (t : Fin 8) : State :=
  [aTT_ISSUED t, aTT_FAULT t, aTT_FAULT_INSN t, aTT_FAULT_ADDR t, aTT_WAKE_RT t].foldl (fun s a => s.setReg a 0)
    (s.setFlag (aTT_FLAGS t) 9 false)

/-- Every thread starts again (R299, R354, R355, step 4). -/
def State.releaseThreads (s : State) : State :=
  let s' := (List.finRange 8).foldl (fun t n => (t.setThread n (releasedThread (s.imgEntry n))).clearThreadRegs n) s
  let s' := (s'.setFlag aTT_IMAGE 0 true).setFlag aTT_IMAGE 1 false
  s'.bump aTT_IMAGE 16 16 1

/-- IMAGE_LOAD_DONE (R299, R354, R556, R614): the load is complete and the threads run. A thread that still owes a halt
reaches its instruction boundary first. -/
def execImageLoadDone (s : State) : Host.Outcome State Fault Refusal :=
  match s.img.phase with
  | .loading p =>
    if s.eng.threads.toList.any (fun th => th.haltReq) then .next s else
    let t := s.copyImage.loadStore.recordImage.releaseThreads
    let t := { t with img := { t.img with phase := .idle } }
    let t := if t.fld aSU_STATUS 0 4 = 7 then t.startStep 8 else t
    finish s (t.reply p "Success" [])
  | _ => .next s

end Sys2Proof.Machine
end

