-- ==== Sys2Proof/Machine/Attest.lean ====
section
/-! DEFINITION. The SPDM 1.3 responder (R561 to R566, Table 13.8). Request and response codes, and message bytes that the
manual leaves to SPDM, follow that standard (log 7, log 31). -/

namespace Sys2Proof.Machine

/-- A responder can be reached: DOE of a present head whose link is up, or MCTP on a path of the FM API (R561). -/
def State.spdmOpen (s : State) (ch : Path) : Bool := s.imagePath ch

/-- The transcript of a responder (R561). -/
def State.transcript (s : State) : Path → List Byte
  | .head k => (s.head k).transcript
  | .i3c => s.mgmt.trI3c
  | .vdm => s.mgmt.trVdm
  | _ => []

/-- A transcript replaced. -/
def State.setTranscript (s : State) (ch : Path) (t : List Byte) : State :=
  match ch with
  | .head k => s.setHead k { s.head k with transcript := t }
  | .i3c => { s with mgmt := { s.mgmt with trI3c := t } }
  | .vdm => { s with mgmt := { s.mgmt with trVdm := t } }
  | _ => s

/-- A response is sent, and the exchange joins the transcript. -/
def State.spdmAnswer (s : State) (ch : Path) (request : List Byte) (code : Byte) (payload : List Byte) : State :=
  (s.setTranscript ch (s.transcript ch ++ request ++ [code] ++ payload)).emit (.spdm ch code payload)

/-- ERROR with a code; it leaves the transcript alone. -/
def State.spdmError (s : State) (ch : Path) (code : Byte) : State := s.emit (.spdm ch 0x7F [code, 0])

/-- One SPDM request. -/
def State.spdm (s : State) (ch : Path) (body : State → State) : Host.Outcome State Fault Refusal :=
  if s.spdmOpen ch then finish s (body s) else .next s

/-- GET_VERSION (R561): 1.3; the transcript starts again. -/
def execGetVersion (ch : Path) (s : State) : Host.Outcome State Fault Refusal :=
  s.spdm ch (fun s => (s.setTranscript ch []).spdmAnswer ch (Config.standardReply 0x84 []) 0x04
    (Config.standardReply 0x04 [0x13]))

/-- GET_CAPABILITIES (R562): CHAL_CAP, MEAS_CAP with signatures, PUB_KEY_ID_CAP; CTExponent 15; both sizes 4,096. -/
def execGetCapabilities (ch : Path) (s : State) : Host.Outcome State Fault Refusal :=
  s.spdm ch (fun s => s.spdmAnswer ch (Config.standardReply 0xE1 []) 0x61
    (Config.standardReply 0x61 [1, 2, 1, 15, 4096, 4096]))

/-- NEGOTIATE_ALGORITHMS (R563): Falcon-1024 as a PCI-SIG extended algorithm of the vendor, SHA3-384, DMTF; any other
selection is an InvalidRequest. -/
def execNegotiateAlgorithms (ch : Path) (selection : SpdmSelection) (s : State) : Host.Outcome State Fault Refusal :=
  s.spdm ch (fun s =>
    if selection.falconExtAsym && selection.sha3_384 && selection.dmtfMeasurements then
      s.spdmAnswer ch (Config.standardReply 0xE3 []) 0x63 (Config.standardReply 0x63 [Config.vendorId.toNat, 1])
    else s.spdmError ch 0x01)

/-- The seed words of the identity. -/
def State.seedWords (s : State) : List Word := (List.range 8).map (fun i => s.otpValue (160 + i))

/-- A response signed with the identity key over the transcript, the request and the response (R557, R564). The nonce
in it is a free value. -/
def State.spdmSigned (s : State) (ch : Path) (request : List Byte) (code : Byte) (body : List Byte) : State :=
  let payload := body ++ toBytes 8 s.free.toNat
  let sig := Config.falconSign s.seedWords (s.transcript ch ++ request ++ [code] ++ payload)
  s.freeNext.spdmAnswer ch request code (payload ++ sig)

/-- What a signed request meets before the identity is READY, and once it is FAILED (R564). -/
def State.identityError (s : State) : Option Byte :=
  let st := s.fld aID_STATUS 0 2
  if st = 1 then none else if st = 2 then some 0x05 else some 0x03

/-- CHALLENGE (R564). -/
def execChallenge (ch : Path) (request : List Byte) (s : State) : Host.Outcome State Fault Refusal :=
  s.spdm ch (fun s =>
    match s.identityError with
    | some e => s.spdmError ch e
    | none => s.spdmSigned ch request 0x03 (Config.standardReply 0x03 [0xFF]))

/-- Bytes of a digest that four wide registers hold. -/
def State.digestBytes (s : State) (a : Nat) : List Byte :=
  (List.range 4).flatMap (fun j => toBytes 8 (s.reg (a + 8 * j)).toNat)

/-- DMTF type and value of a measurement (Table 13.8): 0 immutable ROM, 1 mutable firmware, 2 hardware configuration,
3 firmware configuration. -/
def State.measurement (s : State) (i : Nat) : Option (Nat × List Byte) :=
  match i with
  | 1 => some (0, toBytes 4 (s.fld aROM_VERSION 0 8))
  | 2 => some (1, s.digestBytes (aIMG_DIGEST 0))
  | 3 => some (2, s.digestBytes (aOTP_DIGEST 0))
  | 4 => some (3, toBytes 4 (s.fld aCFG_REF 0 32))
  | 5 => some (2, s.digestBytes (aLANE_EQ_DIGEST 0))
  | _ => none

/-- A measurement block: index, type, size, raw bits. -/
def State.measurementBlock (s : State) (i : Nat) : List Byte :=
  match s.measurement i with
  | some (ty, v) => toBytes 1 i ++ toBytes 1 ty ++ toBytes 2 v.length ++ v
  | none => []

/-- Blocks that an index asks for: none for 0, which asks for their number, all for 0xFF. -/
def measurementIndices (index : Nat) : Option (List Nat) :=
  if index = 0 then some [] else if index = 0xFF then some [1, 2, 3, 4, 5]
  else if index ≤ 5 then some [index] else none

/-- GET_MEASUREMENTS (R564, R565). -/
def execGetMeasurements (ch : Path) (index : Byte) (signed : Bool) (request : List Byte) (s : State) :
    Host.Outcome State Fault Refusal :=
  s.spdm ch (fun s =>
    match measurementIndices index.toNat, (if signed then s.identityError else none) with
    | none, _ => s.spdmError ch 0x01
    | some _, some e => s.spdmError ch e
    | some is, none =>
      let body := toBytes 1 5 ++ toBytes 1 is.length ++ is.flatMap s.measurementBlock
      if signed then s.spdmSigned ch request 0x60 body else s.spdmAnswer ch request 0x60 body)

/-- SPDM_UNSUPPORTED_REQUEST (R561): UnsupportedRequest, with the request's code as its data (log 31). -/
def execSpdmUnsupportedRequest (ch : Path) (code : Byte) (s : State) : Host.Outcome State Fault Refusal :=
  s.spdm ch (fun s => s.emit (.spdm ch 0x7F [0x07, code]))

end Sys2Proof.Machine
end

