-- ==== Sys2Proof/Machine/CriostAlu.lean ====
section
/-! DEFINITION. The control, arithmetic, memory and branch instructions of Criost (Tables 8.7 to 8.10). -/

namespace Sys2Proof.Machine

/-! Control (Table 8.7) -/

/-- The code line of the thread's next instruction fails its check as it is fetched: it is refetched from the image copy,
and the thread freezes with reason 3 where the copy is lost (R304, R430, R435). The instruction itself comes as the next
command. -/
def State.fetchLine (s : State) (t : Fin 8) : State :=
  if s.canIssue t = false ∨ s.fetchable (s.pcOf t) = false then s else
  let u := s.raise 63 0 (s.pcOf t)
  if s.copyLost (s.pcOf t) then u.threadViolation t 3 0 (s.pcOf t) false else u

/-- NOP; with `unlisted`, a word whose opcode no table lists: it is illegal and the thread freezes (R305, R347); with
`fetchFails`, no word at all yet, as its line failed its check. -/
def execNop (t : Fin 8) (f : InsnFields) (s : State) (unlisted : Option (BitVec 8) := none) (fetchFails : Bool := false) :
    Host.Outcome State Fault Refusal :=
  if fetchFails then finish s (s.fetchLine t) else
  finish s (s.plain t (match unlisted with
    | some op => op.toNat
    | none => 0x00) f 1 (fun s => s))

/-- STOP (R300, R314). -/
def execStop (t : Fin 8) (f : InsnFields) (s : State) : Host.Outcome State Fault Refusal :=
  finish s (s.plain t 0x01 f 1 (fun s => s.setThread t { s.thread t with st := .stopped }))

/-- YIELD: not ready for imm32 engine cycles after its issue; with imm32 = 0, passed over for one turn. -/
def execYield (t : Fin 8) (f : InsnFields) (s : State) : Host.Outcome State Fault Refusal :=
  finish s (s.plain t 0x02 f (1 + f.imm.toNat) (fun s =>
    s.setThread t { s.thread t with wait := .yield (if f.imm = 0 then 0 else s.ecyc + 1 + f.imm.toNat) }))

/-- YIELD_END: the count has run out; or, after a YIELD of 0, the thread's turn has come and passes to the next thread. -/
def execYieldEnd (t : Fin 8) (s : State) : Host.Outcome State Fault Refusal :=
  let th := s.thread t
  match th.wait with
  | .yield 0 =>
    if s.passing t = true ∧ s.eng.issuedAt ≠ some s.ecyc
        ∧ s.rotation.find? (fun u => s.ready u || s.passing u) = some t then
      .next (s.setThread t { th with wait := .none, readyAt := s.ecyc + 1 })
    else .next s
  | .yield u => if u ≤ s.ecyc then .next (s.setThread t { th with wait := .none }) else .next s
  | _ => .next s

/-! Arithmetic (Table 8.8) -/

/-- An arithmetic instruction that writes gd and sets Z, N and C. -/
def State.arith (s : State) (t : Fin 8) (code : Nat) (f : InsnFields) (cycles : Nat) (op : AluOp) : State :=
  s.plain t code f cycles (fun s =>
    let x := s.gpr t f.a
    let y := s.op2 t f
    (s.setGpr t f.d (aluResult op x y).1).aluFlags t op x y)

/-- ADD. -/
def execAdd (t : Fin 8) (f : InsnFields) (s : State) : Host.Outcome State Fault Refusal :=
  finish s (s.arith t 0x10 f 1 .add)

/-- SUB. -/
def execSub (t : Fin 8) (f : InsnFields) (s : State) : Host.Outcome State Fault Refusal :=
  finish s (s.arith t 0x11 f 1 .sub)

/-- AND. -/
def execAnd (t : Fin 8) (f : InsnFields) (s : State) : Host.Outcome State Fault Refusal :=
  finish s (s.arith t 0x12 f 1 .and)

/-- OR. -/
def execOr (t : Fin 8) (f : InsnFields) (s : State) : Host.Outcome State Fault Refusal :=
  finish s (s.arith t 0x13 f 1 .or)

/-- XOR. -/
def execXor (t : Fin 8) (f : InsnFields) (s : State) : Host.Outcome State Fault Refusal :=
  finish s (s.arith t 0x14 f 1 .xor)

/-- SHL (R316). -/
def execShl (t : Fin 8) (f : InsnFields) (s : State) : Host.Outcome State Fault Refusal :=
  finish s (s.arith t 0x15 f 1 .shl)

/-- SHR (R316). -/
def execShr (t : Fin 8) (f : InsnFields) (s : State) : Host.Outcome State Fault Refusal :=
  finish s (s.arith t 0x16 f 1 .shr)

/-- SAR (R316). -/
def execSar (t : Fin 8) (f : InsnFields) (s : State) : Host.Outcome State Fault Refusal :=
  finish s (s.arith t 0x17 f 1 .sar)

/-- MUL. -/
def execMul (t : Fin 8) (f : InsnFields) (s : State) : Host.Outcome State Fault Refusal :=
  finish s (s.arith t 0x18 f 4 .mul)

/-- CMP: the flags of ga − op2. -/
def execCmp (t : Fin 8) (f : InsnFields) (s : State) : Host.Outcome State Fault Refusal :=
  finish s (s.plain t 0x19 f 1 (fun s => s.aluFlags t .sub (s.gpr t f.a) (s.op2 t f)))

/-- MOVI: sign-extended with mode 0, zero-extended with mode 1. -/
def execMovi (t : Fin 8) (f : InsnFields) (s : State) : Host.Outcome State Fault Refusal :=
  finish s (s.plain t 0x1A f 1 (fun s => s.setGpr t f.d (if f.mode = 1 then f.imm.setWidth 64 else simm f)))

/-- MOVHI: gd[63:32] ← imm32. -/
def execMovhi (t : Fin 8) (f : InsnFields) (s : State) : Host.Outcome State Fault Refusal :=
  finish s (s.plain t 0x1B f 1 (fun s =>
    s.setGpr t f.d ((s.gpr t f.d &&& 0xFFFFFFFF) ||| (f.imm.setWidth 64 <<< 32))))

/-- ADDI: no flag. -/
def execAddi (t : Fin 8) (f : InsnFields) (s : State) : Host.Outcome State Fault Refusal :=
  finish s (s.plain t 0x1C f 1 (fun s => s.setGpr t f.d (s.insnAddr t f)))

/-! Memory (Table 8.9, R302, R303, R317) -/

/-- A data line whose refetch fails counts as stored to: it follows the unrecoverable case (R304, R430). -/
def State.refetchFails (s : State) (a : Nat) : State :=
  if s.copyLost a = true ∧ s.inCode a = false ∧ s.eng.storedLines.contains (Sys2Proof.Machine.lineOf a) = false then
    { s with eng := { s.eng with storedLines := s.eng.storedLines ++ [Sys2Proof.Machine.lineOf a] } }
  else s

/-- A load of 8 or 4 bytes, sign-extended if asked. A code line whose check and refetch both fail freezes the thread with
reason 3 (R430). -/
def State.loadInsn (s : State) (t : Fin 8) (op : Nat) (f : InsnFields) (width : Nat) (signed checkFails bothFail : Bool) :
    State :=
  s.issue t op f 3 (fun s =>
    let a := (s.insnAddr t f).toNat
    if a % width ≠ 0 ∨ loadable a = false then s.outOfRange t op f a
    else if checkFails && s.inCode a && s.copyLost a then (s.raise 63 0 a).outOfRange t op f a
    else
      let p := (if checkFails then s.refetchFails a else s).loadValue t a width checkFails bothFail
      let v : Word := if signed then (p.2.setWidth 32).signExtend 64 else p.2
      (p.1.setGpr t f.d v).advance t)

/-- A store of 8 or 4 bytes of gb. -/
def State.storeInsn (s : State) (t : Fin 8) (op : Nat) (f : InsnFields) (width : Nat) : State :=
  s.issue t op f 1 (fun s =>
    let a := (s.insnAddr t f).toNat
    if a % width ≠ 0 ∨ s.storable a = false then s.outOfRange t op f a
    else (s.storeValue a width (s.gpr t f.b)).advance t)

/-- LD. -/
def execLd (t : Fin 8) (f : InsnFields) (checkFails : Bool) (s : State) (bothFail : Bool := false) :
    Host.Outcome State Fault Refusal :=
  finish s (s.loadInsn t 0x20 f 8 false checkFails bothFail)

/-- ST. -/
def execSt (t : Fin 8) (f : InsnFields) (s : State) : Host.Outcome State Fault Refusal :=
  finish s (s.storeInsn t 0x21 f 8)

/-- LDW. -/
def execLdw (t : Fin 8) (f : InsnFields) (checkFails : Bool) (s : State) (bothFail : Bool := false) :
    Host.Outcome State Fault Refusal :=
  finish s (s.loadInsn t 0x22 f 4 (f.mode == 1) checkFails bothFail)

/-- STW. -/
def execStw (t : Fin 8) (f : InsnFields) (s : State) : Host.Outcome State Fault Refusal :=
  finish s (s.storeInsn t 0x23 f 4)

/-! Branches (Table 8.10, R318, R319) -/

/-- The branch's own address + 8 × imm32, or ga + imm32 with mode 1 where the instruction accepts it (R318). -/
def State.branchTarget (s : State) (t : Fin 8) (f : InsnFields) (indirect : Bool) : Nat :=
  if indirect then (s.insnAddr t f).toNat
  else (BitVec.ofNat 64 (s.pcOf t) + 8 * simm f).toNat

/-- The program counter moves to a target, or the thread freezes on a bad one (R318). -/
def State.jump (s : State) (t : Fin 8) (op : Nat) (f : InsnFields) (target : Nat) (push : Bool) : State :=
  if s.fetchable target = false then s.outOfRange t op f target
  else
    let th := s.thread t
    s.setThread t { th with pc := BitVec.ofNat 23 target,
                            stack := if push then th.stack ++ [th.pc + 8] else th.stack }

/-- BR. -/
def execBr (t : Fin 8) (f : InsnFields) (s : State) : Host.Outcome State Fault Refusal :=
  finish s (s.issue t 0x30 f 2 (fun s => s.jump t 0x30 f (s.branchTarget t f (f.mode == 1)) false))

/-- BC (Table 8.5). -/
def execBc (t : Fin 8) (f : InsnFields) (s : State) : Host.Outcome State Fault Refusal :=
  let th := s.thread t
  let taken := branchCond f.mode th.z th.n th.c
  finish s (s.issue t 0x31 f (if taken then 2 else 1) (fun s =>
    if taken then s.jump t 0x31 f (s.branchTarget t f false) false else s.advance t))

/-- CALL; a full return stack is an out-of-range access (R319). -/
def execCall (t : Fin 8) (f : InsnFields) (s : State) : Host.Outcome State Fault Refusal :=
  finish s (s.issue t 0x32 f 2 (fun s =>
    if 16 ≤ (s.thread t).stack.length then s.outOfRange t 0x32 f (s.pcOf t)
    else s.jump t 0x32 f (s.branchTarget t f (f.mode == 1)) true))

/-- RET; an empty return stack is an out-of-range access (R319). -/
def execRet (t : Fin 8) (f : InsnFields) (s : State) : Host.Outcome State Fault Refusal :=
  finish s (s.issue t 0x33 f 2 (fun s =>
    let th := s.thread t
    match th.stack.getLast? with
    | none => s.outOfRange t 0x33 f (s.pcOf t)
    | some a =>
      if s.fetchable a.toNat = false then s.outOfRange t 0x33 f a.toNat
      else s.setThread t { th with pc := a, stack := th.stack.dropLast }))

/-- BRL: jump when L is 1. -/
def execBrl (t : Fin 8) (f : InsnFields) (s : State) : Host.Outcome State Fault Refusal :=
  let taken := (s.thread t).l
  finish s (s.issue t 0x34 f (if taken then 2 else 1) (fun s =>
    if taken then s.jump t 0x34 f (s.branchTarget t f false) false else s.advance t))

end Sys2Proof.Machine
end

