-- ==== Sys2Proof/Machine/Firing.lean ====
section
/-! DEFINITION. The firing of comparators and what each target does (R61, R65, R66, R83 to R86, R366 to R368, R384, R385,
R390, R397, R398, R611). -/

namespace Sys2Proof.Machine

/-- A thread is woken (Table 8.14). -/
def State.wakeThreads (s : State) (mask : BitVec 8) : State :=
  (List.finRange 8).foldl (fun s (t : Fin 8) => if mask.getLsbD t.val then s.setEvents t 0x100 else s) s

/-- A carriage is released from an external WAITT, or the release is latched; a group that is not on wakes
(R367, R528). -/
def State.releaseCar (s : State) (c : Fin 32) : State :=
  let k := s.car c
  let s := if s.groupOn c then s else s.wake (44 + c.val / 8) 3
  if k.st = .waitt ∧ k.comp = none then
    s.setCar c { k with st := .running, release := false, deadline := none, progressAt := s.cyc }
  else s.setCar c { k with release := true }

/-- A WAITT's own comparator has fired: it is freed and the carriage runs on (R366). -/
def State.endWaitt (s : State) (c : Fin 32) (n : Nat) (late : Bool) : State :=
  let k := s.car c
  (s.tcFree n).setCar c { k with st := .running, comp := none, late := k.late || late, progressAt := s.cyc }

/-- The shares of a seal's sweep (R390): carriage, first granule, number of granules. -/
def Seal.shares (x : Seal) : List (Fin 32 × Nat × Nat) :=
  let cs := (List.finRange 32).filter (fun (c : Fin 32) => x.sweep.getLsbD c.val)
  let n := x.len / 4096
  let each := n / cs.length
  cs.mapIdx (fun i c => (c, x.base / 4096 + i * each, if i + 1 = cs.length then n - i * each else each))

/-- Pulses of AUX pins owned for seal boundaries (R611). -/
def State.sealPulses (s : State) (i : Nat) : State :=
  [0, 1].foldl (fun s (pin : Nat) =>
    if s.auxFunc pin = 3 ∧ s.flag aAUX_CFG (4 * pin + i) = true then s.auxPulse pin else s) s

/-- The boundary takes effect: ACTIVE, with the sweep on its way (R384, R385, R390); a region that was damaged whole while
the seal was armed is complete at once (R393, R394). -/
def State.sealBoundary (s : State) (i : Fin 4) (late : Bool) : State :=
  let x := s.seal i
  if x.st = .armed then
    let s := s.setSeal i { x with st := .active, late := late }
    let s := x.shares.foldl (fun s p =>
      s.setCar p.1 { s.car p.1 with share := some (i, p.2.1, p.2.2), entry := 0, done := 0, acc := 0, elem := none,
                                    packed := 0, recorded := false, poisoned := 0, flight := [], ahead := 0,
                                    run := (s.car p.1).run + 1, abort := none, progressAt := s.cyc }) s
    (s.sealPulses i).sealCheck i
  else s

/-- An outing launches (R397). -/
def State.outingLaunch (s : State) (i : Fin 8) (late : Bool) : State :=
  let o := s.outing i
  if o.st = .armed then
    let s := s.setOuting i { o with st := .launched, late := late, rt := s.now,
                                    bound := BitVec.ofNat 16 (satWord 16 s.boundNow) }
    let s := if o.chain = 0 then (s.setCar o.carriage { s.car o.carriage with st := .idle }).carEvent o.carriage
      else s.carStart o.carriage o.chain 0 0 0
    s.wakeThreads o.threads
  else s

/-- What a fired comparator's target does, in its place of R28. -/
def State.tcAct (s : State) (n : Fin 64) (target index : Nat) (late : Bool) : State :=
  match target with
  | 1 => if h : index < 8 then s.setEvents ⟨index, h⟩ 0x100 else s
  | 2 =>
    if h : index < 32 then
      if (s.car ⟨index, h⟩).comp = some n then s.endWaitt ⟨index, h⟩ n late else s.releaseCar ⟨index, h⟩
    else s
  | 3 => (s.strobe (2 ^ index) late).1
  | 4 => if s.flag aSNAP_CTRL 2 then s.snapTrigger 2 n 0 else s
  | 5 => if h : index < 8 then s.outingLaunch ⟨index, h⟩ late else s
  | 6 => if h : index < 4 then s.sealBoundary ⟨index, h⟩ late else s
  | 7 => if s.auxFunc index = 4 then s.auxPulse index else s
  | _ => s

/-- What a refused comparator's target comes to (R368, R385, R398). -/
def State.tcRefuse (s : State) (n : Fin 64) (target index : Nat) : State × List FaultEvent :=
  match target with
  | 2 =>
    if h : index < 32 then
      if (s.car ⟨index, h⟩).comp = some n then (s.carStop ⟨index, h⟩ 5, []) else (s, [])
    else (s, [])
  | 5 =>
    if h : index < 8 then
      if (s.outing ⟨index, h⟩).st = .armed then s.outingAbsent ⟨index, h⟩ 1 s.boundNow true else (s, [])
    else (s, [])
  | 6 =>
    if h : index < 4 then
      if (s.seal ⟨index, h⟩).st = .armed then s.sealFail ⟨index, h⟩ 1 else (s, [])
    else (s, [])
  | _ => (s, [])

/-- The value a periodic comparator moves to (R85). -/
def nextPeriod (value period now : Nat) : Nat :=
  if now < value then value else value + period * ((now - value) / period + 1)

/-- After an occurrence: a single comparator disarms, a periodic one moves on (R85). -/
def State.tcAdvance (s : State) (n : Fin 64) : State :=
  let period := s.fld (aTC_PERIOD n) 0 32
  let s := { s with lateArms := s.lateArms &&& ~~~(1#64 <<< n.val) }
  if period = 0 then s.tcDisarm n
  else s.setReg (aTC_VALUE n) (BitVec.ofNat 64 (nextPeriod (s.reg (aTC_VALUE n)).toNat period s.now))

/-- An armed comparator's occurrence: it fires, or its tolerance refuses it (R65, R66, R83, R86). -/
def State.tcFire (s : State) (n : Fin 64) (late : Bool) : State :=
  let target := s.tcTarget n
  let index := s.tcIndex n
  let tol := s.fld (aTC_TOL n) 0 32
  if tol ≠ 0 ∧ tol < s.boundNow then
    let s := (s.setFlag (aTC_STATUS n) 2 true).tcAdvance n
    let p := s.tcRefuse n target index
    p.1.raiseList (FaultEvent.plain 26 n tol :: p.2)
  else
    let s := if s.flag (aTC_STATUS n) 0 then s.setFlag (aTC_STATUS n) 4 true else s
    let s := s.setFlag (aTC_STATUS n) 0 true
    let s := if late then s.setFlag (aTC_STATUS n) 1 true else s
    (s.tcAdvance n).tcAct n target index late

/-- The occurrence of an armed comparator is due: RT has reached its value, and a setting made in this cycle governs only
from the next (R83, R84). -/
def State.tcDue (s : State) (n : Nat) : Bool :=
  s.tcArmed n && decide ((s.reg (aTC_VALUE n)).toNat ≤ s.now)
    && decide (sparseGet (fun _ => 0) s.tcReadyAt n ≤ s.cyc)

/-- The place in the order of R28 of each target: snapshots, seals, launches, strobes. -/
def targetOrder : List (List Nat) := [[4], [6], [0, 1, 2, 5, 7], [3]]

/-- Every comparator armed for a value of the span (old, new] fires, in the order of R28 (R61). The halts of the span,
`halt`, open between the seals and the launches; a TWAIT for a value of the span ends (R329). -/
def State.fireSpan (s : State) (old new : Nat) (halt : State → State) : State :=
  let due := (List.finRange 64).filter (fun (n : Fin 64) =>
    s.tcArmed n.val && decide (old < (s.reg (aTC_VALUE n)).toNat) && decide ((s.reg (aTC_VALUE n)).toNat ≤ new))
  let run (s : State) (ts : List Nat) : State := (due.filter (fun (n : Fin 64) => ts.contains (s.tcTarget n.val))).foldl
    (fun s (n : Fin 64) => if s.tcArmed n.val then s.tcFire n (decide ((s.reg (aTC_VALUE n)).toNat < new)) else s) s
  let s := run (halt (run (run s [4]) [6])) [0, 1, 2, 5, 7]
  run ((List.finRange 8).foldl (fun s t => s.twaitLeave new t) s) [3]

/-- COMPARATOR_FIRE (R83). -/
def execComparatorFire (n : Fin 64) (s : State) : Host.Outcome State Fault Refusal :=
  if s.tcDue n then finish s (s.tcFire n (s.lateArms.getLsbD n.val)) else .next s

end Sys2Proof.Machine
end

