-- ==== Sys2Proof/Machine/Thermal.lean ====
section
/-! DEFINITION. Sensors, witnesses, stages, enforcement and shutdown (R494 to R516). Temperatures are in quarter degrees. -/

namespace Sys2Proof.Machine

/-- The model of canary temperature needs log2: this is 5 K times log2 of a ratio, in quarter degrees, truncated
(R500). The value is exact: the greatest q with 2^q <= (N / N0)^20, computed without a real logarithm. -/
def canaryQuarters (n n0 : Nat) : Int :=
  let up := (List.range 400).takeWhile (fun q => 2 ^ (q + 1) * n0 ^ 20 ≤ n ^ 20)
  let down := (List.range 400).takeWhile (fun q => n ^ 20 * 2 ^ q < n0 ^ 20)
  if n0 ≤ n then (up.length : Int) else - (down.length : Int)

/-- Sensors of a layer (Table 12.1). -/
def layerSensors (n : Nat) : List Nat :=
  if n = 0 then List.range 8 else if n = 17 then List.range' 40 16 else [2 * n + 6, 2 * n + 7]

/-- Threshold of a layer: 1 double rate, 2 request, 3 enforce, 4 orderly, 5 forced shutdown (Table 12.2); L0 and L17 have
no double-rate stage. -/
def threshold (n k : Nat) : Option Nat :=
  let l := if n = 0 then [0, 105, 110, 120, 123] else if n = 17 then [0, 100, 105, 115, 118] else [85, 95, 100, 105, 108]
  match k with
  | 0 => none
  | j + 1 => match l[j]? with
    | some 0 => none
    | some t => some (4 * t)
    | none => none

/-- The layer is a DRAM layer. -/
def isDram (n : Nat) : Bool := decide (1 ≤ n ∧ n ≤ 16)

/-- A layer's governing temperature and stage (TH_LAYER). -/
def State.gov (s : State) (n : Nat) : Nat := s.fld (aTH_LAYER n) 0 10
def State.stage (s : State) (n : Nat) : Nat := s.fld (aTH_LAYER n) 12 3

/-! Samples (R494, R496) -/

/-- Bad readings of a sensor in a row. -/
def State.missed (s : State) (i : Nat) : Nat :=
  match s.therm.misses.find? (fun p => p.1 == i) with
  | some p => p.2
  | none => 0

/-- One reading of a sensor: its register, its count of bad readings, its failure at the third; the reading if it is live.
A reading above 150 °C counts as none. -/
def State.sense (s : State) (n i : Nat) (r : Option (BitVec 10)) : State × List Nat :=
  let s := match r with
    | some x => s.setFld (aTH_SENSOR i) 0 10 x.toNat
    | none => s
  if s.flag (aTH_SENSOR i) 10 then (s, []) else
  let good : Option Nat := match r with
    | some x => if x.toNat ≤ 600 then some x.toNat else none
    | none => none
  let m := if good.isSome then 0 else s.missed i + 1
  let s := { s with therm := { s.therm with misses := (i, m) :: s.therm.misses.filter (fun p => p.1 != i) } }
  match good with
  | some x => (s, [x])
  | none => (if m = 3 then (s.setFlag (aTH_SENSOR i) 10 true).raise 88 i n else s, [])

/-- Every sensor of a layer is read; the live readings. -/
def State.senseAll (s : State) (n : Nat) (readings : List (Option (BitVec 10))) : State × List Nat :=
  ((layerSensors n).zip (List.range 16)).foldl (fun (p : State × List Nat) (q : Nat × Nat) =>
    let r := p.1.sense n q.1 (readings.getD q.2 none)
    (r.1, p.2 ++ r.2)) (s, [])

/-! Witnesses (R498 to R500) -/

/-- The last eight canary counts of a layer. -/
def State.canaryCounts (s : State) (n : Nat) : List Nat :=
  match s.therm.canary.find? (fun p => p.1 == n) with
  | some p => p.2
  | none => []

/-- A layer's witnesses are suspended: its domain is not on (R498). -/
def State.suspended (s : State) (n : Nat) : Bool :=
  if h : n - 1 < 64 then (s.dom ⟨n - 1, h⟩).st != .on else false

/-- P(n) of a DRAM layer in 10 mW over its last sampling period: the static term at its temperature, and the energies of the
commands of its two channels (R499). -/
def State.layerPower (s : State) (n : Nat) : Nat :=
  let chs := s.chans.toList.drop (2 * (n - 1)) |>.take 2
  let since := max 1 (s.cyc - sparseGet (fun _ => 0) s.therm.evalAt n)
  min 4095 (Config.staticPower n (s.gov n) + (Config.actEnergy n * (chs.map (fun (c : Channel) => c.actCount)).sum
    + Config.burstEnergy n * (chs.map (fun (c : Channel) => c.burstCount)).sum) / since)

/-- The next sampling period of a layer begins. -/
def State.powerRestart (s : State) (n : Nat) : State :=
  let s := { s with therm := { s.therm with evalAt := sparsePut (fun _ => 0) s.therm.evalAt n s.cyc } }
  { s with chans := s.chans.mapIdx (fun i c => if i / 2 + 1 = n then { c with actCount := 0, burstCount := 0 } else c) }

/-- T_est of a DRAM layer (R499); the power is in 10 mW, θ in 0.1 K/W. -/
def State.estimate (s : State) (n power : Nat) : Nat :=
  min 1023 ((250 * (s.gov (n - 1) + s.gov (n + 1)) + 2 * (s.canaryParams n).2.2 * power) / 500)

/-- CAN_RANGE and T_can of a DRAM layer (R500); fewer than eight counts suspend it (log 33). -/
def State.canary (s : State) (n : Nat) : Nat × Option Nat :=
  let cs := s.canaryCounts n
  let N := cs.sum / 8
  if cs.length < 8 then (2, none)
  else if N < 4 then (1, none)
  else
    let p := s.canaryParams n
    let t : Int := (p.1 : Int) + canaryQuarters (min N 4095) p.2.1
    (if 4095 ≤ N then 3 else 0, some (min 1023 t.toNat))

/-- The witnesses of a DRAM layer evaluated: estimate and canary. -/
def State.witness (s : State) (n : Nat) : State × Option Nat × Option Nat :=
  if isDram n = false then (s, none, none) else
  let power := s.layerPower n
  let s := (s.powerRestart n).setReg (aTH_LAYER_PWR n) (packBits [(0, 12, power), (16, 12, min 4095 ((s.canaryCounts n).sum / 8))])
  if s.suspended n then (s.setReg (aTH_LAYER_EST n) (packBits [(20, 2, 2)]), none, none) else
  let e := s.estimate n power
  let c := s.canary n
  (s.setReg (aTH_LAYER_EST n) (packBits [(0, 10, e), (10, 10, c.2.getD 0), (20, 2, c.1)]), some e, c.2)

/-! Disputes (R501, R502) -/

/-- Both sensors of a layer and the layer marked, or unmarked. -/
def State.markDispute (s : State) (n : Nat) (b : Bool) : State :=
  let s := (layerSensors n).foldl (fun s i => s.setFlag (aTH_SENSOR i) 11 b) s
  ((s.setFlag aTH_DISPUTED n b).setFlag (aTH_LAYER n) 15 b)

/-- Evaluations in a row that would end a layer's dispute. -/
def State.calmOf (s : State) (n : Nat) : Nat :=
  match s.therm.calm.find? (fun p => p.1 == n) with
  | some p => p.2
  | none => 0

/-- The count of calm evaluations replaced. -/
def State.setCalm (s : State) (n x : Nat) : State :=
  { s with therm := { s.therm with calm := (n, x) :: s.therm.calm.filter (fun p => p.1 != n) } }

/-- The layer is in dispute. -/
def State.disputed (s : State) (n : Nat) : Bool := s.flag aTH_DISPUTED n

/-- A dispute begins above 6 K and ends after ten evaluations within 4 K; whether one begins in this evaluation. -/
def State.judgeDispute (s : State) (n hs : Nat) (ws : List Nat) : State × Bool :=
  let above (k : Nat) : Bool := ws.any (fun w => decide (hs + k < w))
  if s.disputed n = false then (if above 24 then ((s.markDispute n true).setCalm n 0, true) else (s, false))
  else if above 16 then (s.setCalm n 0, false)
  else if 10 ≤ s.calmOf n + 1 then ((s.markDispute n false).setCalm n 0, false)
  else (s.setCalm n (s.calmOf n + 1), false)

/-! Governing temperature and stage (R497, R501, R504) -/

/-- Greatest of a list, if it is not empty. -/
def maxOf : List Nat → Option Nat
  | [] => none
  | x :: xs => some (xs.foldl max x)

/-- Governing temperature and its source: 0 sensor, 1 estimate, 2 canary. With no reading and no witness the last value
stands. -/
def State.govern (s : State) (n : Nat) (hs est can : Option Nat) : Nat × Nat :=
  let dead := (layerSensors n).all (fun i => s.flag (aTH_SENSOR i) 10)
  let ws := est.toList ++ can.toList
  let from_ (g : Nat) : Nat × Nat :=
    (g, if hs = some g then 0 else if can = some g then 2 else if est = some g then 1 else 0)
  let last : Nat × Nat := (s.gov n, s.fld (aTH_LAYER n) 10 2)
  match hs with
  | some h => if isDram n && s.disputed n then from_ (ws.foldl max h) else (h, 0)
  | none =>
    if dead = false then last
    else if isDram n = false then ((threshold n 3).getD 0, 0)
    else match maxOf ws with
      | some g => from_ g
      | none => last

/-- The stage after an evaluation (R504): up to the highest threshold reached; down past every stage whose threshold
less 3 K lies above, the double-rate stage only once the stack is cool. -/
def nextStage (n cur g : Nat) (cool : Bool) : Nat :=
  let reach (k : Nat) : Bool := match threshold n k with
    | some t => decide (t ≤ g)
    | none => false
  let stay (k : Nat) : Bool := match threshold n k with
    | some t => decide (t ≤ g + 12) || (k == 1 && !cool)
    | none => false
  match [4, 3, 2, 1].find? reach with
  | some k => if cur ≤ k then k else ([4, 3, 2, 1].find? (fun j => decide (j ≤ cur) && stay j)).getD 0
  | none => ([4, 3, 2, 1].find? (fun j => decide (j ≤ cur) && stay j)).getD 0

/-- Sampling rate code (R495). -/
def rateCode (n g : Nat) : Nat :=
  let near (d : Nat) : Bool := [1, 2, 3, 4, 5].any (fun k => match threshold n k with
    | some t => decide (g ≤ t + d ∧ t ≤ g + d)
    | none => false)
  if near 12 then 2 else if near 32 then 1 else 0

/-- Every DRAM layer has stayed below 82 °C for 100 ms. -/
def State.cool (s : State) : Bool :=
  match s.therm.coolSince with
  | some c => decide (c + cycMs 100 ≤ s.cyc)
  | none => false

/-- The cool time restarts while any DRAM layer stands at 82 °C or above. -/
def State.coolWatch (s : State) : State :=
  if (List.range' 1 16).any (fun m => decide (328 ≤ s.gov m)) then { s with therm := { s.therm with coolSince := none } }
  else if s.therm.coolSince.isSome then s
  else { s with therm := { s.therm with coolSince := some s.cyc } }

/-- TH_LAYER takes a governing temperature, its source and the sampling rate. -/
def State.setGov (s : State) (n : Nat) (g : Nat × Nat) : State :=
  let s := (s.setFld (aTH_LAYER n) 0 10 g.1).setFld (aTH_LAYER n) 10 2 g.2
  let s := s.setFld (aTH_LAYER n) 16 2 (rateCode n g.1)
  s.setFld (aTH_LAYER n) 18 10 (max (s.fld (aTH_LAYER n) 18 10) g.1)

/-- HOT_LAYER: the lowest-numbered of the hottest layers. -/
def State.setHot (s : State) : State :=
  s.setFld aTH_STATUS 12 5 (((List.range 18).find? (fun n => s.gov n == s.hottest)).getD 0)

/-! Forced shutdown (R514, R515) -/

/-- Every channel issues PREH and SRE, and D0 to D15 enter retention. -/
def State.sleepAll (s : State) : State :=
  let s := { s with chans := s.chans.map (fun (ch : Channel) => { ch.preh s.cyc with selfRefresh := true }) }
  (List.finRange 64).foldl (fun s (n : Fin 64) =>
    if n.val < 16 then s.setDom n { s.dom n with st := .retention, moving := none, wakeAfter := none } else s) s

/-- Every domain but D0 to D15, D42 where it is kept, and AON is off; the line cache's contents go with it. -/
def State.domainsOff (s : State) (keepStore : Bool) : State :=
  let s := (List.finRange 64).foldl (fun s (n : Fin 64) =>
    if n.val < 16 || (keepStore && n.val == 42) then s
    else s.setDom n { s.dom n with st := .off, moving := none, wakeAfter := none }) s
  { s with cache := [] }

/-- Every link goes down with HELD cause 4 (Table 12.4). -/
def State.linksDown (s : State) : State := (List.finRange 16).foldl (fun s k => s.headDown k 4 .detect) s

/-- A forced shutdown (R515): dirty lines and journal entries are lost and counted. What was on its way through the
domains that go off is gone. -/
def State.forceShutdown (s : State) : State :=
  let lost := (s.cache.filter (fun l => l.dirty)).length + s.mem.journal.length
  let s := (s.setFld aTH_STATUS 4 2 3).setReg aTH_SHUT_LOST (BitVec.ofNat 64 (satAt 20 lost))
  let s := match s.therm.shutAt with
    | some p => s.setReg aTH_SHUT_RT (BitVec.ofNat 64 p.2)
    | none => s
  let s := (List.finRange 32).foldl (fun s c => if (s.car c).abort.isSome then s.carStop c 1 else s) s
  let s := s.linksDown
  let s := { s with mem := { s.mem with ports := [], missQ := [], accept := [], journal := [], flush := [], installs := [], uioOpen := [] },
                    chans := s.chans.map (fun (ch : Channel) => { ch with pool := [], wbuf := [], writing := [] }),
                    therm := { s.therm with drainedAt := some s.cyc } }
  (s.sleepAll.domainsOff false).pump

/-! Stack-wide stages (R505 to R511) -/

/-- Some layer of a list stands in a stage or above. -/
def State.anyStage (s : State) (k : Nat) (ls : List Nat) : Bool := ls.any (fun n => decide (k ≤ s.stage n))

/-- THERM_N (R511): an enforce stage, or a thermal shutdown. -/
def State.thermPin (s : State) : State :=
  s.setFlag aTH_STATUS 6 (s.anyStage 3 (List.range 18) || (s.fld aTH_STATUS 4 2 != 0 && s.fld aTH_SHUT 0 16 == 90))

/-- The double rate follows the DRAM layers (R505). -/
def State.doubleStage (s : State) (n : Nat) : State :=
  let d := s.anyStage 1 (List.range' 1 16)
  if d = s.flag aTH_STATUS 0 then s
  else
    let s := s.setThermalDouble d
    if d then s.thermalRecord 0xFFFF n 1 0 else s

/-- The request to slow (R506). -/
def State.requestStage (s : State) (n : Nat) : State :=
  let r := s.anyStage 2 (List.range 18)
  if r = s.flag aTH_STATUS 1 then s
  else
    let s := s.setFlag aTH_STATUS 1 r
    if r then s.thermalRecord 0xFFFF n 2 0 else s

/-- TH_CTRL.GRACE as it acts, in cycles. -/
def State.graceTime (s : State) : Nat := cycUs (max 100 (min 10000 (s.fld aTH_CTRL 0 14)))

/-- Entry into the enforce stage, and the end of enforcement (R507). -/
def State.enforceStage (s : State) (entered : Bool) : State :=
  let s := if entered && !s.enforcing && s.therm.graceEnd.isNone then
      { (s.setFlag aTH_STATUS 2 true) with therm := { s.therm with graceEnd := some (s.cyc + s.graceTime) } }
    else s
  if s.enforcing && !s.anyStage 3 (List.range 18) then s.setFlag aTH_STATUS 3 false else s

/-- The shutdowns that an evaluation starts (R512, R514). -/
def State.shutStage (s : State) (n g : Nat) (entered : Bool) : State :=
  let s := if entered && s.fld aTH_STATUS 4 2 == 0 then s.raise 90 n g else s
  let hot : Bool := match threshold n 5 with
    | some t => decide (t ≤ g)
    | none => false
  if hot && s.fld aTH_STATUS 4 2 == 1 && s.therm.drainedAt.isNone then s.forceShutdown else s

/-- One evaluation of a layer (R495). -/
def State.evaluate (s : State) (n : Fin 18) (readings : List (Option (BitVec 10))) : State :=
  let (s, live) := s.senseAll n readings
  let (s, est, can) := s.witness n
  let hs := maxOf live
  let (s, fresh) : State × Bool := match hs with
    | some h => if isDram n then s.judgeDispute n h (est.toList ++ can.toList) else (s, false)
    | none => (s, false)
  let g := s.govern n hs est can
  let s := if fresh then s.raise 89 n g.1 else s
  let old := s.stage n
  let s := ((s.setGov n g).coolWatch).setHot
  let s := s.wearSample n g.1
  let st := nextStage n old g.1 s.cool
  let s := if st = old then s else (s.setFld (aTH_LAYER n) 12 3 st).notify 12
  let s := (s.doubleStage n).requestStage n
  let s := (s.enforceStage (decide (old < 3 ∧ 3 ≤ st))).thermPin
  s.shutStage n g.1 (decide (old < 4 ∧ 4 ≤ st))

/-- THERMAL_EVALUATION (R495 to R508, R512, R514), with the readings of the layer's first sensor and of its others. -/
def execThermalEvaluation (n : Fin 18) (first : Option (BitVec 10)) (others : List (Option (BitVec 10))) (s : State) :
    Host.Outcome State Fault Refusal :=
  if s.pins.pwrGood = false then .next s else finish s (s.evaluate n (first :: others))

/-- CANARY_INTERVAL (R500): the count of a die's canary joins the last eight; a suspended canary keeps none. -/
def execCanaryInterval (n : Fin 18) (flips : Nat) (s : State) : Host.Outcome State Fault Refusal :=
  if isDram n = false ∨ s.pins.pwrGood = false then .next s else
  let cs := if s.suspended n then [] else (min flips 4096 :: s.canaryCounts n).take 8
  .next { s with therm := { s.therm with
    canary := (n.val, cs) :: s.therm.canary.filter (fun (p : Nat × List Nat) => p.1 != n.val) } }

/-- The hottest layer in the enforce stage. -/
def State.hotEnforced (s : State) : Nat :=
  ((List.range 18).filter (fun n => decide (3 ≤ s.stage n))).foldl (fun m n => if s.gov m < s.gov n ∨ s.stage m < 3 then n else m) 0

/-- GRACE_EXPIRY (R507 to R509): enforcement begins if a layer is still in the enforce stage; its bucket starts empty. -/
def execGraceExpiry (s : State) : Host.Outcome State Fault Refusal :=
  match s.therm.graceEnd with
  | none => .next s
  | some e =>
    if s.cyc < e then .next s else
    let t := State.setFlag { s with therm := { s.therm with graceEnd := none } } aTH_STATUS 2 false
    if t.anyStage 3 (List.range 18) = false then .next t else
    let t := (t.setFlag aTH_STATUS 3 true).setReg aTH_ENF_RT t.nowW
    let t := { t with regul := { t.regul with deviceBucket := 0 } }
    finish s (t.thermalRecord 0xFFFF t.hotEnforced 3 t.enfFrac)

/-! Orderly shutdown (R513, Table 12.4) -/

/-- Nothing is left to write: no journal entry, no dirty line, no admitted request. -/
def State.drained (s : State) : Bool :=
  s.mem.journal.isEmpty && s.mem.accept.isEmpty && s.mem.missQ.isEmpty && s.mem.flush.isEmpty
    && !s.cache.any (fun (x : CacheLine) => x.dirty)
    && s.chans.toList.all (fun ch => ch.pool.isEmpty && ch.wbuf.isEmpty && ch.writing.isEmpty)
    && s.seals.toList.all (fun x => x.heldWrites.isEmpty)

/-- SHUTDOWN_DRAIN_DONE: t_d. -/
def execShutdownDrainDone (s : State) : Host.Outcome State Fault Refusal :=
  if s.fld aTH_STATUS 4 2 = 1 ∧ s.therm.drainedAt = none ∧ s.drained = true then
    let t := s.sleepAll
    .next { t with therm := { t.therm with drainedAt := some t.cyc } }
  else .next s

/-- SHUTDOWN_POWER_DOWN: 20 µs after t_d. -/
def execShutdownPowerDown (s : State) : Host.Outcome State Fault Refusal :=
  match s.therm.drainedAt, s.therm.shutAt with
  | some d, some p =>
    if s.fld aTH_STATUS 4 2 = 1 ∧ d + cycUs 20 ≤ s.cyc then
      let t := (s.linksDown.domainsOff true).setFld aTH_STATUS 4 2 2
      finish s (t.setReg aTH_SHUT_RT (BitVec.ofNat 64 p.2)).pump
    else .next s
  | _, _ => .next s

/-- SHUTDOWN_TIMEOUT (R514): t_d has not come within 10 ms. -/
def execShutdownTimeout (s : State) : Host.Outcome State Fault Refusal :=
  match s.therm.drainedAt, s.therm.shutAt with
  | none, some p =>
    if s.fld aTH_STATUS 4 2 = 1 ∧ p.1 + cycMs 10 ≤ s.cyc then finish s s.forceShutdown else .next s
  | _, _ => .next s

end Sys2Proof.Machine
end

