-- ==== Sys2Proof/Machine/PowerCmds.lean ====
section
/-! DEFINITION. The ends of the transitions of power domains (R261, R518 to R523, R529 to R531). -/

namespace Sys2Proof.Machine

/-- Number of the slice of a domain D32 to D39. -/
def isSlice (n : Nat) : Bool := decide (32 ≤ n ∧ n < 40)

/-- Lines of a slice that are dirty. -/
def State.sliceDirty (s : State) (n : Nat) : List Nat :=
  (s.cache.filter (fun (x : CacheLine) => lineSlice x.line == n - 32 && x.dirty)).map (fun x => x.line)

/-- Entry work that the domain does itself: a slice writes back its dirty lines as far as the journal takes them. -/
def State.entryWork (s : State) (n : Nat) : State :=
  if isSlice n then (s.sliceDirty n).foldl (fun s l => if s.journalRoom then s.writeBack l else s) s else s

/-- The entry work of a domain is complete (R261, R520). -/
def State.entryDone (s : State) (n : Nat) : Bool :=
  if n < 16 then (domChannels n).all (fun c => if h : c < 32 then
      (s.chan ⟨c, h⟩).wbuf.isEmpty && (s.chan ⟨c, h⟩).writing.isEmpty else true)
  else if n < 32 then
    (domChannels n).all (fun c => (if h : c < 32 then
      (s.chan ⟨c, h⟩).wbuf.isEmpty && (s.chan ⟨c, h⟩).writing.isEmpty else true)
      && !s.mem.journal.any (fun e => s.placeChan e.line == c))
  else if isSlice n then (s.sliceDirty n).isEmpty
  else true

/-- What a domain loses as it reaches its new state: a slice the lines of the banks it does not keep (R518). A layer's
channels enter self-refresh, and their measurements are abandoned (R261, R463). -/
def State.reach (s : State) (n : Nat) (target : DomState) (kept : BitVec 16) : State :=
  if isSlice n then
    { s with cache := s.cache.filter (fun (x : CacheLine) => lineSlice x.line != n - 32
      || (target == .retention && kept.getLsbD (Config.sliceBank x.line).toNat)) }
  else if n < 16 then
    (domChannels n).foldl (fun s c => if h : c < 32 then
      (s.setChan ⟨c, h⟩ { (s.chan ⟨c, h⟩).preh s.cyc with selfRefresh := target == .retention }).dropMeasures c else s) s
  else s

/-- A read waits in a pool of the domain's channels, and its source (R262, R529). -/
def State.poolWaits (s : State) (n : Nat) : Option Nat :=
  ((domChannels n).flatMap (fun c => if h : c < 32 then (s.chan ⟨c, h⟩).pool else [])).head?.map (fun e =>
    match e.req.src with
    | .head _ => 1
    | _ => 2)

/-- DOMAIN_TRANSITION_DONE (R520): the domain reaches retention or off once its entry work is complete, and a wake that
came meanwhile starts. -/
def execDomainTransitionDone (n : Fin 64) (s : State) : Host.Outcome State Fault Refusal :=
  match (s.dom n).moving with
  | none => .next s
  | some (target, _, _) =>
    if target = .on then .next s else
    let t := s.entryWork n
    if t.entryDone n = false then .next t else
    let t := t.reach n target (t.dom n).retained
    let d := t.dom n
    let next := (d.wakeAfter.or (t.poolWaits n)).map (fun src => (DomState.on, t.cyc, src))
    finish s (t.setDom n { d with st := target, moving := next, wakeAfter := none }).pump

/-- Banks that the sweep of a wake from retention finds bad, of a domain with retained banks (R530, R531). -/
def State.sweepFails (s : State) (n : Nat) (failed : BitVec 16) : BitVec 16 :=
  if h : n < 64 then
    if (s.dom ⟨n, h⟩).st = .retention ∧ 32 ≤ n ∧ n < 42 then failed &&& (s.dom ⟨n, h⟩).retained else 0
  else 0

/-- The failing banks of a wake sweep are reported, and a slice loses their lines (R531). -/
def State.sweepReport (s : State) (n : Nat) (bad : BitVec 16) : State :=
  if bad = 0 then s.setReg (aPWR_DOM_FAIL n) 0 else
  let s := s.setReg (aPWR_DOM_FAIL n) (bad.setWidth 64)
  let s := s.setFlag aPWR_RETFAIL n true
  let s := if isSlice n then { s with cache := s.cache.filter (fun (x : CacheLine) =>
      lineSlice x.line != n - 32 || !bad.getLsbD (Config.sliceBank x.line).toNat) } else s
  s.raiseList ((maskBits 16 bad.toNat).map (fun b => .plain 91 n b))

/-- A domain's wake is complete: it is on, PWR_LASTWAKE is written, the POWER event is set (R522, R529, Table 8.14). -/
def State.woken (s : State) (n : Fin 64) (src : Nat) : State :=
  let d := s.dom n
  let from_ : Nat := match d.st with
    | .off => 2
    | _ => 1
  let s := s.setDom n { d with st := .on, moving := none, wakeAfter := none }
  let s := (domChannels n).foldl (fun s c => if h : c < 32 then
    (if n.val < 16 then s.setChan ⟨c, h⟩ { s.chan ⟨c, h⟩ with selfRefresh := false } else s) else s) s
  let s := s.setReg aPWR_LASTWAKE (packBits [(0, 6, n), (6, 2, from_), (8, 3, src), (11, 1, 1)])
  ((s.setReg aPWR_LASTWAKE_RT s.nowW).notify 15).pump

/-- What a domain needs before its wake can complete: a layer its controller pair (R523). -/
def State.wakeReady (s : State) (n : Nat) : Bool := if n < 16 then s.domOn (16 + n) else true

/-- DOMAIN_WAKE_DONE (R523, R530, R531). A layer that wakes from off completes with LAYER_WAKE_FILL_DONE (R519). -/
def execDomainWakeDone (n : Fin 64) (failed : BitVec 16) (s : State) : Host.Outcome State Fault Refusal :=
  match (s.dom n).moving with
  | some (.on, _, src) =>
    if (n.val < 16 ∧ (s.dom n).st = .off) ∨ s.wakeReady n = false then .next s else
    let t := if (s.dom n).st = .retention then s.sweepReport n (s.sweepFails n failed) else s
    finish s (t.woken n src)
  | _ => .next s

/-- The crossings of a channel whose layer wakes from off are trained: its command/address group, then its DQ group,
fixed entries verified while XR_GCTRL.FIXED_EN is 1; a channel that cannot be trained is lost (R456 to R459). -/
def State.wakeTrain (s : State) (sweep : List (Nat × BitVec 32)) (c : Fin 32) : State :=
  if (s.chan c).mode = .lost then s else
  let (t, l1) := s.trainCa c sweep (s.flag aXR_GCTRL 1)
  let (t, l2) := t.trainDq c sweep (s.flag aXR_GCTRL 1)
  if l1 || l2 then t.loseChannel c else t

/-- Some channels hold zero lines with valid check bits, and no copy of their lines is left (R410, R519). -/
def State.zeroChannels (s : State) (cs : List Nat) : State :=
  let s := s.dropLines (fun line => cs.contains (lineChannel line))
  { s with dram := s.dram.filter (fun c => !cs.contains (lineChannel (c.1 / 72))),
           links := { s.links with filled := s.links.filled.filter (fun p => !cs.contains p.1) } }

/-- LAYER_WAKE_FILL_DONE (R458, R519): the crossings of the layer are trained, its two channels are filled, and the wake
completes. -/
def execLayerWakeFillDone (n : Fin 16) (s : State) (sweep : List (Nat × BitVec 32) := []) :
    Host.Outcome State Fault Refusal :=
  let d : Fin 64 := ⟨n.val, by omega⟩
  match (s.dom d).moving with
  | some (.on, _, src) =>
    if (s.dom d).st ≠ .off ∨ s.wakeReady n = false then .next s else
    let layer := (List.finRange 32).filter (fun (c : Fin 32) => (domChannels n).contains c.val)
    let t := (layer.foldl (fun s c => s.wakeTrain sweep c) s).zeroChannels (domChannels n)
    finish s (t.woken d src)
  | _ => .next s

end Sys2Proof.Machine
end

