-- ==== Sys2Proof/Machine/Startup.lean ====
section
/-! DEFINITION. Supply, start-up steps, module reset, straps, service columns and the configuration check (R100, R109 to
R118, R410, R454, R487, R582, R583, R614 to R617, R631 to R634, R642). -/

namespace Sys2Proof.Machine

/-! Supply (R1, R109, R111, R633) -/

/-- What a word in the course of being programmed senses after a loss of power: any state (R633), chosen by free values. -/
def freeSense (x v : Word) : OtpSense :=
  match x.toNat % 4 with
  | 0 => ⟨.blank, .blank⟩
  | 1 => ⟨.word v none, .word v none⟩
  | 2 => ⟨.word v none, .word v (some ⟨x.toNat / 4 % 72, Nat.mod_lt _ (by decide)⟩)⟩
  | _ => ⟨.double, .double⟩

/-- The word that an OTP program or raise command is blowing now: 100 µs a word (R551). -/
def State.otpBlowing (s : State) : Option Nat :=
  match s.otp.cmd with
  | none => none
  | some c =>
    if c.op = 3 then some c.word
    else if c.op = 4 then c.raise[min ((s.cyc - c.started) / cycUs 100) (c.raise.length - 1)]?
    else none

/-- Words of a raise that were done before the one in progress. -/
def State.otpBlown (s : State) : List Nat :=
  match s.otp.cmd with
  | some c => if c.op = 4 then c.raise.take ((s.cyc - c.started) / cycUs 100) else []
  | none => []

/-- The array after a loss of power: words done hold their value, the one in progress is in any state. -/
def State.otpAfterLoss (s : State) : List (Nat × OtpWord) :=
  let ws := s.otpBlown.foldl (fun ws w =>
    otpPut ws w (programmed (BitVec.ofNat 64 (0xA5A5A5A500000000 + (w - 192) + 1))
      (cleanSense (BitVec.ofNat 64 (0xA5A5A5A500000000 + (w - 192) + 1)))).1) s.otp.words
  match s.otpBlowing with
  | none => ws
  | some w => otpPut ws w (classify (freeSense s.free (Config.freeWord (s.freeCtr + 1))))

/-- Everything but OTP at its reset value; the queue and the model's own log stay. -/
def State.fresh (s : State) : State :=
  { State.reset with
    pending := s.pending, outputs := s.outputs,
    freeCtr := s.freeCtr + 2,
    otp := { words := s.otpAfterLoss, cmd := none, supplyBad := 0 }, eqDigestBusy := true }

/-- POWER_UP (R109): the converter starts. -/
def execPowerUp (s : State) : Host.Outcome State Fault Refusal :=
  .next (if s.pins.converter then s else { s with pins := { s.pins with converter := true } })

/-- PWR_GOOD_RELEASE (R109, R115, R614): step 1 starts, everything but OTP at reset. With RST_N low the device is held: its
release follows the rise of RST_N. -/
def execPwrGoodRelease (s : State) (rstN : Bool := true) : Host.Outcome State Fault Refusal :=
  .next (if s.pins.converter = true ∧ s.pins.pwrGood = false then
      { s.fresh with pins := { s.fresh.pins with held := !rstN } }
    else s)

/-- POWER_LOSS (R1, R109): all state but OTP is lost. -/
def execPowerLoss (s : State) : Host.Outcome State Fault Refusal :=
  if s.pins.converter then
    let t := s.fresh
    .next { t with pins := { t.pins with converter := false, pwrGood := false } }
  else .next s

/-- The readings of 1 ms stand in MOD_SUPPLY and MOD_POWER, and the supply window of R543 follows them; the sticky flags stay
(R22, R111). -/
def State.supplyReading (s : State) (r : SupplyReading) : State :=
  let s := s.setReg aMOD_SUPPLY (packBits [(0, 16, r.vin.toNat), (16, 16, r.iin.toNat)])
  let s := s.setReg aMOD_POWER (packBits [(0, 16, r.pin.toNat), (16, 8, r.convTemp.toNat), (24, 1, bit r.convOk),
    (25, 2, s.fld aMOD_POWER 25 2)])
  let s := if 11400 ≤ r.vin.toNat ∧ r.vin.toNat ≤ 12600 then s else { s with otp := { s.otp with supplyBad := s.cyc } }
  s.supplyWatch

/-- The readings of 1 ms, and, when a limit has been passed for all of it, the flag and SUPPLY_WINDOW (R111, log 41). -/
def State.supplyLimit (s : State) (r : SupplyReading) (flag : Nat) (passed : Bool) : Host.Outcome State Fault Refusal :=
  if s.pins.pwrGood = false then .next s else
  let t := s.supplyReading r
  finish s (if passed then (t.setFlag aMOD_POWER flag true).raise 8 0 r.vin.toNat else t)

/-- VIN_LOW (R111). -/
def execVinLow (reading : SupplyReading) (s : State) : Host.Outcome State Fault Refusal :=
  s.supplyLimit reading 25 (decide (reading.vin.toNat < 10800))

/-- VIN_HIGH (R111). -/
def execVinHigh (reading : SupplyReading) (s : State) : Host.Outcome State Fault Refusal :=
  s.supplyLimit reading 26 (decide (13200 < reading.vin.toNat))

/-- AON_START_DONE (R614, step 1): the first readings stand; step 2 starts, or waits for module release (R115, R116). -/
def execAonStartDone (vin iin pin : BitVec 16) (convTemp : Byte) (s : State) (convOk : Bool := true) :
    Host.Outcome State Fault Refusal :=
  if s.pins.pwrGood = false ∨ s.fld aSU_STATUS 0 4 ≠ 1 ∨ s.pins.aonReady = true then .next s else
  let t := s.supplyReading ⟨vin, iin, pin, convTemp, convOk⟩
  let t := { t with pins := { t.pins with aonReady := true } }
  finish s (if s.pins.held then t else t.startStep 2)

/-! Module reset (R115 to R118, R631 to R634, R642) -/

/-- Registers that a module reset keeps: supply and wear, the time unit but its events and counters, what training found
and the stand-ins, the thermal rules' state (Table 15.3, R116, R496, R642). -/
def resetKeeps (a : Nat) : Bool :=
  decide (0x10004 ≤ a ∧ a ≤ 0x1000C) || decide (0x10040 ≤ a ∧ a < 0x10220) || a == aSU_RESET
    || decide (0x40000 ≤ a ∧ a ≤ 0x40030) || decide (0xB0040 ≤ a ∧ a < 0xB2000) || decide (0xB4000 ≤ a ∧ a < 0xB6000)
    || decide (0xC0004 ≤ a ∧ a ≤ 0xC0010) || decide (0xC0100 ≤ a ∧ a < 0xC0400)

/-- The OTP command in progress ends with the word it is at (R633). -/
def State.otpCut (s : State) : Option OtpCmd :=
  s.otp.cmd.map (fun c => if c.op = 4 then { c with raise := s.otpBlown ++ s.otpBlowing.toList } else c)

/-- Channels after a module reset: limp and lost stay (R472, R480). -/
def Channel.kept (ch : Channel) : Channel := { Channel.reset with mode := ch.mode }

/-- The losses of a module reset (Table 15.3). A PTM source is lost first, with the link that carries it, and then TU_EVENT
clears, so that only the TIME record of the loss remains (DESIGN CHOICE, log 41). Spares that stand in for a measurement are free
again (R463). -/
def State.moduleReset (s : State) : State :=
  let cause := s.reg aSU_RESET
  let cable := s.flag aSU_STATUS 10
  let s := ((s.links.measuring.filter (fun m => decide (m.1 < 64))).map (fun m => m.1 % 32)).foldl State.dropMeasures s.losePtm
  let t : State := { State.reset with
    pending := s.pending, freeCtr := s.freeCtr, outputs := s.outputs,
    regs := s.regs.filter (fun r => resetKeeps r.1),
    tu := { s.tu with ptmRunning := false },
    halt := { Halts.reset with thermal := s.halt.thermal, openAt := s.halt.openAt, refabDone := s.halt.refabDone,
                               lastOpen := s.halt.lastOpen, lastGrid := s.halt.lastGrid },
    chans := s.chans.map Channel.kept,
    links := { State.reset.links with survivors := s.links.survivors, serviceFailed := s.links.serviceFailed },
    therm := { s.therm with shutAt := none, drainedAt := none },
    otp := { s.otp with cmd := s.otpCut },
    mgmt := s.mgmt, cycleCopies := s.cycleCopies,
    pins := { State.reset.pins with held := true, aonReady := true, releasedAt := s.cyc } }
  let t := t.setFld aMOD_PERST 16 16 0x5555
  let t := t.setReg aSU_RESET (packBits [(0, 2, 1), (16, 16, satAt 16 (getBits cause 16 16 + 1))])
  let t := t.setFlag aSU_STATUS 10 cable
  let t := (t.setFld aTH_STATUS 4 2 0).thermPin
  t

/-- MODULE_RESET (R116, R631): a low level of RST_N is recognised, and the device is held. -/
def execModuleReset (s : State) : Host.Outcome State Fault Refusal :=
  finish s (if s.pins.pwrGood = true ∧ s.pins.held = false then s.moduleReset else s)

/-- MODULE_RELEASE (R115, R149, R616): RST_N rises and start-up resumes at step 2, once AON runs; no halt is owed for the time
held. The digest of the equalisation table, all zero, is computed. -/
def execModuleRelease (s : State) : Host.Outcome State Fault Refusal :=
  if s.pins.held = false then .next s else
  let t := { s with pins := { s.pins with held := false, releasedAt := s.cyc, strapsSampled := false }, eqDigestBusy := true,
                    halt := { s.halt with lastOpen := s.cyc, lastGrid := s.gridDue.or s.halt.lastGrid } }
  .next (if s.pins.aonReady then t.startStep 2 else t)

/-- MOD_PERST.USED of a layout. -/
def perstUsed (layout : Nat) : Nat := if layout = 1 then 0xFFFF else if layout = 2 then 0x1111 else 0x5555

/-- STRAP_SAMPLE (R117, R118): 5 µs after module release. -/
def execStrapSample (headcfg : BitVec 2) (s : State) : Host.Outcome State Fault Refusal :=
  if s.pins.pwrGood = false ∨ s.pins.held = true ∨ s.pins.strapsSampled = true ∨ s.cyc < s.pins.releasedAt + cycUs 5 then
    .next s
  else
    let rsvd := headcfg == 3
    let layout := if rsvd then 0 else headcfg.toNat
    let t := s.setReg aMOD_STRAP (packBits [(0, 2, headcfg.toNat), (2, 2, layout), (4, 1, bit rsvd)])
    let t := t.setFld aMOD_PERST 16 16 (perstUsed layout)
    let t := { t with pins := { t.pins with straps := headcfg, strapsSampled := true } }
    finish s (if rsvd then t.raise 10 0 3 else t)

/-! Steps 3 to 6 (R410, R454, R487, R614 to R616) -/

/-- STACK_CLOCK_READY: step 3 ends and step 4 starts. -/
def execStackClockReady (s : State) : Host.Outcome State Fault Refusal :=
  .next (if s.fld aSU_STATUS 0 4 = 3 ∧ s.pins.held = false then s.startStep 4 else s)

/-- Clock-column selection of a layer: columns without edges are dead; the lowest live one is selected (R487). -/
def State.bootClock (s : State) (n : Nat) (edges : BitVec 4) : State :=
  let r := aXR_CLK n
  let s := (List.range 4).foldl (fun s k => if edges.getLsbD k then s else s.setFlag r (4 + k) true) s
  match (List.range 4).find? (fun k => !s.clkDead n k) with
  | some k => s.setFld r 0 2 k
  | none =>
    let s := s.setFlag r 8 true
    if n = 0 then s.raise 82 0 0 else s.raise 81 n 0

/-- A layer has no live clock column. -/
def State.clockLost (s : State) (c : Nat) : Bool := s.flag (aXR_CLK (c / 2 + 1)) 8

/-- Boot training of a channel: its command/address group, then its DQ group; a channel that cannot be trained is lost
(R454, R459, R615). -/
def State.bootChannel (s : State) (c : Fin 32) (sweep : List (Nat × BitVec 32)) : State :=
  if (s.chan c).mode = .lost then s
  else if s.clockLost c then
    (State.loseChannel (s.setChan c { s.chan c with mode := .lost }) c).setFlag aSU_STATUS 16 true
  else
    let (t, l1) := s.trainCa c sweep false
    let (t, l2) := t.trainDq c sweep false
    if l1 || l2 then (t.loseChannel c).setFlag aSU_STATUS 16 true else t

/-- Boot training of an express group. -/
def State.bootExpress (s : State) (d l : Nat) (sweep : List (Nat × BitVec 32)) : State :=
  let s := (List.range 17).foldl (fun s w =>
    let i := expressBase d l + w
    if s.xgDead d l w then s else
    match sweepOf sweep i with
    | none => s
    | some p => match bestTap p 8 true with
      | some t => s.setTap i t
      | none => (s.killTap i).setFlag (aXR_XG d l) (10 + w) true) s
  s.refreshExpress d l

/-- A stand-in in step 4 takes the blocks it still needs and is filled (R477, R615, R632). -/
def State.bootStandin (s : State) (n : Nat) : State :=
  if s.siState n = 0 then s else
  let bs := s.siBlocks n
  let s := if s.siState n = 1 then (s.setSiBlocks n (bs ++ s.freeBlocks.take (9 - bs.length))).siForm n else s
  if s.siState n = 1 then s else s.siFill n

/-- Training in the order of R454. -/
def State.bootTrain (s : State) (sweep : List (Nat × BitVec 32)) (clocks : List (Nat × BitVec 4)) : State :=
  let s := (List.range 17).foldl (fun s n =>
    match clocks.find? (fun (p : Nat × BitVec 4) => p.1 == n) with
    | some p => s.bootClock n p.2
    | none => s) s
  let s := (List.finRange 32).foldl (fun s c => s.bootChannel c sweep) s
  let s := (List.range 128).foldl (fun s i => s.bootExpress (i / 64) (i % 64) sweep) s
  s.setFlag aXR_GSTATUS 0 true

/-- The fill: every line of DRAM and SRAM is zero, then the slots of stand-ins hold poison (R410, R632). -/
def State.bootFill (s : State) : State :=
  let s := { s with dram := [], pstore := [], cache := [], links := { s.links with filled := [] } }
  (s.bootStandin 0).bootStandin 1

/-- Steps 5 and 6 start together; a layer at its orderly-shutdown threshold starts the shutdown in place of step 5
(R614, R616). -/
def State.startLanes (s : State) : State :=
  let hot := (List.range 18).find? (fun n => match threshold n 4 with
    | some t => decide (t ≤ s.gov n)
    | none => false)
  match hot with
  | some n => (s.startStep 6).raise 90 n (s.gov n)
  | none => (s.startStep 5).startStep 6

/-- BOOT_FILL_DONE (R410, R454, R614): step 4 ends; the patrol scrubber starts. -/
def execBootFillDone (sweep : List (Nat × BitVec 32)) (clocks : List (Nat × BitVec 4)) (s : State) :
    Host.Outcome State Fault Refusal :=
  if s.fld aSU_STATUS 0 4 ≠ 4 ∨ s.pins.held = true then .next s else
  let t := (s.bootTrain sweep clocks).bootFill
  let t := State.setReg { t with integ := { t.integ with scrubStart := t.now, scrubFrom := 0 } } aSCRUB_POS 0
  finish s t.startLanes

/-! Service columns (R100) -/

/-- SERVICE_COLUMN_FAIL: eight spares, then SERVICE_COLUMNS. -/
def execServiceColumnFail (s : State) : Host.Outcome State Fault Refusal :=
  let t := { s with links := { s.links with serviceFailed := s.links.serviceFailed + 1 } }
  finish s (if 8 < t.links.serviceFailed then t.raise 9 0 t.links.serviceFailed else t)

/-! The configuration check (R582, R583) -/

/-- Every register of the table by rising address: address, RP mask, width. -/
def coveredRegs : List (Nat × Nat × Bool) :=
  sortBy (fun (r : Nat × Nat × Bool) => r.1) ((((List.range 16).flatMap regBlock).filter (fun r => r.rp != 0 && r.name != .CFG_REF)).flatMap (fun r =>
    (List.range' r.first (r.count - r.first)).flatMap (fun i => (List.range r.count2).map (fun j =>
      (r.base + i * r.stride + j * r.stride2, r.rp, r.wide)))))

/-- The check value: CRC-32C over the applied RP fields (R582). -/
def State.cfgCrc (s : State) : Nat :=
  (crc32c (coveredRegs.flatMap (fun r =>
    toBytes (if r.2.2 then 8 else 4) (s.reg r.1 &&& BitVec.ofNat 64 r.2.1).toNat))).toNat

/-- CFG_CHECK_START (R583). -/
def execCfgCheckStart (s : State) : Host.Outcome State Fault Refusal :=
  .next (if s.cfgPass.isSome then s else { s with cfgPass := some s.cyc })

/-- CFG_CHECK_DONE (R583): a pass that no strobe has abandoned. -/
def execCfgCheckDone (s : State) : Host.Outcome State Fault Refusal :=
  if s.cfgPass = none then .next s else
  let crc := s.cfgCrc
  let t := State.setReg { s with cfgPass := none } aCFG_CRC (BitVec.ofNat 64 crc)
  if t.flag aCFG_CTRL 0 = true ∧ crc ≠ t.fld aCFG_REF 0 32 then
    finish s (((t.setFlag aCFG_STATUS 0 true).bump aCFG_STATUS 24 8 1).raise 2 0 crc)
  else .next t

end Sys2Proof.Machine
end

