-- ==== Sys2Proof/Machine/TimeCmds.lean ====
section
/-! DEFINITION. The commands of the time unit: frames, marks, dialogues, steps, ALIVE and the rack-cycle pulse
(R43 to R82, R596, R611). -/

namespace Sys2Proof.Machine

/-- TU_CTRL.SRC_MODE. -/
def State.srcMode (s : State) : Nat := s.fld aTU_CTRL 0 2

/-- TLINE may be used (TU_CTRL.SRC_MODE). -/
def State.tlineUsed (s : State) : Bool := s.srcMode == 0 || s.srcMode == 1

/-- PTM may be used. -/
def State.ptmUsed (s : State) : Bool := s.srcMode == 0 || s.srcMode == 2

/-- TU_CABLE_DELAY in 1/256 ns. -/
def State.cableDelay (s : State) : Nat := s.fld aTU_CABLE_DELAY 0 24

/-! Steps and initial sets (R59 to R62, R70, R71, R73) -/

/-- At most one halt opens in a step cycle: when the skipped span holds a grid value (R73). -/
def State.stepHalt (s : State) : State :=
  match s.gridDue with
  | some v => State.haltDue { s with halt := { s.halt with lastGrid := some v } }
  | none => s

/-- ALIVE toggles when RT has entered a further 16 rack cycles, unless it has stopped; a step over several starts
toggles it once (R43, R76, R597). -/
def State.aliveBeat (s : State) : State :=
  if s.tu.aliveCycle < s.now / 512000 then
    let t := { s with tu := { s.tu with aliveCycle := s.now / 512000 } }
    if s.flag aALIVE_STATUS 1 then t else t.setFlag aALIVE_STATUS 0 (!s.flag aALIVE_STATUS 0)
  else s

/-- Pins owned for function 2 pulse when RT has entered a further rack cycle (R43, R611). -/
def State.rackBeat (s : State) : State :=
  if s.tu.pulseCycle < s.now / 32000 then
    [0, 1].foldl (fun s (pin : Nat) => if s.auxFunc pin = 2 then s.auxPulse pin else s)
      { s with tu := { s.tu with pulseCycle := s.now / 32000 } }
  else s

/-- RT is loaded, in 1/256 ns: a forward step or an initial set. Moving back fires no comparator (R71) and begins no rack
cycle. The even spacing of the scrub pass moves with RT (DESIGN CHOICE, log 36). -/
def State.loadRt (s : State) (target : Nat) (set_ : Bool) : State :=
  let old := s.now
  let s := s.endCorr
  let s := { s with tu := { s.tu with rt := BitVec.ofNat 96 (target * 2 ^ 24) } }
  let new := s.now
  let s := (s.setReg aTU_STEP_FROM (BitVec.ofNat 64 old)).setReg aTU_STEP_TO (BitVec.ofNat 64 new)
  let s := { s with tu := { s.tu with setDone := true, needSet := false, stepPending := false, pendingCorr := none,
                                      ok := true, lost := false, lastMeasured := new, prevMeasured := new } }
  let s := s.timeChange [if set_ then 0 else 1]
  let s := { s with integ := { s.integ with scrubStart := s.integ.scrubStart + new - old } }
  if old < new then (s.fireSpan old new State.stepHalt).aliveBeat.rackBeat
  else
    { s with halt := { s.halt with lastGrid := some new, secondFrom := s.halt.secondFrom - (old - new) * 2 ^ 32 },
             tu := { s.tu with aliveCycle := new / 512000, pulseCycle := new / 32000,
                               ptmLastCycle := min s.tu.ptmLastCycle (new / 32000) } }

/-! TLINE -/

/-- RT in 1/256 ns at a place given in 1/256 ns of real time after the start of this cycle, at the rate in force (R24,
R54). -/
def State.rtAt (s : State) (place : Int) : Int := ((s.tu.rt.toNat : Int) + place * (s.increment : Int) / 128) / 2 ^ 24

/-- The stamp of an edge that stands `sub` into this cycle at the pin and reaches the stamp `delay` later; the trimmed
delay is removed (R54). -/
def State.markStamp (s : State) (sub delay : Nat) : Int := s.rtAt ((sub : Int) + delay - s.tlineDelay)

/-- The mark lies within ±16 ns of local RT (last accepted mark + 32,000 ns), or no mark has been accepted (R57). -/
def TimeUnit.markInWindow (u : TimeUnit) (stamp : Int) : Bool :=
  match u.lastMark with
  | some m => decide ((stamp - (m + 32000 * 256)).natAbs ≤ 16 * 256)
  | none => true

/-- An accepted mark that an accepted frame announces, once two consistent frames have come: its error is computed (R55).
An initial set, or a confirmed step that does not move RT back, loads RT at this edge (R45, R59, R70); another mark is
measured. A step that would move RT back is dropped and the mark is measured (log 36). -/
def State.announcedMark (s : State) (stamp : Int) (ann : Nat) : State :=
  let target := ann * 256 + s.cableDelay
  let e := stamp - target
  if s.tu.stepHold then s.measure e
  else if s.tu.needSet || (s.tu.stepPending && decide (s.tu.rt.toNat ≤ target * 2 ^ 24)) then
    let shifted : Option Frame := s.tu.lastFrame.map (fun f => { f with mark := f.mark.map (fun m => m + target - stamp) })
    State.loadRt { s with tu := { s.tu with lastErr := e, lastMark := some target, lastFrame := shifted } } target s.tu.needSet
  else State.measure { s with tu := { s.tu with stepPending := false } } e

/-- CYCLE_MARK (R54 to R60, R70); `sub` is the place of the edge in its stack-clock cycle at the pin and `delay` the
fixed delay from the pin to the stamp, both in 1/256 ns. A mark outside the window of R57 is counted and otherwise
ignored. -/
def execCycleMark (sub : BitVec 7) (s : State) (delay : BitVec 16 := 0) : Host.Outcome State Fault Refusal :=
  if s.tlineUsed = false then .next s else
  let stamp := s.markStamp sub.toNat delay.toNat
  if s.tu.trust = .locked ∧ s.tu.markInWindow stamp = false then finish s (s.bump aTU_CNT_B 16 16 1) else
  let t := { s with tu := { s.tu with markSeq := s.tu.markSeq + 1, announce := none, lastMark := some stamp } }
  match s.tu.announce with
  | some ann => finish s (if s.tu.measOk then t.announcedMark stamp ann else t)
  | none => finish s t

/-- The bytes that the CRC of a frame covers, in transmission order (R50, R51). -/
def frameBytes (rt : Word) (domain flags : BitVec 16) : List Byte :=
  (toBytes 8 rt.toNat).reverse ++ (toBytes 2 domain.toNat).reverse ++ (toBytes 2 flags.toNat).reverse

/-- A dropped frame is a loss (R67). -/
def State.dropFrame (s : State) : State := s.loseTline

/-- Two consistent frames: TLINE is acquired and its base taken (R68, R81); a correction by PTM that awaits confirmation is
discarded (R59, log 23). -/
def State.acquireTline (s : State) (base : Nat) : State :=
  if s.tu.tracking ∧ s.tu.source = .tline then s else
  let was := s.tu.source
  let last := if was = .none then s.tu.lastSource else was
  let fresh := !s.tu.tracking
  let u := if was = .ptm then s.tu.discard else s.tu
  State.timeChange { s with tu := { u with tracking := true, source := .tline, lastSource := last, base := base } }
    ((if fresh then [6] else []) ++ (if last = .ptm then [9] else []))

/-- The frame is consistent with the one before it (R58). -/
def State.consistentFrame (s : State) (rt : Nat) (domain : BitVec 16) : Bool :=
  match s.tu.lastFrame, s.tu.lastMark with
  | some p, some m =>
    p.domain == domain && rt == p.rt + 32000 && p.seq + 1 == s.tu.markSeq
      && (match p.mark with
          | some pm => decide (((m : Int) - pm - 32000 * 256).natAbs ≤ 8 * 256)
          | none => false)
  | _, _ => false

/-- The base bound of TLINE by the CAL flag of its frames (R59, Table 2.3). -/
def tlineBase (flags : BitVec 16) : Nat := if flags.getLsbD 14 then 2 else 20

/-- What an accepted frame shows in TU_DOMAIN and TU_STATUS. PORT is kept nowhere, because no register or reply of the
spec carries it (DESIGN CHOICE, log 36). -/
def State.showFrame (s : State) (domain flags : BitVec 16) : State :=
  let s := s.setFld aTU_DOMAIN 16 16 domain.toNat
  { s with tu := { s.tu with duRefOk := flags.getLsbD 15, duCal := flags.getLsbD 14,
                             base := if s.tu.source = .tline then tlineBase flags else s.tu.base } }

/-- An accepted frame while TLINE may be used: a consistent one acquires TLINE and confirms, another after an accepted
frame is a loss; the next mark is the one it announces (R55, R58, R59, R67, R68). While no source is selected the base
bound stays that of the lost source until one is acquired (DESIGN CHOICE, log 36). -/
def State.acceptFrame (s : State) (r : Nat) (domain flags : BitVec 16) : State :=
  let here : Frame := { rt := r, domain := domain, mark := s.tu.lastMark, seq := s.tu.markSeq }
  if s.consistentFrame r domain then
    let t := (State.showFrame s domain flags).acquireTline (tlineBase flags)
    let t := { t with tu := { t.tu with lastFrame := some here, announce := some r, measOk := true } }
    if t.tu.source = .tline then t.confirm.retrust else t.retrust
  else
    let t := s.showFrame domain flags
    let t := if s.tu.lastFrame.isSome then (t.bump aTU_CNT_B 16 16 1).loseTline else t
    State.retrust { t with tu := { t.tu with lastFrame := some here, announce := some r, measOk := false } }

/-- THIFIN_FRAME (R50 to R52, R58, R59, R67, R68). Frames are judged, counted and reported in every source mode; where the
mode excludes TLINE they acquire, lose and measure nothing (log 23). A frame that fails both a test of TU_CNT_A and the
domain test is counted in TU_CNT_A alone (DESIGN CHOICE, log 36). -/
def execThifinFrame (sync : BitVec 16) (rt : Word) (domain flags crc : BitVec 16) (s : State) :
    Host.Outcome State Fault Refusal :=
  let r := rt.toNat
  let expect := s.fld aTU_DOMAIN 0 16
  if sync ≠ 0xB38E ∨ crc16 0x1021 0xFFFF (frameBytes rt domain flags) ≠ crc ∨ r % 32000 ≠ 0 then
    let t := s.bump aTU_CNT_A 0 16 1
    finish s (if s.tlineUsed then t.dropFrame else t)
  else if domain = 0xFFFF ∨ (expect ≠ 0xFFFF ∧ domain.toNat ≠ expect) then
    let t := s.bump aTU_CNT_B 0 16 1
    finish s (if s.tlineUsed then t.dropFrame else t)
  else if s.tlineUsed = false then .next (s.showFrame domain flags)
  else finish s (s.acceptFrame r domain flags)

/-- TLINE_FLAT: flat for 16 ns (R53, R67). -/
def execTlineFlat (inFrame : Bool) (s : State) : Host.Outcome State Fault Refusal :=
  let t := { s with tu := { s.tu with tlineLos := true } }
  let t := if inFrame then t.bump aTU_CNT_A 16 16 1 else t
  finish s (if s.tlineUsed then t.loseTline else t)

/-- TLINE_SIGNAL_RETURN (R53). -/
def execTlineSignalReturn (s : State) : Host.Outcome State Fault Refusal :=
  .next { s with tu := { s.tu with tlineLos := false } }

/-- MARK_MISSING: no mark accepted by last mark + 32,016 ns of local RT (R67). -/
def execMarkMissing (s : State) : Host.Outcome State Fault Refusal :=
  match s.tu.lastMark with
  | some m =>
    if m + 32016 * 256 ≤ s.rtAt 0 ∧ (s.tu.tracking = true ∨ s.tu.lastFrame.isSome = true) then finish s s.loseTline
    else .next s
  | none => .next s

/-! PTM (R78 to R82) -/

/-- The designated head is present with its link up (R82). -/
def State.ptmHeadUp (s : State) : Bool :=
  let k := s.fld aTU_CTRL 4 4
  s.present k && (if h : k < 16 then (s.head ⟨k, h⟩).up else false)

/-- PTM_DIALOGUE_START: every PTM_INTERVAL rack cycles (R79). -/
def execPtmDialogueStart (s : State) : Host.Outcome State Fault Refusal :=
  let k := s.now / 32000
  let every := max 1 (s.fld aTU_CTRL 8 8)
  if s.ptmUsed = true ∧ s.ptmHeadUp = true ∧ s.tu.ptmRunning = false ∧ s.tu.ptmLastCycle + every ≤ k then
    .next { s with tu := { s.tu with ptmRunning := true, ptmLastCycle := k } }
  else .next s

/-- Two consistent dialogues: PTM is acquired where no other source is selected (R68, R81). -/
def State.acquirePtm (s : State) : State :=
  let fresh := !s.tu.ptmTracking
  let s := { s with tu := { s.tu with ptmTracking := true } }
  if s.tu.source = .none then
    let last := s.tu.lastSource
    State.timeChange { s with tu := { s.tu with source := .ptm, base := 20 } }
      ((if fresh then [6] else []) ++ (if last = .tline then [9] else []))
  else s

/-- A consistent dialogue of the selected source: a set or a confirmed step loads RT, the step only where it does not
move RT back; otherwise a confirmed correction starts and the error is measured (R45, R59, R70, R80, log 36). -/
def State.usePtm (s : State) (source : Nat) (e : Int) (first : Bool) : State :=
  if s.tu.stepHold then s.measure e
  else if s.tu.needSet then State.loadRt { s with tu := { s.tu with lastErr := e } } source true
  else
    let s := if first then s else s.confirm
    if s.tu.stepPending && decide (s.tu.rt.toNat ≤ source * 2 ^ 24) then
      State.loadRt { s with tu := { s.tu with lastErr := e } } source false
    else State.measure { s with tu := { s.tu with stepPending := false } } e

/-- RT from PTM in 1/256 ns: the master time with its fraction, plus TU_PTM_OFFSET (R79). TU_CABLE_DELAY is the delay of the
TLINE cable and has no part in it (DESIGN CHOICE, log 36). -/
def State.ptmTime (s : State) (master : Word) (frac : BitVec 8) : Nat :=
  (master + s.reg aTU_PTM_OFFSET).toNat * 256 + frac.toNat

/-- A dialogue that yields an error: consistent with the one before it, PTM is acquired and used; inconsistent, PTM is
lost, and this dialogue may be the first of the next two (R67, R68, R80). -/
def State.ptmAnswer (s : State) (source : Nat) : State :=
  let e : Int := s.rtAt 0 - source
  let prev := s.tu.ptmLastErr
  let t := { s with tu := { s.tu with ptmFails := 0, ptmLastErr := some e } }
  match prev with
  | none => t
  | some p =>
    if (e - p).natAbs ≤ 20 * 256 then
      let first := t.tu.source != .ptm
      let t := t.acquirePtm
      if t.tu.source = .ptm then t.usePtm source e first else t
    else
      let t := t.losePtm
      { t with tu := { t.tu with ptmLastErr := some e } }

/-- PTM_DIALOGUE_COMPLETE: the master time with its fraction, or a failed dialogue (R67, R79 to R81). A dialogue whose head
has become absent or lost its link yields nothing (R82). A single failed dialogue leaves the last error and a correction
that awaits confirmation standing (DESIGN CHOICE, log 36). -/
def execPtmDialogueComplete (answer : Option (Word × BitVec 8)) (s : State) : Host.Outcome State Fault Refusal :=
  if s.tu.ptmRunning = false then .next s else
  let t := { s with tu := { s.tu with ptmRunning := false } }
  if s.ptmHeadUp = false then .next t else
  match answer with
  | none =>
    let t := { t with tu := { t.tu with ptmFails := t.tu.ptmFails + 1 } }
    finish s (if 2 ≤ t.tu.ptmFails then t.losePtm else t)
  | some (master, frac) => finish s (t.ptmAnswer (s.ptmTime master frac))

/-! Corrections and trust -/

/-- CORRECTION_COMPLETE: a steering or slew has removed its amount (R60). -/
def execCorrectionComplete (s : State) : Host.Outcome State Fault Refusal :=
  if s.tu.corr ≠ .none ∧ s.tu.corrLeft = 0 then finish s s.endCorr.retrust else .next s

/-- The state of Table 2.5 as every stack-clock cycle computes it (R63). -/
def cycleTrust (s : State) : Host.Outcome State Fault Refusal := finish s s.retrust

/-- BOUND_OVER_LIMIT: the growing bound has passed TU_LIMIT (R63). -/
def execBoundOverLimit (s : State) : Host.Outcome State Fault Refusal :=
  if s.trustNow = .untrusted then finish s s.retrust else .next s

/-! ALIVE and the rack-cycle pulse -/

/-- ALIVE_TOGGLE: at the start of every 16th rack cycle (R76, R596, R597). -/
def execAliveToggle (s : State) : Host.Outcome State Fault Refusal := .next s.aliveBeat

/-- RACK_CYCLE_PULSE: pins owned for function 2, in the first cycle of a rack cycle (R611). -/
def execRackCyclePulse (s : State) : Host.Outcome State Fault Refusal := .next s.rackBeat

/-- AUX_PULSE_END (R611): high for 16 ns since the last pulse that fell due. -/
def execAuxPulseEnd (pin : Fin 2) (s : State) : Host.Outcome State Fault Refusal :=
  let e := if pin = 0 then s.pins.auxEndA else s.pins.auxEndB
  match e with
  | some c =>
    if c ≤ s.cyc then
      .next (if pin = 0 then { s with pins := { s.pins with auxEndA := none } }
        else { s with pins := { s.pins with auxEndB := none } })
    else .next s
  | none => .next s

/-- AUX_A_RISING_EDGE (R601): a pulse of 8 ns or more on AUX_A, owned as the trigger input, triggers 10 ns later; the
trigger is taken by the passing of time. -/
def execAuxARisingEdge (width8ns : Bool) (s : State) : Host.Outcome State Fault Refusal :=
  if width8ns = true ∧ s.auxFunc 0 = 1 then
    .next { s with pins := { s.pins with auxTrigger := s.pins.auxTrigger.or (some (s.cyc + 20)) } }
  else .next s

/-- MGMT_VENDOR_MESSAGE (R336): event bit 11. -/
def execMgmtVendorMessage (s : State) : Host.Outcome State Fault Refusal := .next (s.notify 11)

/-- WATCHDOG_EXPIRY (R597, R598). -/
def execWatchdogExpiry (s : State) : Host.Outcome State Fault Refusal := finish s (s.raise 3 0 0)

end Sys2Proof.Machine
end

