-- ==== Sys2Proof/Machine/Dispatch.lean ====
section
/-! DEFINITION. The meaning of every command, one arm for each constructor of Instr. -/

namespace Sys2Proof.Machine

/-- The effect of a command on everything but the queue of waiting commands. -/
def exec (i : Instr) (s : State) : Host.Outcome State Fault Refusal :=
  match i with
  | .nop t f unlisted fetchFails => Sys2Proof.Machine.execNop t f s unlisted fetchFails
  | .stop t f => Sys2Proof.Machine.execStop t f s
  | .yield t f => Sys2Proof.Machine.execYield t f s
  | .yieldEnd t => Sys2Proof.Machine.execYieldEnd t s
  | .add t f => Sys2Proof.Machine.execAdd t f s
  | .sub t f => Sys2Proof.Machine.execSub t f s
  | .and t f => Sys2Proof.Machine.execAnd t f s
  | .or t f => Sys2Proof.Machine.execOr t f s
  | .xor t f => Sys2Proof.Machine.execXor t f s
  | .shl t f => Sys2Proof.Machine.execShl t f s
  | .shr t f => Sys2Proof.Machine.execShr t f s
  | .sar t f => Sys2Proof.Machine.execSar t f s
  | .mul t f => Sys2Proof.Machine.execMul t f s
  | .cmp t f => Sys2Proof.Machine.execCmp t f s
  | .movi t f => Sys2Proof.Machine.execMovi t f s
  | .movhi t f => Sys2Proof.Machine.execMovhi t f s
  | .addi t f => Sys2Proof.Machine.execAddi t f s
  | .ld t f checkFails bothFail => Sys2Proof.Machine.execLd t f checkFails s bothFail
  | .st t f => Sys2Proof.Machine.execSt t f s
  | .ldw t f checkFails bothFail => Sys2Proof.Machine.execLdw t f checkFails s bothFail
  | .stw t f => Sys2Proof.Machine.execStw t f s
  | .br t f => Sys2Proof.Machine.execBr t f s
  | .bc t f => Sys2Proof.Machine.execBc t f s
  | .call t f => Sys2Proof.Machine.execCall t f s
  | .ret t f => Sys2Proof.Machine.execRet t f s
  | .brl t f => Sys2Proof.Machine.execBrl t f s
  | .crd t f => Sys2Proof.Machine.execCrd t f s
  | .crdReturn t => Sys2Proof.Machine.execCrdReturn t s
  | .cwr t f => Sys2Proof.Machine.execCwr t f s
  | .cwrQueueEntryFree => Sys2Proof.Machine.execCwrQueueEntryFree s
  | .cwrDelivery => Sys2Proof.Machine.execCwrDelivery s
  | .upd t f => Sys2Proof.Machine.execUpd t f s
  | .updExecute t => Sys2Proof.Machine.execUpdExecute t s
  | .updt t f => Sys2Proof.Machine.execUpdt t f s
  | .tnow t f => Sys2Proof.Machine.execTnow t f s
  | .twait t f => Sys2Proof.Machine.execTwait t f s
  | .twaitEnd t => Sys2Proof.Machine.execTwaitEnd t s
  | .tarm t f => Sys2Proof.Machine.execTarm t f s
  | .tdisarm t f => Sys2Proof.Machine.execTdisarm t f s
  | .tdisarmFree t f => Sys2Proof.Machine.execTdisarmFree t f s
  | .ttrust t f => Sys2Proof.Machine.execTtrust t f s
  | .claunch t f => Sys2Proof.Machine.execClaunch t f s
  | .cwait t f => Sys2Proof.Machine.execCwait t f s
  | .cwaitEnd c => Sys2Proof.Machine.execCwaitEnd c s
  | .cstat t f => Sys2Proof.Machine.execCstat t f s
  | .cabort t f => Sys2Proof.Machine.execCabort t f s
  | .ewait t f => Sys2Proof.Machine.execEwait t f s
  | .ewaitEnd t => Sys2Proof.Machine.execEwaitEnd t s
  | .esig t f => Sys2Proof.Machine.execEsig t f s
  | .eclr t f => Sys2Proof.Machine.execEclr t f s
  | .preq t f => Sys2Proof.Machine.execPreq t f s
  | .preqComplete t => Sys2Proof.Machine.execPreqComplete t s
  | .snap t f => Sys2Proof.Machine.execSnap t f s
  | .snapRe t f => Sys2Proof.Machine.execSnapRe t f s
  | .sealArm t f => Sys2Proof.Machine.execSealArm t f s
  | .sealCancel t f => Sys2Proof.Machine.execSealCancel t f s
  | .sealRead t f => Sys2Proof.Machine.execSealRead t f s
  | .outingArm t f => Sys2Proof.Machine.execOutingArm t f s
  | .outingCancel t f => Sys2Proof.Machine.execOutingCancel t f s
  | .fault t f => Sys2Proof.Machine.execFault t f s
  | .faultWithStop t f => Sys2Proof.Machine.execFaultWithStop t f s
  | .ttHaltWrite p value => Sys2Proof.Machine.execTtHaltWrite p value s
  | .ttThawWrite p value => Sys2Proof.Machine.execTtThawWrite p value s
  | .descCopy c => Sys2Proof.Machine.execDescCopy c s
  | .descFill c => Sys2Proof.Machine.execDescFill c s
  | .descCmp c => Sys2Proof.Machine.execDescCmp c s
  | .descCrc c => Sys2Proof.Machine.execDescCrc c s
  | .descGather c => Sys2Proof.Machine.execDescGather c s
  | .descScatter c => Sys2Proof.Machine.execDescScatter c s
  | .peerwr c => Sys2Proof.Machine.execPeerwr c s
  | .peerrd c => Sys2Proof.Machine.execPeerrd c s
  | .sealcopy c bitmapFails => Sys2Proof.Machine.execSealcopy c s bitmapFails
  | .waitt c => Sys2Proof.Machine.execWaitt c s
  | .waittExternal c => Sys2Proof.Machine.execWaittExternal c s
  | .notify c => Sys2Proof.Machine.execNotify c s
  | .descLink c => Sys2Proof.Machine.execDescLink c s
  | .descEnd c => Sys2Proof.Machine.execDescEnd c s
  | .descriptorComplete c => Sys2Proof.Machine.execDescriptorComplete c s
  | .waittDeadline c => Sys2Proof.Machine.execWaittDeadline c s
  | .carriageTimeout c => Sys2Proof.Machine.execCarriageTimeout c s
  | .uioCompletion c index status poisoned data => Sys2Proof.Machine.execUioCompletion c index status poisoned s data
  | .carThaw p value => Sys2Proof.Machine.execCarThaw p value s
  | .sealHoldCopyDone idx granule bitmapFails => Sys2Proof.Machine.execSealHoldCopyDone idx granule s bitmapFails
  | .memRd k addr tag extents => Sys2Proof.Machine.execMemRd k addr tag s extents
  | .memRdData k addr tag extents => Sys2Proof.Machine.execMemRdData k addr tag s extents
  | .memInv k addr tag extents => Sys2Proof.Machine.execMemInv k addr tag s extents
  | .memSpecRd k addr tag extents => Sys2Proof.Machine.execMemSpecRd k addr tag s extents
  | .memWr k addr data tag extents => Sys2Proof.Machine.execMemWr k addr data tag s extents
  | .memWrPtl k addr data mask tag extents => Sys2Proof.Machine.execMemWrPtl k addr data mask tag s extents
  | .uioMemoryRead k addr tag len extents => Sys2Proof.Machine.execUioMemoryRead k addr tag s len extents
  | .uioMemoryWrite k addr data enables tag poisoned extents => Sys2Proof.Machine.execUioMemoryWrite k addr data enables tag s poisoned extents
  | .flitCrcFail k => Sys2Proof.Machine.execFlitCrcFail k s
  | .cxlIoConfigAccess k access => Sys2Proof.Machine.execCxlIoConfigAccess k access s
  | .freezeWindowEnd k => Sys2Proof.Machine.execFreezeWindowEnd k s
  | .deviceLoadEval => Sys2Proof.Machine.execDeviceLoadEval s
  | .regulationAdmit who cacheFails stagingFails => Sys2Proof.Machine.execRegulationAdmit who cacheFails s stagingFails
  | .poolEntryGrant index => Sys2Proof.Machine.execPoolEntryGrant index s
  | .writeAccept index bitmapFails => Sys2Proof.Machine.execWriteAccept index s bitmapFails
  | .channelCommandPick c repairMap journal => Sys2Proof.Machine.execChannelCommandPick c s repairMap journal
  | .dramReadData c errors => Sys2Proof.Machine.execDramReadData c errors s
  | .dramWriteDone c => Sys2Proof.Machine.execDramWriteDone c s
  | .ueRetry c errors => Sys2Proof.Machine.execUeRetry c errors s
  | .haltPreclose => Sys2Proof.Machine.execHaltPreclose s
  | .haltActStop => Sys2Proof.Machine.execHaltActStop s
  | .haltOpen => Sys2Proof.Machine.execHaltOpen s
  | .haltRefab => Sys2Proof.Machine.execHaltRefab s
  | .haltWindowEnd => Sys2Proof.Machine.execHaltWindowEnd s
  | .deferredHaltOpen => Sys2Proof.Machine.execDeferredHaltOpen s
  | .fallbackCommit => Sys2Proof.Machine.execFallbackCommit s
  | .fallbackHalt => Sys2Proof.Machine.execFallbackHalt s
  | .thifinFrame sync rt domain flags crc => Sys2Proof.Machine.execThifinFrame sync rt domain flags crc s
  | .cycleMark sub delay => Sys2Proof.Machine.execCycleMark sub s delay
  | .tlineFlat inFrame => Sys2Proof.Machine.execTlineFlat inFrame s
  | .markMissing => Sys2Proof.Machine.execMarkMissing s
  | .ptmDialogueStart => Sys2Proof.Machine.execPtmDialogueStart s
  | .ptmDialogueComplete answer => Sys2Proof.Machine.execPtmDialogueComplete answer s
  | .correctionComplete => Sys2Proof.Machine.execCorrectionComplete s
  | .boundOverLimit => Sys2Proof.Machine.execBoundOverLimit s
  | .tuAckWrite p value => Sys2Proof.Machine.execTuAckWrite p value s
  | .tuRtRead p => Sys2Proof.Machine.execTuRtRead p s
  | .comparatorFire n => Sys2Proof.Machine.execComparatorFire n s
  | .tcCtrlWrite p n value => Sys2Proof.Machine.execTcCtrlWrite p n value s
  | .tcValueWrite p n value => Sys2Proof.Machine.execTcValueWrite p n value s
  | .aliveToggle => Sys2Proof.Machine.execAliveToggle s
  | .losAssert l linkIdle => Sys2Proof.Machine.execLosAssert l linkIdle s
  | .losDeassert l => Sys2Proof.Machine.execLosDeassert l s
  | .lolAssert l linkIdle => Sys2Proof.Machine.execLolAssert l s linkIdle
  | .lolDeassert l => Sys2Proof.Machine.execLolDeassert l s
  | .perstNAssert m => Sys2Proof.Machine.execPerstNAssert m s
  | .perstNDeassert m => Sys2Proof.Machine.execPerstNDeassert m s
  | .linkTrainingStart k undetected skewed reversed inverted compliance => Sys2Proof.Machine.execLinkTrainingStart k undetected skewed reversed s inverted compliance
  | .linkUp k rate precode => Sys2Proof.Machine.execLinkUp k rate s precode
  | .directedSpeedChange k => Sys2Proof.Machine.execDirectedSpeedChange k s
  | .speedChangeComplete k rate precode => Sys2Proof.Machine.execSpeedChangeComplete k rate s precode
  | .eqPhase3Request l r request => Sys2Proof.Machine.execEqPhase3Request l r request s
  | .eqRedoRequest l r => Sys2Proof.Machine.execEqRedoRequest l r s
  | .eqBypassRequest k => Sys2Proof.Machine.execEqBypassRequest k s
  | .deskewDriftOverflow l => Sys2Proof.Machine.execDeskewDriftOverflow l s
  | .recoveryFailure k => Sys2Proof.Machine.execRecoveryFailure k s
  | .hotReset k => Sys2Proof.Machine.execHotReset k s
  | .linkDisable k => Sys2Proof.Machine.execLinkDisable k s
  | .loopbackFollowerEntry k => Sys2Proof.Machine.execLoopbackFollowerEntry k s
  | .lnTestEnable p l value => Sys2Proof.Machine.execLnTestEnable p l value s
  | .lnTestDisable p l value => Sys2Proof.Machine.execLnTestDisable p l value s
  | .injectSingle p l value => Sys2Proof.Machine.execInjectSingle p l value s
  | .injectBurst p l value => Sys2Proof.Machine.execInjectBurst p l value s
  | .injectRate p l value => Sys2Proof.Machine.execInjectRate p l value s
  | .injectStop p l value => Sys2Proof.Machine.execInjectStop p l value s
  | .injectDone l => Sys2Proof.Machine.execInjectDone l s
  | .checkerSync l errors => Sys2Proof.Machine.execCheckerSync l s errors
  | .checkerSyncLoss l => Sys2Proof.Machine.execCheckerSyncLoss l s
  | .eqDigestDone => Sys2Proof.Machine.execEqDigestDone s
  | .getEventRecords k log count => Sys2Proof.Machine.execGetEventRecords k log count s
  | .clearEventRecords k log count => Sys2Proof.Machine.execClearEventRecords k log count s
  | .getEventInterruptPolicy k => Sys2Proof.Machine.execGetEventInterruptPolicy k s
  | .setEventInterruptPolicy k policy => Sys2Proof.Machine.execSetEventInterruptPolicy k policy s
  | .getFwInfo k => Sys2Proof.Machine.execGetFwInfo k s
  | .transferFw p slot offset data last => Sys2Proof.Machine.execTransferFw p slot offset data s last
  | .activateFw p slot action => Sys2Proof.Machine.execActivateFw p s slot action
  | .activationThreadsQuiesced => Sys2Proof.Machine.execActivationThreadsQuiesced s
  | .activationStopWaitExpiry => Sys2Proof.Machine.execActivationStopWaitExpiry s
  | .imageLoadDone => Sys2Proof.Machine.execImageLoadDone s
  | .getTimestamp k => Sys2Proof.Machine.execGetTimestamp k s
  | .setTimestamp k value other => Sys2Proof.Machine.execSetTimestamp k value s other
  | .getSupportedLogs k => Sys2Proof.Machine.execGetSupportedLogs k s
  | .getLog k commandEffects => Sys2Proof.Machine.execGetLog k s commandEffects
  | .identifyMemoryDevice k => Sys2Proof.Machine.execIdentifyMemoryDevice k s
  | .getHealthInfo k => Sys2Proof.Machine.execGetHealthInfo k s
  | .getPoisonList k => Sys2Proof.Machine.execGetPoisonList k s
  | .injectPoison k dpa => Sys2Proof.Machine.execInjectPoison k dpa s
  | .clearPoison k dpa data => Sys2Proof.Machine.execClearPoison k dpa data s
  | .getDynamicCapacityConfiguration k => Sys2Proof.Machine.execGetDynamicCapacityConfiguration k s
  | .getDynamicCapacityExtentList k => Sys2Proof.Machine.execGetDynamicCapacityExtentList k s
  | .addDynamicCapacityResponse k dpa len => Sys2Proof.Machine.execAddDynamicCapacityResponse k dpa len s
  | .releaseDynamicCapacity k dpa len => Sys2Proof.Machine.execReleaseDynamicCapacity k dpa len s
  | .getHaltTimetable k => Sys2Proof.Machine.execGetHaltTimetable k s
  | .getTimeState k => Sys2Proof.Machine.execGetTimeState k s
  | .getHeadState k head => Sys2Proof.Machine.execGetHeadState k head s
  | .getFloor k => Sys2Proof.Machine.execGetFloor k s
  | .getIdentityKey k => Sys2Proof.Machine.execGetIdentityKey k s
  | .fmInformationAndStatus p => Sys2Proof.Machine.execFmInformationAndStatus p s
  | .fmEvents p log clear count => Sys2Proof.Machine.execFmEvents p log clear count s
  | .getMultiHeadedInfo p => Sys2Proof.Machine.execGetMultiHeadedInfo p s
  | .getHeadInfo p head => Sys2Proof.Machine.execGetHeadInfo p head s
  | .getDcdInfo p => Sys2Proof.Machine.execGetDcdInfo p s
  | .getHostDcRegionConfiguration p head => Sys2Proof.Machine.execGetHostDcRegionConfiguration p head s
  | .setDcRegionConfiguration p head blockSize => Sys2Proof.Machine.execSetDcRegionConfiguration p head blockSize s
  | .getDcRegionExtentLists p head => Sys2Proof.Machine.execGetDcRegionExtentLists p head s
  | .initiateDynamicCapacityAdd p head dpa len tag => Sys2Proof.Machine.execInitiateDynamicCapacityAdd p head dpa len tag s
  | .initiateDynamicCapacityRelease p head dpa len => Sys2Proof.Machine.execInitiateDynamicCapacityRelease p head dpa len s
  | .zeroFillDone block => Sys2Proof.Machine.execZeroFillDone block s
  | .readRegister p addr width => Sys2Proof.Machine.execReadRegister p addr width s
  | .writeRegister p addr width value => Sys2Proof.Machine.execWriteRegister p addr width value s
  | .thawHead p head => Sys2Proof.Machine.execThawHead p head s
  | .fmGetHeadState p head => Sys2Proof.Machine.execFmGetHeadState p head s
  | .fmGetIdentityKey p => Sys2Proof.Machine.execFmGetIdentityKey p s
  | .i3cEntdaa addr => Sys2Proof.Machine.execI3cEntdaa addr s
  | .setEndpointId p eid => Sys2Proof.Machine.execSetEndpointId p eid s
  | .getVersion ch => Sys2Proof.Machine.execGetVersion ch s
  | .getCapabilities ch => Sys2Proof.Machine.execGetCapabilities ch s
  | .negotiateAlgorithms ch selection => Sys2Proof.Machine.execNegotiateAlgorithms ch selection s
  | .challenge ch request => Sys2Proof.Machine.execChallenge ch request s
  | .getMeasurements ch index signed request => Sys2Proof.Machine.execGetMeasurements ch index signed request s
  | .spdmUnsupportedRequest ch code => Sys2Proof.Machine.execSpdmUnsupportedRequest ch code s
  | .cdatTableAccess k => Sys2Proof.Machine.execCdatTableAccess k s
  | .lcFlush p value => Sys2Proof.Machine.execLcFlush p value s
  | .lcFlushDone => Sys2Proof.Machine.execLcFlushDone s
  | .scrubRead retiredA retiredB => Sys2Proof.Machine.execScrubRead retiredA retiredB s
  | .scrubLag => Sys2Proof.Machine.execScrubLag s
  | .caParityAlert c => Sys2Proof.Machine.execCaParityAlert c s
  | .channelRetrainDone c sweep => Sys2Proof.Machine.execChannelRetrainDone c sweep s
  | .replayDone c copies => Sys2Proof.Machine.execReplayDone c s copies
  | .replaySpill c => Sys2Proof.Machine.execReplaySpill c s
  | .replayLimitExpiry c => Sys2Proof.Machine.execReplayLimitExpiry c s
  | .rowRepair p value => Sys2Proof.Machine.execRowRepair p value s
  | .rowRepairDone errors => Sys2Proof.Machine.execRowRepairDone s errors
  | .retirePage p value => Sys2Proof.Machine.execRetirePage p value s
  | .recalChangeInstant c => Sys2Proof.Machine.execRecalChangeInstant c s
  | .sweepDone wire passing => Sys2Proof.Machine.execSweepDone wire passing s
  | .expressRecalTick d l => Sys2Proof.Machine.execExpressRecalTick d l s
  | .missingClock n => Sys2Proof.Machine.execMissingClock n s
  | .clockColumnWatch n silent => Sys2Proof.Machine.execClockColumnWatch n silent s
  | .standinFillDone n => Sys2Proof.Machine.execStandinFillDone n s
  | .thermalEvaluation n first others => Sys2Proof.Machine.execThermalEvaluation n first others s
  | .canaryInterval n flips => Sys2Proof.Machine.execCanaryInterval n flips s
  | .graceExpiry => Sys2Proof.Machine.execGraceExpiry s
  | .shutdownDrainDone => Sys2Proof.Machine.execShutdownDrainDone s
  | .shutdownPowerDown => Sys2Proof.Machine.execShutdownPowerDown s
  | .shutdownTimeout => Sys2Proof.Machine.execShutdownTimeout s
  | .mgmtPowerRequest p value => Sys2Proof.Machine.execMgmtPowerRequest p value s
  | .domainTransitionDone n => Sys2Proof.Machine.execDomainTransitionDone n s
  | .domainWakeDone n failed => Sys2Proof.Machine.execDomainWakeDone n failed s
  | .layerWakeFillDone n sweep => Sys2Proof.Machine.execLayerWakeFillDone n s sweep
  | .otpNormalRead p word => Sys2Proof.Machine.execOtpNormalRead p word s
  | .otpStrictRead p word => Sys2Proof.Machine.execOtpStrictRead p word s
  | .otpDualRead p word => Sys2Proof.Machine.execOtpDualRead p word s
  | .otpProgram p word => Sys2Proof.Machine.execOtpProgram p word s
  | .otpRaiseCounter p word => Sys2Proof.Machine.execOtpRaiseCounter p word s
  | .otpCommandDone sensed => Sys2Proof.Machine.execOtpCommandDone sensed s
  | .otpBootReadDone sensed => Sys2Proof.Machine.execOtpBootReadDone sensed s
  | .identityDerived => Sys2Proof.Machine.execIdentityDerived s
  | .ctlUpdNow p value => Sys2Proof.Machine.execCtlUpdNow p value s
  | .ctlUpdDiscard p value => Sys2Proof.Machine.execCtlUpdDiscard p value s
  | .cfgCheckStart => Sys2Proof.Machine.execCfgCheckStart s
  | .cfgCheckDone => Sys2Proof.Machine.execCfgCheckDone s
  | .severeClear p n value => Sys2Proof.Machine.execSevereClear p n value s
  | .fcFirstClear p value => Sys2Proof.Machine.execFcFirstClear p value s
  | .watchdogExpiry => Sys2Proof.Machine.execWatchdogExpiry s
  | .snapCtrlFire p value => Sys2Proof.Machine.execSnapCtrlFire p value s
  | .snapCtrlRearm p value => Sys2Proof.Machine.execSnapCtrlRearm p value s
  | .auxARisingEdge width8ns => Sys2Proof.Machine.execAuxARisingEdge width8ns s
  | .auxPulseEnd pin => Sys2Proof.Machine.execAuxPulseEnd pin s
  | .ownClaimImg p value => Sys2Proof.Machine.execOwnClaimImg p value s
  | .ownReleaseImg p value => Sys2Proof.Machine.execOwnReleaseImg p value s
  | .ownClaimFm p value => Sys2Proof.Machine.execOwnClaimFm p value s
  | .ownReleaseFm p value => Sys2Proof.Machine.execOwnReleaseFm p value s
  | .suOpen p value => Sys2Proof.Machine.execSuOpen p value s
  | .registerWrite p addr width value => Sys2Proof.Machine.execRegisterWrite p addr width value s
  | .powerUp => Sys2Proof.Machine.execPowerUp s
  | .pwrGoodRelease rstN => Sys2Proof.Machine.execPwrGoodRelease s rstN
  | .powerLoss => Sys2Proof.Machine.execPowerLoss s
  | .vinLow reading => Sys2Proof.Machine.execVinLow reading s
  | .vinHigh reading => Sys2Proof.Machine.execVinHigh reading s
  | .moduleReset => Sys2Proof.Machine.execModuleReset s
  | .moduleRelease => Sys2Proof.Machine.execModuleRelease s
  | .strapSample headcfg => Sys2Proof.Machine.execStrapSample headcfg s
  | .stackClockReady => Sys2Proof.Machine.execStackClockReady s
  | .bootFillDone sweep clocks => Sys2Proof.Machine.execBootFillDone sweep clocks s
  | .registerRead k addr width => Sys2Proof.Machine.execRegisterRead k addr width s
  | .imageChecksDone => Sys2Proof.Machine.execImageChecksDone s
  | .aonStartDone vin iin pin convTemp convOk => Sys2Proof.Machine.execAonStartDone vin iin pin convTemp s convOk
  | .rackCyclePulse => Sys2Proof.Machine.execRackCyclePulse s
  | .tlineSignalReturn => Sys2Proof.Machine.execTlineSignalReturn s
  | .mgmtVendorMessage => Sys2Proof.Machine.execMgmtVendorMessage s
  | .serviceColumnFail => Sys2Proof.Machine.execServiceColumnFail s
  | .linkRecoveryEntry k => Sys2Proof.Machine.execLinkRecoveryEntry k s
  | .linkRecoveryExit k => Sys2Proof.Machine.execLinkRecoveryExit k s

end Sys2Proof.Machine
end

