-- ==== Sys2Proof/Machine/Tick.lean ====
section
/-! DEFINITION. The passing of one stack-clock cycle: what an empty queue stands for (log 35). The clocks, RT, the
credits and the cycle counters advance; then the events whose instant the manual fixes take effect, in the order of
R28, each by the command of its row. -/

namespace Sys2Proof.Machine

/-- A meaning of a row. -/
abbrev Meaning := State → Host.Outcome State Fault Refusal

/-- A meaning run for its next state. -/
def State.running (s : State) (f : Meaning) : State :=
  match f s with
  | .next t => t
  | .fault _ => s
  | .refused _ => s

/-- What a running correction has still to remove after a cycle, in 2^-32 ns (R60, Table 2.1). -/
def State.corrAfter (s : State) : Int :=
  let nominal := ({ s with tu := { s.tu with corr := .none } } : State).increment
  let d : Int := (nominal : Int) - (s.increment : Int)
  if s.tu.corr = .none then s.tu.corrLeft
  else if 0 < s.tu.corrLeft then max 0 (s.tu.corrLeft - max 0 d)
  else min 0 (s.tu.corrLeft + max 0 (-d))

/-- What the snapshot registers of a cycle latch: every source of Table 14.6 as it stood before the cycle (R28, R599). -/
def State.copyCycle (s : State) : State := { s with cycleCopies := snapTable.map (fun p => (p.1, s.peek p.2)) }

/-- RT and the stack clock advance (R24, R42). In the first cycle of an engine cycle the RT that the previous one left is
noted (R23, R301). -/
def State.advanceClock (s : State) : State :=
  { s with tu := { s.tu with rt := s.tu.rt + BitVec.ofNat 96 s.increment, cycle := s.tu.cycle + 1, corrLeft := s.corrAfter,
                             engNow := if s.tu.cycle % 2 = 1 then s.now else s.tu.engNow } }

/-- A head's request waits on regulation credits: nothing but the guarantee bucket and the weight rounds keeps it from
admission (R269 to R271, R193). -/
def State.waitsForCredit (s : State) (k : Fin 16) : Bool :=
  !s.poolBlocked k && decide (s.bucket k < 1024) && decide (s.missCount < 1536)

/-- A master with a request that waits at admission counts the cycle (REG_M_WAIT); a head counts it for Table 5.4 when it
waits on credits, so that halts do not affect its load (R193). -/
def State.countWait (s : State) (m : Nat) : State :=
  if h : m < 16 then
    if s.mayGo m then
      let t := s.bump (aREG_M_WAIT m) 0 32 1
      if s.waitsForCredit ⟨m, h⟩ then
        t.setHead ⟨m, h⟩ { t.head ⟨m, h⟩ with waitCycles := (t.head ⟨m, h⟩).waitCycles + 1 }
      else t
    else s
  else if s.mayGo m then s.bump (aREG_M_WAIT m) 0 32 1
  else s

/-- What every cycle does by itself: the floor and scale that the last cycle's conditions give come into force, waiting
requests are counted, credits come in, installs that waited are tried again, lanes carry bits, and carriages and hold
copies look again for work. -/
def State.cycleWork (s : State) : State :=
  let s := (List.range 17).foldl State.countWait s.refloor
  let s := s.fillBuckets.retryInstalls
  let s := (List.range 64).foldl State.laneCycle s
  let s := (List.finRange 32).foldl State.carGo s
  (List.finRange 4).foldl State.holdFill s

/-- The trigger of AUX_A takes effect 10 ns after the edge (R601). -/
def State.auxSnap (s : State) : State :=
  match s.pins.auxTrigger with
  | some c =>
    if c ≤ s.cyc then
      let t := { s with pins := { s.pins with auxTrigger := none } }
      State.settle s (if t.flag aSNAP_CTRL 5 then t.snapTrigger 5 0 0 else t)
    else s
  | none => s

/-- The comparators that are due, with the targets of one place of R28. -/
def State.dueComparators (s : State) (targets : List Nat) : List Meaning :=
  ((List.finRange 64).filter (fun (n : Fin 64) => s.tcDue n && targets.contains (s.tcTarget n))).map execComparatorFire

/-- The events of R28 in its order up to the launches: snapshots, seal boundaries, halts, launches; then the waits of
threads, which end in the first cycle of an engine cycle (R23, R301, R329). -/
def State.cycleEvents (s : State) : List Meaning :=
  let engine : List Meaning := if s.cyc % 2 = 0 then
    (List.finRange 8).flatMap (fun t => [execYieldEnd t, execTwaitEnd t, execEwaitEnd t])
      ++ (List.finRange 32).map execCwaitEnd else []
  [execHaltWindowEnd] ++ s.dueComparators [4] ++ s.dueComparators [6]
    ++ [execDeferredHaltOpen, execHaltOpen, execFallbackHalt, execHaltPreclose, execHaltActStop, execHaltRefab, execFallbackCommit]
    ++ s.dueComparators [0, 1, 2, 5, 7] ++ engine

/-- Deadlines, ends of windows and periodic work of a cycle (R63, R67, R76, R79, R193, R203, R353, R367, R373, R428,
R443, R444, R460, R508, R513, R514, R583, R611). -/
def State.cycleDeadlines (s : State) : List Meaning :=
  [execCorrectionComplete, execMarkMissing, cycleTrust, execPtmDialogueStart]
    ++ (if s.cyc % cycUs 1 = 0 then [execDeviceLoadEval] else [])
    ++ (if s.cyc % cycUs 100 = 0 then [execCfgCheckStart] else [])
    ++ [execAliveToggle, execRackCyclePulse, execAuxPulseEnd 0, execAuxPulseEnd 1]
    ++ (List.finRange 16).map execFreezeWindowEnd
    ++ (List.finRange 32).flatMap (fun c => [execWaittDeadline c, execCarriageTimeout c, execRecalChangeInstant c, execReplaySpill c,
                                            execReplayLimitExpiry c])
    ++ [execActivationThreadsQuiesced, execActivationStopWaitExpiry, execScrubLag, execGraceExpiry, execShutdownDrainDone,
        execShutdownPowerDown, execShutdownTimeout]

/-- The update strobes of a cycle: they apply last, so that the new configuration governs from the next cycle (R28,
R324). -/
def State.cycleStrobes (s : State) : List Meaning :=
  s.dueComparators [3] ++ (if s.cyc % 2 = 0 then (List.finRange 8).map execUpdExecute else [])

/-- One stack-clock cycle. Without power nothing happens (R24, R610). -/
def State.tick (s : State) : State :=
  if s.pins.pwrGood then
    let b := s.copyCycle
    let t := (State.settle b b.advanceClock.cycleWork).auxSnap
    let t := t.cycleEvents.foldl State.running t
    let t := t.cycleDeadlines.foldl State.running t
    t.cycleStrobes.foldl State.running t
  else s

end Sys2Proof.Machine
end

