-- ==== Sys2Proof/Safety.lean ====
section
/-! DEFINITION. What counts as a good state and a good run: the representation invariants of State, and completion. -/

namespace Sys2Proof.Machine

/-- The register store is in canonical form: addresses strictly rising, no entry at its reset value. -/
def State.regsWf (s : State) : Bool := sparseWf regReset s.regs

/-- The program store is in canonical form. -/
def State.pstoreWf (s : State) : Bool := Memory.wf s.pstore

/-- DRAM is in canonical form. -/
def State.dramWf (s : State) : Bool := Memory.wf s.dram

/-- The stores of the block are in canonical form, so equal contents are equal data. -/
def State.wf (s : State) : Bool := s.regsWf && s.pstoreWf && s.dramWf

/-- A command completes: it answers a next state. -/
def Completes (i : Instr) (s : State) : Prop := ∃ t, exec i s = .next t

/-- A step completes. -/
def StepCompletes (s : State) : Prop := ∃ t, step s = .next t

end Sys2Proof.Machine
end

