-- ==== Sys2Proof/WellFormed.lean ====
section
/-! DEFINITION. Which commands the outside world can form: the widths and ranges of the messages and wires that carry
their operands. The meanings are total, so nothing rests on these checks but what says so. -/

namespace Sys2Proof

/-- A DPA or a length in a 64-bit field of a message (R180, R184). -/
def dpaOk (n : Nat) : Bool := decide (n < 2 ^ 64)

/-- A tag of 16 bits. -/
def tagOk (n : Nat) : Bool := decide (n < 2 ^ 16)

/-- A number of records. -/
def countOk (n : Nat) : Bool := decide (n < 2 ^ 16)

/-- A register access has 4 or 8 bytes (R568). -/
def widthOk (n : Nat) : Bool := n == 4 || n == 8

/-- An address of the register space, 1 MiB (R209). -/
def addrOk (a : Nat) : Bool := decide (a < 2 ^ 20)

/-- A UIO request: 1 to 256 bytes that do not cross a 256-byte boundary (R376, R378). -/
def uioOk (a n : Nat) : Bool := dpaOk a && decide (0 < n ∧ a % 256 + n ≤ 256)

/-- Symbol errors of a burst: each of the 72 symbols at most once (R402). -/
def symbolsOk (l : List (Nat × Byte)) : Bool :=
  l.all (fun (p : Nat × Byte) => decide (p.1 < 72)) && decide ((l.map (fun (p : Nat × Byte) => p.1)).Nodup)

/-- A path that carries the FM API (R205). -/
def fmPath : Path → Bool
  | .i3c => true
  | .vdm => true
  | .head _ => false
  | .thread _ => false
  | .mc => false

/-- A path that carries images and SPDM: a head's mailbox or the FM API (R211, R561). -/
def imagePath : Path → Bool
  | .head _ => true
  | .i3c => true
  | .vdm => true
  | .thread _ => false
  | .mc => false

/-- The opcodes of Tables 8.7 to 8.16. -/
def listedOpcodes : List Nat :=
  [0x00, 0x01, 0x02] ++ List.range' 0x10 13 ++ List.range' 0x20 4 ++ List.range' 0x30 5 ++ List.range' 0x40 4
    ++ List.range' 0x50 5 ++ List.range' 0x60 4 ++ [0x70, 0x71, 0x72, 0x80, 0x90, 0x91, 0x92, 0xA0]

/-- The opcodes of the commands of Tables 5.7 and 5.8; those that the tables name without a number are the ones of CXL 3.1
(PRESUMED, log 7). -/
def listedCommands : List Nat :=
  [0x0100, 0x0101, 0x0102, 0x0103, 0x0200, 0x0201, 0x0202, 0x0300, 0x0301, 0x0400, 0x0401, 0x4000, 0x4200, 0x4300, 0x4301,
   0x4302, 0x4800, 0x4801, 0x4802, 0x4803, 0xC000, 0xC001, 0xC002, 0xC003, 0xC004]

/-- A command that the outside world can form. -/
def Instr.wellFormed : Instr → Bool
  | .nop _ _ unlisted _ => match unlisted with
    | some op => !listedOpcodes.contains op.toNat
    | none => true
  | .stop _ _ => true
  | .yield _ _ => true
  | .yieldEnd _ => true
  | .add _ _ => true
  | .sub _ _ => true
  | .and _ _ => true
  | .or _ _ => true
  | .xor _ _ => true
  | .shl _ _ => true
  | .shr _ _ => true
  | .sar _ _ => true
  | .mul _ _ => true
  | .cmp _ _ => true
  | .movi _ _ => true
  | .movhi _ _ => true
  | .addi _ _ => true
  | .ld _ _ checkFails bothFail => checkFails || !bothFail
  | .st _ _ => true
  | .ldw _ _ checkFails bothFail => checkFails || !bothFail
  | .stw _ _ => true
  | .br _ _ => true
  | .bc _ _ => true
  | .call _ _ => true
  | .ret _ _ => true
  | .brl _ _ => true
  | .crd _ _ => true
  | .crdReturn _ => true
  | .cwr _ _ => true
  | .cwrQueueEntryFree => true
  | .cwrDelivery => true
  | .upd _ _ => true
  | .updExecute _ => true
  | .updt _ _ => true
  | .tnow _ _ => true
  | .twait _ _ => true
  | .twaitEnd _ => true
  | .tarm _ _ => true
  | .tdisarm _ _ => true
  | .tdisarmFree _ _ => true
  | .ttrust _ _ => true
  | .claunch _ _ => true
  | .cwait _ _ => true
  | .cwaitEnd _ => true
  | .cstat _ _ => true
  | .cabort _ _ => true
  | .ewait _ _ => true
  | .ewaitEnd _ => true
  | .esig _ _ => true
  | .eclr _ _ => true
  | .preq _ _ => true
  | .preqComplete _ => true
  | .snap _ _ => true
  | .snapRe _ _ => true
  | .sealArm _ _ => true
  | .sealCancel _ _ => true
  | .sealRead _ _ => true
  | .outingArm _ _ => true
  | .outingCancel _ _ => true
  | .fault _ _ => true
  | .faultWithStop _ _ => true
  | .ttHaltWrite _ _ => true
  | .ttThawWrite _ _ => true
  | .descCopy _ => true
  | .descFill _ => true
  | .descCmp _ => true
  | .descCrc _ => true
  | .descGather _ => true
  | .descScatter _ => true
  | .peerwr _ => true
  | .peerrd _ => true
  | .sealcopy _ _ => true
  | .waitt _ => true
  | .waittExternal _ => true
  | .notify _ => true
  | .descLink _ => true
  | .descEnd _ => true
  | .descriptorComplete _ => true
  | .waittDeadline _ => true
  | .carriageTimeout _ => true
  | .uioCompletion _ _ _ _ data => decide (data.length ≤ 256)
  | .carThaw _ _ => true
  | .sealHoldCopyDone _ granule _ => decide (granule < 2 ^ 24)
  | .memRd _ addr tag _ => dpaOk addr && tagOk tag
  | .memRdData _ addr tag _ => dpaOk addr && tagOk tag
  | .memInv _ addr tag _ => dpaOk addr && tagOk tag
  | .memSpecRd _ addr tag _ => dpaOk addr && tagOk tag
  | .memWr _ addr _ tag _ => dpaOk addr && tagOk tag
  | .memWrPtl _ addr _ _ tag _ => dpaOk addr && tagOk tag
  | .uioMemoryRead _ addr tag len _ => uioOk addr len && tagOk tag
  | .uioMemoryWrite _ addr data _ tag _ _ => uioOk addr data.length && tagOk tag
  | .flitCrcFail _ => true
  | .cxlIoConfigAccess _ _ => true
  | .freezeWindowEnd _ => true
  | .deviceLoadEval => true
  | .regulationAdmit _ _ _ => true
  | .poolEntryGrant _ => true
  | .writeAccept _ _ => true
  | .channelCommandPick _ _ _ => true
  | .dramReadData _ errors => symbolsOk errors
  | .dramWriteDone _ => true
  | .ueRetry _ errors => symbolsOk errors
  | .haltPreclose => true
  | .haltActStop => true
  | .haltOpen => true
  | .haltRefab => true
  | .haltWindowEnd => true
  | .deferredHaltOpen => true
  | .fallbackCommit => true
  | .fallbackHalt => true
  | .thifinFrame _ _ _ _ _ => true
  | .cycleMark _ _ => true
  | .tlineFlat _ => true
  | .markMissing => true
  | .ptmDialogueStart => true
  | .ptmDialogueComplete _ => true
  | .correctionComplete => true
  | .boundOverLimit => true
  | .tuAckWrite _ _ => true
  | .tuRtRead _ => true
  | .comparatorFire _ => true
  | .tcCtrlWrite _ _ _ => true
  | .tcValueWrite _ _ _ => true
  | .aliveToggle => true
  | .losAssert _ _ => true
  | .losDeassert _ => true
  | .lolAssert _ _ => true
  | .lolDeassert _ => true
  | .perstNAssert _ => true
  | .perstNDeassert _ => true
  | .linkTrainingStart _ _ _ _ _ _ => true
  | .linkUp _ _ _ => true
  | .directedSpeedChange _ => true
  | .speedChangeComplete _ _ _ => true
  | .eqPhase3Request _ _ _ => true
  | .eqRedoRequest _ _ => true
  | .eqBypassRequest _ => true
  | .deskewDriftOverflow _ => true
  | .recoveryFailure _ => true
  | .hotReset _ => true
  | .linkDisable _ => true
  | .loopbackFollowerEntry _ => true
  | .lnTestEnable _ _ _ => true
  | .lnTestDisable _ _ _ => true
  | .injectSingle _ _ _ => true
  | .injectBurst _ _ _ => true
  | .injectRate _ _ _ => true
  | .injectStop _ _ _ => true
  | .injectDone _ => true
  | .checkerSync _ _ => true
  | .checkerSyncLoss _ => true
  | .eqDigestDone => true
  | .getEventRecords _ _ count => countOk count
  | .clearEventRecords _ _ count => countOk count
  | .getEventInterruptPolicy _ => true
  | .setEventInterruptPolicy _ _ => true
  | .getFwInfo _ => true
  | .transferFw p _ offset _ _ => imagePath p && decide (offset < 2 ^ 32)
  | .activateFw p _ _ => imagePath p
  | .activationThreadsQuiesced => true
  | .activationStopWaitExpiry => true
  | .imageLoadDone => true
  | .getTimestamp _ => true
  | .setTimestamp _ _ other => match other with
    | some op => !listedCommands.contains op.toNat
    | none => true
  | .getSupportedLogs _ => true
  | .getLog _ _ => true
  | .identifyMemoryDevice _ => true
  | .getHealthInfo _ => true
  | .getPoisonList _ => true
  | .injectPoison _ dpa => dpaOk dpa
  | .clearPoison _ dpa _ => dpaOk dpa
  | .getDynamicCapacityConfiguration _ => true
  | .getDynamicCapacityExtentList _ => true
  | .addDynamicCapacityResponse _ dpa len => dpaOk dpa && dpaOk len
  | .releaseDynamicCapacity _ dpa len => dpaOk dpa && dpaOk len
  | .getHaltTimetable _ => true
  | .getTimeState _ => true
  | .getHeadState _ _ => true
  | .getFloor _ => true
  | .getIdentityKey _ => true
  | .fmInformationAndStatus p => fmPath p
  | .fmEvents p _ _ count => fmPath p && countOk count
  | .getMultiHeadedInfo p => fmPath p
  | .getHeadInfo p _ => fmPath p
  | .getDcdInfo p => fmPath p
  | .getHostDcRegionConfiguration p _ => fmPath p
  | .setDcRegionConfiguration p _ blockSize => fmPath p && dpaOk blockSize
  | .getDcRegionExtentLists p _ => fmPath p
  | .initiateDynamicCapacityAdd p _ dpa len tag => fmPath p && dpaOk dpa && dpaOk len && tagOk tag
  | .initiateDynamicCapacityRelease p _ dpa len => fmPath p && dpaOk dpa && dpaOk len
  | .zeroFillDone block => decide (block < 256)
  | .readRegister p addr width => fmPath p && widthOk width && addrOk addr
  | .writeRegister p addr width _ => fmPath p && widthOk width && addrOk addr
  | .thawHead p _ => fmPath p
  | .fmGetHeadState p _ => fmPath p
  | .fmGetIdentityKey p => fmPath p
  | .i3cEntdaa _ => true
  | .setEndpointId p _ => fmPath p
  | .getVersion ch => imagePath ch
  | .getCapabilities ch => imagePath ch
  | .negotiateAlgorithms ch _ => imagePath ch
  | .challenge ch _ => imagePath ch
  | .getMeasurements ch _ _ _ => imagePath ch
  | .spdmUnsupportedRequest ch _ => imagePath ch
  | .cdatTableAccess _ => true
  | .lcFlush _ _ => true
  | .lcFlushDone => true
  | .scrubRead _ _ => true
  | .scrubLag => true
  | .caParityAlert _ => true
  | .channelRetrainDone _ _ => true
  | .replayDone _ _ => true
  | .replaySpill _ => true
  | .replayLimitExpiry _ => true
  | .rowRepair _ _ => true
  | .rowRepairDone errors => errors.all (fun p => decide (p.1 < 32) && symbolsOk p.2)
  | .retirePage _ _ => true
  | .recalChangeInstant _ => true
  | .sweepDone wire _ => decide (wire < 5376)
  | .expressRecalTick _ _ => true
  | .missingClock _ => true
  | .clockColumnWatch _ _ => true
  | .standinFillDone _ => true
  | .thermalEvaluation _ _ _ => true
  | .canaryInterval _ _ => true
  | .graceExpiry => true
  | .shutdownDrainDone => true
  | .shutdownPowerDown => true
  | .shutdownTimeout => true
  | .mgmtPowerRequest _ _ => true
  | .domainTransitionDone _ => true
  | .domainWakeDone _ _ => true
  | .layerWakeFillDone _ _ => true
  | .otpNormalRead _ _ => true
  | .otpStrictRead _ _ => true
  | .otpDualRead _ _ => true
  | .otpProgram _ _ => true
  | .otpRaiseCounter _ _ => true
  | .otpCommandDone _ => true
  | .otpBootReadDone _ => true
  | .identityDerived => true
  | .ctlUpdNow _ _ => true
  | .ctlUpdDiscard _ _ => true
  | .cfgCheckStart => true
  | .cfgCheckDone => true
  | .severeClear _ _ _ => true
  | .fcFirstClear _ _ => true
  | .watchdogExpiry => true
  | .snapCtrlFire _ _ => true
  | .snapCtrlRearm _ _ => true
  | .auxARisingEdge _ => true
  | .auxPulseEnd _ => true
  | .ownClaimImg _ _ => true
  | .ownReleaseImg _ _ => true
  | .ownClaimFm _ _ => true
  | .ownReleaseFm _ _ => true
  | .suOpen _ _ => true
  | .registerWrite _ addr width _ => widthOk width && addrOk addr
  | .powerUp => true
  | .pwrGoodRelease _ => true
  | .powerLoss => true
  | .vinLow _ => true
  | .vinHigh _ => true
  | .moduleReset => true
  | .moduleRelease => true
  | .strapSample _ => true
  | .stackClockReady => true
  | .bootFillDone _ _ => true
  | .registerRead _ addr width => widthOk width && addrOk addr
  | .imageChecksDone => true
  | .aonStartDone _ _ _ _ _ => true
  | .rackCyclePulse => true
  | .tlineSignalReturn => true
  | .mgmtVendorMessage => true
  | .serviceColumnFail => true
  | .linkRecoveryEntry _ => true
  | .linkRecoveryExit _ => true

end Sys2Proof
end

