-- ==== Sys2Proof/Certificates/Slice0/Obligations.lean ====
section
/-! DEFINITION. What is claimed of the block: statements for the provers, each a proposition about step, exec and the
operations of the model. Every claim about a command says when it completes, with which effect and what it leaves as it
was: a frame `u = { s with x := u.x }` says that nothing but the fields it names has changed. -/

namespace Sys2Proof.Claims

open Sys2Proof.Machine

/-- No snapshot copy is owed: true between any two commands (State.snapDue is set only inside a command). -/
def Quiet (s : State) : Prop := s.snapDue = false

/-- Thread `t` issues this word now: it is the next in the rotation, with its program counter in the code, and the word
is legal (R293, R294, R305). -/
def Ready (s : State) (t : Fin 8) (op : Nat) (f : InsnFields) : Prop :=
  Quiet s ∧ s.canIssue t = true ∧ s.fetchable (s.pcOf t) = true ∧ insnLegal op f = true

/-- A register write by a path passes its checks (R568 to R571). -/
def WriteOk (s : State) (p : Path) (a width : Nat) (v : Word) : Prop :=
  Quiet s ∧ s.pathOpen p = true ∧ s.checkWrite p a width v = .ok

/-- A mailbox command of head `k` is served (R208). -/
def MailOk (s : State) (k : Fin 16) : Prop := Quiet s ∧ s.mailOpen k = true

/-- An FM API command on a path is served (R205). -/
def FmOk (s : State) (p : Path) : Prop := Quiet s ∧ s.fmOpen p = true

/-- Registers other than those of a list read as before. -/
def RegsKept (s u : State) (except : List Nat) : Prop := ∀ a, a ∉ except → u.reg a = s.reg a

/-- The registers that count an issue of thread `t` (TT_ISSUE, TT_ISSUED). -/
def issueRegs (t : Fin 8) : List Nat := [aTT_ISSUE, aTT_ISSUED t]

/-- The registers of comparator `n`. -/
def tcRegs (n : Fin 64) : List Nat := [aTC_VALUE n, aTC_PERIOD n, aTC_TOL n, aTC_CTRL n, aTC_STATUS n, aTC_OWNER n]

/-- Threads other than `t` are as before. -/
def OtherThreads (s u : State) (t : Fin 8) : Prop := ∀ j, j ≠ t → u.thread j = s.thread j

/-- Thread `t` after an issue counted with its interval, its result in gd with Z from its STATUS, and its program counter
past the instruction (R293, R294, R309, R312). -/
def resultThread (s : State) (t : Fin 8) (n : Nat) (d : BitVec 4) (index status extra : Nat) : Thread :=
  (((s.countIssue t n).putResult t d index status extra).advance t).thread t

end Sys2Proof.Claims

open Sys2Proof Sys2Proof.Machine Sys2Proof.Claims

/-! The block as a whole -/

/-- A step takes the command at the front of the queue and is exactly that command on the state with the queue's rest;
on an empty queue it lets one stack-clock cycle pass, and nothing without power (the model's choice, log 35); no word of
the opcode table's bits spells a command (log 9). -/
def Obligations.StepRunsFrontCommand : Prop :=
  (∀ (s : State) (c : Instr) (rest : List Instr), s.pending = c :: rest → step s = exec c { s with pending := rest })
  ∧ (∀ s : State, s.pending = [] → step s = .next s.tick ∧ (s.pins.pwrGood = false → s.tick = s))
  ∧ (∀ (s : State) (nbits w : Nat), decodeTableWord nbits w = none ∧ s.withFetchWord nbits w = s)

/-- In each cycle RT takes the increment of Table 2.1 for the correction in force, the stack clock counts one, and a slew
has that much less to remove; the cycle's clocks change nothing else (R24, R42, R46, R60). -/
def Obligations.CycleAddsIncrement : Prop :=
  ∀ s : State, s.advanceClock.tu.rt = s.tu.rt + BitVec.ofNat 96 s.increment
    ∧ s.advanceClock.tu.cycle = s.tu.cycle + 1
    ∧ (s.tu.corr = .fwd → s.increment = 3 * 2 ^ 30)
    ∧ (s.tu.corr = .back → s.increment = 2 ^ 30)
    ∧ (s.tu.corr = .none → s.fld aTU_FREQ 0 32 = 0 → s.increment = 2 ^ 31)
    ∧ (s.tu.corr = .steer → s.fld aTU_FREQ 0 32 = 0 → s.increment =
        (if 0 < s.tu.corrLeft then 2 ^ 31 - 2 ^ 31 / 10000 else 2 ^ 31 + 2 ^ 31 / 10000))
    ∧ (s.tu.corr = .none → s.advanceClock.tu.corrLeft = s.tu.corrLeft)
    ∧ (s.tu.corr = .fwd → s.fld aTU_FREQ 0 32 = 0 → s.tu.corrLeft ≤ 0 →
        s.advanceClock.tu.corrLeft = min 0 (s.tu.corrLeft + 2 ^ 30))
    ∧ (s.tu.corr = .back → s.fld aTU_FREQ 0 32 = 0 → 0 < s.tu.corrLeft →
        s.advanceClock.tu.corrLeft = max 0 (s.tu.corrLeft - 2 ^ 30))
    ∧ s.advanceClock = { s with tu := { s.tu with
        rt := s.advanceClock.tu.rt, cycle := s.advanceClock.tu.cycle, corrLeft := s.advanceClock.tu.corrLeft,
        engNow := s.advanceClock.tu.engNow } }

/-- Every command completes in every state: none ends in a fault or a refusal. -/
def Obligations.EveryCommandCompletes : Prop := ∀ (i : Instr) (s : State), Completes i s

/-- The register store stays in canonical form through every step. -/
def Obligations.StepKeepsRegisterStore : Prop :=
  ∀ s t : State, s.regsWf = true → step s = .next t → t.regsWf = true

/-- The program store and DRAM stay in canonical form through every step, so equal memories stay equal data. -/
def Obligations.StepKeepsMemories : Prop :=
  (∀ s t : State, s.pstoreWf = true → step s = .next t → t.pstoreWf = true)
  ∧ (∀ s t : State, s.dramWf = true → step s = .next t → t.dramWf = true)

/-- No command touches the queue of waiting commands. Only the end of a fuse command, the boot read and a loss of supply
change the fuses; only an add, a release, a module reset and a loss of supply change which blocks are granted (R182,
R183, R532, R541, R631). -/
def Obligations.CommandFrames : Prop :=
  ∀ (i : Instr) (s t : State), exec i s = .next t →
    t.pending = s.pending
    ∧ ((∀ x, i ≠ .otpCommandDone x) → (∀ x, i ≠ .otpBootReadDone x) → (∀ r, i ≠ .pwrGoodRelease r) → i ≠ .powerLoss →
        t.otp.words = s.otp.words)
    ∧ ((∀ k a n, i ≠ .releaseDynamicCapacity k a n) → (∀ p x a n g, i ≠ .initiateDynamicCapacityAdd p x a n g) →
        (∀ p x a n, i ≠ .initiateDynamicCapacityRelease p x a n) → i ≠ .moduleReset → (∀ r, i ≠ .pwrGoodRelease r) →
        i ≠ .powerLoss → t.grants = s.grants)

/-- No step leaves a snapshot copy owed: what latches in a command is written in it (R599). -/
def Obligations.StepKeepsQuiet : Prop := ∀ s t : State, Quiet s → step s = .next t → Quiet t

/-- The machine right after power-up: RT at 0, UNTRUSTED with no source, halts on phase 0 with no program placement,
every thread IDLE, every carriage IDLE, nothing granted, an empty queue; the stores are in canonical form. -/
def Obligations.ResetState : Prop :=
  State.reset.tu.rt = 0 ∧ State.reset.tu.trust = .untrusted ∧ State.reset.tu.source = .none
  ∧ State.reset.halt.phase = 0 ∧ State.reset.halt.program = false
  ∧ (∀ t : Fin 8, (State.reset.thread t).st = .idle ∧ (State.reset.thread t).pc = 0)
  ∧ (∀ c : Fin 32, (State.reset.car c).st = .idle) ∧ State.reset.grants = []
  ∧ State.reset.pending = [] ∧ State.reset.wf = true ∧ Quiet State.reset

/-- g0 reads as 0 and discards writes; another general register reads as what was written, and every other register of
the thread, every other thread and all else is as before (R292). -/
def Obligations.GeneralRegisters : Prop :=
  ∀ (s : State) (t u : Fin 8) (r q : BitVec 4) (v : Word),
    s.gpr t 0 = 0 ∧ s.setGpr t 0 v = s ∧ (r ≠ 0 → (s.setGpr t r v).gpr t r = v)
    ∧ (q ≠ r → (s.setGpr t r v).gpr t q = s.gpr t q) ∧ (u ≠ t → (s.setGpr t r v).thread u = s.thread u)
    ∧ s.setGpr t r v = { s with eng := { s.eng with threads := (s.setGpr t r v).eng.threads } }

/-! Criost (08) -/

/-- The issue of an instruction is counted, makes its thread the last issuer and sets when it may issue again, and nothing
else (R294, R295). NOP, STOP and YIELD advance the program counter by 8; STOP leaves the thread STOPPED; YIELD makes it
not ready for imm32 engine cycles after the next, or passes one turn; YIELD_END ends that (R293, R300). -/
def Obligations.ControlInstructions : Prop :=
  ∀ (s : State) (t : Fin 8) (f : InsnFields),
    (∀ n u, s.regsWf = true → u = s.countIssue t n →
        u = { s with regs := u.regs, eng := { s.eng with threads := u.eng.threads, lastIssuer := t, issuedAt := some s.ecyc } }
        ∧ OtherThreads s u t ∧ u.thread t = { s.thread t with readyAt := s.ecyc + n } ∧ RegsKept s u (issueRegs t)
        ∧ (u.reg aTT_ISSUE).toNat = min ((s.reg aTT_ISSUE).toNat + 1) (2 ^ 64 - 1)
        ∧ (u.reg (aTT_ISSUED t)).toNat = min ((s.reg (aTT_ISSUED t)).toNat + 1) (2 ^ 64 - 1))
    ∧ (Ready s t 0x00 f → exec (.nop t f none) s = .next ((s.countIssue t 1).advance t))
    ∧ (Ready s t 0x01 f → exec (.stop t f) s = .next ((s.countIssue t 1).setThread t
        { (s.countIssue t 1).thread t with st := .stopped, pc := (s.thread t).pc + 8 }))
    ∧ (∀ n, n = 1 + f.imm.toNat → Ready s t 0x02 f → exec (.yield t f) s = .next ((s.countIssue t n).setThread t
        { (s.countIssue t n).thread t with
          wait := .yield (if f.imm = 0 then 0 else s.ecyc + n), pc := (s.thread t).pc + 8 }))
    ∧ (∀ n, 0 < n → (s.thread t).wait = .yield n → n ≤ s.ecyc →
        exec (.yieldEnd t) s = .next (s.setThread t { s.thread t with wait := .none }))
    ∧ (∀ n, 0 < n → (s.thread t).wait = .yield n → s.ecyc < n → exec (.yieldEnd t) s = .next s)
    ∧ ((s.thread t).wait = .yield 0 → s.passing t = true → s.eng.issuedAt ≠ some s.ecyc →
        s.rotation.find? (fun j => s.ready j || s.passing j) = some t →
        exec (.yieldEnd t) s = .next (s.setThread t { s.thread t with wait := .none, readyAt := s.ecyc + 1 }))

/-- What an instruction with a result and flags leaves: counted, gd written, Z, N and C set, the program counter past
it, everything else as before. -/
def Sys2Proof.Claims.aluNext (s : State) (t : Fin 8) (f : InsnFields) (cycles : Nat) (v : Word) (n c : Bool) : State :=
  ((((s.countIssue t cycles).setGpr t f.d v).setFlags t (v == 0) n c).advance t)

/-- ADD, SUB, AND, OR, XOR and MUL write their result to gd and set Z, N and C by Table 8.4; SUB's N is the signed
comparison and its C the unsigned borrow, MUL's C says that the upper half is not 0 (R308, Table 8.8). -/
def Obligations.ArithmeticInstructions : Prop :=
  ∀ (s : State) (t : Fin 8) (f : InsnFields) (x y : Word), x = s.gpr t f.a → y = s.op2 t f →
    (Ready s t 0x10 f → exec (.add t f) s =
        .next (aluNext s t f 1 (x + y) ((x + y).getLsbD 63) (decide (2 ^ 64 ≤ x.toNat + y.toNat))))
    ∧ (Ready s t 0x11 f → exec (.sub t f) s =
        .next (aluNext s t f 1 (x - y) (decide (x.toInt < y.toInt)) (decide (x.toNat < y.toNat))))
    ∧ (Ready s t 0x12 f → exec (.and t f) s = .next (aluNext s t f 1 (x &&& y) ((x &&& y).getLsbD 63) false))
    ∧ (Ready s t 0x13 f → exec (.or t f) s = .next (aluNext s t f 1 (x ||| y) ((x ||| y).getLsbD 63) false))
    ∧ (Ready s t 0x14 f → exec (.xor t f) s = .next (aluNext s t f 1 (x ^^^ y) ((x ^^^ y).getLsbD 63) false))
    ∧ (Ready s t 0x18 f → exec (.mul t f) s =
        .next (aluNext s t f 4 (x * y) ((x * y).getLsbD 63) (decide (2 ^ 64 ≤ x.toNat * y.toNat))))

/-- SHL, SHR and SAR shift by op2[5:0]; C is the last bit shifted out, and 0 for a shift by 0 (R316, Table 8.4). CMP
sets the flags of ga − op2 and writes no register. MOVI loads imm32 sign- or zero-extended, MOVHI replaces gd[63:32],
ADDI adds the sign-extended imm32; none changes a flag (R306, R308, R311). -/
def Obligations.ShiftsComparesAndMoves : Prop :=
  (∀ (s : State) (t : Fin 8) (f : InsnFields) (x y : Word) (n : Nat), x = s.gpr t f.a → y = s.op2 t f → n = y.toNat % 64 →
     (Ready s t 0x15 f → exec (.shl t f) s =
         .next (aluNext s t f 1 (x <<< n) ((x <<< n).getLsbD 63) (decide (0 < n) && x.getLsbD (64 - n))))
     ∧ (Ready s t 0x16 f → exec (.shr t f) s =
         .next (aluNext s t f 1 (x >>> n) ((x >>> n).getLsbD 63) (decide (0 < n) && x.getLsbD (n - 1))))
     ∧ (Ready s t 0x17 f → exec (.sar t f) s =
         .next (aluNext s t f 1 (x.sshiftRight n) ((x.sshiftRight n).getLsbD 63) (decide (0 < n) && x.getLsbD (n - 1))))
     ∧ (Ready s t 0x19 f → exec (.cmp t f) s =
         .next (((s.countIssue t 1).setFlags t (x == y) (decide (x.toInt < y.toInt)) (decide (x.toNat < y.toNat))).advance t)))
  ∧ (∀ (s : State) (t : Fin 8) (f : InsnFields),
     (Ready s t 0x1A f → exec (.movi t f) s = .next (((s.countIssue t 1).setGpr t f.d
         (if f.mode = 1 then f.imm.zeroExtend 64 else f.imm.signExtend 64)).advance t))
     ∧ (Ready s t 0x1B f → exec (.movhi t f) s = .next (((s.countIssue t 1).setGpr t f.d
         (f.imm ++ (s.gpr t f.d).setWidth 32)).advance t))
     ∧ (Ready s t 0x1C f → exec (.addi t f) s = .next (((s.countIssue t 1).setGpr t f.d
         (s.gpr t f.a + f.imm.signExtend 64)).advance t)))

/-- LD and LDW of an aligned, loadable address whose check passes write gd from the bytes there, little endian, LDW
extended by its mode; of a device table they read its words, and a free value where no chapter gives a layout; memory is
unchanged (R302, R303, R317). Of a line whose check fails, a refetched one reads as it was, and one whose contents are
lost reads as 0 with DLOST set, a line of a map that is lost in both copies too (R304, R430, R436, Table 10.3). -/
def Obligations.LoadInstructions : Prop :=
  ∀ (s : State) (t : Fin 8) (f : InsnFields) (a : Nat), a = (s.insnAddr t f).toNat →
    let half (w : BitVec 32) : Word := if f.mode = 1 then w.signExtend 64 else w.zeroExtend 64
    let part (w : Word) : BitVec 32 := if a % 8 = 4 then (w >>> 32).setWidth 32 else w.setWidth 32
    (Ready s t 0x20 f → a % 8 = 0 → a < 0x600000 → exec (.ld t f false) s =
        .next (((s.countIssue t 3).setGpr t f.d (BitVec.ofNat 64 (Memory.getN s.pstore a 8))).advance t))
    ∧ (Ready s t 0x22 f → a % 4 = 0 → a < 0x600000 → exec (.ldw t f false) s =
        .next (((s.countIssue t 3).setGpr t f.d (half (BitVec.ofNat 32 (Memory.getN s.pstore a 4)))).advance t))
    ∧ (∀ w, 0x600000 ≤ a → a < 0x800000 → s.tableWord (a / 8 * 8) = some w →
        (Ready s t 0x20 f → a % 8 = 0 → exec (.ld t f false) s = .next (((s.countIssue t 3).setGpr t f.d w).advance t))
        ∧ (Ready s t 0x22 f → a % 4 = 0 → exec (.ldw t f false) s =
            .next (((s.countIssue t 3).setGpr t f.d (half (part w))).advance t)))
    ∧ (0x600000 ≤ a → a < 0x800000 → s.tableWord (a / 8 * 8) = none →
        (Ready s t 0x20 f → a % 8 = 0 → exec (.ld t f false) s =
            .next (((s.countIssue t 3).freeNext.setGpr t f.d s.free).advance t))
        ∧ (Ready s t 0x22 f → a % 4 = 0 → exec (.ldw t f false) s =
            .next (((s.countIssue t 3).freeNext.setGpr t f.d (half (part s.free))).advance t)))
    ∧ (∀ i, (i = .ld t f true ∧ Ready s t 0x20 f ∧ a % 8 = 0) ∨ (i = .ldw t f true ∧ Ready s t 0x22 f ∧ a % 4 = 0) →
        s.regsWf = true → s.sourceClass 48 < 5 → s.sourceClass 63 < 5 →
        (a < 0x400000 → s.inCode a = false → s.eng.storedLines.contains (lineOf a) = true ∨ s.copyLost a = true → ∃ u,
          exec i s = .next u ∧ u.gpr t f.d = 0 ∧ u.flag (aTT_FLAGS t) 9 = true ∧ (u.thread t).pc = (s.thread t).pc + 8
          ∧ (∀ j r, (j, r) ≠ (t, f.d) → u.gpr j r = s.gpr j r) ∧ u.dram = s.dram)
        ∧ (a < 0x400000 → s.copyLost a = false → s.inCode a = true ∨ s.eng.storedLines.contains (lineOf a) = false → ∃ u,
          exec i s = .next u ∧ u.pstore = s.pstore ∧ (u.thread t).pc = (s.thread t).pc + 8 ∧ u.dram = s.dram
          ∧ (f.d ≠ 0 → i = .ld t f true → u.gpr t f.d = BitVec.ofNat 64 (Memory.getN s.pstore a 8))
          ∧ (f.d ≠ 0 → i = .ldw t f true → u.gpr t f.d = half (BitVec.ofNat 32 (Memory.getN s.pstore a 4)))
          ∧ (∀ j r, (j, r) ≠ (t, f.d) → u.gpr j r = s.gpr j r)))
    ∧ (∀ i, (i = .ld t f true true ∧ Ready s t 0x20 f ∧ a % 8 = 0) ∨ (i = .ldw t f true true ∧ Ready s t 0x22 f ∧ a % 4 = 0) →
        s.regsWf = true → 0x7E1000 ≤ a → a < 0x7F5000 → ∃ u, exec i s = .next u ∧ u.gpr t f.d = 0
        ∧ u.flag (aTT_FLAGS t) 9 = true ∧ (u.thread t).pc = (s.thread t).pc + 8
        ∧ (∀ j r, (j, r) ≠ (t, f.d) → u.gpr j r = s.gpr j r) ∧ u.dram = s.dram)

/-- ST and STW of an aligned address of the data region store gb, little endian, there and nowhere else, and the line
counts as stored to; no register of any thread changes but the program counter (R302 to R304, R317). -/
def Obligations.StoreInstructions : Prop :=
  ∀ (s : State) (t : Fin 8) (f : InsnFields) (a : Nat), s.pstoreWf = true → a = (s.insnAddr t f).toNat →
    s.storable a = true →
    let stored (u : State) (n : Nat) (v : Nat) : Prop :=
      Memory.getN u.pstore a n = v
      ∧ (∀ b, b < a ∨ a + n ≤ b → Memory.get u.pstore b = Memory.get s.pstore b)
      ∧ u.thread t = ((s.countIssue t 1).advance t).thread t ∧ OtherThreads s u t
      ∧ u.eng.storedLines.contains (lineOf a) = true
      ∧ u = { s.countIssue t 1 with pstore := u.pstore, eng := u.eng }
      ∧ u.eng = { (s.countIssue t 1).eng with threads := u.eng.threads, storedLines := u.eng.storedLines }
    (Ready s t 0x21 f → a % 8 = 0 → ∃ u, exec (.st t f) s = .next u ∧ stored u 8 (s.gpr t f.b).toNat)
    ∧ (Ready s t 0x23 f → a % 4 = 0 → ∃ u, exec (.stw t f) s = .next u ∧ stored u 4 ((s.gpr t f.b).toNat % 2 ^ 32))

/-- BR and CALL go to their target, relative to the instruction or ga + imm32 with mode 1, BC where its condition holds
and BRL where L is 1, else past the instruction; CALL pushes its return address, RET goes to the last one and drops it
(R318, R319, Tables 8.5 and 8.10). -/
def Obligations.BranchInstructions : Prop :=
  ∀ (s : State) (t : Fin 8) (f : InsnFields) (rel target : Nat),
    rel = (BitVec.ofNat 64 (s.thread t).pc.toNat + 8 * f.imm.signExtend 64 : Word).toNat →
    target = (if f.mode = 1 then (s.gpr t f.a + f.imm.signExtend 64).toNat else rel) →
    (Ready s t 0x30 f → s.fetchable target = true → exec (.br t f) s =
        .next ((s.countIssue t 2).setThread t { (s.countIssue t 2).thread t with pc := BitVec.ofNat 23 target }))
    ∧ (Ready s t 0x31 f → branchCond f.mode (s.thread t).z (s.thread t).n (s.thread t).c = true → s.fetchable rel = true →
        exec (.bc t f) s =
        .next ((s.countIssue t 2).setThread t { (s.countIssue t 2).thread t with pc := BitVec.ofNat 23 rel }))
    ∧ (Ready s t 0x31 f → branchCond f.mode (s.thread t).z (s.thread t).n (s.thread t).c = false →
        exec (.bc t f) s = .next ((s.countIssue t 1).advance t))
    ∧ (Ready s t 0x32 f → s.fetchable target = true → (s.thread t).stack.length < 16 → exec (.call t f) s =
        .next ((s.countIssue t 2).setThread t { (s.countIssue t 2).thread t with
          pc := BitVec.ofNat 23 target, stack := (s.thread t).stack ++ [(s.thread t).pc + 8] }))
    ∧ (∀ (l : List (BitVec 23)) (x : BitVec 23), Ready s t 0x33 f → (s.thread t).stack = l ++ [x] →
        s.fetchable x.toNat = true → exec (.ret t f) s =
        .next ((s.countIssue t 2).setThread t { (s.countIssue t 2).thread t with pc := x, stack := l }))
    ∧ (Ready s t 0x34 f → (s.thread t).l = true → s.fetchable rel = true → exec (.brl t f) s =
        .next ((s.countIssue t 2).setThread t { (s.countIssue t 2).thread t with pc := BitVec.ofNat 23 rel }))
    ∧ (Ready s t 0x34 f → (s.thread t).l = false → exec (.brl t f) s = .next ((s.countIssue t 1).advance t))

/-- An illegal word, an opcode that no table lists or a program counter outside the code freezes the thread where it
stands, with its registers as they were, while source 5 reacts with its default class 2 (R293, R305, R347, Table 14.3).
So does a code line that fails its check as it is fetched and whose image copy is lost (R304, R430).
So do a misaligned or out-of-range load or store, a CALL on a full return stack, a RET on an empty one, a branch that is
taken to a target outside the code, and a CRD or CWR of an address or form that no register has, or a CWR that a rule
locks (R303, R317 to R319, R322, R348). -/
def Obligations.ThreadViolationsFreeze : Prop :=
  ∀ (s : State) (t : Fin 8) (f : InsnFields) (a : Nat), Quiet s → s.sourceClass 5 = 2 → s.canIssue t = true →
    a = (s.insnAddr t f).toNat →
    let rel := (BitVec.ofNat 64 (s.thread t).pc.toNat + 8 * f.imm.signExtend 64 : Word).toNat
    let frozen (i : Instr) : Prop := ∃ u, exec i s = .next u ∧ (u.thread t).st = .frozen
      ∧ (u.thread t).pc = (s.thread t).pc ∧ (u.thread t).g = (s.thread t).g
      ∧ (u.thread t).stack = (s.thread t).stack ∧ u.pstore = s.pstore ∧ u.dram = s.dram
    (s.fetchable (s.pcOf t) = false → frozen (.nop t f none))
    ∧ (s.fetchable (s.pcOf t) = true → insnLegal 0x10 f = false → frozen (.add t f))
    ∧ (∀ op, s.fetchable (s.pcOf t) = true → insnForm op.toNat f.mode = none → frozen (.nop t f (some op)))
    ∧ (s.fetchable (s.pcOf t) = true → s.copyLost (s.pcOf t) = true → s.sourceClass 63 < 5 → frozen (.nop t f none true))
    ∧ (Ready s t 0x20 f → a % 8 ≠ 0 ∨ 0x800000 ≤ a → ∀ b, frozen (.ld t f b))
    ∧ (Ready s t 0x21 f → a % 8 ≠ 0 ∨ s.storable a = false → frozen (.st t f))
    ∧ (Ready s t 0x22 f → a % 4 ≠ 0 ∨ 0x800000 ≤ a → ∀ b, frozen (.ldw t f b))
    ∧ (Ready s t 0x23 f → a % 4 ≠ 0 ∨ s.storable a = false → frozen (.stw t f))
    ∧ (Ready s t 0x32 f → 16 ≤ (s.thread t).stack.length → frozen (.call t f))
    ∧ (Ready s t 0x33 f → (s.thread t).stack = [] → frozen (.ret t f))
    ∧ (Ready s t 0x30 f → f.mode = 1 → s.fetchable a = false → frozen (.br t f))
    ∧ (Ready s t 0x31 f → branchCond f.mode (s.thread t).z (s.thread t).n (s.thread t).c = true →
        s.fetchable rel = false → frozen (.bc t f))
    ∧ (Ready s t 0x34 f → (s.thread t).l = true → s.fetchable rel = false → frozen (.brl t f))
    ∧ (Ready s t 0x40 f → s.sourceClass 0 < 5 → busOk a (if f.mode = 1 then 8 else 4) = false → frozen (.crd t f))
    ∧ (Ready s t 0x41 f → s.sourceClass 0 < 5 → busOk a (if f.mode = 1 then 8 else 4) = false → frozen (.cwr t f))
    ∧ (Ready s t 0x41 f → s.sourceClass 1 < 5 → (s.countIssue t 2).afterQueue.checkWrite (.thread t) a
        (if f.mode = 1 then 8 else 4) (if f.mode = 1 then s.gpr t f.b else s.gpr t f.b &&& 0xFFFFFFFF) = .locked →
        frozen (.cwr t f))

/-- CRD waits for the writes before it, 16 engine cycles or 60 for the lane block, and its return brings the register's
value and has the effects of a read, and no others (R320 to R323). CWR queues its write or waits for an entry, in order
of issue; a free entry takes the oldest waiting write; a delivery lets the oldest write reach its register, or drops it
(R320 to R322). -/
def Obligations.ConfigurationInstructions : Prop :=
  ∀ (s : State) (t : Fin 8) (f : InsnFields) (a w : Nat) (v : Word), a = (s.gpr t f.a + f.imm.signExtend 64).toNat →
    w = (if f.mode = 1 then 8 else 4) → v = (if f.mode = 1 then s.gpr t f.b else s.gpr t f.b &&& 0xFFFFFFFF) →
    (Ready s t 0x40 f → busOk a w = true → ∃ u, exec (.crd t f) s = .next u
        ∧ u.thread t = { (s.countIssue t 16).thread t with
            wait := .crd a (f.mode == 1) s.eng.nextSeq f.d (if s.eng.landed s.eng.nextSeq then some s.ecyc else none) }
        ∧ (∀ j r, u.gpr j r = s.gpr j r) ∧ u = { s.countIssue t 16 with eng := u.eng }
        ∧ u.eng = { (s.countIssue t 16).eng with threads := u.eng.threads })
    ∧ (∀ x wide before d since n, Quiet s → (s.thread t).wait = .crd x wide before d (some since) →
        since + (if 0x20000 ≤ x ∧ x < 0x22A00 then 60 else 16) ≤ s.ecyc → n = (if wide then 8 else 4) → busOk x n = true →
        exec (.crdReturn t) s = .next (((s.readEffects x).setGpr t d (s.peek x)).setThread t
          { ((s.readEffects x).setGpr t d (s.peek x)).thread t with
            st := (if (s.thread t).haltReq then .halted else (s.thread t).st), wait := .none, haltReq := false,
            pc := (s.thread t).pc + 8 }))
    ∧ (∀ x wide before d since, (s.thread t).wait = .crd x wide before d (some since) → s.ecyc < since + crdLatency x →
        exec (.crdReturn t) s = .next s)
    ∧ (∀ q : QWrite, q = ⟨s.eng.nextSeq, t, a, f.mode == 1, v⟩ → Ready s t 0x41 f →
        (s.countIssue t 2).afterQueue.checkWrite (.thread t) a w v = .ok →
        (s.eng.queue.length < 64 → s.eng.waiting = [] → exec (.cwr t f) s = .next (State.advance
          { s.countIssue t 2 with eng := { (s.countIssue t 2).eng with
            queue := s.eng.queue ++ [q], nextSeq := s.eng.nextSeq + 1 } } t))
        ∧ (64 ≤ s.eng.queue.length ∨ s.eng.waiting ≠ [] → exec (.cwr t f) s = .next (State.setThread
          { s.countIssue t 2 with eng := { (s.countIssue t 2).eng with
            waiting := s.eng.waiting ++ [q], nextSeq := s.eng.nextSeq + 1 } } t
          { (s.countIssue t 2).thread t with wait := .cwr })))
    ∧ (∀ q qs, s.eng.waiting = q :: qs → s.eng.queue.length < 64 → exec .cwrQueueEntryFree s =
        .next (State.setThread { s with eng := { s.eng with queue := s.eng.queue ++ [q], waiting := qs } } q.t
          { s.thread q.t with st := (if (s.thread q.t).haltReq then .halted else (s.thread q.t).st), wait := .none,
                              haltReq := false, pc := (s.thread q.t).pc + 8 }))
    ∧ (64 ≤ s.eng.queue.length → exec .cwrQueueEntryFree s = .next s)
    ∧ (∀ q qs s', s.eng.queue = q :: qs → s' = { s with eng := { s.eng with queue := qs } } →
        (s'.checkWrite (.thread q.t) q.addr (if q.wide then 8 else 4) q.value = .ok →
          exec .cwrDelivery s = .next (State.settle s (s'.applyWrite q.addr q.value).crdBegin))
        ∧ (s'.checkWrite (.thread q.t) q.addr (if q.wide then 8 else 4) q.value = .locked → exec .cwrDelivery s =
          .next (State.settle s (s'.dropWrite (.thread q.t) q.addr false).crdBegin))
        ∧ (s'.checkWrite (.thread q.t) q.addr (if q.wide then 8 else 4) q.value = .again → exec .cwrDelivery s =
          .next (State.settle s (s'.dropWrite (.thread q.t) q.addr true).crdBegin)))
    ∧ (s.eng.queue = [] → exec .cwrDelivery s = .next s)

/-- UPD waits for every earlier write and then strobes the groups of its mask, its result the groups that held pending
writes (R324 to R328). UPDT and TARM arm the comparator they name, or the lowest free one, with value ga and tolerance
gb[31:0], and L says whether the value has been reached; what they may not arm they refuse with a status and change
nothing (R309, R310, R327, R330 to R332). TDISARM disarms, and with mode 1 frees (R333). -/
def Obligations.StrobeAndComparatorInstructions : Prop :=
  ∀ (s : State) (t : Fin 8) (f : InsnFields), s.regsWf = true →
    let value := s.gpr t f.a
    let reached := decide (value.toNat ≤ s.now)
    let names (n : Fin 64) : Prop := (f.s8 = BitVec.ofNat 8 n.val ∧ s.tcOwner n < 2 ∧ s.tcHeld n = false)
      ∨ (f.s8 = 0xFF ∧ s.tcAny = some n)
    let armed (n : Fin 64) (target index period : Nat) (i : Instr) : Prop := ∃ u, exec i s = .next u
      ∧ u.reg (aTC_VALUE n) = value ∧ (u.reg (aTC_TOL n)).toNat = (s.gpr t f.b).toNat % 2 ^ 32
      ∧ u.reg (aTC_CTRL n) = packBits [(0, 1, 1), (4, 4, target), (8, 5, index)] ∧ u.tcOwner n = 1
      ∧ (u.reg (aTC_PERIOD n)).toNat = period ∧ u.reg (aTC_STATUS n) = putBits (s.reg (aTC_STATUS n)) 0 3 0
      ∧ u.lateArms.getLsbD n.val = reached ∧ (∀ m : Fin 64, m ≠ n → u.lateArms.getLsbD m.val = s.lateArms.getLsbD m.val)
      ∧ u.thread t = { resultThread s t 4 f.d n stOK 0 with l := reached } ∧ OtherThreads s u t
      ∧ RegsKept s u (issueRegs t ++ tcRegs n)
      ∧ u = { s with regs := u.regs, eng := u.eng, lateArms := u.lateArms, tcReadyAt := u.tcReadyAt }
    let refused (status : Nat) (i : Instr) : Prop := exec i s = .next
      ((((s.countIssue t 4).putResult t f.d f.s8.toNat status 0).setL t reached).advance t)
    (Ready s t 0x42 f → exec (.upd t f) s = .next ((s.countIssue t 2).setThread t { (s.countIssue t 2).thread t with
        st := .wait, wait := .upd (f.imm.setWidth 16) s.eng.nextSeq f.d }))
    ∧ (∀ mask before d p, Quiet s → (s.thread t).wait = .upd mask before d → s.eng.landed before = true →
        s.waitAged t = true → s.tu.cycle % 2 = 0 → p = s.strobe mask.toNat false → exec (.updExecute t) s =
        .next (State.settle s (((p.1.setGpr t d (BitVec.ofNat 64 p.2)).setZ t (p.2 == 0)).leaveWait t)))
    ∧ (∀ mask before d, (s.thread t).wait = .upd mask before d → s.eng.landed before = false →
        exec (.updExecute t) s = .next s)
    ∧ (∀ n, names n → Ready s t 0x43 f → armed n 3 (f.imm.toNat % 16) 0 (.updt t f))
    ∧ (∀ n target index, names n → Ready s t 0x52 f → target = f.imm.toNat / 16 % 16 → index = f.imm.toNat / 256 % 32 →
        targetOk target index = true → (target = 7 → s.auxOwner index = 1) →
        armed n target index (if f.mode = 1 then (s.reg (aTC_PERIOD n)).toNat else 0) (.tarm t f))
    ∧ (Ready s t 0x52 f → targetOk (f.imm.toNat / 16 % 16) (f.imm.toNat / 256 % 32) = false → refused stBADARG (.tarm t f))
    ∧ (Ready s t 0x52 f → targetOk (f.imm.toNat / 16 % 16) (f.imm.toNat / 256 % 32) = true → f.imm.toNat / 16 % 16 = 7 →
        s.auxOwner (f.imm.toNat / 256 % 32) ≠ 1 → refused stBUSY (.tarm t f))
    ∧ (∀ i, (i = .updt t f ∧ Ready s t 0x43 f) ∨ (i = .tarm t f ∧ Ready s t 0x52 f ∧ f.imm.toNat / 16 % 16 < 5
          ∧ targetOk (f.imm.toNat / 16 % 16) (f.imm.toNat / 256 % 32) = true) →
        (∀ n : Fin 64, f.s8 = BitVec.ofNat 8 n.val → 2 ≤ s.tcOwner n ∨ s.tcHeld n = true → refused stBUSY i)
        ∧ (f.s8 = 0xFF → s.tcAny = none → refused stNONEFREE i))
    ∧ (∀ i, i = .tdisarm t f ∨ i = .tdisarmFree t f → Ready s t 0x53 f →
        (∀ n : Fin 64, s.insnIndex t f = n.val → s.tcOwner n = 1 → s.tcHeld n = false → ∃ u, exec i s = .next u
          ∧ u.reg (aTC_CTRL n) = putBits (s.reg (aTC_CTRL n)) 0 1 0
          ∧ (f.mode = 0 → RegsKept s u (aTC_CTRL n :: issueRegs t))
          ∧ (f.mode = 1 → u.tcOwner n = 0 ∧ u.reg (aTC_STATUS n) = 0
            ∧ RegsKept s u (aTC_CTRL n :: aTC_STATUS n :: aTC_OWNER n :: issueRegs t))
          ∧ u.thread t = resultThread s t 4 f.d n stOK (s.fld (aTC_STATUS n) 0 6) ∧ OtherThreads s u t
          ∧ u = { s with regs := u.regs, eng := u.eng })
        ∧ (∀ n : Fin 64, s.insnIndex t f = n.val → s.tcOwner n ≠ 1 ∨ s.tcHeld n = true → exec i s = .next
          (((s.countIssue t 4).putResult t f.d n stBUSY 0).advance t))
        ∧ (64 ≤ s.insnIndex t f → exec i s = .next
          (((s.countIssue t 4).putResult t f.d (s.insnIndex t f) stBADARG 0).advance t)))

/-- TNOW reads RT in whole ns or in 1/256 ns; TWAIT waits until RT has reached ga + imm32 in an earlier engine cycle, and
then writes RT to gd; TTRUST reads state, source, step hold, DISCIPLINED and bound and sets Z in LOCKED (R296, R301, R310,
R329, Table 8.12). -/
def Obligations.TimeInstructions : Prop :=
  ∀ (s : State) (t : Fin 8) (f : InsnFields),
    (Ready s t 0x50 f → exec (.tnow t f) s = .next (((s.countIssue t 2).setGpr t f.d
        (if f.mode = 1 then BitVec.ofNat 64 (s.now * 256 + s.rtFrac) else BitVec.ofNat 64 s.now)).advance t))
    ∧ (∀ v, v = (s.gpr t f.a + f.imm.signExtend 64).toNat → Ready s t 0x51 f → exec (.twait t f) s =
        .next ((s.countIssue t 2).setThread t { (s.countIssue t 2).thread t with
          st := .wait, wait := .time v f.d, l := decide (v ≤ s.now) }))
    ∧ (∀ v d, (s.thread t).wait = .time v d → (s.thread t).st = .wait → v ≤ s.tu.engNow → s.waitAged t = true →
        s.regsWf = true → ∃ u, exec (.twaitEnd t) s = .next u
        ∧ u.thread t = { (s.setGpr t d (BitVec.ofNat 64 s.now)).thread t with
            st := .run, wait := .none, pc := (s.thread t).pc + 8 }
        ∧ OtherThreads s u t ∧ u.reg (aTT_WAKE_RT t) = BitVec.ofNat 64 s.now ∧ RegsKept s u [aTT_WAKE_RT t]
        ∧ u = { s with regs := u.regs, eng := u.eng })
    ∧ (∀ v d, (s.thread t).wait = .time v d → s.tu.engNow < v ∨ s.waitAged t = false → exec (.twaitEnd t) s = .next s)
    ∧ (Ready s t 0x54 f → exec (.ttrust t f) s = .next ((((s.countIssue t 2).setGpr t f.d
        (packBits [(0, 2, trustCode s.tu.trust), (2, 2, sourceCode s.tu.source), (6, 1, bit s.tu.stepHold),
          (7, 1, bit s.tu.disciplined), (8, 1, bit s.tu.stepHold), (32, 32, s.boundNow)])).setZ t
        (decide (s.tu.trust = .locked))).advance t))

/-- EWAIT waits for a masked event or a deadline of an earlier engine cycle and returns the events, or 0; ESIG sets bits
[7:0] of a thread's event register; ECLR clears the bits of its mask but those set in the same engine cycle (R301, R336
to R338). -/
def Obligations.EventInstructions : Prop :=
  ∀ (s : State) (t : Fin 8) (f : InsnFields),
    (Ready s t 0x70 f → exec (.ewait t f) s = .next ((s.countIssue t 2).setThread t { (s.countIssue t 2).thread t with
        st := .wait, wait := .events (f.imm.setWidth 16) (if f.a = 0 then none else some (s.gpr t f.a).toNat) f.d }))
    ∧ (∀ mask dl d, (s.thread t).wait = .events mask dl d → (s.thread t).st = .wait → s.waitAged t = true →
        s.regsWf = true →
        ((s.oldEvents t &&& mask ≠ 0 ∨ ∃ v, dl = some v ∧ v ≤ s.tu.engNow) → ∃ u, exec (.ewaitEnd t) s = .next u
          ∧ u.thread t = { (s.setGpr t d (((s.thread t).events &&& mask).zeroExtend 64)).thread t with
              st := .run, wait := .none, pc := (s.thread t).pc + 8 }
          ∧ OtherThreads s u t ∧ u.reg (aTT_WAKE_RT t) = BitVec.ofNat 64 s.now ∧ RegsKept s u [aTT_WAKE_RT t]
          ∧ u = { s with regs := u.regs, eng := u.eng })
        ∧ (s.oldEvents t &&& mask = 0 → (∀ v, dl = some v → s.tu.engNow < v) → exec (.ewaitEnd t) s = .next s))
    ∧ (∀ n : Fin 8, Ready s t 0x71 f → s.insnIndex t f = n.val → exec (.esig t f) s =
        .next (((s.countIssue t 1).setEvents n (f.imm.setWidth 16 &&& 0xFF)).advance t))
    ∧ (Ready s t 0x71 f → 8 ≤ s.insnIndex t f → exec (.esig t f) s = .next ((s.countIssue t 1).advance t))
    ∧ (∀ (n : Fin 8) (m : BitVec 16), ((s.setEvents n m).thread n).events = (s.thread n).events ||| m
        ∧ ((s.setEvents n m).thread n).pc = (s.thread n).pc ∧ OtherThreads s (s.setEvents n m) n
        ∧ s.setEvents n m = { s with eng := { s.eng with threads := (s.setEvents n m).eng.threads } })
    ∧ (Ready s t 0x72 f → exec (.eclr t f) s = .next (((s.countIssue t 1).setThread t { (s.countIssue t 1).thread t with
        events := (s.thread t).events &&& (~~~(f.imm.setWidth 16) |||
          (if (s.thread t).freshAt = s.ecyc then (s.thread t).fresh else 0)) }).advance t))

/-- CLAUNCH starts an idle or stopped carriage at its first descriptor, or a stopped one where its progress record stands,
and refuses with a status of Table 8.6; CSTAT reads its status; CWAIT waits until it no longer runs or a deadline;
CABORT stops a running or waiting one with code 1, at once when no line is under way (R334, R335, R359 to R362, R379,
R380). -/
def Obligations.CarriageInstructions : Prop :=
  ∀ (s : State) (t : Fin 8) (f : InsnFields) (c : Fin 32), s.regsWf = true →
    let statusOnly (n index status : Nat) (extra : Nat) (i : Instr) : Prop :=
      exec i s = .next (((s.countIssue t n).putResult t f.d index status extra).advance t)
    let chosen : Prop := f.s8 = BitVec.ofNat 8 c.val ∨ (f.s8 = 0xFF ∧ s.carAny = some c)
    let started (desc entry done : Nat) (acc : Word) (resume : Bool) : Prop := ∃ u, exec (.claunch t f) s = .next u
      ∧ u.car c = { s.car c with
          st := .running, thread := some t, release := false, desc := desc, cur := none, entry := entry, done := done,
          acc := acc, elem := none, packed := 0, recorded := resume, poisoned := 0, flight := [], ahead := done, post := none,
          run := (s.car c).run + 1, comp := none, deadline := none, progressAt := s.cyc, abort := none, share := none }
      ∧ (∀ e, e ≠ c → u.car e = s.car e) ∧ u.thread t = resultThread s t 4 f.d c stOK 0 ∧ OtherThreads s u t
      ∧ RegsKept s u (issueRegs t) ∧ u = { s with regs := u.regs, eng := u.eng, cars := u.cars }
    (Ready s t 0x60 f → chosen → s.chainWord (s.gpr t f.a) (f.s8 == 0xFF) = true → s.windowHigh c = false →
        s.groupOn c = true →
        ((s.gpr t f.a).getLsbD 63 = false → (s.car c).st = .idle ∨ (s.car c).st = .stopped →
          started (s.gpr t f.a).toNat 0 0 0 false)
        ∧ ((s.gpr t f.a).getLsbD 63 = true → (s.car c).st = .stopped →
          started (getBits (s.car c).prog[0] 0 32) (getBits (s.car c).prog[0] 32 32) (s.car c).prog[1].toNat
            (s.car c).prog[2] true))
    ∧ (Ready s t 0x60 f → s.chainWord (s.gpr t f.a) (f.s8 == 0xFF) = false →
        statusOnly 4 f.s8.toNat stBADARG 0 (.claunch t f))
    ∧ (Ready s t 0x60 f → f.s8 = BitVec.ofNat 8 c.val → s.chainWord (s.gpr t f.a) false = true →
        ((s.car c).st.busy = true → statusOnly 4 c stBUSY 0 (.claunch t f))
        ∧ ((s.car c).st = .frozen → statusOnly 4 c stSTATE 0 (.claunch t f))
        ∧ ((s.car c).st = .idle ∨ (s.car c).st = .stopped → s.windowHigh c = true → statusOnly 4 c stBADARG 0 (.claunch t f))
        ∧ ((s.car c).st = .idle ∨ (s.car c).st = .stopped → s.windowHigh c = false → s.groupOn c = false →
            statusOnly 4 c stPOWER 0 (.claunch t f)))
    ∧ (Ready s t 0x60 f → f.s8 = 0xFF → s.chainWord (s.gpr t f.a) true = true → s.carAny = none →
        statusOnly 4 0xFF stNONEFREE 0 (.claunch t f))
    ∧ (Ready s t 0x61 f → s.insnIndex t f = c.val → exec (.cwait t f) s =
        .next ((s.countIssue t 2).setThread t { (s.countIssue t 2).thread t with
          st := .wait,
          wait := .carriage c (if f.a = 0 then none else some (s.gpr t f.a).toNat) f.d }))
    ∧ (Ready s t 0x61 f → 32 ≤ s.insnIndex t f → statusOnly 2 (s.insnIndex t f) stBADARG 0 (.cwait t f))
    ∧ (∃ u, exec (.cwaitEnd c) s = .next u
        ∧ (∀ (j : Fin 8) dl d status, (s.thread j).wait = .carriage c dl d → (s.thread j).st = .wait → s.waitAged j = true →
            ((s.car c).st.busy = false ∧ (s.car c).leftAt < s.ecyc ∧ status = stOK)
              ∨ ((s.car c).st.busy = true ∧ (∃ v, dl = some v ∧ v ≤ s.tu.engNow) ∧ status = stTIMEOUT) →
            u.thread j = { (s.putResult j d c status ((s.crStatus c).toNat % 2 ^ 32 * 2 ^ 16)).thread j with
              st := .run, wait := .none, pc := (s.thread j).pc + 8 }
            ∧ u.reg (aTT_WAKE_RT j) = s.nowW)
        ∧ (∀ j : Fin 8, (∀ dl d, (s.thread j).wait ≠ .carriage c dl d) → u.thread j = s.thread j)
        ∧ (∀ a, (∀ j : Fin 8, a ≠ aTT_WAKE_RT j) → u.reg a = s.reg a) ∧ u = { s with regs := u.regs, eng := u.eng })
    ∧ (Ready s t 0x62 f → s.insnIndex t f = c.val → statusOnly 4 c stOK ((s.crStatus c).toNat % 2 ^ 32 * 2 ^ 16) (.cstat t f))
    ∧ (Ready s t 0x62 f → 32 ≤ s.insnIndex t f → statusOnly 4 (s.insnIndex t f) stBADARG 0 (.cstat t f))
    ∧ (Ready s t 0x63 f → s.insnIndex t f = c.val →
        ((s.car c).st = .running → (s.car c).inPath = true → exec (.cabort t f) s = .next
          ((((s.countIssue t 4).setCar c { s.car c with abort := some (1, 0xFFFF) }).putResult t f.d c stOK 0).advance t))
        ∧ ((s.car c).st = .waitt ∨ ((s.car c).st = .running ∧ (s.car c).inPath = false) → ∃ u,
          exec (.cabort t f) s = .next u ∧ (u.car c).st = .stopped ∧ (u.car c).code = 1
          ∧ (u.car c).prog = #v[packBits [(0, 32, (s.car c).desc), (32, 32, (s.car c).entry)],
              BitVec.ofNat 64 (s.car c).done, (s.car c).acc, s.nowW]
          ∧ (∀ e, e ≠ c → u.car e = s.car e) ∧ u.gpr t f.d = (if f.d = 0 then 0 else resultWord c stOK 0)
          ∧ (u.thread t).pc = (s.thread t).pc + 8
          ∧ (∀ j, (s.car c).thread = some j → (u.thread j).events.getLsbD 9 = true)
          ∧ (∀ n : Fin 64, (s.car c).comp = some n → u.tcOwner n = 0)
          ∧ (s.pstoreWf = true → ∀ b, b < 0x7FF000 + 32 * c.val ∨ 0x7FF020 + 32 * c.val ≤ b →
              Memory.get u.pstore b = Memory.get s.pstore b)
          ∧ u = { s with regs := u.regs, eng := u.eng, cars := u.cars, pstore := u.pstore })
        ∧ ((s.car c).st = .reserved → statusOnly 4 c stBUSY 0 (.cabort t f))
        ∧ ((s.car c).st = .idle ∨ (s.car c).st = .stopped ∨ (s.car c).st = .frozen →
            statusOnly 4 c stSTATE 0 (.cabort t f)))
    ∧ (Ready s t 0x63 f → 32 ≤ s.insnIndex t f → statusOnly 4 (s.insnIndex t f) stBADARG 0 (.cabort t f))

/-- PREQ joins the power controller's queue and waits, and a domain that complies starts its transition while one that
refuses reports its cause; its end writes the mask of domains that refused, with Z when none did (R339 to R342, R525,
R526). SNAP triggers the snapshots, whose copies are what stood before the cycle, or re-arms them with mode 1 (R343, R599,
R600). -/
def Obligations.PowerAndSnapshotInstructions : Prop :=
  ∀ (s : State) (t : Fin 8) (f : InsnFields), s.regsWf = true →
    (∀ target, Ready s t 0x80 f → target = domTarget f.mode.toNat → ∃ u, exec (.preq t f) s = .next u
        ∧ u.thread t = { (s.countIssue t 2).thread t with st := .wait, wait := .power s.power.nextId f.d }
        ∧ OtherThreads s u t ∧ u.power.nextId = s.power.nextId + 1
        ∧ (∀ r rest, s.power.queue = r :: rest → s.namedMoving r = true → u.power.queue = s.power.queue ++
            [{ id := s.power.nextId, target := target, mask := s.gpr t f.a, started := false, refused := 0, thread := true }]
            ∧ u.power.doms = s.power.doms)
        ∧ (∀ n : Fin 64, s.power.queue = [] → s.gpr t f.a = 1#64 <<< n.val → (s.dom n).moving = none →
            (s.dom n).st ≠ target → s.pairAbsent n = false →
            (s.powerCause target (s.gpr t f.a) n = none → (u.dom n).moving = some (target, s.cyc, 0))
            ∧ (∀ x, s.powerCause target (s.gpr t f.a) n = some x → x < 16 ∧ u.fld (aPWR_DOM n) 0 4 = x
              ∧ u.power.finished = s.power.finished ++ [(s.power.nextId, 1#64 <<< n.val)] ∧ (u.dom n) = s.dom n))
        ∧ u = { s with regs := u.regs, eng := u.eng, power := u.power })
    ∧ (∀ id d m, (s.thread t).wait = .power id d → s.power.finished.find? (fun p => p.1 == id) = some (id, m) →
        ∃ u, exec (.preqComplete t) s = .next u
        ∧ u.thread t = { ((s.setGpr t d m).setZ t (m == 0)).thread t with
            st := .run, wait := .none, pc := (s.thread t).pc + 8 } ∧ OtherThreads s u t
        ∧ u.power = { s.power with finished := s.power.finished.filter (fun p => p.1 != id) }
        ∧ u.reg (aTT_WAKE_RT t) = s.nowW ∧ RegsKept s u [aTT_WAKE_RT t]
        ∧ u = { s with regs := u.regs, eng := u.eng, power := u.power })
    ∧ (∀ id d, (s.thread t).wait = .power id d → s.power.finished.find? (fun p => p.1 == id) = none →
        exec (.preqComplete t) s = .next s)
    ∧ (∀ i, i = .snap t f ∨ i = .snapRe t f → Ready s t 0x90 f →
        (f.mode = 0 → s.flag aSNAP_STATUS 0 = false → ∃ u, exec i s = .next u
          ∧ u.reg aSNAP_STATUS = packBits [(0, 1, 1), (1, 1, 1)] ∧ u.reg aSNAP_RT = s.nowW
          ∧ (∀ p ∈ snapTable, u.reg p.1 = s.copyOf p)
          ∧ RegsKept s u (aSNAP_STATUS :: aSNAP_RT :: issueRegs t ++ snapTable.map (fun p => p.1))
          ∧ u.thread t = resultThread s t 2 f.d 0 stOK 0 ∧ OtherThreads s u t
          ∧ u = { s with regs := u.regs, eng := u.eng, snapCycle := some s.cyc })
        ∧ (f.mode = 0 → s.flag aSNAP_STATUS 0 = true → exec i s = .next
          (((s.countIssue t 2).putResult t f.d 0 stSTATE 0).advance t))
        ∧ (f.mode = 1 → ∃ u, exec i s = .next u ∧ u.flag aSNAP_STATUS 0 = false ∧ u.fld aSNAP_STATUS 24 8 = 0
          ∧ RegsKept s u (aSNAP_STATUS :: issueRegs t) ∧ u.thread t = resultThread s t 2 f.d 0 stOK 0
          ∧ OtherThreads s u t ∧ u = { s with regs := u.regs, eng := u.eng, snapCycle := none }))

/-- The descriptor of a seal at `a` keeps every rule of R382 and R383. -/
def Sys2Proof.Claims.SealDesc (s : State) (a base len snap tb sweep : Nat) (hold : Fin 32) : Prop :=
  descAddrOk a = true ∧ s.descField a 0 8 = base ∧ s.descField a 8 8 = len ∧ s.descField a 16 8 = snap
    ∧ s.descField a 24 8 = tb ∧ s.descField a 36 4 = sweep ∧ s.descField a 40 1 = hold.val
    ∧ base % 4096 = 0 ∧ snap % 4096 = 0 ∧ 0 < len ∧ len % 4096 = 0 ∧ s.descField a 43 1 = 0
    ∧ (∀ j < 18, s.descField a (46 + j) 1 = 0) ∧ (s.descField a 41 1 < 8 ∨ s.descField a 41 1 = 0xFF)
    ∧ base + len ≤ deviceRegion ∧ snap + len ≤ deviceRegion ∧ overlaps base len snap len = false ∧ s.now + 20000 ≤ tb
    ∧ sweep.testBit hold.val = false ∧ (∀ c : Fin 32, c = hold ∨ sweep.testBit c.val = true → s.carFreeFor c = true)

/-- No armed or active seal holds a range that a new one would take (R382). -/
def Sys2Proof.Claims.SealApart (s : State) (base len snap : Nat) : Prop :=
  ∀ j : Fin 4, (s.seal j).st = .armed ∨ (s.seal j).st = .active → ∀ p ∈ [base, snap], ∀ q ∈ [(s.seal j).base, (s.seal j).snap],
    overlaps p len q (s.seal j).len = false

/-- The descriptor of an outing at `a` keeps every rule of R396. -/
def Sys2Proof.Claims.OutingDesc (s : State) (a launch head chain : Nat) (c : Fin 32) : Prop :=
  descAddrOk a = true ∧ s.descField a 0 8 = launch ∧ s.descField a 24 1 = head ∧ s.descField a 25 1 = c.val
    ∧ s.descField a 32 8 = chain ∧ s.descField a 12 2 ≠ 0 ∧ 0 < s.descField a 14 2 ∧ s.descField a 14 2 ≤ 4096
    ∧ s.descField a 16 8 % 64 = 0 ∧ (∀ j < 5, s.descField a (27 + j) 1 = 0) ∧ (∀ j < 24, s.descField a (40 + j) 1 = 0)
    ∧ s.flag aOUT_DEVINDEX 12 = true ∧ s.fld aOUT_DEVINDEX 0 12 < s.descField a 14 2 ∧ head < 16 ∧ s.present head = true
    ∧ s.flag (aCR_WIN_HEADS c) head = true ∧ s.carFreeFor c = true
    ∧ (chain = 0 ∨ s.chainWord (BitVec.ofNat 64 chain) true = true) ∧ s.now < launch

/-- SEAL with mode 0 arms a seal on the lowest free comparator, reserves its carriages and clears its bits of the bitmap,
or is refused with a status; with mode 1 it returns an armed seal to IDLE, frees its comparator and returns its
carriages; with mode 2 it reads the seal's status (R344, R345, R382, R383). OUTING with mode 0 arms an outing; with mode 1
it leaves the armed outing on the comparator ABSENT with reason 3 and its carriage posts (R346, R396, R398, R399). -/
def Obligations.SealAndOutingInstructions : Prop :=
  ∀ (s : State) (t : Fin 8) (f : InsnFields) (i : Fin 4) (a : Nat), s.regsWf = true → a = (s.gpr t f.a).toNat →
    let statusOnly (index status : Nat) (extra : Nat) (j : Instr) : Prop :=
      exec j s = .next (((s.countIssue t 8).putResult t f.d index status extra).advance t)
    (∀ j, j = .sealArm t f ∨ j = .sealCancel t f ∨ j = .sealRead t f → f.s8 = BitVec.ofNat 8 i.val → Ready s t 0x91 f →
      (∀ (n : Fin 64) base len snap tb sweep hold, f.mode = 0 → (s.seal i).st ≠ .armed → (s.seal i).st ≠ .active →
        SealDesc s a base len snap tb sweep hold → SealApart s base len snap → s.sealQuota = true →
        (s.tcAny = some n → s.pstoreWf = true → ∃ u, exec j s = .next u
          ∧ u.seal i = { Seal.reset with
              st := .armed, hold := hold, comp := n, staged := (s.seal i).staged, base := base, len := len, snap := snap,
              tb := tb, sweep := BitVec.ofNat 32 sweep, thread := BitVec.ofNat 8 (s.descField a 41 1),
              sigs := BitVec.ofNat 8 (s.descField a 42 1), heads := BitVec.ofNat 16 (s.descField a 44 2) }
          ∧ (∀ k, k ≠ i → u.seal k = s.seal k)
          ∧ (∀ c : Fin 32, u.car c = (if c = hold ∨ sweep.testBit c.val = true
              then { s.car c with st := .reserved, before := (s.car c).st, thread := some t } else s.car c))
          ∧ (u.reg (aTC_VALUE n)).toNat = tb ∧ (u.reg (aTC_TOL n)).toNat = s.descField a 32 4 ∧ u.tcOwner n = 1
          ∧ u.reg (aTC_CTRL n) = packBits [(0, 1, 1), (4, 4, 6), (8, 5, i.val)] ∧ u.reg (aTC_PERIOD n) = 0
          ∧ RegsKept s u (issueRegs t ++ tcRegs n)
          ∧ (∀ g, u.granuleBit g = (s.granuleBit g && !(decide (base / 4096 ≤ g) && decide (g < base / 4096 + len / 4096))))
          ∧ (∀ b, b < 0x400000 ∨ 0x600000 ≤ b → Memory.get u.pstore b = Memory.get s.pstore b)
          ∧ u.thread t = resultThread s t 8 f.d n stOK 0 ∧ OtherThreads s u t
          ∧ u = { s with regs := u.regs, eng := u.eng, cars := u.cars, seals := u.seals, pstore := u.pstore,
                         lateArms := u.lateArms, tcReadyAt := u.tcReadyAt })
        ∧ (s.tcAny = none → statusOnly i stNONEFREE 0 j))
      ∧ (f.mode = 0 → (s.seal i).st = .armed ∨ (s.seal i).st = .active → statusOnly i stSTATE 0 j)
      ∧ (f.mode = 0 → (s.seal i).st ≠ .armed → (s.seal i).st ≠ .active → descAddrOk a = false → statusOnly i stBADARG 0 j)
      ∧ (∀ base len snap tb sweep hold, f.mode = 0 → (s.seal i).st ≠ .armed → (s.seal i).st ≠ .active →
        SealDesc s a base len snap tb sweep hold → SealApart s base len snap → s.sealQuota = false → statusOnly i stQUOTA 0 j)
      ∧ (f.mode = 1 → (s.seal i).st = .armed → ∃ u, exec j s = .next u ∧ u.seal i = { s.seal i with st := .idle }
        ∧ (∀ k, k ≠ i → u.seal k = s.seal k) ∧ u.tcOwner (s.seal i).comp = 0 ∧ u.tcArmed (s.seal i).comp = false
        ∧ u.reg (aTC_STATUS (s.seal i).comp) = 0 ∧ RegsKept s u (issueRegs t ++ tcRegs (s.seal i).comp)
        ∧ (∀ c : Fin 32, (c = (s.seal i).hold ∨ (s.seal i).sweep.getLsbD c.val = true) → (s.car c).st = .reserved →
            (u.car c).st = (s.car c).before ∧ (∀ h, (s.car c).thread = some h → (u.thread h).events.getLsbD 9 = true))
        ∧ (∀ c : Fin 32, (c ≠ (s.seal i).hold ∧ (s.seal i).sweep.getLsbD c.val = false) ∨ (s.car c).st ≠ .reserved →
            u.car c = s.car c)
        ∧ u.gpr t f.d = (if f.d = 0 then 0 else resultWord i stOK 0) ∧ (u.thread t).pc = (s.thread t).pc + 8
        ∧ u = { s with regs := u.regs, eng := u.eng, cars := u.cars, seals := u.seals })
      ∧ (f.mode = 1 → (s.seal i).st ≠ .armed → statusOnly i stSTATE 0 j)
      ∧ (f.mode = 2 → statusOnly i stOK ((s.slStatus i).toNat % 2 ^ 32 * 2 ^ 16) j))
    ∧ (∀ j, j = .outingArm t f ∨ j = .outingCancel t f → Ready s t 0x92 f →
      (∀ (n : Fin 64) (slot : Fin 8) launch head chain c, f.mode = 0 → OutingDesc s a launch head chain c →
        s.slotFree = some slot → s.tcAllocate f.s8.toNat = .ok n → ∃ u, exec j s = .next u
        ∧ u.outing slot = { Outing.reset with
            st := .armed, comp := n, carriage := c, id := BitVec.ofNat 16 (s.descField a 12 2), launch := launch,
            rollcall := s.descField a 16 8, head := head, threads := BitVec.ofNat 8 (s.descField a 26 1), chain := chain }
        ∧ (∀ k, k ≠ slot → u.outing k = s.outing k)
        ∧ u.car c = { s.car c with st := .reserved, before := (s.car c).st, thread := some t }
        ∧ (∀ e, e ≠ c → u.car e = s.car e)
        ∧ (u.reg (aTC_VALUE n)).toNat = launch ∧ (u.reg (aTC_TOL n)).toNat = s.descField a 8 4 ∧ u.tcOwner n = 1
        ∧ u.reg (aTC_CTRL n) = packBits [(0, 1, 1), (4, 4, 5), (8, 5, slot.val)] ∧ u.reg (aTC_PERIOD n) = 0
        ∧ RegsKept s u (issueRegs t ++ tcRegs n)
        ∧ u.thread t = resultThread s t 8 f.d n stOK slot ∧ OtherThreads s u t
        ∧ u = { s with regs := u.regs, eng := u.eng, cars := u.cars, outs := u.outs, lateArms := u.lateArms,
                       tcReadyAt := u.tcReadyAt })
      ∧ (f.mode = 0 → descAddrOk a = false ∨ s.slotFree = none → statusOnly f.s8.toNat stBADARG 0 j)
      ∧ (∀ (slot : Fin 8) launch head chain c e, f.mode = 0 → OutingDesc s a launch head chain c → s.slotFree = some slot →
        s.tcAllocate f.s8.toNat = .error e → statusOnly f.s8.toNat e 0 j)
      ∧ (∀ k : Fin 8, f.mode = 1 → s.sourceClass 54 ≤ 2 → (s.outing k).st = .armed → (s.outing k).comp.val = f.s8.toNat →
        (∀ m, (s.outing m).st = .armed → (s.outing m).comp.val = f.s8.toNat → m = k) → ∃ u, exec j s = .next u
        ∧ (u.outing k).st = .absent ∧ (u.outing k).reason = 3 ∧ (∀ m, m ≠ k → u.outing m = s.outing m)
        ∧ u.tcArmed (s.outing k).comp = false ∧ ((u.car (s.outing k).carriage).post.isSome = true)
        ∧ (∀ e, e ≠ (s.outing k).carriage → u.car e = s.car e)
        ∧ u.gpr t f.d = (if f.d = 0 then 0 else resultWord f.s8.toNat stOK 0) ∧ (u.thread t).pc = (s.thread t).pc + 8
        ∧ u.pstore = s.pstore ∧ u.dram = s.dram ∧ u.seals = s.seals)
      ∧ (f.mode = 1 → (∀ m, (s.outing m).st = .armed → (s.outing m).comp.val ≠ f.s8.toNat) →
        statusOnly f.s8.toNat (if 64 ≤ f.s8.toNat then stBADARG else stSTATE) 0 j))

/-- FAULT raises source 7 with its details: the source counts one more event; with mode 1 the thread stops and is not
frozen (R593). TT_HALT halts a running or waiting thread, one in a CRD or CWR when it has ended (R353); TT_THAW sets
frozen and halted threads running (R351). -/
def Obligations.FaultAndThreadControl : Prop :=
  ∀ (s : State) (t : Fin 8) (f : InsnFields) (p : Path) (v : BitVec 32),
    (∀ i, i = .fault t f ∨ i = .faultWithStop t f → Ready s t 0xA0 f →
        (f.mode = 0 → exec i s = .next (State.settle s (((s.countIssue t 2).advance t).raiseList
          [{ src := 7, idx := f.imm.toNat, val := (s.gpr t f.a).toNat,
             master := some (.thread t 6 (insnWord 0xA0 f) (s.gpr t f.a).toNat false), noFreeze := false }])))
        ∧ (f.mode = 1 → s.sourceClass 7 ≤ 2 → ∃ u, exec i s = .next u ∧ (u.thread t).st = .stopped
          ∧ (u.thread t).pc = (s.thread t).pc + 8 ∧ (u.thread t).g = (s.thread t).g ∧ u.pstore = s.pstore ∧ u.dram = s.dram
          ∧ u.cars = s.cars ∧ u.cache = s.cache)
        ∧ (s.regsWf = true → s.sourceClass 7 ≤ 2 → ∃ u, exec i s = .next u ∧
          u.fld (aFC_SRC_STAT 7) 16 16 = min (s.fld (aFC_SRC_STAT 7) 16 16 + 1) 0xFFFF))
    ∧ (WriteOk s p aTT_HALT 4 (v.setWidth 64) → ∃ u, exec (.ttHaltWrite p v) s = .next u
        ∧ (∀ j : Fin 8, u.thread j =
            (if v.getLsbD j.val = false then s.thread j else
             match (s.thread j).st, (s.thread j).wait with
             | .run, .crd .. => { s.thread j with haltReq := true }
             | .run, .cwr => { s.thread j with haltReq := true }
             | .run, _ => { s.thread j with st := .halted, wait := .none }
             | .wait, _ => { s.thread j with st := .halted, wait := .none }
             | _, _ => s.thread j))
        ∧ (∀ r ∈ s.power.queue, r ∉ u.power.queue → r.started = false)
        ∧ u = { s with eng := { s.eng with threads := u.eng.threads }, power := u.power })
    ∧ (WriteOk s p aTT_THAW 4 (v.setWidth 64) → ∃ u, exec (.ttThawWrite p v) s = .next u
        ∧ (∀ j : Fin 8, u.thread j =
            (if v.getLsbD j.val = true ∧ ((s.thread j).st = .frozen ∨ (s.thread j).st = .halted)
             then { s.thread j with st := .run, wait := .none, haltReq := false } else s.thread j))
        ∧ u = { s with eng := { s.eng with threads := u.eng.threads } })

/-! Heads, the request path and the channels (05 to 07) -/

/-- A head that is served takes CXL.mem requests: present, in L0 at a rate that allows it, no shutdown, neither frozen nor
fenced; its decoders map the address to the line, which lies in its extents (R177, R185, R188, R378). -/
def Sys2Proof.Claims.MemServed (s : State) (k : Fin 16) (addr line : Nat) : Prop :=
  Quiet s ∧ s.memOpen k = true ∧ (s.head k).mode = .normal ∧ s.lineOf k addr = some line ∧ s.granted k line = true

/-- A request of a head as it waits at admission, with its stamp (R27, R188). -/
def Sys2Proof.Claims.request (s : State) (k : Fin 16) (kind : ReqKind) (uio : Bool) (line : Nat) (val : LineVal)
    (mask : BitVec 64) (tag : Nat) : Req :=
  { src := .head k, kind := kind, uio := uio, line := line, val := val, mask := mask, stamp := s.stamp, tag := tag }

/-- No earlier request of head `k` to the line is at admission or under way, and no write of it is (R189, R246). -/
def Sys2Proof.Claims.LineFree (s : State) (k : Fin 16) (line : Nat) : Prop :=
  (∀ q ∈ s.mem.ports, q.src = .head k → q.line ≠ line) ∧ s.lineBusy line = false ∧ s.sliceWaits line = false
    ∧ (∀ q ∈ s.outstanding, q.src = .head k → q.line ≠ line)

/-- Reads and writes of a served head join the requests that wait at admission, stamped with RT, and nothing else changes;
a UIO request waits there line by line, a write with a completion due (R180, R181, R188, R378). A MemInv completes at
once when no earlier request of its line is under way, else it waits; a MemSpecRd of a cached line only returns its
credit, and one that misses with a pool entry and a guarantee to spare is charged and goes to its channel (R189, R266).
A line of the extent table that fails in one copy is read from the other, and counts (R435). -/
def Obligations.MemoryRequestsArrive : Prop :=
  ∀ (s : State) (k : Fin 16) (addr line tag : Nat) (data : Line) (mask : BitVec 64), MemServed s k addr line →
    let plain (d : Line) : LineVal := { data := d, poison := false }
    let waits (r : Req) : State := { s with mem := { s.mem with ports := s.mem.ports ++ [r] } }
    let all := BitVec.allOnes 64
    exec (.memRd k addr tag .good) s = .next (waits (request s k .read false line noData 0 tag))
    ∧ exec (.memRdData k addr tag .good) s = .next (waits (request s k .read false line noData 0 tag))
    ∧ exec (.memWr k addr data tag .good) s = .next (waits (request s k .write false line (plain data) all tag))
    ∧ exec (.memWrPtl k addr data mask tag .good) s = .next (waits (request s k .partialWrite false line (plain data) mask tag))
    ∧ (∀ i r, i = .memRd k addr tag .oneCopy ∧ r = request s k .read false line noData 0 tag
          ∨ i = .memWr k addr data tag .oneCopy ∧ r = request s k .write false line (plain data) all tag →
        s.regsWf = true → s.sourceClass 63 < 2 → ∃ u, exec i s = .next u ∧ u.mem.ports = s.mem.ports ++ [r]
          ∧ u.fld (aFC_SRC_STAT 63) 16 16 = min (s.fld (aFC_SRC_STAT 63) 16 16 + 1) (2 ^ 16 - 1) ∧ u.dram = s.dram)
    ∧ (LineFree s k line → exec (.memInv k addr tag .good) s = .next ((s.emit (.credit k)).emit (.memCmp k tag (s.head k).load)))
    ∧ (s.blocked (request s k .inv false line noData 0 tag) = true → exec (.memInv k addr tag .good) s =
        .next (waits (request s k .inv false line noData 0 tag)))
    ∧ ((s.lookup line).isSome = true → exec (.memSpecRd k addr tag .good) s = .next (s.emit (.credit k)))
    ∧ (∀ (c : Fin 32) cell, s.lookup line = none → LineFree s k line → s.place line = some (c.val, cell) →
        s.poolFree c k = true → 1024 ≤ s.bucket k → s.impossible c = false → s.journalOf line = [] → s.windowOpen = false →
        s.domOn (16 + c / 2) = true → s.domOn (c / 2) = true → s.regsWf = true →
        sparseWf (fun _ => 0) s.regul.buckets = true → ∃ u,
        exec (.memSpecRd k addr tag .good) s = .next u ∧ u.outputs = s.outputs ++ [.credit k]
          ∧ (u.chan c).pool = (s.chan c).pool ++ [⟨request s k .spec false line noData 0 tag, none, false, none, false⟩]
          ∧ (∀ d, d ≠ c → u.chan d = s.chan d) ∧ u.bucket k = s.bucket k - 1024
          ∧ (u.reg (aREG_M_ADM k)).toNat = min ((s.reg (aREG_M_ADM k)).toNat + 1) (2 ^ 64 - 1)
          ∧ RegsKept s u [aREG_M_ADM k] ∧ u.mem = s.mem ∧ u.dram = s.dram)
    ∧ (∀ len, 0 < len → (∀ l ∈ linesOf addr len, ∃ x, s.lineOf k (l * 64) = some x ∧ s.granted k x = true) →
        exec (.uioMemoryRead k addr tag len .good) s = .next { s with mem := { s.mem with
          ports := s.mem.ports ++ (linesOf addr len).map (fun l => s.hostReq k .read true (l * 64) noData 0 tag) } })
    ∧ (∀ bytes enables poisoned, bytes ≠ [] →
        (∀ l ∈ linesOf addr bytes.length, ∃ x, s.lineOf k (l * 64) = some x ∧ s.granted k x = true) → ∃ u,
        exec (.uioMemoryWrite k addr bytes enables tag poisoned .good) s = .next u
          ∧ (∀ r ∈ u.mem.ports, r ∈ s.mem.ports ∨ (r.src = .head k ∧ r.uio = true ∧ r.isWrite = true ∧ r.tag = tag
              ∧ r.val.poison = poisoned ∧ r.stamp = s.stamp))
          ∧ u.mem.ports.length = s.mem.ports.length + (linesOf addr bytes.length).length
          ∧ u.mem.uioOpen = s.mem.uioOpen ++ [(k, tag, (linesOf addr bytes.length).length)]
          ∧ u = { s with mem := { s.mem with ports := u.mem.ports, uioOpen := u.mem.uioOpen } })

/-- A request outside the extents, or outside the decoders, of a served head is answered by Table 5.5 at once and is a
violation: with the default class 2 of source 4 the head freezes for CTL_FREEZE's window (R185, R194, R585 to R587). A
frozen head's requests wait (R201); a fenced head's complete under Table 5.5 and are counted (R203). One whose line of
the extent table is lost is not performed (R436). -/
def Obligations.HeadViolations : Prop :=
  ∀ (s : State) (k : Fin 16) (addr tag : Nat) (data : Line) (mask : BitVec 64), Quiet s → s.memOpen k = true →
    let answer (i : Instr) (o : List Output) : Prop :=
      ((i = .memRd k addr tag .good ∨ i = .memRdData k addr tag .good)
          ∧ o = [.memData k tag poisonLine (s.head k).load])
      ∨ ((i = .memWr k addr data tag .good ∨ i = .memWrPtl k addr data mask tag .good ∨ i = .memInv k addr tag .good)
          ∧ o = [.memCmp k tag (s.head k).load])
      ∨ (i = .memSpecRd k addr tag .good ∧ o = [])
    ((s.head k).mode = .normal → (∀ l, s.lineOf k addr = some l → s.granted k l = false) → s.sourceClass 4 = 2 →
        ∀ i o, answer i o → ∃ u, exec i s = .next u
          ∧ (u.head k).mode = .frozen (s.cyc + cycMs s.freezeWindow)
          ∧ u.outputs.take (s.outputs.length + o.length) = s.outputs ++ o ∧ u.mem.ports = s.mem.ports
          ∧ u.dram = s.dram ∧ u.cache = s.cache ∧ (∀ j, j ≠ k → (u.head j).mode = (s.head j).mode))
    ∧ ((s.head k).mode = .normal → addr % 64 = 0 → (∀ l, s.lineOf k addr = some l → s.granted k l = false) →
        s.sourceClass 4 = 2 → ∃ u, exec (.uioMemoryRead k addr tag 64 .good) s = .next u ∧ .uio k tag none true ∈ u.outputs
          ∧ (u.head k).mode = .frozen (s.cyc + cycMs s.freezeWindow) ∧ u.mem.ports = s.mem.ports)
    ∧ (∀ w, (s.head k).mode = .frozen w → (∀ l, s.lineOf k addr = some l → s.granted k l = true) →
        (s.lineOf k addr).isSome = true → ∀ i o, answer i o → ∃ u r, exec i s = .next u ∧ r.src = .head k ∧ r.tag = tag
          ∧ s.lineOf k addr = some r.line ∧ u = { s with mem := { s.mem with ports := s.mem.ports ++ [r] } })
    ∧ ((s.head k).mode = .fenced → ∀ i o, answer i o → exec i s =
        .next (State.bump { s with outputs := s.outputs ++ o } (aHD_DISCARD k) 16 16 1))
    ∧ ((s.head k).mode ≠ .fenced → ∃ u, exec (.memRd k addr tag .bothCopies) s = .next u
          ∧ .memData k tag poisonLine (s.head k).load ∈ u.outputs ∧ u.mem.ports = s.mem.ports)

/-- Admission takes a head's next request from its port, charges the line and returns the credit; a hit is answered from the
cache, a miss goes to its channel and a write to acceptance (R188, R229, R266, R269, R274). A MemInv that waited passes
free of charge (R266). The carriage class is charged in the same way for the lines of carriages, hold copies, snapshots,
fills and row repairs (R35, R264, R389). A waiting miss takes a pool entry available to its master (R229, R273). A write is
accepted once the journal can hold it: a cached line takes it, another one is installed dirty, and the head gets its Cmp
(R30, R31, R191, R239); an ACTIVE seal whose granule is not saved holds it (R386). -/
def Obligations.AdmissionAndAcceptance : Prop :=
  ∀ (s : State), Quiet s → s.regsWf = true → sparseWf (fun _ => 0) s.regul.buckets = true →
    let charged (u : State) (m : Nat) : Prop :=
      (u.reg (aREG_M_ADM m)).toNat = min ((s.reg (aREG_M_ADM m)).toNat + 1) (2 ^ 64 - 1)
        ∧ u.regul.inCycle = s.regul.inCycle + 1 ∧ (s.admission m = .token → u.bucket m = s.bucket m - 1024)
    let queued (u : State) (r : Req) : Prop := r ∈ u.mem.missQ ∨ ∃ c, ∃ e ∈ (u.chan c).pool, e.req = r
    let atHome (r : Req) : Prop := ∃ (c : Fin 32) (cell : Nat), s.place r.line = some (c.val, cell) ∧ s.impossible c = false
    (∀ (k : Fin 16) (r : Req), s.headServes k = true → s.pickQuick k = none → s.admission k ≠ .no → s.pickPort k = some r →
        r.uio = false → ∃ u, exec (.regulationAdmit (.head k) false false) s = .next u ∧ charged u k
        ∧ u.mem.ports = dropFirst r s.mem.ports ∧ (u.head k).admitted = (s.head k).admitted + 1
        ∧ (∀ l, r.kind = .read → s.lookup r.line = some l → u.outputs = s.outputs ++
            [.credit k, .memData k r.tag l.val (s.head k).load])
        ∧ (r.kind = .read → s.lookup r.line = none → atHome r → u.outputs = s.outputs ++ [.credit k] ∧ queued u r)
        ∧ (r.kind = .write → u.outputs = s.outputs ++ [.credit k] ∧ u.mem.accept = s.mem.accept ++ [r]))
    ∧ (∀ (k : Fin 16) (r : Req), s.headServes k = true → s.pickQuick k = some r → r.kind = .inv →
        exec (.regulationAdmit (.head k) false false) s = .next
          ((State.emit { s with mem := { s.mem with ports := dropFirst r s.mem.ports } } (.credit k)).emit
            (.memCmp k r.tag (s.head k).load)))
    ∧ (∀ (c : Fin 32) i p r, (s.car c).wants = true → s.carRequest c = some (i, p, r) → s.sliceWaits r.line = false →
        s.admission 16 ≠ .no → s.classTurn 4 = true → s.carBlocked c r = false → ∃ u,
        exec (.regulationAdmit (.carriage c) false false) s = .next u ∧ charged u 16
        ∧ (r.kind = .read → s.lookup r.line = none → atHome r → queued u r)
        ∧ (r.kind = .write → u.mem.accept = s.mem.accept ++ [r] ∧ (u.car c).st = (s.car c).st))
    ∧ (∀ (i : Fin 4) r s', s' = s.holdFill i → s'.holdRequest i = some r → s'.sliceWaits r.line = false →
        s'.admission 16 ≠ .no → s'.classTurn 1 = true → s'.copyBlocked r.line (s'.seal i).tb = false →
        ∃ u, exec (.regulationAdmit (.hold i) false false) s = .next u ∧ u.regul.inCycle = s.regul.inCycle + 1
        ∧ (u.reg (aREG_M_ADM 16)).toNat = min ((s.reg (aREG_M_ADM 16)).toNat + 1) (2 ^ 64 - 1)
        ∧ (s.lookup r.line = none → atHome r → queued u r))
    ∧ (∀ (i : Fin 4) g r, (s.seal i).staged.find? (fun g => !g.toWrite.isEmpty) = some g → s.stageRequest i = some r →
        s.sliceWaits r.line = false → s.admission 16 ≠ .no → s.classTurn (if g.hold then 1 else 4) = true →
        s.blocked r = false → ∃ u, exec (.regulationAdmit (.stage i) false false) s = .next u ∧ charged u 16
        ∧ (r.kind = .write → u.mem.accept = s.mem.accept ++ [r]))
    ∧ (∀ n : Fin 2, s.siFillWants n = true → s.admission 16 ≠ .no → s.classTurn 2 = true → ∃ u,
        exec (.regulationAdmit (.standinFill n) false false) s = .next u ∧ charged u 16
        ∧ u.fld (aXR_SI_STATUS n) 12 12 = (s.siSent n + 1) / 16384 ∧ u.mem = s.mem ∧ u.dram = s.dram)
    ∧ (∀ r, s.zeroRequest = some r → s.sliceWaits r.line = false → s.admission 16 ≠ .no → s.classTurn 3 = true →
        s.blocked r = false → ∃ u, exec (.regulationAdmit .zeroFill false false) s = .next u ∧ charged u 16
        ∧ u.mem.accept = s.mem.accept ++ [r]
        ∧ u.filling = s.filling.map (fun f => if f.block = r.line / 2 ^ 22 then { f with sent := f.sent + 1 } else f))
    ∧ (∀ q, s.integ.repairing = some q → q.moved < 64 → s.admission 16 ≠ .no → s.classTurn 4 = true → ∃ u,
        exec (.regulationAdmit .rowRepair false false) s = .next u ∧ charged u 16
        ∧ u.integ.repairing = some { q with moved := q.moved + 1 } ∧ u.mem = s.mem)
    ∧ (∀ who, s.admission 16 = .no → who = .rowRepair ∨ who = .standinFill 0 ∨ who = .standinFill 1 →
        exec (.regulationAdmit who false false) s = .next s)
    ∧ (∀ (i : Nat) (r : Req) (c : Fin 32) cell, s.mem.missQ[i]? = some r → s.place r.line = some (c.val, cell) →
        s.impossible c = false → s.poolFree c r.src.master = true → s.mergeAhead r = false →
        (s.mem.missQ.take i).any (fun q => q.line == r.line && q.src == r.src) = false →
        sparseWf (fun _ => 0) s.regul.resume = true → ∃ u, exec (.poolEntryGrant i) s = .next u
        ∧ u.mem = { s.mem with missQ := s.mem.missQ.eraseIdx i } ∧ (∃ e ∈ (u.chan c).pool, e.req = r)
        ∧ u.poolBlocked r.src.master = true ∧ (∀ d, d ≠ c → u.chan d = s.chan d) ∧ u.dram = s.dram)
    ∧ (∀ (i : Nat) (r : Req), s.mem.accept[i]? = some r → s.acceptBlocked i r = true → exec (.writeAccept i false) s = .next s)
    ∧ (∀ (i : Nat) (r : Req), s.mem.accept[i]? = some r → s.acceptBlocked i r = false → s.sliceWaits r.line = false →
        (∀ (k : Fin 16) l, r.src = .head k → r.uio = false → (s.head k).up = true → s.sealHolds r = none →
          s.lookup r.line = some l → ∃ u, exec (.writeAccept i false) s = .next u
          ∧ u.lookup r.line = some { l with val := mergeLine l.val r.val r.mask, dirty := true }
          ∧ u.mem = { s.mem with accept := s.mem.accept.eraseIdx i } ∧ u.dram = s.dram
          ∧ u.outputs = s.outputs ++ [.memCmp k r.tag (s.head k).load])
        ∧ (∀ k : Fin 16, r.src = .head k → r.uio = false → (s.head k).up = true → s.sealHolds r = none →
          s.cached r.line = none → fullMask r.mask = true → atHome r → (∀ e ∈ s.mem.journal, e.seq < s.mem.nextSeq) →
          (s.sliceDom r.line).st = .on → (s.sliceDom r.line).moving = none →
          (s.cache.filter (fun x => lineSlice x.line == lineSlice r.line && lineSet x.line == lineSet r.line)).length < 16 →
          ∃ u, exec (.writeAccept i false) s = .next u
          ∧ u.cache = { line := r.line, val := r.val, dirty := true, owner := k } :: s.cache
          ∧ u.mem.accept = s.mem.accept.eraseIdx i ∧ u.mem.journal = s.mem.journal ∧ u.dram = s.dram
          ∧ u.outputs = s.outputs ++ [.memCmp k r.tag (s.head k).load])
        ∧ (∀ j, s.sealHolds r = some j → ∃ u, exec (.writeAccept i false) s = .next u
          ∧ (u.seal j).heldWrites = (s.seal j).heldWrites ++ [r] ∧ u.cache = s.cache ∧ u.outputs = s.outputs
          ∧ u.mem = { s.mem with accept := s.mem.accept.eraseIdx i } ∧ u.dram = s.dram))

/-- A channel that may issue does at most one thing in a cycle: a column command, an ACT that opens a row, or a PRE that
closes one; its command slot is then taken for the cycle (R224, R230). An ACT that cannot read its line of the repair map
does not issue (R436). -/
def Obligations.ChannelPick : Prop :=
  ∀ (s s' : State) (c : Fin 32), Quiet s → s' = s.setChan c (s.pickMode c) →
    let issue : Instr := .channelCommandPick c .good .good
    (s.picking c = false → exec issue s = .next s)
    ∧ (s.picking c = true →
      (∀ b row, s'.pick c = .act b row → ∃ u, exec issue s = .next u ∧ ((u.chan c).bank b).row = some row
        ∧ ((u.chan c).bank b).actAt = s.cyc ∧ (u.chan c).slotFree = s.cyc + 1 ∧ (∀ d, d ≠ c → u.chan d = s.chan d)
        ∧ (u.chan c).acts.head? = some s.cyc ∧ (u.chan c).pool = (s.chan c).pool ∧ RegsKept s u [aCH_ACT c]
        ∧ u = { s with regs := u.regs, chans := u.chans })
      ∧ (∀ b row, s'.pick c = .act b row → ∃ u, exec (.channelCommandPick c .bothCopies .good) s = .next u
        ∧ (u.chan c).banks = (s.chan c).banks)
      ∧ (∀ b, s'.pick c = .pre b → ∃ u, exec issue s = .next u ∧ ((u.chan c).bank b).row = none
        ∧ (u.chan c).slotFree = s.cyc + 1 ∧ (∀ d, d ≠ c → u.chan d = s.chan d) ∧ u = { s with chans := u.chans })
      ∧ (∀ b r, s'.pick c = .column b r → ∃ u, exec issue s = .next u ∧ (u.chan c).slotFree = s.cyc + 1
        ∧ (u.chan c).lastCol = s.cyc ∧ (∀ d, d ≠ c → u.chan d = s.chan d)
        ∧ (r.write = true → (u.chan c).writing = (s.chan c).writing ++
            [((s.chan c).wbuf.getD r.id [], s.cyc + 12 + (s.chan c).burst)] ∧ (u.chan c).wbuf = (s.chan c).wbuf.eraseIdx r.id
            ∧ (u.chan c).pool = (s.chan c).pool ∧ RegsKept s u [aCH_WR c, aCH_HITS c])
        ∧ (r.write = false → (∀ e, (s.chan c).pool[r.id]? = some e →
            (u.chan c).pool[r.id]? = some { e with issued := some s.cyc })
            ∧ (u.chan c).wbuf = (s.chan c).wbuf ∧ (u.chan c).writing = (s.chan c).writing
            ∧ RegsKept s u [aCH_RD c, aCH_HITS c])
        ∧ u = { s with regs := u.regs, chans := u.chans })
      ∧ (s'.pick c = .nothing → exec issue s = .next s'))

/-- Data for a read: a forwarded line or a clean word is delivered and its pool entry leaves, a corrected one also counts;
an uncorrectable first decode waits for its one retry, whose clean word counts as transient (R234, R405, R412, R418). A
write burst's end puts the line's codeword into its cells, and its journal entries are released (R233, R402). -/
def Obligations.ChannelData : Prop :=
  ∀ (s : State) (c : Fin 32), Quiet s → s.regsWf = true → s.replaying c = false →
    let answers (u : State) (i : Nat) (e : PoolEntry) (v : LineVal) : Prop :=
      (u.chan c).pool = (s.chan c).pool.eraseIdx i
        ∧ (∀ k, e.req.src = .head k → e.req.kind = .read → e.req.uio = false →
          u.outputs = s.outputs ++ [.memData k e.req.tag v (s.head k).load])
    (∀ errors, s.arrivedRead c false = none → exec (.dramReadData c errors) s = .next s)
    ∧ (∀ errors i e v, s.arrivedRead c false = some (i, e) → e.fwd = some v → e.req.kind = .read → ∃ u,
        exec (.dramReadData c errors) s = .next u ∧ answers u i e v ∧ (u.chan c).decodes = (s.chan c).decodes)
    ∧ (∀ errors i e v, s.arrivedRead c false = some (i, e) → e.fwd = none → e.req.kind = .read →
        decode (s.erasures c) (s.burstWord e.req.line errors) = .line v [] → ∃ u,
        exec (.dramReadData c errors) s = .next u ∧ answers u i e v
        ∧ (u.chan c).decodes = (false :: (s.chan c).decodes).take 16
        ∧ u.reg (aINT_CH_CE c) = s.reg (aINT_CH_CE c) ∧ u.integ = s.integ)
    ∧ (∀ errors i e v x xs, s.arrivedRead c false = some (i, e) → e.fwd = none → e.req.kind = .read →
        decode (s.erasures c) (s.burstWord e.req.line errors) = .line v (x :: xs) → ∃ u,
        exec (.dramReadData c errors) s = .next u
        ∧ u.fld (aINT_CH_CE c) 0 32 = min (s.fld (aINT_CH_CE c) 0 32 + 1) (2 ^ 32 - 1)
        ∧ (∀ k, e.req.src = .head k → e.req.uio = false → .memData k e.req.tag v (s.head k).load ∈ u.outputs))
    ∧ (∀ errors i e, s.arrivedRead c false = some (i, e) → e.fwd = none →
        decode (s.erasures c) (s.burstWord e.req.line errors) = .uncorrectable → (s.chan c).decodes.all (fun b => !b) = true →
        ∃ u, exec (.dramReadData c errors) s = .next u ∧ u.outputs = s.outputs
        ∧ (∀ x, (s.chan c).pool[i]? = some x → (u.chan c).pool[i]? = some { x with issued := none, retry := true })
        ∧ u = { s with chans := u.chans })
    ∧ (∀ errors i e v, s.arrivedRead c true = some (i, e) → e.req.kind = .read →
        decode (s.erasures c) (s.burstWord e.req.line errors) = .line v [] → ∃ u, exec (.ueRetry c errors) s = .next u
        ∧ answers u i e v ∧ u.integ = s.integ
        ∧ u.fld (aINT_CH_TRANS c) 0 32 = min (s.fld (aINT_CH_TRANS c) 0 32 + 1) (2 ^ 32 - 1))
    ∧ (∀ errors i e, s.arrivedRead c true = some (i, e) → e.req.kind = .read → e.req.src ≠ .scrub →
        decode (s.erasures c) (s.burstWord e.req.line errors) = .uncorrectable → ∃ u, exec (.ueRetry c errors) s = .next u
        ∧ u.fld (aINT_CH_UE c) 0 32 = min (s.fld (aINT_CH_UE c) 0 32 + 1) (2 ^ 32 - 1)
        ∧ (∀ k, e.req.src = .head k → e.req.uio = false → .memData k e.req.tag poisonLine (s.head k).load ∈ u.outputs))
    ∧ (∀ errors, s.arrivedRead c true = none → exec (.ueRetry c errors) s = .next s)
    ∧ (∀ ns fin rest e p, (s.chan c).writing = (ns, fin) :: rest → fin ≤ s.cyc → ns.head?.bind s.jEntry = some e →
        s.place e.line = some p → s.mem.installs = [] → (∀ j ∈ s.mem.journal, j.place ≠ .install) → s.dramWf = true →
        ∃ u, exec (.dramWriteDone c) s = .next u ∧ (u.chan c).writing = rest
        ∧ u.cells p.2 = codeword e.val ∧ (∀ q, q ≠ p.2 → u.cells q = s.cells q) ∧ (∀ x ∈ u.mem.journal, x.seq ∉ ns)
        ∧ u.outputs = s.outputs ∧ u.cache = s.cache)
    ∧ (∀ ns fin rest, (s.chan c).writing = (ns, fin) :: rest → s.cyc < fin → exec (.dramWriteDone c) s = .next s)

/-- A flit that fails its CRC is counted (R195). Configuration accesses: a read of the vendor DVSEC answers its word and the
low half of a wide field latches the high half, writes to it change nothing; an HDM decoder maps its range to the DPAs
it names; other registers read as last written, but for those of fixed meaning (R200, R209, R214, R378). A head whose freeze window
has run out is fenced and its waiting requests are gone (R203); each head's Device Load is evaluated and its measurement
starts again (R193). -/
def Obligations.HeadEvents : Prop :=
  ∀ (s : State) (k : Fin 16),
    ((s.head k).up = true → exec (.flitCrcFail k) s = .next (s.bump (aHD_DOWN_CNT k) 16 16 1))
    ∧ (MailOk s k → ∀ off v, exec (.cxlIoConfigAccess k (.dvsecWrite off v)) s = .next s)
    ∧ (MailOk s k → ∀ (off : BitVec 6) a, a = off.toNat / 4 * 4 → ∃ u, exec (.cxlIoConfigAccess k (.dvsecRead off)) s = .next u
        ∧ (a ≠ 0x20 → a ≠ 0x24 → a ≠ 0x28 → a ≠ 0x2C → u = s.emit (.regValue (.head k) (BitVec.ofNat 64 (s.dvsecWord k a))))
        ∧ (a = 0x20 ∨ a = 0x28 → (u.head k).dvsecLatch = some (BitVec.ofNat 32 (s.dvsecWide a / 2 ^ 32)))
        ∧ (∀ v, a = 0x24 ∨ a = 0x2C → (s.head k).dvsecLatch = some v →
            u.outputs = s.outputs ++ [.regValue (.head k) (v.setWidth 64)] ∧ (u.head k).dvsecLatch = none)
        ∧ u = { s with heads := u.heads, outputs := u.outputs })
    ∧ (MailOk s k → ∀ off v, ∃ u, exec (.cxlIoConfigAccess k (.otherWrite off v)) s = .next u
        ∧ (off.toNat / 4 * 4 ≠ 0 → off.toNat / 4 * 4 ≠ 0x18 → (u.head k).cfgWord (off.toNat / 4 * 4) = v)
        ∧ (off.toNat / 4 * 4 = 0x18 → (u.head k).cfgWord 0x18 = (v &&& 0xFFF00000) ||| 4)
        ∧ (u.head k).cfgWord 0 = (s.head k).cfgWord 0
        ∧ (∀ j, j ≠ k → u.head j = s.head j) ∧ u = { s with heads := u.heads })
    ∧ (MailOk s k → ∀ off, exec (.cxlIoConfigAccess k (.otherRead off)) s =
        .next (s.emit (.regValue (.head k) (((s.head k).cfgWord (off.toNat / 4 * 4)).setWidth 64))))
    ∧ (MailOk s k → ∀ index (base size dpa : BitVec 64) (a : Nat), (s.head k).hdm = [] → base.toNat % 2 ^ 28 = 0 →
        size.toNat % 2 ^ 28 = 0 → dpa.toNat % 2 ^ 28 = 0 → ∃ u, exec (.cxlIoConfigAccess k (.hdmDecoder index base size dpa)) s =
          .next u ∧ (∀ j, j ≠ k → u.head j = s.head j) ∧ u = { s with heads := u.heads }
        ∧ (base.toNat ≤ a → a < base.toNat + size.toNat → u.lineOf k a = some ((dpa.toNat + (a - base.toNat)) / 64))
        ∧ (a < base.toNat ∨ base.toNat + size.toNat ≤ a → u.lineOf k a = none))
    ∧ (∀ until_, Quiet s → (s.head k).mode = .frozen until_ → until_ ≤ s.cyc → ∃ u,
        exec (.freezeWindowEnd k) s = .next u ∧ (u.head k).mode = .fenced ∧ (∀ r ∈ u.mem.ports, r.src ≠ .head k)
        ∧ (∀ j, j ≠ k → u.head j = s.head j) ∧ u.dram = s.dram)
    ∧ (∀ until_, (s.head k).mode = .frozen until_ → s.cyc < until_ → exec (.freezeWindowEnd k) s = .next s)
    ∧ (∃ u, exec .deviceLoadEval s = .next u ∧ u = { s with heads := u.heads } ∧ ∀ j, u.head j = { s.head j with
        load := s.loadOf j, waitCycles := 0, admitted := 0 })

/-- A flush marks every line dirty at its moment for writing back, and FLUSH clears once none is left (R243). A granule
that a seal's hold carriage has read whole sets its bit, counts, and goes to the seal's snapshot area line by line (R386,
R387). -/
def Obligations.FlushAndHoldCopy : Prop :=
  ∀ (s : State) (p : Path) (v : BitVec 32),
    (WriteOk s p aLC_CTRL 4 (v.setWidth 64) → v.getLsbD 0 = true → s.regsWf = true → ∃ u, exec (.lcFlush p v) s = .next u ∧
        u.mem.flush = (s.cache.filter (fun l => l.dirty)).map (fun l => l.line) ∧ u.flag aLC_CTRL 0 = true
        ∧ u.cache = s.cache ∧ u.dram = s.dram)
    ∧ (Quiet s → s.regsWf = true → s.mem.flush = [] → ∃ u, exec .lcFlushDone s = .next u ∧ u.flag aLC_CTRL 0 = false
        ∧ u.cache = s.cache ∧ RegsKept s u [aLC_CTRL])
    ∧ (∀ (i : Fin 4) g h, Quiet s → s.pstoreWf = true → (s.seal i).st = .active →
        (s.seal i).copies.find? (fun h => h.granule == g) = some h → h.toRead = [] → h.asked = [] → ∃ u,
        exec (.sealHoldCopyDone i g false) s = .next u ∧ u.granuleBit g = true ∧ (u.seal i).held = (s.seal i).held + 1
        ∧ (u.seal i).saved = (s.seal i).saved + 1
        ∧ (∃ x ∈ (u.seal i).staged, x.granule = g ∧ x.toWrite = (List.range 64).map (fun j => wholeLine
            ((s.seal i).snap / 64 + (g - (s.seal i).base / 4096) * 64 + j) (lineIn h.got (g * 64 + j))))
        ∧ (∀ b, b ≠ 0x400000 + g / 8 → Memory.get u.pstore b = Memory.get s.pstore b))
    ∧ (∀ (i : Fin 4) g, (s.seal i).copies.find? (fun h => h.granule == g) = none → ∀ b,
        exec (.sealHoldCopyDone i g b) s = .next s)

/-! Halts (06) -/

/-- A halt opens when RT has reached a value of the grid: its window starts in this cycle, HALT_LAST and HALT_COUNT tell
it, and every open row of every channel not in self-refresh is closed; while a window is open it is deferred, and while
the device is held in reset it opens nothing (R116, R225, R248, R251, R255). -/
def Obligations.HaltOpens : Prop :=
  ∀ (s : State) (v : Nat), s.gridDue = some v → s.regsWf = true →
    (s.windowOpen = false → s.pins.held = false → ∃ u, exec .haltOpen s = .next u ∧ u.halt.openAt = some s.cyc
        ∧ u.halt.lastOpen = s.cyc ∧ u.reg aHALT_LAST = s.nowW ∧ u.halt.lastGrid = some v ∧ u.halt.deferred = 0
        ∧ (u.reg aHALT_COUNT).toNat = min ((s.reg aHALT_COUNT).toNat + 1) (2 ^ 64 - 1)
        ∧ (∀ c : Fin 32, (s.chan c).selfRefresh = false → ∀ b ∈ (u.chan c).banks, b.2.row = none)
        ∧ u.dram = s.dram ∧ u.mem = s.mem ∧ u.cache = s.cache)
    ∧ (s.windowOpen = true → ∃ u, exec .haltOpen s = .next u ∧ u.halt.deferred = s.halt.deferred + 1
        ∧ u.halt.openAt = s.halt.openAt ∧ u.halt.lastGrid = some v ∧ u.chans = s.chans ∧ RegsKept s u [aHALT_EVENTS]
        ∧ u.fld aHALT_EVENTS 16 16 = min (s.fld aHALT_EVENTS 16 16 + 1) 0xFFFF)
    ∧ (s.windowOpen = false → s.pins.held = true → exec .haltOpen s =
        .next { s with halt := { s.halt with lastGrid := some v } })

/-- The events around a halt: the pre-close once from 64 cycles before it, of every row that no queued read asks for; no
ACT from 28 cycles before it; REFab 28 cycles after the opening; the window's end 800 cycles after it; one opening for all
deferred halts; and the fallback halt that commits 200 cycles before the guard runs out and opens with it (R248, R255,
R257, R258). A halt that has moved further ahead has its pre-close and its ACT stop again. -/
def Obligations.HaltEvents : Prop :=
  ∀ s : State, Quiet s → s.regsWf = true →
    (s.halt.preclosed = false → 0 < s.nextHaltIn → s.nextHaltIn ≤ 64 → ∃ u, exec .haltPreclose s = .next u
        ∧ u.halt.preclosed = true ∧ u.dram = s.dram ∧ u.mem = s.mem
        ∧ (∀ c : Fin 32, (s.chan c).selfRefresh = false → (s.chan c).waiting = [] → ∀ b ∈ (u.chan c).banks, b.2.row = none)
        ∧ (∀ c : Fin 32, (u.chan c).pool = (s.chan c).pool))
    ∧ (s.halt.preclosed = true → s.nextHaltIn ≤ 64 → exec .haltPreclose s = .next s)
    ∧ (64 < s.nextHaltIn → exec .haltPreclose s = .next { s with halt := { s.halt with preclosed := false } })
    ∧ (exec .haltActStop s = .next { s with halt := { s.halt with
        actStopped := decide (0 < s.nextHaltIn) && decide (s.nextHaltIn ≤ 28) } })
    ∧ (∀ c, s.halt.openAt = some c → c + 28 ≤ s.cyc → s.halt.refabDone = false → exec .haltRefab s =
        .next { s with halt := { s.halt with refabDone := true } })
    ∧ (∀ c, s.halt.openAt = some c → c + 800 ≤ s.cyc → exec .haltWindowEnd s =
        .next { s with halt := { s.halt with openAt := none } })
    ∧ (∀ c, s.halt.openAt = some c → s.cyc < c + 800 → exec .haltWindowEnd s = .next s)
    ∧ (s.windowOpen = false → 0 < s.halt.deferred → s.pins.held = false → ∃ u, exec .deferredHaltOpen s = .next u
        ∧ u.halt.openAt = some s.cyc ∧ u.halt.deferred = 0
        ∧ (∀ c : Fin 32, (s.chan c).selfRefresh = false → ∀ b ∈ (u.chan c).banks, b.2.row = none))
    ∧ (s.windowOpen = true ∨ s.halt.deferred = 0 → exec .deferredHaltOpen s = .next s)
    ∧ (s.halt.commitAt = none → s.windowOpen = false → s.pins.held = false → s.guardLeft ≤ 200 →
        s.guardLeft < s.cyclesTo s.gridNext → s.halt.deferred = 0 → exec .fallbackCommit s =
        .next { s with halt := { s.halt with commitAt := some (s.cyc + s.guardLeft) } })
    ∧ (s.pins.held = false → s.windowOpen = false →
        (∃ c, s.halt.commitAt = some c ∧ c ≤ s.cyc)
          ∨ (s.halt.commitAt = none ∧ s.guardLeft = 0 ∧ s.gridDue = none ∧ s.halt.deferred = 0) → s.sourceClass 41 ≤ 2 →
        ∃ u, exec .fallbackHalt s = .next u ∧ u.halt.openAt = some s.cyc ∧ u.halt.commitAt = none
        ∧ u.fld aHALT_EVENTS 0 16 = min (s.fld aHALT_EVENTS 0 16 + 1) 0xFFFF
        ∧ ((∃ r ∈ u.mgmt.fmLogs.info.records, r.rtype = 2) ∨ 64 ≤ s.mgmt.fmLogs.info.records.length))
    ∧ (s.pins.held = true → exec .fallbackHalt s = .next s ∧ exec .fallbackCommit s = .next s)

/-- The value that falls due lies on the grid: reached by RT, and a phase of the schedule in force modulo 4,000 (R251,
R256, R74). A new placement counts in GEN exactly when the phase or the effective rate changes, and takes force as given
(R252 to R256, R260). -/
def Obligations.HaltTimetable : Prop :=
  (∀ (s : State) (v : Nat), s.gridDue = some v → v ≤ s.now ∧ s.now < v + 4000
     ∧ ∃ o ∈ s.gridOffsets, v % 4000 = (s.halt.phase + o) % 4000)
  ∧ (∀ (s : State) (phase : Nat) (dbl thermal : Bool) (cause : Nat) (u : State),
     u = s.setPlacement phase dbl thermal cause →
     u.halt.phase = phase ∧ u.halt.double = dbl ∧ u.halt.thermal = thermal
     ∧ u.halt.gen = (if s.halt.phase = phase ∧ s.halt.inDouble = (dbl || thermal) then s.halt.gen else s.halt.gen + 1)
     ∧ u.tu = s.tu ∧ u.halt.openAt = s.halt.openAt ∧ u.halt.commitAt = s.halt.commitAt)

/-! Carriages (09) -/

/-- Carriage `c` may start the chain's next descriptor `d`, of operation `op`: it runs with nothing in progress, its
position is a good address (R359, R361, R363). -/
def Sys2Proof.Claims.Reads (s : State) (c : Fin 32) (op : Nat) (d : Desc) : Prop :=
  Quiet s ∧ s.mayStart c = true ∧ s.chainOk (s.car c).desc = true ∧ d = s.readDesc (s.car c).desc ∧ d.op.toNat = op
    ∧ (s.car c).share = none ∧ (s.car c).post = none ∧ (s.car c).flight = []

/-- It starts `d` from its first byte: the descriptor keeps every rule of R365, and no range it names leaves its window
(R361, R363, R365, R370). -/
def Sys2Proof.Claims.Starts (s : State) (c : Fin 32) (op : Nat) (d : Desc) : Prop :=
  Reads s c op d ∧ s.descOk c (s.car c).desc d = true ∧ s.offendingAny c d.ranges = none ∧ (s.car c).done = 0
    ∧ (s.car c).entry = 0

/-- The carriage has the descriptor in progress, running, and its first piece covers `n` bytes of the operation and asks
for these lines; nothing outside the carriage has changed. -/
def Sys2Proof.Claims.FirstPiece (s u : State) (c : Fin 32) (d : Desc) (reads : List Nat) (n : Nat) : Prop :=
  (u.car c).cur = some d ∧ (u.car c).st = .running ∧ (u.car c).done = 0
    ∧ (∃ x, (u.car c).flight.head? = some x ∧ x.pos = 0 ∧ x.toRead = reads ∧ x.bytes = n ∧ x.asked = [])
    ∧ (∀ e, e ≠ c → u.car e = s.car e) ∧ u = { s with cars := u.cars, outputs := u.outputs }

/-- A COPY, FILL, CMP, CRC, PEERWR or PEERRD of a positive length starts with the piece that ends at its destination's
line, or at 256 bytes of a peer address, and asks for the lines that piece needs; a PEERRD's request leaves (R363 to R365,
R376). A descriptor that breaks R365 stops the carriage with code 3, one that leaves the window is a violation (R370,
R371). -/
def Obligations.MovingDescriptorsStart : Prop :=
  ∀ (s : State) (c : Fin 32) (d : Desc) (n : Nat),
    (Starts s c 1 d → 0 < d.o2.toNat → n = min (64 - d.o1.toNat % 64) d.o2.toNat → ∃ u,
        exec (.descCopy c) s = .next u ∧ FirstPiece s u c d (linesOf d.o0.toNat n) n ∧ u.outputs = s.outputs)
    ∧ (Starts s c 2 d → 0 < d.o1.toNat → n = min (64 - d.o0.toNat % 64) d.o1.toNat → ∃ u,
        exec (.descFill c) s = .next u ∧ FirstPiece s u c d [] n ∧ u.outputs = s.outputs
        ∧ ∃ x w, (u.car c).flight = [x] ∧ x.toWrite = [w] ∧ w.line = d.o0.toNat / 64 ∧ w.val.poison = false)
    ∧ (Starts s c 3 d → 0 < d.o2.toNat → n = min (64 - d.o0.toNat % 64) d.o2.toNat → ∃ u,
        exec (.descCmp c) s = .next u ∧ u.outputs = s.outputs
        ∧ FirstPiece s u c d ((linesOf d.o0.toNat n ++ linesOf d.o1.toNat n).eraseDups) n
        ∧ (u.car c).acc = 0xFFFFFFFFFFFFFFFF)
    ∧ (Starts s c 4 d → 0 < d.o1.toNat → n = min (64 - d.o0.toNat % 64) d.o1.toNat → ∃ u,
        exec (.descCrc c) s = .next u ∧ FirstPiece s u c d (linesOf d.o0.toNat n) n ∧ (u.car c).acc = d.crcInit
        ∧ u.outputs = s.outputs)
    ∧ (Starts s c 7 d → 0 < d.o2.toNat → n = min (256 - d.o1.toNat % 256) d.o2.toNat → ∃ u,
        exec (.peerwr c) s = .next u ∧ FirstPiece s u c d (linesOf d.o0.toNat n) n ∧ u.outputs = s.outputs)
    ∧ (∀ k : Fin 16, Starts s c 8 d → d.head.toNat = k.val → (s.head k).up = true → 0 < d.o2.toNat →
        n = min (256 - d.o0.toNat % 256) d.o2.toNat → ∃ u, exec (.peerrd c) s = .next u ∧ FirstPiece s u c d [] n
        ∧ u.outputs.take (s.outputs.length + 1) = s.outputs ++ [.peerRead k d.o0.toNat n]
        ∧ (∃ x, (u.car c).flight.head? = some x ∧ x.peer = true) ∧ (u.car c).peers ≤ 64)
    ∧ (∀ op i, (op, i) ∈ [(1, Instr.descCopy c), (2, .descFill c), (3, .descCmp c), (4, .descCrc c), (5, .descGather c),
          (6, .descScatter c), (7, .peerwr c), (8, .peerrd c), (10, .waitt c), (10, .waittExternal c), (11, .notify c),
          (12, .descLink c), (15, .descEnd c)] → Reads s c op d →
        (s.descOk c (s.car c).desc d = false → ∃ u, exec i s = .next u ∧ (u.car c).st = .stopped ∧ (u.car c).code = 3
          ∧ u.dram = s.dram ∧ u.mem = s.mem)
        ∧ (s.descOk c (s.car c).desc d = true → (s.offendingAny c d.ranges).isSome = true → s.sourceClass 6 = 2 → ∃ u,
          exec i s = .next u ∧ (u.car c).st = .frozen ∧ (u.car c).code = 4 ∧ u.dram = s.dram ∧ u.mem = s.mem))

/-- A GATHER or SCATTER starts with the first entry of its list; a SEALCOPY on the range of an active seal, or the share
of a sweep carriage, turns to its next granule, when that is neither saved nor held nor copied by another carriage (R363,
R365, R390, R391). -/
def Obligations.ListAndSealDescriptorsStart : Prop :=
  ∀ (s : State) (c : Fin 32) (d : Desc) (dpa len : Nat),
    let entry : Prop := s.descField d.o0.toNat 0 8 = dpa ∧ s.descField d.o0.toNat 8 4 = len
      ∧ s.descField d.o0.toNat 12 4 = 0 ∧ 0 < len ∧ dpa + len ≤ 2 ^ 36 ∧ d.o2.toNat + len ≤ 2 ^ 36
      ∧ s.offending c (dpa, len) = none ∧ s.offending c (d.o2.toNat, len) = none
    let begun (i : Instr) (n : Nat) (reads : List Nat) : Prop := ∃ u, exec i s = .next u ∧ FirstPiece s u c d reads n
      ∧ (u.car c).elem = some (dpa, len) ∧ u.outputs = s.outputs
    (∀ n, Starts s c 5 d → entry → n = min (64 - d.o2.toNat % 64) len → begun (.descGather c) n (linesOf dpa n))
    ∧ (∀ n, Starts s c 6 d → entry → n = min (64 - dpa % 64) len → begun (.descScatter c) n (linesOf d.o2.toNat n))
    ∧ (∀ (i : Fin 4) g, Starts s c 9 d → d.o0.toNat = i.val → (s.seal i).st = .active →
        d.o1.toNat + d.o2.toNat ≤ (s.seal i).len → 4096 ≤ d.o2.toNat →
        g = (s.seal i).base / 4096 + d.o1.toNat / 4096 → s.granuleSaved i g = false → s.holding i g = false →
        s.sweeping i g = false → s.sealRoom i = true → ∃ u, exec (.sealcopy c false) s = .next u
        ∧ (u.car c).elem = some (g, i.val) ∧ FirstPiece s u c d (List.range' (g * 64) 64) 4096)
    ∧ (∀ (i : Fin 4) g first n, Quiet s → (s.car c).share = some (i, first, n) → (s.car c).st = .reserved →
        (s.car c).post = none → (s.car c).flight = [] → (s.car c).abort = none → (s.car c).done / 4096 < n →
        (s.seal i).st = .active → g = first + (s.car c).done / 4096 → s.granuleSaved i g = false →
        s.holding i g = false → s.sweeping i g = false → s.sealRoom i = true → exec (.sealcopy c false) s =
        .next (s.setCar c { s.car c with elem := some (g, i.val), flight := [granulePiece (s.car c).done g] }))

/-- WAITT arms the lowest free comparator for its carriage, or stops with code 7 when none is free; with EXTERNAL it
takes a latched release at once, or waits until its deadline; the deadline stops it with code 2 (R366, R367). So does a
carriage's timeout without a line of progress (R373). -/
def Obligations.WaittDescriptors : Prop :=
  ∀ (s : State) (c : Fin 32) (d : Desc), s.regsWf = true →
    (∀ n : Fin 64, Starts s c 10 d → d.flags.getLsbD 0 = false → s.tcAny = some n → ∃ u, exec (.waitt c) s = .next u
        ∧ (u.car c).st = .waitt ∧ (u.car c).comp = some n ∧ u.tcArmed n = true ∧ u.tcTarget n = 2 ∧ u.tcIndex n = c.val
        ∧ u.tcOwner n = 1 ∧ u.reg (aTC_VALUE n) = d.o0 ∧ (u.reg (aTC_TOL n)).toNat = d.o1.toNat % 2 ^ 32
        ∧ RegsKept s u (tcRegs n) ∧ (∀ e, e ≠ c → u.car e = s.car e) ∧ u.dram = s.dram)
    ∧ (Starts s c 10 d → d.flags.getLsbD 0 = false → s.tcAny = none → ∃ u, exec (.waitt c) s = .next u
        ∧ (u.car c).st = .stopped ∧ (u.car c).code = 7)
    ∧ (Starts s c 10 d → d.flags.getLsbD 0 = true → (s.car c).release = true → ∃ u, exec (.waittExternal c) s = .next u
        ∧ (u.car c).st = .running ∧ (u.car c).release = false ∧ (u.car c).cur = some d
        ∧ u = { s with cars := u.cars } ∧ (∀ e, e ≠ c → u.car e = s.car e))
    ∧ (Starts s c 10 d → d.flags.getLsbD 0 = true → (s.car c).release = false → ∃ u, exec (.waittExternal c) s = .next u
        ∧ (u.car c).st = .waitt ∧ (u.car c).comp = (s.car c).comp
        ∧ (u.car c).deadline = (if d.o2 = 0 then none else some d.o2.toNat)
        ∧ u = { s with cars := u.cars } ∧ (∀ e, e ≠ c → u.car e = s.car e))
    ∧ (∀ v, Quiet s → (s.car c).deadline = some v → (s.car c).st = .waitt → v ≤ s.now → ∃ u,
        exec (.waittDeadline c) s = .next u ∧ (u.car c).st = .stopped ∧ (u.car c).code = 2)
    ∧ (∀ v, (s.car c).deadline = some v → s.now < v → exec (.waittDeadline c) s = .next s)
    ∧ (∀ us, Quiet s → us = s.fld (aCR_CTRL c) 0 24 → us ≠ 0 → (s.car c).st = .running →
        (s.car c).progressAt + 2000 * us ≤ s.cyc → ∃ u, exec (.carriageTimeout c) s = .next u
        ∧ (u.car c).st = .stopped ∧ (u.car c).code = 2)
    ∧ (s.fld (aCR_CTRL c) 0 24 = 0 ∨ s.timed c = false → exec (.carriageTimeout c) s = .next s)

/-- NOTIFY with ESIG sets its bits in the event register of the thread it names; with ROLLCALL it posts the record of an
outing that has launched; LINK completes at once and goes on at NEXT; END leaves the carriage IDLE with code 0 and the
CARRIAGE event with its thread (R336, R361, R364, R369, R399). -/
def Obligations.ControlDescriptors : Prop :=
  ∀ (s : State) (c : Fin 32) (d : Desc),
    (∀ t : Fin 8, Starts s c 11 d → d.flags = 1 → getBits d.o0 0 8 = t.val → ∃ u, exec (.notify c) s = .next u
        ∧ (u.thread t).events = (s.thread t).events ||| BitVec.ofNat 16 (getBits d.o0 8 8) ∧ OtherThreads s u t
        ∧ (u.car c).cur = some d ∧ (u.car c).st = .running ∧ u = { s with cars := u.cars, eng := u.eng })
    ∧ (∀ (j : Fin 8) (k : Fin 16), Starts s c 11 d → d.flags = 4 → getBits d.o0 32 8 = j.val →
        (s.outing j).st = .launched → (s.outing j).head = k.val → (s.head k).up = true → ∃ u bytes,
        exec (.notify c) s = .next u ∧ bytes.length = 16
        ∧ u.outputs = s.outputs ++ [.peer k ((s.outing j).rollcall + 16 * s.fld aOUT_DEVINDEX 0 12) bytes true false]
        ∧ (u.outing j).st = .posted ∧ (u.outing j).postRt = s.now ∧ (∀ i, i ≠ j → u.outing i = s.outing i)
        ∧ u = { s with cars := u.cars, outs := u.outs, outputs := u.outputs })
    ∧ (Starts s c 12 d → ∃ u, exec (.descLink c) s = .next u ∧ (u.car c).cur = none ∧ (u.car c).desc = d.o0.toNat
        ∧ (u.car c).done = 0 ∧ (u.car c).st = .running ∧ u = { s with cars := u.cars, pstore := u.pstore })
    ∧ (Starts s c 15 d → ∃ u, exec (.descEnd c) s = .next u ∧ (u.car c).st = .idle ∧ (u.car c).code = 0
        ∧ (∀ t, (s.car c).thread = some t → (u.thread t).events.getLsbD 9 = true ∧ OtherThreads s u t)
        ∧ u = { s with cars := u.cars, pstore := u.pstore, eng := u.eng })

/-- A descriptor that has done its work completes: STATUS and RESULT are written into its bytes 48 to 63, its carriage's
progress record into the table store, and nothing else of the program store changes; the chain goes on 64 bytes further
(R364, R379). A peer write's completion advances DONE, a peer read's data is written to the destination; an error stops
the carriage with code 8; the completion of a post lets its carriage go on (R376, R377, R399). CAR_THAW leaves a frozen
carriage stopped (R371). -/
def Obligations.CompletionsOfCarriages : Prop :=
  ∀ (s : State) (c : Fin 32) (d : Desc),
    let peer (x : Piece) : Prop := Quiet s ∧ (s.car c).cur = some d ∧ (s.car c).st = .running ∧ (s.car c).post = none
      ∧ (s.car c).share = none ∧ (s.car c).abort = none ∧ (s.car c).flight = [x] ∧ x.peer = true ∧ x.formed = true
      ∧ x.toRead = [] ∧ x.asked = [] ∧ x.toWrite = [] ∧ x.sent = [] ∧ 0 < x.bytes
    (Quiet s → s.pstoreWf = true → (s.car c).cur = some d → d.op.toNat = 1 → s.descFinished c = true →
        (s.car c).desc + 64 ≤ 0x400000 → ∃ u,
        exec (.descriptorComplete c) s = .next u ∧ (u.car c).cur = none ∧ (u.car c).desc = (s.car c).desc + 64
        ∧ (u.car c).st = .running ∧ (u.car c).recorded = true
        ∧ Memory.getN u.pstore ((s.car c).desc + 48) 8 =
            (if (s.car c).poisoned = 0 then 0 else 1) + min (s.car c).poisoned 0xFFFFFFFF * 2 ^ 32
        ∧ Memory.getN u.pstore ((s.car c).desc + 56) 8 = 0
        ∧ Memory.getN u.pstore (0x7FF000 + 32 * c.val) 8 = (s.car c).desc + 64
        ∧ (∀ b, b < (s.car c).desc + 48 ∨ (s.car c).desc + 64 ≤ b →
            b < 0x7FF000 + 32 * c.val ∨ 0x7FF020 + 32 * c.val ≤ b → Memory.get u.pstore b = Memory.get s.pstore b)
        ∧ u = { s with cars := u.cars, pstore := u.pstore })
    ∧ (s.descFinished c = false → Quiet s → exec (.descriptorComplete c) s = .next s)
    ∧ (∀ x data p, peer x → ∃ u, exec (.uioCompletion c 0 .completerAbort p data) s = .next u
        ∧ (u.car c).st = .stopped ∧ (u.car c).code = 8)
    ∧ (∀ x data p, peer x → d.op.toNat = 7 → ∃ u, exec (.uioCompletion c 0 .ok p data) s = .next u
        ∧ (u.car c).done = (s.car c).done + x.bytes ∧ (u.car c).peers = 0 ∧ u.dram = s.dram ∧ u.mem = s.mem)
    ∧ (∀ x data p, peer x → d.op.toNat = 8 → ∃ u, exec (.uioCompletion c 0 .ok p data) s = .next u
        ∧ (u.car c).flight = [{ x with
            peer := false, toWrite := rangeWrites (d.o1.toNat + x.pos) x.bytes p (fun j => data.getD j 0) }]
        ∧ (u.car c).done = (s.car c).done ∧ u.dram = s.dram ∧ u.mem = s.mem)
    ∧ (∀ index data p x, Quiet s → (s.car c).post = some x → x.sent = true →
        ((s.car c).st = .running → (s.car c).abort = none → exec (.uioCompletion c index .ok p data) s =
          .next (s.setCar c { s.car c with post := none, progressAt := s.cyc }))
        ∧ ((s.car c).st = .reserved → ∃ u, exec (.uioCompletion c index .ok p data) s = .next u
          ∧ (u.car c).st = (s.car c).before ∧ (u.car c).post = none))
    ∧ (∀ p v, WriteOk s p aCAR_THAW 4 (v.setWidth 64) → (s.car c).st = .frozen → ∃ u, exec (.carThaw p v) s = .next u
        ∧ (u.car c).st = (if v.getLsbD c.val then .stopped else .frozen) ∧ (u.car c).prog = (s.car c).prog
        ∧ (∀ e, v.getLsbD e.val = false → u.car e = s.car e) ∧ u.dram = s.dram)

/-! The time unit, comparators and pins (02, R596 to R611) -/

/-- A frame that breaks a rule of R52 before its domain is counted in TU_CNT_A, one of another domain in TU_CNT_B, and both
are dropped; the first good frame is kept as the last accepted one with the RT it announces (R52, R55, R58, R67). A mark
is stamped with local RT at the pin; outside the window of R57 it is counted and ignored; an announced one is measured
against its RT and TU_CABLE_DELAY, or sets RT (R54, R55, R57, R69, R70). A flat line drops the source's measurement
state, and a mark that does not come does too (R53, R67). -/
def Obligations.TimelineSignals : Prop :=
  ∀ (s : State) (sync domain flags crc : BitVec 16) (rt : Word), Quiet s → s.regsWf = true →
    let badA : Prop := sync ≠ 0xB38E ∨ crc ≠ crc16 0x1021 0xFFFF (frameBytes rt domain flags) ∨ rt.toNat % 32000 ≠ 0
    let badB : Prop := domain = 0xFFFF ∨ (s.fld aTU_DOMAIN 0 16 ≠ 0xFFFF ∧ s.fld aTU_DOMAIN 0 16 ≠ domain.toNat)
    (badA → ∃ u, exec (.thifinFrame sync rt domain flags crc) s = .next u ∧ u.tu.rt = s.tu.rt
        ∧ u.fld aTU_CNT_A 0 16 = min (s.fld aTU_CNT_A 0 16 + 1) 0xFFFF
        ∧ (s.tlineUsed = true → u.tu.lastFrame = none ∧ u.tu.announce = none ∧ u.tu.tracking = false)
        ∧ (s.tlineUsed = false → u = s.bump aTU_CNT_A 0 16 1))
    ∧ (¬badA → badB → ∃ u, exec (.thifinFrame sync rt domain flags crc) s = .next u ∧ u.tu.rt = s.tu.rt
        ∧ u.fld aTU_CNT_B 0 16 = min (s.fld aTU_CNT_B 0 16 + 1) 0xFFFF
        ∧ (s.tlineUsed = true → u.tu.lastFrame = none ∧ u.tu.announce = none ∧ u.tu.tracking = false)
        ∧ (s.tlineUsed = false → u = s.bump aTU_CNT_B 0 16 1))
    ∧ (¬badA → ¬badB → s.tlineUsed = false → exec (.thifinFrame sync rt domain flags crc) s = .next (s.showFrame domain flags))
    ∧ (¬badA → ¬badB → s.tlineUsed = true → ∃ u, exec (.thifinFrame sync rt domain flags crc) s = .next u
        ∧ u.tu.lastFrame = some ⟨rt.toNat, domain, s.tu.lastMark, s.tu.markSeq⟩
        ∧ u.tu.announce = some rt.toNat ∧ u.tu.measOk = s.consistentFrame rt.toNat domain
        ∧ u.tu.rt = s.tu.rt ∧ u.tu.duRefOk = flags.getLsbD 15 ∧ u.tu.duCal = flags.getLsbD 14
        ∧ u.fld aTU_DOMAIN 16 16 = domain.toNat)
    ∧ (∀ (sub : BitVec 7) (delay : BitVec 16) (stamp : Int), stamp = s.markStamp sub.toNat delay.toNat →
        let ignored : Prop := s.tu.trust = .locked ∧ s.tu.markInWindow stamp = false
        let marked : State := { s with tu := { s.tu with
          markSeq := s.tu.markSeq + 1, announce := none, lastMark := some stamp } }
        (s.tlineUsed = false → exec (.cycleMark sub delay) s = .next s)
        ∧ (s.tlineUsed = true → ignored → exec (.cycleMark sub delay) s = .next (s.bump aTU_CNT_B 16 16 1))
        ∧ (s.tlineUsed = true → ¬ignored → s.tu.announce = none ∨ s.tu.measOk = false →
            exec (.cycleMark sub delay) s = .next marked)
        ∧ (∀ ann, s.tlineUsed = true → ¬ignored → s.tu.announce = some ann → s.tu.measOk = true → ∃ u,
            exec (.cycleMark sub delay) s = .next u ∧ u.tu.markSeq = s.tu.markSeq + 1 ∧ u.tu.announce = none
            ∧ u.tu.lastErr = stamp - (ann * 256 + s.cableDelay)
            ∧ (s.tu.stepHold = true → u = { marked with tu := { marked.tu with
                lastErr := stamp - (ann * 256 + s.cableDelay), prevMeasured := s.tu.lastMeasured, lastMeasured := s.now,
                lost := false, pendingCorr := none } })
            ∧ (s.tu.stepHold = false → s.tu.needSet = true →
                u.tu.rt = BitVec.ofNat 96 ((ann * 256 + s.cableDelay) * 2 ^ 24) ∧ u.tu.needSet = false)
            ∧ (s.tu.stepHold = false → s.tu.needSet = false → s.tu.stepPending = false → u.tu.rt = s.tu.rt)))
    ∧ (∀ inFrame, ∃ u, exec (.tlineFlat inFrame) s = .next u ∧ u.tu.tlineLos = true ∧ u.tu.rt = s.tu.rt
        ∧ u.fld aTU_CNT_A 16 16 = min (s.fld aTU_CNT_A 16 16 + bit inFrame) 0xFFFF
        ∧ (s.tlineUsed = true → u.tu.tracking = false ∧ u.tu.lastFrame = none ∧ u.tu.lastMark = none))
    ∧ exec .tlineSignalReturn s = .next { s with tu := { s.tu with tlineLos := false } }
    ∧ (∀ m, s.tu.lastMark = some m → s.tu.tracking = true ∨ s.tu.lastFrame.isSome = true →
        (m + 32016 * 256 ≤ s.rtAt 0 → ∃ u, exec .markMissing s = .next u
          ∧ u.tu.tracking = false ∧ u.tu.lastFrame = none ∧ u.tu.rt = s.tu.rt
          ∧ (s.tu.source = .tline → u.tu.source = .none ∧ u.tu.lost = true))
        ∧ (s.rtAt 0 < m + 32016 * 256 → exec .markMissing s = .next s))

/-- A PTM dialogue starts every PTM_INTERVAL rack cycles while its head is up; a failed one is counted, and the second in
a row loses the source, as two inconsistent ones do; a head that has gone yields nothing (R67, R79, R80, R82). A
correction whose amount is removed ends; a bound past TU_LIMIT makes the state UNTRUSTED; TU_ACK ends a step hold and
asks for an initial set (R60, R63, R69, R70). -/
def Obligations.PtmAndCorrections : Prop :=
  ∀ s : State, Quiet s →
    let due : Prop := s.ptmUsed = true ∧ s.ptmHeadUp = true ∧ s.tu.ptmRunning = false
      ∧ s.tu.ptmLastCycle + max 1 (s.fld aTU_CTRL 8 8) ≤ s.now / 32000
    (due → exec .ptmDialogueStart s = .next { s with tu := { s.tu with ptmRunning := true, ptmLastCycle := s.now / 32000 } })
    ∧ (¬due → exec .ptmDialogueStart s = .next s)
    ∧ (∀ answer, s.tu.ptmRunning = false → exec (.ptmDialogueComplete answer) s = .next s)
    ∧ (∀ answer, s.tu.ptmRunning = true → s.ptmHeadUp = false → exec (.ptmDialogueComplete answer) s =
        .next { s with tu := { s.tu with ptmRunning := false } })
    ∧ (s.tu.ptmRunning = true → s.ptmHeadUp = true → s.tu.ptmFails = 0 → exec (.ptmDialogueComplete none) s =
        .next { s with tu := { s.tu with ptmRunning := false, ptmFails := 1 } })
    ∧ (s.tu.ptmRunning = true → s.ptmHeadUp = true → 1 ≤ s.tu.ptmFails → ∃ u,
        exec (.ptmDialogueComplete none) s = .next u ∧ u.tu.ptmFails = 0 ∧ u.tu.ptmTracking = false ∧ u.tu.rt = s.tu.rt
        ∧ (s.tu.source = .ptm → u.tu.source = .none ∧ u.tu.lost = true))
    ∧ (∀ master frac (e : Int), s.tu.ptmRunning = true → s.ptmHeadUp = true → e = s.rtAt 0 - (s.ptmTime master frac : Int) →
        (s.tu.ptmLastErr = none → exec (.ptmDialogueComplete (some (master, frac))) s =
          .next { s with tu := { s.tu with ptmRunning := false, ptmFails := 0, ptmLastErr := some e } })
        ∧ (∀ p, s.tu.ptmLastErr = some p → 20 * 256 < (e - p).natAbs → ∃ u,
          exec (.ptmDialogueComplete (some (master, frac))) s = .next u ∧ u.tu.ptmLastErr = some e
          ∧ u.tu.ptmTracking = false ∧ u.tu.source ≠ .ptm ∧ u.tu.rt = s.tu.rt)
        ∧ (∀ p, s.tu.ptmLastErr = some p → (e - p).natAbs ≤ 20 * 256 → ∃ u,
          exec (.ptmDialogueComplete (some (master, frac))) s = .next u
          ∧ (s.tu.source = .tline → u = { s with tu := { s.tu with
              ptmRunning := false, ptmFails := 0, ptmLastErr := some e, ptmTracking := true } })
          ∧ (s.tu.source ≠ .tline → s.tu.needSet = false → s.tu.stepPending = false → s.tu.pendingCorr = none →
              u.tu.source = .ptm ∧ u.tu.ptmTracking = true ∧ u.tu.lastErr = e ∧ u.tu.rt = s.tu.rt)
          ∧ (s.tu.source ≠ .tline → s.tu.stepHold = false → s.tu.needSet = true →
              u.tu.rt = BitVec.ofNat 96 (s.ptmTime master frac * 2 ^ 24) ∧ u.tu.lastErr = e ∧ u.tu.needSet = false)))
    ∧ (s.tu.corr ≠ .none → s.tu.corrLeft = 0 → ∃ u, exec .correctionComplete s = .next u ∧ u.tu.corr = .none
        ∧ u.tu.rt = s.tu.rt ∧ u.tu.ok = !s.tu.lost)
    ∧ (s.tu.corr = .none ∨ s.tu.corrLeft ≠ 0 → exec .correctionComplete s = .next s)
    ∧ (s.trustNow = .untrusted → ∃ u, exec .boundOverLimit s = .next u ∧ u.tu.trust = .untrusted ∧ u.tu.rt = s.tu.rt)
    ∧ (s.trustNow ≠ .untrusted → exec .boundOverLimit s = .next s)
    ∧ (∀ p v, WriteOk s p aTU_ACK 4 (v.setWidth 64) →
        (v.getLsbD 0 = true → s.tu.stepHold = true → ∃ u, exec (.tuAckWrite p v) s = .next u ∧ u.tu.stepHold = false
          ∧ u.tu.needSet = true ∧ u.tu.rt = s.tu.rt)
        ∧ (v.getLsbD 0 = false ∨ s.tu.stepHold = false → exec (.tuAckWrite p v) s = .next s))

/-- Reading TU_RT answers integer RT. TC_VALUE takes its owner's value, TC_CTRL arms with a legal target and index, and an
illegal one is BAD_TARGET. A due comparator whose tolerance allows it fires: FIRED, disarmed without a period, and moved
on by whole periods past RT with one; a tolerance below the bound refuses it instead (R41, R65, R66, R83 to R86, R608). -/
def Obligations.Comparators : Prop :=
  ∀ (s : State) (n : Fin 64) (p : Path), Quiet s → s.regsWf = true →
    let moved (u : State) : Prop :=
      (s.fld (aTC_PERIOD n) 0 32 = 0 → u.tcArmed n = false ∧ u.reg (aTC_VALUE n) = s.reg (aTC_VALUE n))
      ∧ (0 < s.fld (aTC_PERIOD n) 0 32 → u.tcArmed n = true ∧ u.reg (aTC_VALUE n) = BitVec.ofNat 64
          ((s.reg (aTC_VALUE n)).toNat + s.fld (aTC_PERIOD n) 0 32 *
            ((s.now - (s.reg (aTC_VALUE n)).toNat) / s.fld (aTC_PERIOD n) 0 32 + 1)))
    let allowed : Prop := s.fld (aTC_TOL n) 0 32 = 0 ∨ s.boundNow ≤ s.fld (aTC_TOL n) 0 32
    (s.pathOpen p = true → ∃ u, exec (.tuRtRead p) s = .next u
        ∧ u.outputs = s.outputs ++ [.regValue p (BitVec.ofNat 64 s.now)] ∧ u.tu = s.tu)
    ∧ (∀ v, WriteOk s p (aTC_VALUE n) 8 v → ∃ u, exec (.tcValueWrite p n v) s = .next u ∧ u.reg (aTC_VALUE n) = v
        ∧ RegsKept s u [aTC_VALUE n]
        ∧ (s.tcArmed n = true → u.tcDue n = false
            ∧ u.lateArms.getLsbD n.val = decide (v.toNat ≤ s.now))
        ∧ u = { s with regs := u.regs, lateArms := u.lateArms, tcReadyAt := u.tcReadyAt })
    ∧ (∀ v target index, WriteOk s p (aTC_CTRL n) 4 (v.setWidth 64) → target = v.toNat / 16 % 16 →
        index = v.toNat / 256 % 32 →
        (targetOk target index = true → target ≠ 7 ∨ s.auxOwner index = s.tcOwner n → ∃ u,
          exec (.tcCtrlWrite p n v) s = .next u ∧ u.tcArmed n = v.getLsbD 0 ∧ u.tcTarget n = target
          ∧ u.tcIndex n = index ∧ RegsKept s u [aTC_CTRL n]
          ∧ u = { s with regs := u.regs, lateArms := u.lateArms, tcReadyAt := u.tcReadyAt })
        ∧ (targetOk target index = false → ∃ u, exec (.tcCtrlWrite p n v) s = .next u ∧ u.tcArmed n = false
          ∧ u.flag (aTC_STATUS n) 5 = true ∧ RegsKept s u [aTC_CTRL n, aTC_STATUS n] ∧ u = { s with regs := u.regs }))
    ∧ (s.tcDue n = true → allowed → s.tcTarget n = 0 → ∃ u,
        exec (.comparatorFire n) s = .next u ∧ u.flag (aTC_STATUS n) 0 = true
        ∧ u.flag (aTC_STATUS n) 4 = (s.flag (aTC_STATUS n) 0 || s.flag (aTC_STATUS n) 4)
        ∧ u.flag (aTC_STATUS n) 1 = (s.lateArms.getLsbD n.val || s.flag (aTC_STATUS n) 1)
        ∧ moved u ∧ RegsKept s u (tcRegs n) ∧ u = { s with regs := u.regs, lateArms := u.lateArms })
    ∧ (∀ t : Fin 8, s.tcDue n = true → allowed → s.tcTarget n = 1 → s.tcIndex n = t.val → ∃ u,
        exec (.comparatorFire n) s = .next u ∧ (u.thread t).events = (s.thread t).events ||| 0x100 ∧ moved u)
    ∧ (s.tcDue n = true → ¬allowed → s.tcTarget n = 0 → s.sourceClass 26 ≤ 2 → ∃ u,
        exec (.comparatorFire n) s = .next u ∧ u.flag (aTC_STATUS n) 2 = true
        ∧ u.flag (aTC_STATUS n) 0 = s.flag (aTC_STATUS n) 0 ∧ moved u ∧ u.tu = s.tu)
    ∧ (s.tcDue n = false → exec (.comparatorFire n) s = .next s)

/-- ALIVE toggles when RT enters a further 16 rack cycles unless it has stopped; the watchdog stops it with cause 3. A pin
owned as rack-cycle output pulses when RT enters a further rack cycle and falls 16 ns later; a rising edge of 8 ns on
AUX_A owned as trigger input asks for a snapshot 20 cycles later; a vendor message is event bit 11 (R76, R336, R596 to
R598, R601, R611). -/
def Obligations.AliveAndPins : Prop :=
  ∀ s : State, Quiet s → s.regsWf = true →
    (s.tu.aliveCycle < s.now / 512000 → s.flag aALIVE_STATUS 1 = false → ∃ u, exec .aliveToggle s = .next u
        ∧ u.flag aALIVE_STATUS 0 = !s.flag aALIVE_STATUS 0 ∧ RegsKept s u [aALIVE_STATUS]
        ∧ u = { s with regs := u.regs, tu := { s.tu with aliveCycle := s.now / 512000 } })
    ∧ (s.flag aALIVE_STATUS 1 = true → ∃ u, exec .aliveToggle s = .next u ∧ u.regs = s.regs)
    ∧ (s.now / 512000 ≤ s.tu.aliveCycle → exec .aliveToggle s = .next s)
    ∧ (∃ u, exec .watchdogExpiry s = .next u ∧ u.flag aALIVE_STATUS 1 = true
        ∧ (s.flag aALIVE_STATUS 1 = false → u.fld aALIVE_STATUS 2 2 = 3))
    ∧ (s.tu.pulseCycle < s.now / 32000 → s.auxFunc 0 = 2 → s.auxFunc 1 ≠ 2 → s.pins.auxEndA = none → exec .rackCyclePulse s =
        .next { s with tu := { s.tu with pulseCycle := s.now / 32000 }, pins := { s.pins with auxEndA := some (s.cyc + 32) },
                       outputs := s.outputs ++ [.auxPulse 0] })
    ∧ (s.tu.pulseCycle < s.now / 32000 → s.auxFunc 0 ≠ 2 → s.auxFunc 1 = 2 → s.pins.auxEndB = none → exec .rackCyclePulse s =
        .next { s with tu := { s.tu with pulseCycle := s.now / 32000 }, pins := { s.pins with auxEndB := some (s.cyc + 32) },
                       outputs := s.outputs ++ [.auxPulse 1] })
    ∧ (s.now / 32000 ≤ s.tu.pulseCycle → exec .rackCyclePulse s = .next s)
    ∧ (∀ c, s.pins.auxEndA = some c → c ≤ s.cyc → exec (.auxPulseEnd 0) s =
        .next { s with pins := { s.pins with auxEndA := none } })
    ∧ (∀ c, s.pins.auxEndB = some c → c ≤ s.cyc → exec (.auxPulseEnd 1) s =
        .next { s with pins := { s.pins with auxEndB := none } })
    ∧ (s.auxFunc 0 = 1 → s.pins.auxTrigger = none → exec (.auxARisingEdge true) s =
        .next { s with pins := { s.pins with auxTrigger := some (s.cyc + 20) } })
    ∧ (s.auxFunc 0 ≠ 1 → exec (.auxARisingEdge true) s = .next s) ∧ exec (.auxARisingEdge false) s = .next s
    ∧ (∀ t : Fin 8, s.fld aTT_EVROUTE 3 3 = t.val → ∃ u, exec .mgmtVendorMessage s = .next u
        ∧ (u.thread t).events = (s.thread t).events ||| 0x800 ∧ OtherThreads s u t
        ∧ u = { s with eng := { s.eng with threads := u.eng.threads } })

/-! Links and lanes (04, 05) -/

/-- A link that may train enters training on the widest run of its lanes that are neither undetected nor skewed nor
excluded; LINK_UP puts it in L0 at the rate agreed, up to 32 GT/s without the bypass, and the function's state of the
last link is gone (R120, R135, R140, R161, R200). A Phase 3 request is answered by whether it equals the setting of the
table (R154). Speed changes, Recovery, the deskew overflow, the equalisation bypass and redo act as R142, R143, R148, R156
and R162 say. -/
def Obligations.LinkTraining : Prop :=
  ∀ (s : State) (k : Fin 16), Quiet s → s.regsWf = true →
    let entered (u : State) (lanes : List (Fin 64)) (r : Nat) : Prop :=
      ∀ l ∈ lanes, u.laneEq.find? (fun p => p.1 == l.val && p.2.1 == r) = some (l.val, r, s.eqEntry l r)
    (∀ m, exec (.perstNDeassert m) s = .next (s.setFlag aMOD_PERST m.val true))
    ∧ (∀ undetected skewed rev inv out lanes, s.mayTrain k = true →
        out = (s.lanesOf k).filter (fun l => skewed.contains l)
          ++ (s.lanesOf k).filter (fun (l : Fin 64) => undetected.contains l || s.laneExcluded l.val) →
        lanes = trainedLanes (if rev then (s.lanesOf k).reverse else s.lanesOf k) out →
        (lanes ≠ [] → ∃ u, exec (.linkTrainingStart k undetected skewed rev inv false) s = .next u
          ∧ (u.head k).link = .training ∧ (u.head k).lanes = lanes ∧ (u.head k).reversed = rev
          ∧ (skewed = [] → 2 ≤ s.advertised k → entered u lanes 0)
          ∧ (∀ l ∈ s.lanesOf k, l ∈ skewed → u.flag (aLN_STATUS l) 13 = true)
          ∧ (skewed = [] → ∀ j, j ≠ k → u.head j = s.head j))
        ∧ (lanes ≠ [] → ∃ u, exec (.linkTrainingStart k undetected skewed rev inv true) s = .next u
          ∧ (u.head k).link = .compliance ∧ (u.head k).lanes = [])
        ∧ (lanes = [] → skewed = [] → exec (.linkTrainingStart k undetected skewed rev inv false) s = .next s))
    ∧ (∀ undetected skewed rev inv compliance, s.mayTrain k = false →
        exec (.linkTrainingStart k undetected skewed rev inv compliance) s = .next s)
    ∧ (∀ rate precode r, (s.head k).link = .training → s.laneDomains k (s.head k).lanes = true →
        r = min rate.toNat (if (s.head k).bypass then s.advertised k else min 4 (s.advertised k)) → ∃ u,
        exec (.linkUp k rate precode) s = .next u ∧ (u.head k).link = .l0 ∧ (u.head k).rate = BitVec.ofNat 3 r
        ∧ (u.head k).lanes = (s.head k).lanes ∧ (u.head k).precode = precoded (s.head k).lanes precode r
        ∧ (u.head k).held = false ∧ (u.head k).policy = 0 ∧ (u.head k).transcript = [] ∧ (u.head k).cfg = []
        ∧ (u.head k).hdm = [] ∧ (u.head k).logs = (s.head k).logs ∧ (u.head k).mode = (s.head k).mode
        ∧ u.reg (aHD_LAST_UP k) = s.nowW ∧ (∀ j, j ≠ k → u.head j = s.head j) ∧ u.grants = s.grants)
    ∧ ((s.head k).link = .l0 → (s.head k).rate.toNat ≠ s.advertised k → ∃ u, exec (.directedSpeedChange k) s = .next u
        ∧ u.head k = { s.head k with link := .speedChange } ∧ (∀ j, j ≠ k → u.head j = s.head j) ∧ u.regs = s.regs
        ∧ (2 ≤ s.advertised k → s.advertised k < 7 → entered u (s.head k).lanes (s.advertised k - 2)))
    ∧ ((s.head k).link ≠ .l0 ∨ (s.head k).rate.toNat = s.advertised k → exec (.directedSpeedChange k) s = .next s)
    ∧ (∀ rate precode r, (s.head k).link = .speedChange → r = min rate.toNat (s.advertised k) → ∃ u,
        exec (.speedChangeComplete k rate precode) s = .next u
        ∧ (u.head k).link = .l0 ∧ (u.head k).rate = BitVec.ofNat 3 r ∧ (u.head k).lanes = (s.head k).lanes
        ∧ (u.head k).precode = precoded (s.head k).lanes precode r ∧ (∀ j, j ≠ k → u.head j = s.head j))
    ∧ ((s.head k).link = .l0 → exec (.linkRecoveryEntry k) s = .next (s.setHead k { s.head k with link := .recovery }))
    ∧ ((s.head k).link = .recovery → exec (.linkRecoveryExit k) s = .next (s.setHead k { s.head k with link := .l0 }))
    ∧ (∀ l : Fin 64, s.headOf l = k → (s.head k).link = .l0 → (s.head k).lanes.contains l = true →
        exec (.deskewDriftOverflow l) s =
        .next ((s.setFlag (aLN_STATUS l) 13 true).setHead k { s.head k with link := .recovery }))
    ∧ ((s.head k).link = .training → ∃ u, exec (.eqBypassRequest k) s = .next u
        ∧ u.head k = { s.head k with bypass := true } ∧ (∀ j, j ≠ k → u.head j = s.head j) ∧ u.regs = s.regs
        ∧ (5 ≤ s.advertised k → s.advertised k < 7 → entered u (s.head k).lanes (s.advertised k - 2)))
    ∧ (∀ (l : Fin 64) (r : Fin 5), s.headOf l = k → (s.head k).up = true → (s.head k).lanes.contains l = true →
        (s.head k).rate.toNat = r.val + 2 → ∃ u, exec (.eqRedoRequest l r) s = .next u ∧ entered u [l] r
        ∧ u = { s with laneEq := u.laneEq, outputs := u.outputs })
    ∧ (∀ (l : Fin 64) (r : Fin 5) request v, v = ((s.laneEq.find? (fun p => p.1 == l.val && p.2.1 == r.val)).map
          (fun p => p.2.2)).getD (s.eqEntry l r) →
        exec (.eqPhase3Request l r request) s = .next (s.emit (.eqAnswer l (eqMatches v request))))

/-- A link out of service: in the state that the cause leaves it, without lanes or rate, held, with its reads discarded and
the RT of its loss recorded (R197). -/
def Sys2Proof.Claims.Down (s u : State) (k : Fin 16) (next : LinkState) : Prop :=
  (u.head k).link = next ∧ (u.head k).lanes = [] ∧ (u.head k).rate = 0 ∧ (u.head k).held = true
  ∧ (u.head k).mode = (s.head k).mode ∧ u.reg (aHD_LAST_DOWN k) = s.nowW
  ∧ u.fld (aHD_DOWN_CNT k) 0 16 = min (s.fld (aHD_DOWN_CNT k) 0 16 + 1) 0xFFFF ∧ u.outstandingReads k = 0
  ∧ u.grants = s.grants ∧ u.dram = s.dram ∧ (∀ j, j ≠ k → (u.head j).link = (s.head j).link)

/-- Every cause of DL_Down takes an up link out of service (R119, R171, R196, R197). A detector that asserts sets its
flag, and counts its rising edge where R166 counts it (R164 to R166). A flit that fails its CRC is counted and no more
(R195). -/
def Obligations.LinkLossAndDetectors : Prop :=
  ∀ (s : State) (k : Fin 16) (l : Fin 64), Quiet s → s.regsWf = true →
    ((s.head k).link = .recovery ∨ (s.head k).link = .speedChange → ∃ u, exec (.recoveryFailure k) s = .next u ∧ Down s u k .detect)
    ∧ ((s.head k).up = true → ∃ u, exec (.hotReset k) s = .next u ∧ Down s u k .detect)
    ∧ ((s.head k).up = true → ∃ u, exec (.linkDisable k) s = .next u ∧ Down s u k .disabled)
    ∧ ((s.head k).up = true → ∃ u, exec (.loopbackFollowerEntry k) s = .next u ∧ Down s u k .loopback)
    ∧ ((s.head k).link = .training → ∃ u, exec (.loopbackFollowerEntry k) s = .next u ∧ (u.head k).link = .loopback
        ∧ (∀ j, j ≠ k → u.head j = s.head j))
    ∧ (∀ m : Fin 16, s.present k = true → s.perstPin k = m.val → (s.head k).up = true → ∃ u,
        exec (.perstNAssert m) s = .next u ∧ Down s u k .detect ∧ u.flag aMOD_PERST m.val = false)
    ∧ (∀ idle, ∃ u, exec (.losAssert l idle) s = .next u ∧ u.flag (aLN_STATUS l) 0 = true
        ∧ u.fld (aLN_CNT l) 0 16 = (if s.flag (aLN_STATUS l) 0 = false ∧ idle = false ∧ s.edgesCount l = true
            then min (s.fld (aLN_CNT l) 0 16 + 1) 0xFFFF else s.fld (aLN_CNT l) 0 16))
    ∧ (∀ idle, ∃ u, exec (.lolAssert l idle) s = .next u ∧ u.flag (aLN_STATUS l) 1 = true
        ∧ u.fld (aLN_CNT l) 16 16 = (if s.flag (aLN_STATUS l) 1 = false ∧ idle = false ∧ s.edgesCount l = true
            then min (s.fld (aLN_CNT l) 16 16 + 1) 0xFFFF else s.fld (aLN_CNT l) 16 16))
    ∧ exec (.losDeassert l) s = .next (s.setFlag (aLN_STATUS l) 0 false)
    ∧ exec (.lolDeassert l) s = .next (s.setFlag (aLN_STATUS l) 1 false)
    ∧ ((s.head k).up = true → exec (.flitCrcFail k) s = .next (s.bump (aHD_DOWN_CNT k) 16 16 1))

/-- ENABLE makes a lane test-owned at its rate with cleared counters, or is refused with BUSY or BAD_CFG; clearing it frees
the lane (R169 to R173). A single or a burst injection with GO flips its bits at once where a stream runs, and a
synchronised checker counts them; a rate injection starts; without GO it stops (R174, R175). The checker's
synchronisation, its loss, and the digest of the equalisation table act as R149 and R168 say. -/
def Obligations.LaneTests : Prop :=
  ∀ (s : State) (p : Path) (l : Fin 64) (v : BitVec 32) (w : Word), s.regsWf = true → w = v.setWidth 64 →
    let recent : Nat := ((s.errsOf l).filter (fun q => decide ((s.reg (aLN_BITCNT l)).toNat < q + 1024))).length
    let plus (n : Nat) : Word := BitVec.ofNat 64 (min ((s.reg (aLN_ERRCNT l)).toNat + n) (2 ^ 64 - 1))
    (WriteOk s p (aLN_TEST l) 4 w → s.flag (aLN_TEST l) 0 = false → w.getLsbD 0 = true → s.testBad l w = false →
        s.testRefused l w = false → ∃ u, exec (.lnTestEnable p l v) s = .next u ∧ u.flag (aLN_TEST l) 0 = true
        ∧ u.fld (aLN_TEST l) 1 11 = getBits w 1 11 ∧ u.flag (aLN_STATUS l) 14 = true
        ∧ u.fld (aLN_STATUS l) 2 3 = getBits w 9 3 ∧ u.reg (aLN_ERRCNT l) = 0 ∧ u.reg (aLN_BITCNT l) = 0
        ∧ (getBits w 6 3 = 3 → (u.head (s.headOf l)).link = .loopback) ∧ (getBits w 6 3 ≠ 3 → u.heads = s.heads))
    ∧ (WriteOk s p (aLN_TEST l) 4 w → s.flag (aLN_TEST l) 0 = false → w.getLsbD 0 = true →
        s.testRefused l w = true ∨ s.testBad l w = true →
        ∃ u, exec (.lnTestEnable p l v) s = .next u ∧ u.flag (aLN_TEST l) 0 = false ∧ RegsKept s u [aLN_TEST l]
        ∧ (s.testRefused l w = true → u.flag (aLN_TEST l) 12 = true) ∧ (s.testBad l w = true → u.flag (aLN_TEST l) 13 = true)
        ∧ u = { s with regs := u.regs })
    ∧ (WriteOk s p (aLN_TEST l) 4 w → s.flag (aLN_TEST l) 0 = true → w.getLsbD 0 = false → s.fld (aLN_TEST l) 6 3 ≠ 3 → ∃ u,
        exec (.lnTestDisable p l v) s = .next u ∧ u.flag (aLN_TEST l) 0 = false ∧ u.flag (aLN_STATUS l) 14 = false
        ∧ RegsKept s u [aLN_TEST l, aLN_STATUS l] ∧ u = { s with regs := u.regs })
    ∧ (WriteOk s p (aLN_TEST l) 4 w → s.flag (aLN_TEST l) 0 = true → w.getLsbD 0 = false → s.fld (aLN_TEST l) 6 3 = 3 → ∃ u, exec (.lnTestDisable p l v) s = .next u ∧ u.flag (aLN_TEST l) 0 = false
        ∧ (∀ i ∈ headLanes s.layout (s.headOf l), u.flag (aLN_STATUS i) 14 = false)
        ∧ (u.head (s.headOf l)).link = .detect ∧ (∀ j, j ≠ s.headOf l → u.head j = s.head j))
    ∧ (∀ i n, (i = .injectSingle p l v ∧ getBits w 0 2 = 1 ∧ n = 1)
          ∨ (i = .injectBurst p l v ∧ getBits w 0 2 = 2 ∧ n = max 1 (getBits w 4 8)) →
        WriteOk s p (aLN_INJECT l) 4 w → w.getLsbD 2 = false → w.getLsbD 3 = true →
        (s.injectable l false = true → ∃ u, exec i s = .next u ∧ u.flag (aLN_INJECT l) 3 = true
          ∧ u.outputs = s.outputs ++ [.injected l false n]
          ∧ (s.checking l = false → u.reg (aLN_ERRCNT l) = s.reg (aLN_ERRCNT l))
          ∧ (s.checking l = true → recent + n < 32 → u.reg (aLN_ERRCNT l) = plus n ∧ u.flag (aLN_TEST l) 14 = true)
          ∧ (s.checking l = true → 32 ≤ recent + n → u.flag (aLN_TEST l) 14 = false))
        ∧ (s.injectable l false = false → ∃ u, exec i s = .next u ∧ u.flag (aLN_INJECT l) 3 = true
          ∧ RegsKept s u [aLN_INJECT l] ∧ u = { s with regs := u.regs }))
    ∧ (getBits w 0 2 = 3 → WriteOk s p (aLN_INJECT l) 4 w → w.getLsbD 2 = false → w.getLsbD 3 = true → ∃ u,
        exec (.injectRate p l v) s = .next u ∧ u.flag (aLN_INJECT l) 3 = true ∧ u.fld (aLN_INJECT l) 12 6 = getBits w 12 6
        ∧ RegsKept s u [aLN_INJECT l] ∧ u = { s with regs := u.regs })
    ∧ (WriteOk s p (aLN_INJECT l) 4 w → w.getLsbD 3 = false → ∃ u, exec (.injectStop p l v) s = .next u
        ∧ u.flag (aLN_INJECT l) 3 = false ∧ RegsKept s u [aLN_INJECT l] ∧ u = { s with regs := u.regs })
    ∧ (s.flag (aLN_INJECT l) 3 = true → s.fld (aLN_INJECT l) 0 2 = 1 ∨ s.fld (aLN_INJECT l) 0 2 = 2 →
        exec (.injectDone l) s = .next (s.setFlag (aLN_INJECT l) 3 false))
    ∧ (∀ errors, s.flag (aLN_STATUS l) 14 = true → s.flag (aLN_TEST l) 2 = true → ∃ u, exec (.checkerSync l errors) s = .next u
        ∧ u.flag (aLN_TEST l) 14 = true ∧ RegsKept s u [aLN_TEST l, aLN_ERRCNT l]
        ∧ (s.checking l = false → u.reg (aLN_ERRCNT l) = s.reg (aLN_ERRCNT l))
        ∧ (s.checking l = true → recent + errors < 32 → u.reg (aLN_ERRCNT l) = plus errors)
        ∧ u = { s with regs := u.regs, laneErrs := u.laneErrs })
    ∧ (s.checking l = true → ∃ u, exec (.checkerSyncLoss l) s = .next u ∧ u.flag (aLN_TEST l) 14 = false
        ∧ u.reg (aLN_ERRCNT l) = plus (32 - recent) ∧ RegsKept s u [aLN_TEST l, aLN_ERRCNT l]
        ∧ u = { s with regs := u.regs, laneErrs := u.laneErrs })
    ∧ (s.checking l = false → exec (.checkerSyncLoss l) s = .next s)
    ∧ (s.eqDigestBusy = true → exec .eqDigestDone s =
        .next (State.putDigest { s with eqDigestBusy := false } (aLANE_EQ_DIGEST 0) (shake256 s.eqTableBytes)))

/-! The mailbox, the FM API, capacity, images and attestation (05, 13) -/

/-- A served mailbox command that only reports answers Success with its payload and changes nothing else; the vendor
replies have the lengths of Table 5.8 (R182, R208, R210, R214, R216, R219, R259, R279, R560). Clearing a log removes its
oldest records, the interrupt policy is stored, and Set Timestamp and unlisted opcodes are Unsupported (R210). -/
def Obligations.MailboxReports : Prop :=
  ∀ (s : State) (k : Fin 16), MailOk s k →
    let answer (status : String) (payload : List Byte) : Host.Outcome State Fault Refusal :=
      .next (s.reply (.head k) status payload)
    let ok : List Byte → Host.Outcome State Fault Refusal := answer "Success"
    (∀ log n, exec (.getEventRecords k log n) s = ok (logReply ((s.head k).logs.get log) n))
    ∧ (∀ log n, ∃ u, exec (.clearEventRecords k log n) s = .next u
        ∧ ((u.head k).logs.get log).records = ((s.head k).logs.get log).records.drop n
        ∧ (∀ other, other ≠ log → (u.head k).logs.get other = (s.head k).logs.get other)
        ∧ (∀ j, j ≠ k → u.head j = s.head j) ∧ u = { s with heads := u.heads, outputs := u.outputs })
    ∧ exec (.getEventInterruptPolicy k) s = ok (toBytes 4 (s.head k).policy.toNat)
    ∧ (∀ policy, exec (.setEventInterruptPolicy k policy) s =
        .next ((s.setHead k { s.head k with policy := policy }).reply (.head k) "Success" []))
    ∧ (s.mgmtHead ≠ k.val → exec (.getFwInfo k) s = answer "Unsupported" [])
    ∧ (s.mgmtHead = k.val → ∃ payload, exec (.getFwInfo k) s = ok payload)
    ∧ exec (.getTimestamp k) s = ok (toBytes 8 s.now)
    ∧ (∀ v other, exec (.setTimestamp k v other) s = answer "Unsupported" [])
    ∧ exec (.getSupportedLogs k) s = ok (Config.standardReply 0x0400 [])
    ∧ exec (.getLog k true) s = ok (Config.standardReply 0x0401 []) ∧ exec (.getLog k false) s = answer "Invalid Log" []
    ∧ exec (.identifyMemoryDevice k) s = ok (Config.standardReply 0x4000 [0, 0, 0])
    ∧ exec (.getHealthInfo k) s = ok (Config.standardReply 0x4200 [s.hottest])
    ∧ exec (.getDynamicCapacityConfiguration k) s = ok (regionReply 0x4800)
    ∧ exec (.getDynamicCapacityExtentList k) s = ok (s.extentReply 0x4801 k)
    ∧ (∀ dpa len, exec (.addDynamicCapacityResponse k dpa len) s = ok [])
    ∧ (s.storeReady = true → exec (.getPoisonList k) s = ok (Config.standardReply 0x4300 (s.poisonList k)))
    ∧ (s.storeReady = false → exec (.getPoisonList k) s = answer "Busy" [])
    ∧ (exec (.getHaltTimetable k) s = ok s.haltTimetable ∧ s.haltTimetable.length = 24)
    ∧ (exec (.getTimeState k) s = ok s.timeState ∧ s.timeState.length = 24)
    ∧ (∀ x j, s.headArg x = some j → exec (.getHeadState k x) s = ok (s.headState j) ∧ (s.headState j).length = 16)
    ∧ (∀ x, s.headArg x = none → exec (.getHeadState k x) s = answer "Invalid Input" [])
    ∧ (exec (.getFloor k) s = ok s.floorReply ∧ s.floorReply.length = 8)
    ∧ (exec (.getIdentityKey k) s = ok s.identityReply ∧ s.identityReply.length = 1797)
    ∧ (∃ table, exec (.cdatTableAccess k) s = .next (s.emit (.cdat k table)))

/-- Inject Poison and Clear Poison on the management head, of a line that it is granted, answer Success; the table of
uncorrectable errors takes an entry of source 7, or clears the line's entries; a cached line reads as poison, or as the
data given, and another line's write stands in the journal. On another head they are Unsupported (R423, Table 5.7). An
add of an extent grants its blocks to the head in service and is Busy before; a release takes exactly the extent's blocks
from the head, or is refused as a whole, and a block that no head holds is filled (R183, R184, R186, R629). A block whose
fill is done holds zero symbols, with no copy of its lines in the cache or the journal, and other blocks' cached lines
stay (R186). -/
def Obligations.PoisonAndCapacity : Prop :=
  (∀ (s : State) (k : Fin 16) (dpa line : Nat), MailOk s k → line = dpa / 64 →
     (s.mgmtHead ≠ k.val → exec (.injectPoison k dpa) s = .next (s.reply (.head k) "Unsupported" [])
       ∧ ∀ data, exec (.clearPoison k dpa data) s = .next (s.reply (.head k) "Unsupported" []))
     ∧ (s.mgmtHead = k.val → s.storeReady = true → dpa % 64 = 0 → s.granted k line = true → s.journalRoom = true →
         s.lineBusy line = false → s.sliceWaits line = false →
         let journalled (u : State) (poison : Bool) : Prop := ∀ p, s.lookup line = none → s.place line = some p →
           s.impossible p.1 = false → ∃ e ∈ u.mem.journal, e.line = line ∧ fullMask e.mask = true ∧ e.val.poison = poison
         (s.integ.ue.length < 31 → ∃ u, exec (.injectPoison k dpa) s = .next u
           ∧ u.outputs.getLast? = some (.reply (.head k) "Success" [])
           ∧ (∃ e ∈ u.integ.ue, e.line = line ∧ e.source = 7 ∧ e.master = BitVec.ofNat 8 k.val ∧ e.cleared = false)
           ∧ ((s.lookup line).isSome = true → (u.lineNow line).poison = true) ∧ journalled u true)
         ∧ (∀ data, ∃ u, exec (.clearPoison k dpa data) s = .next u
           ∧ u.outputs.getLast? = some (.reply (.head k) "Success" [])
           ∧ (∀ e ∈ u.integ.ue ++ u.integ.spill, e.line = line → e.cleared = true)
           ∧ ((s.lookup line).isSome = true → u.lineNow line = { data := data, poison := false }) ∧ journalled u false))
     ∧ (s.mgmtHead = k.val → s.storeReady = true → dpa % 64 ≠ 0 ∨ s.granted k line = false →
         exec (.injectPoison k dpa) s = .next (s.reply (.head k) "Invalid Input" [])
         ∧ ∀ data, exec (.clearPoison k dpa data) s = .next (s.reply (.head k) "Invalid Input" [])))
  ∧ (∀ (s : State) (k : Fin 16) (p : Path) (x : BitVec 8) (dpa len tag : Nat),
     (FmOk s p → s.flag aSU_CTRL 0 = true → s.storeReady = true → s.headArg x = some k → ∀ bs,
         extentBlocks dpa len = some bs →
         (bs.any (s.addBreaks k tag) = false → bs.any s.isFilling = false → ∃ u,
           exec (.initiateDynamicCapacityAdd p x dpa len tag) s = .next u
           ∧ u.grants = s.grants ++ bs.map (fun (b : Nat) => { head := k, block := b, tag := tag : Grant })
           ∧ u.outputs.getLast? = some (.reply p "Success" [])
           ∧ u = { s with grants := u.grants, heads := u.heads, mgmt := u.mgmt, outputs := u.outputs })
         ∧ (bs.any (s.addBreaks k tag) = true → exec (.initiateDynamicCapacityAdd p x dpa len tag) s =
           .next (s.reply p "Invalid Input" []))
         ∧ (bs.any (s.addBreaks k tag) = false → bs.any s.isFilling = true →
           exec (.initiateDynamicCapacityAdd p x dpa len tag) s = .next (s.reply p "Busy" [])))
     ∧ (FmOk s p → s.flag aSU_CTRL 0 = false →
         exec (.initiateDynamicCapacityAdd p x dpa len tag) s = .next (s.reply p "Busy" []))
     ∧ (∀ bs, s.storeReady = true → extentBlocks dpa len = some bs →
         bs.all (fun b => s.grants.any (fun g => g.head == k.val && g.block == b)) = true → ∀ i,
         (i = .releaseDynamicCapacity k dpa len ∧ MailOk s k)
           ∨ (i = .initiateDynamicCapacityRelease p x dpa len ∧ FmOk s p ∧ s.headArg x = some k) → ∃ u,
         exec i s = .next u ∧ u.grants = s.grants.filter (fun g => !(g.head == k.val && bs.contains g.block))
         ∧ (s.siState 0 ≠ 1 → s.siState 1 ≠ 1 → ∀ b ∈ bs, (∀ g ∈ s.grants, g.block = b → g.head = k.val) →
             u.isFilling b = true))
     ∧ (MailOk s k → s.storeReady = true → extentBlocks dpa len = none →
         exec (.releaseDynamicCapacity k dpa len) s = .next (s.reply (.head k) "Invalid Input" []))
     ∧ (∀ b, s.filling.any (fun f => f.block == b && f.done == blockLines) = true → ∃ u,
         exec (.zeroFillDone b) s = .next u ∧ u.isFilling b = false
         ∧ (∀ line, line / 2 ^ 22 = b → u.cached line = none ∧ u.journalOf line = [])
         ∧ (∀ line, line / 2 ^ 22 = b → s.isLost (lineChannel line) = false → u.cells line = List.replicate 72 0)
         ∧ (∀ line, line / 2 ^ 22 ≠ b → u.cached line = s.cached line) ∧ u.grants = s.grants ∧ u.regs = s.regs)
     ∧ (∀ b, s.filling.any (fun f => f.block == b && f.done == blockLines) = false → exec (.zeroFillDone b) s = .next s))

/-- The FM API reports, names its registers and sets its addresses; a head that is not present is an invalid input (R176,
R206, R208, R213); a head thawed serves again (R204). -/
def Obligations.FabricManager : Prop :=
  ∀ (s : State) (p : Path) (x : BitVec 8), FmOk s p →
    let answer (status : String) (payload : List Byte) : Host.Outcome State Fault Refusal := .next (s.reply p status payload)
    let ok : List Byte → Host.Outcome State Fault Refusal := answer "Success"
    exec (.fmInformationAndStatus p) s = ok (Config.standardReply 0x0001 [Config.vendorId.toNat, s.identityTrim.1])
    ∧ (∀ log n, exec (.fmEvents p log false n) s = ok (logReply (s.mgmt.fmLogs.get log) n))
    ∧ (∀ log n, ∃ u, exec (.fmEvents p log true n) s = .next u
        ∧ (u.mgmt.fmLogs.get log).records = (s.mgmt.fmLogs.get log).records.drop n
        ∧ u = { s with mgmt := u.mgmt, outputs := u.outputs })
    ∧ exec (.getMultiHeadedInfo p) s = ok (Config.standardReply 0x5500 [s.layout, headCount s.layout])
    ∧ exec (.getDcdInfo p) s = ok (regionReply 0x5600)
    ∧ exec (.fmGetIdentityKey p) s = ok s.identityReply
    ∧ (∀ k, s.headArg x = some k →
        exec (.getHeadInfo p x) s = ok (Config.standardReply 0x5501 [k.val, (s.hdStatus k).toNat])
        ∧ exec (.getHostDcRegionConfiguration p x) s = ok (regionReply 0x5601)
        ∧ exec (.getDcRegionExtentLists p x) s = ok (s.extentReply 0x5603 k)
        ∧ exec (.fmGetHeadState p x) s = ok (s.headState k)
        ∧ (∀ n, exec (.setDcRegionConfiguration p x n) s = answer (if n = 2 ^ 28 then "Success" else "Invalid Input") [])
        ∧ ((s.head k).mode ≠ .normal → ∃ u, exec (.thawHead p x) s = .next u ∧ (u.head k).mode = .normal
            ∧ (∀ j, j ≠ k → (u.head j).mode = (s.head j).mode))
        ∧ ((s.head k).mode = .normal → exec (.thawHead p x) s = ok []))
    ∧ (s.headArg x = none → ∀ i n, i = .getHeadInfo p x ∨ i = .getHostDcRegionConfiguration p x
          ∨ i = .getDcRegionExtentLists p x ∨ i = .fmGetHeadState p x ∨ i = .setDcRegionConfiguration p x n ∨ i = .thawHead p x →
        exec i s = answer "Invalid Input" [])
    ∧ (∀ a w, busOk a w = true → ∃ u, exec (.readRegister p a w) s = .next u
        ∧ u.outputs.getLast? = some (.reply p "Success" (toBytes 8 (s.peek a).toNat)))
    ∧ (∀ a w, busOk a w = false → ∃ u, exec (.readRegister p a w) s = .next u
        ∧ u.outputs.getLast? = some (.reply p "Invalid Input" []))
    ∧ (∀ a w v, s.checkWrite p a w v = .ok → s.namesAbsent a v = false →
        exec (.writeRegister p a w v) s = .next (State.settle s ((s.applyWrite a v).reply p "Success" [])))
    ∧ (∀ a w v, s.checkWrite p a w v = .ok → s.namesAbsent a v = true →
        exec (.writeRegister p a w v) s = answer "Invalid Input" [])
    ∧ (∀ a w v, s.checkWrite p a w v ≠ .ok → ∃ u, exec (.writeRegister p a w v) s = .next u
        ∧ u.outputs.getLast? = some (.reply p (if s.checkWrite p a w v = .bus then "Invalid Input" else "Success") []))
    ∧ (∀ a, exec (.i3cEntdaa a) s = .next { s with mgmt := { s.mgmt with i3cAddr := some a } })
    ∧ (∀ e, p = .i3c → exec (.setEndpointId p e) s = .next { s with mgmt := { s.mgmt with eidI3c := some e } })
    ∧ (∀ e, p = .vdm → exec (.setEndpointId p e) s = .next { s with mgmt := { s.mgmt with eidVdm := some e } })

/-- A path that may bring an image does so now (R211, R618). -/
def Sys2Proof.Claims.ImageOk (s : State) (p : Path) : Prop :=
  Quiet s ∧ s.imagePath p = true ∧ s.imageUnsupported p = false ∧ s.storeReady = true ∧ s.activating = false

/-- Parts of an image in order are staged; a part out of order discards the staging (R211, R554). Activation checks the
image, records why one is refused, waits for running threads, and loads: every thread then is at reset or runs at its
entry point, its count of issues starts again, and the image is counted (R212, R299, R354, R355, R555, R556). -/
def Obligations.Images : Prop :=
  ∀ (s : State) (p : Path),
    (∀ off data last, ImageOk s p → off = 0 ∨ (off = s.img.staged ∧ s.img.complete = false) →
        off + data.length ≤ 0x500000 → ∃ u, exec (.transferFw p 1 off data last) s = .next u
        ∧ u.img.staged = off + data.length ∧ u.img.complete = last
        ∧ u.outputs = s.outputs ++ [.reply p "Success" []] ∧ u.regs = s.regs)
    ∧ (∀ off data last, ImageOk s p → off ≠ 0 → off ≠ s.img.staged → ∃ u,
        exec (.transferFw p 1 off data last) s = .next u ∧ u.img.staged = 0 ∧ u.img.complete = false
        ∧ u.outputs = s.outputs ++ [.reply p "Invalid Input" []] ∧ u.dram = s.dram)
    ∧ (∀ slot off data last, ImageOk s p → slot ≠ 1 →
        exec (.transferFw p slot off data last) s = .next (s.reply p "Invalid Slot" []))
    ∧ (∀ i slot action off data last, i = .transferFw p slot off data last ∨ i = .activateFw p slot action →
        Quiet s → s.imagePath p = true →
        (s.imageUnsupported p = true → exec i s = .next (s.reply p "Unsupported" []))
        ∧ (s.imageUnsupported p = false → slot = 1 → action = 0 → s.storeReady = false ∨ s.activating = true →
            exec i s = .next (s.reply p "Busy" [])))
    ∧ (ImageOk s p → exec (.activateFw p 1 0) s = .next
        (State.reply { s with img := { s.img with phase := .checking p } } p "Background Command Started" []))
    ∧ (∀ action, ImageOk s p → action ≠ 0 → exec (.activateFw p 1 action) s = .next (s.reply p "Invalid Input" []))
    ∧ (∀ reason slot, Quiet s → s.regsWf = true → s.img.phase = .checking p → s.imgCheck = (reason, slot) → ∃ u,
        exec .imageChecksDone s = .next u
        ∧ (reason ≠ 0 → u.img.phase = .idle ∧ u.fld aIMG_STATUS 9 3 = reason
          ∧ u.outputs.getLast? = some (.reply p "Invalid Security State" [])
          ∧ (s.sourceClass 102 ≠ 5 → u.pstore = s.pstore))
        ∧ (reason = 0 → u.flag aTT_IMAGE 1 = true ∧ u.img.slot = slot ∧ u.pstore = s.pstore
          ∧ u.img.phase = (if s.flag aTT_IMAGE 0 then .waiting p (s.cyc + s.stopWait) else .loading p)))
    ∧ (∀ d, s.img.phase = .waiting p d → (∀ t, (s.thread t).st = .stopped ∨ (s.thread t).st = .idle) →
        exec .activationThreadsQuiesced s = .next { s with img := { s.img with phase := .loading p } })
    ∧ (∀ d t, s.img.phase = .waiting p d → (s.thread t).st ≠ .stopped → (s.thread t).st ≠ .idle →
        exec .activationThreadsQuiesced s = .next s)
    ∧ (∀ d t, s.img.phase = .waiting p d → d ≤ s.cyc → (s.thread t).st = .run → (s.thread t).wait = .none → ∃ u,
        exec .activationStopWaitExpiry s = .next u ∧ u.img.phase = .loading p ∧ (u.thread t).st = .halted)
    ∧ (∀ d, s.img.phase = .waiting p d → s.cyc < d → exec .activationStopWaitExpiry s = .next s)
    ∧ (Quiet s → s.regsWf = true → s.img.phase = .loading p → (∀ t, (s.thread t).haltReq = false) → ∃ u,
        exec .imageLoadDone s = .next u ∧ u.img.phase = .idle ∧ u.flag aTT_IMAGE 0 = true
        ∧ u.flag aTT_IMAGE 1 = false ∧ u.fld aTT_IMAGE 16 16 = min (s.fld aTT_IMAGE 16 16 + 1) 0xFFFF
        ∧ (∀ t, u.thread t = releasedThread (s.copyImage.loadStore.recordImage.imgEntry t)
          ∧ u.reg (aTT_ISSUED t) = 0 ∧ u.flag (aTT_FLAGS t) 9 = false)
        ∧ u.outputs = s.outputs ++ [.reply p "Success" []])

/-- The responder answers on an open channel with version, capabilities and algorithms, signs a challenge and
measurements once the identity is ready with a nonce that is a free value, and refuses what it does not serve; every
exchange joins the transcript of its channel (R561 to R565, log 7, log 31). -/
def Obligations.Attestation : Prop :=
  ∀ (s : State) (ch : Path), Quiet s → s.spdmOpen ch = true →
    let fails (code : Byte) : Host.Outcome State Fault Refusal := .next (s.emit (.spdm ch 0x7F [code, 0]))
    let signed (i : Instr) (request : List Byte) (code : Byte) (body : List Byte) : Prop := ∃ u payload sig,
      exec i s = .next u ∧ payload = body ++ toBytes 8 s.free.toNat
      ∧ sig = Config.falconSign s.seedWords (s.transcript ch ++ request ++ [code] ++ payload)
      ∧ u = s.freeNext.spdmAnswer ch request code (payload ++ sig)
    exec (.getVersion ch) s = .next ((s.setTranscript ch []).spdmAnswer ch (Config.standardReply 0x84 []) 0x04
      (Config.standardReply 0x04 [0x13]))
    ∧ exec (.getCapabilities ch) s = .next (s.spdmAnswer ch (Config.standardReply 0xE1 []) 0x61
      (Config.standardReply 0x61 [1, 2, 1, 15, 4096, 4096]))
    ∧ (∀ sel : SpdmSelection, (sel.falconExtAsym && sel.sha3_384 && sel.dmtfMeasurements) = true →
        exec (.negotiateAlgorithms ch sel) s = .next (s.spdmAnswer ch (Config.standardReply 0xE3 []) 0x63
          (Config.standardReply 0x63 [Config.vendorId.toNat, 1])))
    ∧ (∀ sel : SpdmSelection, (sel.falconExtAsym && sel.sha3_384 && sel.dmtfMeasurements) = false →
        exec (.negotiateAlgorithms ch sel) s = fails 1)
    ∧ (∀ request, s.fld aID_STATUS 0 2 = 1 → signed (.challenge ch request) request 0x03 (Config.standardReply 0x03 [0xFF]))
    ∧ (∀ i request m, i = .challenge ch request ∨ (i = .getMeasurements ch m true request ∧ (measurementIndices m.toNat).isSome = true) →
        (s.fld aID_STATUS 0 2 = 2 → exec i s = fails 5) ∧ (s.fld aID_STATUS 0 2 = 0 → exec i s = fails 3))
    ∧ (∀ request (i : Byte) is, measurementIndices i.toNat = some is →
        exec (.getMeasurements ch i false request) s =
          .next (s.spdmAnswer ch request 0x60 (toBytes 1 5 ++ toBytes 1 is.length ++ is.flatMap s.measurementBlock))
        ∧ (s.fld aID_STATUS 0 2 = 1 → signed (.getMeasurements ch i true request) request 0x60
            (toBytes 1 5 ++ toBytes 1 is.length ++ is.flatMap s.measurementBlock)))
    ∧ (∀ i : Byte, 1 ≤ i.toNat → i.toNat ≤ 5 → measurementIndices i.toNat = some [i.toNat])
    ∧ (measurementIndices 0 = some [] ∧ measurementIndices 0xFF = some [1, 2, 3, 4, 5])
    ∧ (∀ request (i : Byte) sg, 5 < i.toNat → i.toNat ≠ 0xFF → exec (.getMeasurements ch i sg request) s = fails 1)
    ∧ (∀ code, exec (.spdmUnsupportedRequest ch code) s = .next (s.emit (.spdm ch 0x7F [7, code])))

/-! Integrity, repair and the links of the stack (10, 11) -/

/-- The scrubber, while it is on and its next line is due, skips the line with a count or has its read admitted on the
carriage class and moves on; without the retirement map it stands (R264, R424, R427, R436). One behind its schedule
flags it (R428). A soft repair takes a spare row of the bank, waits for its copy's lines, and moves the row; a page
retires once (R431, R432). -/
def Obligations.ScrubAndRepair : Prop :=
  ∀ (s : State) (p : Path) (v : BitVec 32) (w : Word) (next : Nat), Quiet s → s.regsWf = true → w = v.setWidth 64 →
    next = (if s.scrubLine + 1 < 2 ^ 30 then s.scrubLine + 1 else 0) →
    (∀ a b, s.scrubWaits = false → exec (.scrubRead a b) s = .next s)
    ∧ (s.scrubWaits = true → ∃ u, exec (.scrubRead true true) s = .next u ∧ u.scrubLine = s.scrubLine)
    ∧ (s.scrubWaits = true → s.scrubSkips s.scrubLine = true → ∃ u,
        exec (.scrubRead false false) s = .next u ∧ u.scrubLine = next
        ∧ u.fld aSCRUB_SKIPPED 0 32 = min (s.fld aSCRUB_SKIPPED 0 32 + 1) (2 ^ 32 - 1)
        ∧ u = { s with regs := u.regs, integ := u.integ })
    ∧ (∀ c : Fin 32, s.scrubReady = true → s.scrubSkips s.scrubLine = false → s.admission 16 ≠ .no →
        c.val = lineChannel s.scrubLine → ∃ u, exec (.scrubRead false false) s = .next u ∧ u.scrubLine = next ∧ u.dram = s.dram
        ∧ u.fld (aREG_M_ADM 16) 0 64 = min (s.fld (aREG_M_ADM 16) 0 64 + 1) (2 ^ 64 - 1)
        ∧ (s.poolFree c 16 = true → s.impossible c.val = false →
            (u.chan c).pool.map (fun e => e.req) = (s.chan c).pool.map (fun e => e.req) ++ [s.classRead .scrub s.scrubLine 0])
        ∧ (s.poolFree c 16 = false → u.mem.missQ = s.mem.missQ ++ [s.classRead .scrub s.scrubLine 0]))
    ∧ (s.scrubReady = true → s.scrubSkips s.scrubLine = false → s.admission 16 = .no → exec (.scrubRead false false) s = .next s)
    ∧ (s.scrubBehind = true → s.flag aSCRUB_STATUS 0 = false → s.flag aXR_GSTATUS 0 = true → ∃ u,
        exec .scrubLag s = .next u ∧ u.flag aSCRUB_STATUS 0 = true ∧ u.dram = s.dram)
    ∧ (s.scrubBehind = false → exec .scrubLag s = .next s)
    ∧ (∀ c : Fin 32, WriteOk s p aRPR_CMD 4 w → w.getLsbD 31 = true → getBits w 0 5 = c.val →
        s.integ.repairing = none → (s.chan c).mode ≠ .lost → s.replaying c = false →
        (s.sparesUsed c (getBits w 5 6) < 2 → ∃ u spare, exec (.rowRepair p v) s = .next u
          ∧ u.integ.repairing = some { chan := c.val, bank := getBits w 5 6, row := getBits w 11 14, spare := spare, moved := 0 }
          ∧ u.flag aRPR_STATUS 0 = true ∧ u.integ.repairs = s.integ.repairs)
        ∧ (2 ≤ s.sparesUsed c (getBits w 5 6) → ∃ u, exec (.rowRepair p v) s = .next u ∧ u.fld aRPR_STATUS 1 3 = 1
          ∧ u.integ = s.integ))
    ∧ (WriteOk s p aRPR_CMD 4 w → w.getLsbD 31 = true → s.integ.repairing.isSome = true → ∃ u,
        exec (.rowRepair p v) s = .next u ∧ u.fld aRPR_STATUS 1 3 = 4 ∧ u.integ = s.integ)
    ∧ (∀ r errors, s.integ.repairing = some r → r.chan < 32 →
        (s.windowOpen = false → s.replaying r.chan = false → repairMoves ≤ r.moved → ∃ u,
          exec (.rowRepairDone errors) s = .next u ∧ u.integ.repairing = none
          ∧ (r.chan, r.bank, r.spare, r.row) ∈ u.integ.repairs ∧ u.flag aRPR_STATUS 0 = false)
        ∧ (s.windowOpen = true ∨ s.replaying r.chan = true ∨ r.moved < repairMoves → exec (.rowRepairDone errors) s = .next s))
    ∧ (∀ x : Word, WriteOk s p aRET_ADD 8 x → x.getLsbD 0 = true → s.integ.retired.contains (getBits x 12 24) = false →
        s.integ.retired.length < 1024 → ∃ u, exec (.retirePage p x) s = .next u
        ∧ u.integ = { s.integ with retired := s.integ.retired ++ [getBits x 12 24] })
    ∧ (∀ x : Word, WriteOk s p aRET_ADD 8 x → x.getLsbD 0 = true → s.integ.retired.contains (getBits x 12 24) = true →
        ∃ u, exec (.retirePage p x) s = .next u ∧ u.flag aRET_STATUS 12 = true ∧ u.integ = s.integ)

/-- A parity alert faults a channel that drives commands: it goes out of service and replays. Retraining puts it back in
service or, when it cannot be trained, makes it lost. Replay done, its entries have left the journal; a long replay
spills its entries, and one past the limit is impossible (R438, R440, R441, R443, R444, R459). -/
def Obligations.ChannelFaults : Prop :=
  ∀ (s : State) (c : Fin 32), Quiet s → s.regsWf = true →
    ((s.chan c).mode ≠ .lost → (s.chan c).selfRefresh = false → ∃ u, exec (.caParityAlert c) s = .next u
        ∧ u.replaying c = true ∧ (u.chan c).inService = false ∧ u.fld (aINT_CH_STATUS c) 1 2 = 0 ∧ u.dram = s.dram
        ∧ u.mem.journal = s.mem.journal)
    ∧ ((s.chan c).mode = .lost ∨ (s.chan c).selfRefresh = true → exec (.caParityAlert c) s = .next s)
    ∧ (∀ sweep (ca dq : State × Bool), s.replaying c = true → (s.chan c).inService = false → (s.chan c).mode ≠ .lost →
        s.windowOpen = false →
        ca = (if s.fld (aINT_CH_STATUS c) 1 2 = 1 then (s, false) else s.trainCa c sweep (s.flag aXR_GCTRL 1)) →
        dq = (if s.fld (aINT_CH_STATUS c) 1 2 = 0 then (ca.1, false) else ca.1.trainDq c sweep (s.flag aXR_GCTRL 1)) →
        (ca.2 = false → dq.2 = false → ∃ u, exec (.channelRetrainDone c sweep) s = .next u ∧ (u.chan c).inService = true)
        ∧ (ca.2 = true ∨ dq.2 = true → ∃ u, exec (.channelRetrainDone c sweep) s = .next u ∧ (u.chan c).mode = .lost))
    ∧ (∀ sweep, s.windowOpen = true ∨ s.replaying c = false ∨ (s.chan c).inService = true →
        exec (.channelRetrainDone c sweep) s = .next s)
    ∧ (∀ copies, s.replaying c = true → (s.chan c).inService = true → s.windowOpen = false → (s.chan c).mode ≠ .lost → ∃ u,
        exec (.replayDone c copies) s = .next u ∧ u.replaying c = false
        ∧ ((∀ e ∈ s.mem.journal, e.seq < s.mem.nextSeq) →
            ∀ e ∈ u.mem.journal, ∀ f ∈ s.entriesOf c, e.seq ≠ f.seq))
    ∧ (∀ copies, s.replaying c = false ∨ (s.chan c).inService = false ∨ s.windowOpen = true →
        exec (.replayDone c copies) s = .next s)
    ∧ (s.replaying c = true → (s.chan c).inService = false → (s.chan c).spilling = false →
        (s.chan c).faultAt + cycMs 1 ≤ s.cyc → ∃ u, exec (.replaySpill c) s = .next u ∧ (u.chan c).spilling = true
        ∧ (s.entriesOf c).length ≤ (u.chan c).spilled
        ∧ ((s.mem.journal.map (fun e => e.seq)).Nodup → (∀ e ∈ s.mem.journal, e.seq < s.mem.nextSeq) →
            ∀ e ∈ s.entriesOf c, { e with place := .spilled, slot := none } ∈ u.mem.journal))
    ∧ (s.cyc < (s.chan c).faultAt + cycMs 1 → exec (.replaySpill c) s = .next s)
    ∧ (s.replaying c = true → (s.chan c).inService = false → (s.chan c).impossible = false →
        (s.chan c).faultAt + cycMs s.replayLimit ≤ s.cyc → ∃ u, exec (.replayLimitExpiry c) s = .next u
        ∧ (u.chan c).impossible = true)
    ∧ (s.cyc < (s.chan c).faultAt + cycMs s.replayLimit → exec (.replayLimitExpiry c) s = .next s)

/-- Once in each halt window a channel's change instant applies the taps that wait for it. A sweep with a wide enough run
gives the tap that waits; an express group returns its wire and measures the next. A missing clock turns the layer to its
next live column, and columns that show no edge are dead. A stand-in whose fill has written every line is in service;
service columns are counted (R100, R451, R453, R460, R461, R465, R479, R488, R489). -/
def Obligations.StackLinks : Prop :=
  ∀ s : State, Quiet s → s.regsWf = true →
    (∀ c : Fin 32, s.halt.openAt = none → exec (.recalChangeInstant c) s = .next s)
    ∧ (∀ (c : Fin 32) o, s.halt.openAt = some o → o + 40 ≤ s.cyc → (s.chan c).mode ≠ .lost →
        (s.chan c).selfRefresh = false → s.replaying c = false → s.links.changedAt.contains (c.val, o) = false →
        s.flag aXR_GSTATUS 0 = true → s.domStays (c.val / 2) = true → ∃ u, exec (.recalChangeInstant c) s = .next u
        ∧ u.links.changedAt.contains (c.val, o) = true
        ∧ (∀ q ∈ u.links.pendingTaps, q.1 ≠ c.val ∧ q.1 ≠ 32 + c.val) ∧ u.dram = s.dram)
    ∧ (∀ (c : Fin 32) (w : Fin 76) m x t, s.links.measuring.find? (fun q => q.1 == c.val && q.2.1 == w.val) = some m →
        s.links.pendingTaps.any (fun q => q.1 == c.val && q.2.1 == w.val) = false → bestTap x 8 true = some t →
        exec (.sweepDone (100 * c.val + w.val) x) s = .next { s with
          links := { s.links with pendingTaps := s.links.pendingTaps ++ [(c.val, w.val, t)] } })
    ∧ (∀ wire x, 5376 ≤ wire → exec (.sweepDone wire x) s = .next s)
    ∧ (∀ (d : Fin 2) (l : Fin 64) key t w, key = 64 + 64 * d.val + l.val → s.flag aXR_GSTATUS 0 = true →
        t = s.applyTaps key (expressBase d l) → t.flag aXR_GCTRL 0 = true →
        t.links.measuring.any (fun q => q.1 == key) = false → t.flag (aXR_XG d l) 5 = false → t.xgDead d l 16 = false →
        t.nextWire key ((List.range 16).filter (fun i => !t.xgDead d l i)) = some w →
        exec (.expressRecalTick d l) s = .next (t.beginMeasure key w 16))
    ∧ (∀ (d : Fin 2) (l : Fin 64), s.flag aXR_GSTATUS 0 = false → exec (.expressRecalTick d l) s = .next s)
    ∧ (∀ (n : Fin 17) sel k, s.flag aXR_GSTATUS 0 = true → s.flag (aXR_CLK n) 8 = false →
        n.val = 0 ∨ s.domStays (n.val - 1) = true → sel = s.fld (aXR_CLK n) 0 2 →
        (rotate 4 sel).find? (fun j => !(s.setFlag (aXR_CLK n) (4 + sel) true).clkDead n j) = some k → ∃ u,
        exec (.missingClock n) s = .next u ∧ u.fld (aXR_CLK n) 0 2 = k ∧ u.clkDead n sel = true
        ∧ u.flag (aXR_CLK n) 8 = false)
    ∧ (∀ (n : Fin 17) silent, s.flag aXR_GSTATUS 0 = true → ∃ u, exec (.clockColumnWatch n silent) s = .next u
        ∧ (∀ j, j < 4 → u.clkDead n j = (s.clkDead n j || (silent.getLsbD j && j != s.fld (aXR_CLK n) 0 2)))
        ∧ RegsKept s u [aXR_CLK n] ∧ u = { s with regs := u.regs })
    ∧ (∀ n : Fin 2, s.siState n = 2 → s.siSent n = standinLines → ∃ u, exec (.standinFillDone n) s = .next u
        ∧ u.siState n = 3 ∧ (∀ c : Fin 32, c.val = s.siChannel n → (u.chan c).inService = true)
        ∧ (∀ line, (s.siBlocks n).contains (line / 2 ^ 22) = true → u.cached line = none ∧ u.journalOf line = []))
    ∧ (∀ n : Fin 2, s.siState n ≠ 2 ∨ s.siSent n ≠ standinLines → exec (.standinFillDone n) s = .next s)
    ∧ (∃ u, exec .serviceColumnFail s = .next u ∧ u.links.serviceFailed = s.links.serviceFailed + 1
        ∧ (s.links.serviceFailed < 8 → u = { s with links := u.links }))

/-! Heat and power (12) -/

/-- An evaluation stores every live reading of its layer; a layer that is no DRAM layer is governed by the greatest and
takes its stage from it (R495, R497, R504). The canary's last eight counts are kept, and a suspended one keeps none
(R498, R500); a grace that ends in the enforce stage enforces (R507, R509); an orderly shutdown drains, sleeps and powers
down, and a late one is forced (R513 to R515). -/
def Obligations.HeatAndShutdown : Prop :=
  ∀ s : State, Quiet s → s.regsWf = true →
    (∀ (n : Fin 18) (x : BitVec 10), s.pins.pwrGood = true → x.toNat ≤ 600 →
        (∀ i ∈ layerSensors n, s.flag (aTH_SENSOR i) 10 = false) → ∃ u,
        exec (.thermalEvaluation n (some x) (List.replicate 15 (some x))) s = .next u
        ∧ (∀ i ∈ layerSensors n, u.fld (aTH_SENSOR i) 0 10 = x.toNat)
        ∧ (isDram n = false → u.gov n = x.toNat ∧ u.stage n = nextStage n (s.stage n) x.toNat false))
    ∧ (∀ n first others, s.pins.pwrGood = false → exec (.thermalEvaluation n first others) s = .next s)
    ∧ (∀ (n : Fin 18) flips, isDram n = true → s.pins.pwrGood = true → ∃ u,
        exec (.canaryInterval n flips) s = .next u
        ∧ u.canaryCounts n = (if s.suspended n then [] else (min flips 4096 :: s.canaryCounts n).take 8)
        ∧ u = { s with therm := { s.therm with canary := u.therm.canary } })
    ∧ (∀ (n : Fin 18) flips, isDram n = false → exec (.canaryInterval n flips) s = .next s)
    ∧ (∀ e, s.therm.graceEnd = some e → e ≤ s.cyc → s.anyStage 3 (List.range 18) = true → ∃ u,
        exec .graceExpiry s = .next u ∧ u.flag aTH_STATUS 3 = true ∧ u.flag aTH_STATUS 2 = false
        ∧ u.reg aTH_ENF_RT = s.nowW ∧ u.therm.graceEnd = none ∧ u.regul.deviceBucket = 0)
    ∧ (∀ e, s.therm.graceEnd = some e → e ≤ s.cyc → s.anyStage 3 (List.range 18) = false → ∃ u,
        exec .graceExpiry s = .next u ∧ u.flag aTH_STATUS 2 = false ∧ u.flag aTH_STATUS 3 = s.flag aTH_STATUS 3
        ∧ u.therm.graceEnd = none)
    ∧ (∀ e, s.therm.graceEnd = some e → s.cyc < e → exec .graceExpiry s = .next s)
    ∧ (s.fld aTH_STATUS 4 2 = 1 → s.therm.drainedAt = none → s.drained = true → ∃ u,
        exec .shutdownDrainDone s = .next u ∧ u.therm.drainedAt = some s.cyc ∧ u.regs = s.regs ∧ u.dram = s.dram
        ∧ (∀ c, (u.chan c).selfRefresh = true) ∧ (∀ n : Fin 64, n.val < 16 → (u.dom n).st = .retention)
        ∧ (∀ n : Fin 64, 16 ≤ n.val → u.dom n = s.dom n))
    ∧ (s.drained = false → exec .shutdownDrainDone s = .next s)
    ∧ (∀ d a, s.therm.drainedAt = some d → s.therm.shutAt = some a → s.fld aTH_STATUS 4 2 = 1 → d + cycUs 20 ≤ s.cyc →
        ∃ u, exec .shutdownPowerDown s = .next u ∧ u.fld aTH_STATUS 4 2 = 2
        ∧ u.reg aTH_SHUT_RT = BitVec.ofNat 64 a.2 ∧ (∀ k, (u.head k).up = false) ∧ u.dram = s.dram
        ∧ (∀ n : Fin 64, 16 ≤ n.val → n.val ≠ 42 → (u.dom n).st = .off))
    ∧ (∀ a, s.therm.drainedAt = none → s.therm.shutAt = some a → s.fld aTH_STATUS 4 2 = 1 → a.1 + cycMs 10 ≤ s.cyc →
        ∃ u, exec .shutdownTimeout s = .next u ∧ u.fld aTH_STATUS 4 2 = 3 ∧ u.cache = [] ∧ u.mem.journal = []
        ∧ (∀ k, (u.head k).up = false) ∧ (∀ n : Fin 64, 16 ≤ n.val → (u.dom n).st = .off))

/-- A management power request stores its target, and with GO joins the queue; one with the reserved target does nothing.
A domain whose entry work is done reaches its target; a wake that may complete turns its domain on with PWR_LASTWAKE and
the banks that failed their sweep, and a layer that wakes from off holds nothing (R518 to R524, R529 to R531). -/
def Obligations.PowerDomains : Prop :=
  ∀ (s : State) (p : Path) (v : BitVec 32) (w : Word) (n : Fin 64), Quiet s → s.regsWf = true → w = v.setWidth 64 →
    (WriteOk s p aPWR_MREQ_CTRL 4 w → getBits w 0 2 < 3 → w.getLsbD 2 = false → ∃ u,
        exec (.mgmtPowerRequest p v) s = .next u ∧ u.fld aPWR_MREQ_CTRL 0 2 = getBits w 0 2
        ∧ RegsKept s u [aPWR_MREQ_CTRL] ∧ u = { s with regs := u.regs })
    ∧ (WriteOk s p aPWR_MREQ_CTRL 4 w → getBits w 0 2 < 3 → w.getLsbD 2 = true → ∃ u,
        exec (.mgmtPowerRequest p v) s = .next u ∧ u.fld aPWR_MREQ_CTRL 0 2 = getBits w 0 2
        ∧ u.power.nextId = s.power.nextId + 1 ∧ u.dram = s.dram)
    ∧ (WriteOk s p aPWR_MREQ_CTRL 4 w → getBits w 0 2 = 3 → exec (.mgmtPowerRequest p v) s = .next s)
    ∧ (∀ target c0 src, (s.dom n).moving = some (target, c0, src) → target ≠ .on →
        ((s.entryWork n).entryDone n = true → ∃ u, exec (.domainTransitionDone n) s = .next u ∧ (u.dom n).st = target)
        ∧ ((s.entryWork n).entryDone n = false → exec (.domainTransitionDone n) s = .next (s.entryWork n)))
    ∧ ((s.dom n).moving = none → exec (.domainTransitionDone n) s = .next s)
    ∧ (∀ c0 src failed, (s.dom n).moving = some (.on, c0, src) → (n.val < 16 → (s.dom n).st ≠ .off) →
        s.wakeReady n = true → ∃ u, exec (.domainWakeDone n failed) s = .next u ∧ (u.dom n).st = .on
        ∧ u.reg aPWR_LASTWAKE_RT = s.nowW ∧ u.dram = s.dram
        ∧ ((s.dom n).st = .retention → 32 ≤ n.val → n.val < 42 →
            u.reg (aPWR_DOM_FAIL n) = (failed &&& (s.dom n).retained).setWidth 64))
    ∧ (∀ failed, (s.dom n).moving = none → exec (.domainWakeDone n failed) s = .next s)
    ∧ (∀ (l : Fin 16) c0 src sweep, n.val = l.val → (s.dom n).moving = some (.on, c0, src) → (s.dom n).st = .off →
        s.wakeReady n = true → ∃ u, exec (.layerWakeFillDone l sweep) s = .next u ∧ (u.dom n).st = .on
        ∧ u.reg aPWR_LASTWAKE_RT = s.nowW
        ∧ (∀ line, (domChannels l).contains (lineChannel line) = true → u.cached line = none ∧ u.journalOf line = [])
        ∧ ((∀ c : Fin 32, (domChannels l).contains c.val = true → (u.chan c).mode ≠ .lost) →
            u.dram = s.dram.filter (fun c => !(domChannels l).contains (lineChannel (c.1 / 72)))
            ∧ ∀ line, (domChannels l).contains (lineChannel line) = true → u.cells line = List.replicate 72 0))
    ∧ (∀ (l : Fin 16) sweep, n.val = l.val → (s.dom n).moving = none → exec (.layerWakeFillDone l sweep) s = .next s)

/-! Fuses (13) -/

/-- The word that a write of OTP_CMD with GO carries. -/
def Sys2Proof.Claims.otpWord (op : Nat) (w : BitVec 9) : Word := packBits [(0, 9, w.toNat), (9, 3, op), (31, 1, 1)]

/-- A fuse command that passes its checks runs; one that does not ends with the status of its first failing check, and
leaves the array alone (R537 to R540, R551, R552). -/
def Obligations.FuseCommandsStart : Prop :=
  ∀ (s : State) (p : Path) (w : BitVec 9), s.regsWf = true →
    (∀ i op, (i = .otpNormalRead p w ∧ op = 0) ∨ (i = .otpStrictRead p w ∧ op = 1) ∨ (i = .otpDualRead p w ∧ op = 2) →
        WriteOk s p aOTP_CMD 4 (otpWord op w) → s.otpBusy = false →
        (¬(160 ≤ w.toNat ∧ w.toNat ≤ 167) → ∃ u, exec i s = .next u ∧ u.otp = { s.otp with
          cmd := some { op := op, word := w.toNat, data := 0, raise := [], supplyLeft := !s.supplyOk, started := s.cyc } })
        ∧ (160 ≤ w.toNat → w.toNat ≤ 167 → ∃ u, exec i s = .next u ∧ u.otp = s.otp ∧ u.reg aOTP_DATA = 0
          ∧ u.fld aOTP_RESULT 0 4 = 4))
    ∧ (WriteOk s p aOTP_CMD 4 (otpWord 3 w) → s.otpBusy = false →
        (s.programRefusal w.toNat = none → ∃ u, exec (.otpProgram p w) s = .next u ∧ u.otp = { s.otp with
          cmd := some { op := 3, word := w.toNat, data := s.reg aOTP_DATA, raise := [], supplyLeft := !s.supplyOk,
                        started := s.cyc } })
        ∧ (∀ st, s.programRefusal w.toNat = some st → ∃ u, exec (.otpProgram p w) s = .next u ∧ u.otp = s.otp
          ∧ u.fld aOTP_RESULT 0 4 = st))
    ∧ (WriteOk s p aOTP_CMD 4 (otpWord 4 w) → s.otpBusy = false →
        (s.raiseRefusal = none → ∃ u c, exec (.otpRaiseCounter p w) s = .next u ∧ u.otp = { s.otp with cmd := some c }
          ∧ c.op = 4 ∧ c.raise = List.range' (192 + s.arcValue) (getBits (s.reg aOTP_DATA) 0 7 - s.arcValue))
        ∧ (∀ st, s.raiseRefusal = some st → ∃ u, exec (.otpRaiseCounter p w) s = .next u ∧ u.otp = s.otp
          ∧ u.fld aOTP_RESULT 0 4 = st))
    ∧ (∀ i op, (i = .otpNormalRead p w ∧ op = 0) ∨ (i = .otpStrictRead p w ∧ op = 1) ∨ (i = .otpDualRead p w ∧ op = 2)
          ∨ (i = .otpProgram p w ∧ op = 3) ∨ (i = .otpRaiseCounter p w ∧ op = 4) →
        WriteOk s p aOTP_CMD 4 (otpWord op w) → s.otpBusy = true → ∃ u, exec i s = .next u ∧ u.otp = s.otp
        ∧ u.fld aOTP_RESULT 0 4 = 1 ∧ RegsKept s u [aOTP_CMD, aOTP_RESULT])

/-- A read ends with the value of its margin; a program with a GOOD word where the strict read gives the value, whose new
value a shadowed word has in use at once, and with VERIFY_FAIL elsewhere (R536, R537, R541, R542). The boot read
classifies the array, reads the seed and starts step 3; the identity is ready, or unavailable with its cause (R535, R557
to R559). -/
def Obligations.FuseCommandsEnd : Prop :=
  ∀ s : State, Quiet s → s.regsWf = true →
    (∀ xs, s.otp.cmd = none → exec (.otpCommandDone xs) s = .next s)
    ∧ (∀ c x, s.otp.cmd = some c → c.op < 3 → ∃ u, exec (.otpCommandDone [x]) s = .next u ∧ u.otp.cmd = none
        ∧ u.otp.words = s.otp.words ∧ u.fld aOTP_RESULT 0 4 = 0
        ∧ (c.op = 2 → u.reg aOTP_DATA = (classify x).value)
        ∧ (∀ y d, c.op = 0 → x.normal = .word y d → u.reg aOTP_DATA = y)
        ∧ (∀ y d, c.op = 1 → x.strict = .word y d → u.reg aOTP_DATA = y))
    ∧ (∀ c x, s.otp.cmd = some c → c.op = 3 → x.strict = .word c.data none → c.supplyLeft = false → s.supplyOk = true →
        ∃ u, exec (.otpCommandDone [x]) s = .next u ∧ u.otp.cmd = none ∧ u.fld aOTP_RESULT 0 4 = 0
        ∧ u.otpState c.word = 1
        ∧ u.otpValue c.word = (if shadowed c.word then c.data else s.otpValue c.word)
        ∧ (∀ w, w ≠ c.word → u.otp.word w = s.otp.word w))
    ∧ (∀ c x, s.otp.cmd = some c → c.op = 3 → x.strict ≠ .word c.data none → ∃ u,
        exec (.otpCommandDone [x]) s = .next u ∧ u.otp.cmd = none ∧ u.fld aOTP_RESULT 0 4 = 13
        ∧ u.otp.word c.word = inUse c.word (s.otp.word c.word) (classify x)
        ∧ (∀ w, w ≠ c.word → u.otp.word w = s.otp.word w))
    ∧ (∀ xs, s.fld aSU_STATUS 0 4 = 2 → s.flag aOTP_STATUS 0 = false → ∃ u, exec (.otpBootReadDone xs) s = .next u
        ∧ u.flag aOTP_STATUS 0 = true ∧ u.fld aSU_STATUS 0 4 = 3 ∧ u.reg (aSU_STEP_RT 3) = s.nowW
        ∧ u.seedUntil = s.cyc + cycUs 16)
    ∧ (∀ xs, s.fld aSU_STATUS 0 4 ≠ 2 → exec (.otpBootReadDone xs) s = .next s)
    ∧ (s.flag aOTP_STATUS 0 = true → s.seedUntil ≤ s.cyc → s.fld aID_STATUS 0 2 = 0 → ∃ u,
        exec .identityDerived s = .next u ∧ u.fld aID_STATUS 0 2 = (if s.identityCause = 0 then 1 else 2)
        ∧ u.fld aID_STATUS 2 2 = s.identityCause ∧ u.otp = s.otp)
    ∧ (s.cyc < s.seedUntil → exec .identityDerived s = .next s)

/-! Registers and control (14) -/

/-- A write that passes its checks takes the effect of its register; a bus error, a locked or repeated write raises its
source and changes no value; a pending field waits for its strobe (R570 to R576). The commands of the update,
of the check pass, of the latches, of the snapshots, of ownership and of the service act as their rules say (R578, R580,
R583, R591, R595, R599, R600, R605, R607, R628). -/
def Obligations.RegisterCommands : Prop :=
  ∀ (s : State) (p : Path) (v : BitVec 32) (w : Word) (n : Fin 64), s.regsWf = true → w = v.setWidth 64 →
    (∀ a b x, s.pathOpen p = false → exec (.registerWrite p a b x) s = .next s)
    ∧ (∀ a b x, WriteOk s p a b x → exec (.registerWrite p a b x) s = .next (State.settle s (s.applyWrite a x)))
    ∧ (∀ a b x, s.pathOpen p = true → s.checkWrite p a b x = .bus →
        exec (.registerWrite p a b x) s = .next (State.settle s (s.raise 0 (pathCode p) a)))
    ∧ (∀ a b x, s.pathOpen p = true → s.checkWrite p a b x = .locked ∨ s.checkWrite p a b x = .again → ∃ u,
        exec (.registerWrite p a b x) s = .next u ∧ u.flag aCTL_STICKY (a / 0x10000 % 16) = true)
    ∧ (WriteOk s p aTU_LIMIT 4 w → ∃ u, exec (.registerWrite p aTU_LIMIT 4 w) s = .next u
        ∧ u.regs = s.regs ∧ u.pendValue aTU_LIMIT = some w ∧ u = { s with pend := u.pend, pendAt := u.pendAt })
    ∧ (∀ k a b, Quiet s → s.pathOpen (.head k) = true → ∃ u, exec (.registerRead k a b) s = .next u
        ∧ u.outputs.getLast? = some (if busOk a b then .regValue (.head k) (s.peek a) else .completerAbort (.head k)))
    ∧ (WriteOk s p aCTL_UPD_NOW 4 w →
        exec (.ctlUpdNow p v) s = .next (State.settle s (s.strobe (v.toNat % 2 ^ 16) false).1))
    ∧ (WriteOk s p aCTL_UPD_DISCARD 4 w → v.toNat % 2 ^ 16 ≠ 0 → ∃ u, exec (.ctlUpdDiscard p v) s = .next u
        ∧ u.regs = s.regs ∧ (∀ q, q ∈ u.pend ↔ q ∈ s.pend ∧ q.1 ≠ aCFG_REF
          ∧ ∀ g, groupOf q.1 = some g → (v.toNat % 2 ^ 16).testBit g = false))
    ∧ (exec .cfgCheckStart s = .next (if s.cfgPass.isSome then s else { s with cfgPass := some s.cyc }))
    ∧ (s.cfgPass = none → exec .cfgCheckDone s = .next s)
    ∧ (s.cfgPass.isSome = true → Quiet s → ∃ u, exec .cfgCheckDone s = .next u ∧ u.cfgPass = none
        ∧ u.reg aCFG_CRC = BitVec.ofNat 64 s.cfgCrc
        ∧ (s.flag aCFG_CTRL 0 = true → s.cfgCrc ≠ s.fld aCFG_REF 0 32 → u.flag aCFG_STATUS 0 = true))
    ∧ (∀ m : Fin 128, WriteOk s p (aFC_SRC_STAT m) 4 w → (faultClass m).isSome = true → w.getLsbD 8 = true → ∃ u,
        exec (.severeClear p m v) s = .next u ∧ u.flag (aFC_SRC_STAT m) 8 = false ∧ u.fld (aFC_SRC_STAT m) 0 8 = 0
        ∧ RegsKept s u [aFC_SRC_STAT m] ∧ u = { s with regs := u.regs })
    ∧ (WriteOk s p aFC_FIRST 4 w → w.getLsbD 8 = true → ∃ u, exec (.fcFirstClear p v) s = .next u
        ∧ u.flag aFC_FIRST 8 = false ∧ u.flag aFC_FIRST 9 = false ∧ RegsKept s u [aFC_FIRST] ∧ u = { s with regs := u.regs })
    ∧ (WriteOk s p aSNAP_CTRL 4 w → w.getLsbD 0 = true → w.getLsbD 1 = false → w.getLsbD 4 = true →
        s.flag aSNAP_STATUS 0 = false → ∃ u, exec (.snapCtrlFire p v) s = .next u ∧ u.flag aSNAP_STATUS 0 = true
        ∧ u.flag aSNAP_STATUS 4 = true ∧ u.reg aSNAP_RT = s.nowW ∧ Quiet u)
    ∧ (WriteOk s p aSNAP_CTRL 4 w → w.getLsbD 1 = true → ∃ u, exec (.snapCtrlRearm p v) s = .next u
        ∧ u.flag aSNAP_STATUS 0 = false ∧ u.fld aSNAP_STATUS 24 8 = 0)
    ∧ (∀ i req owner, (i = .ownClaimImg p v ∧ req = aOWN_REQ_IMG ∧ owner = 1)
          ∨ (i = .ownClaimFm p v ∧ req = aOWN_REQ_FM ∧ owner = 2) →
        WriteOk s p req 4 w → w.getLsbD 31 = true → getBits w 8 2 = 0 → w.getLsbD 13 = false → getBits w 0 8 = n.val →
        (s.tcOwner n = 0 → ∃ u, exec i s = .next u ∧ u.tcOwner n = owner
          ∧ u.reg (req + 4) = packBits [(0, 8, n.val), (8, 8, stOK), (16, 1, 1)]
          ∧ RegsKept s u [aTC_OWNER n, req, req + 4] ∧ u = { s with regs := u.regs })
        ∧ (s.tcOwner n ≠ 0 → s.tcOwner n ≠ owner → ∃ u, exec i s = .next u ∧ u.tcOwner n = s.tcOwner n
          ∧ u.reg (req + 4) = packBits [(0, 8, n.val), (8, 8, stBUSY), (16, 1, 1)]))
    ∧ (∀ i req owner, (i = .ownReleaseImg p v ∧ req = aOWN_REQ_IMG ∧ owner = 1)
          ∨ (i = .ownReleaseFm p v ∧ req = aOWN_REQ_FM ∧ owner = 2) →
        WriteOk s p req 4 w → w.getLsbD 31 = true → getBits w 8 2 = 0 → w.getLsbD 13 = true → getBits w 0 8 = n.val →
        s.tcOwner n = owner → s.tcHeld n = false → ∃ u, exec i s = .next u ∧ u.tcOwner n = 0 ∧ u.tcArmed n = false
        ∧ u.reg (req + 4) = packBits [(0, 8, n.val), (8, 8, stOK), (16, 1, 1)])
    ∧ (WriteOk s p aSU_CTRL 4 w → w.getLsbD 0 = true → s.flag aSU_CTRL 0 = false → ∃ u, exec (.suOpen p v) s = .next u
        ∧ (if s.suStatus.getLsbD 9 && s.suStatus.getLsbD 11 && s.suStatus.getLsbD 12
          then u.flag aSU_CTRL 0 = true ∧ u.fld aSU_STATUS 0 4 = 9 ∧ u.reg (aSU_STEP_RT 9) = s.nowW
          else u.flag aSU_CTRL 0 = false ∧ u.flag aSU_STATUS 15 = true)
        ∧ u = { s with regs := u.regs })

/-! Start-up and supply (03, 15) -/

/-- Supply, start-up steps, straps and module reset change what R109, R111, R115 to R117, R410, R614, R616, R631 and R633
say: power-up leaves everything but the fuses at reset and holds the block while RST_N is low, module reset holds the
block with RT, the fuses and the channels' training kept and its memory gone, and each step starts with its RT
recorded. -/
def Obligations.StartUp : Prop :=
  ∀ s : State, Quiet s → s.regsWf = true →
    exec .powerUp s = .next { s with pins := { s.pins with converter := true } }
    ∧ (∀ rstN, s.pins.converter = true → s.pins.pwrGood = false → ∃ u, exec (.pwrGoodRelease rstN) s = .next u
        ∧ u.regs = State.reset.regs ∧ u.tu = State.reset.tu ∧ u.heads = State.reset.heads ∧ u.dram = []
        ∧ u.pins.pwrGood = true ∧ u.pins.held = !rstN
        ∧ u.otp.words = s.otpAfterLoss ∧ (s.otp.cmd = none → u.otp.words = s.otp.words))
    ∧ (∀ rstN, s.pins.pwrGood = true → exec (.pwrGoodRelease rstN) s = .next s)
    ∧ (s.pins.converter = true → ∃ u, exec .powerLoss s = .next u ∧ u.pins.converter = false ∧ u.pins.pwrGood = false
        ∧ u.dram = [] ∧ u.pstore = [] ∧ (s.otp.cmd = none → u.otp.words = s.otp.words))
    ∧ (∀ i (r : SupplyReading) bit_ passed, (i = .vinLow r ∧ bit_ = 25 ∧ passed = decide (r.vin.toNat < 10800))
          ∨ (i = .vinHigh r ∧ bit_ = 26 ∧ passed = decide (13200 < r.vin.toNat)) → s.pins.pwrGood = true → ∃ u,
        exec i s = .next u ∧ u.flag aMOD_POWER bit_ = (passed || s.flag aMOD_POWER bit_)
        ∧ u.fld aMOD_SUPPLY 0 16 = r.vin.toNat ∧ u.fld aMOD_SUPPLY 16 16 = r.iin.toNat
        ∧ u.fld aMOD_POWER 0 16 = r.pin.toNat ∧ u.fld aMOD_POWER 16 8 = r.convTemp.toNat
        ∧ u.flag aMOD_POWER 24 = r.convOk ∧ u.dram = s.dram)
    ∧ (∀ r : SupplyReading, s.pins.pwrGood = true → s.fld aSU_STATUS 0 4 = 1 → s.pins.aonReady = false → ∃ u,
        exec (.aonStartDone r.vin r.iin r.pin r.convTemp r.convOk) s = .next u ∧ u.fld aMOD_SUPPLY 0 16 = r.vin.toNat ∧ u.flag aMOD_POWER 24 = r.convOk
        ∧ u.pins.aonReady = true
        ∧ (s.pins.held = false → u.fld aSU_STATUS 0 4 = 2 ∧ u.reg (aSU_STEP_RT 2) = s.nowW)
        ∧ (s.pins.held = true → u.fld aSU_STATUS 0 4 = 1))
    ∧ (s.pins.pwrGood = true → s.pins.held = false → ∃ u, exec .moduleReset s = .next u ∧ u.pins.held = true
        ∧ u.tu.rt = s.tu.rt ∧ u.otp.words = s.otp.words ∧ (∀ c, (u.chan c).mode = (s.chan c).mode)
        ∧ (∀ k, (u.head k).up = false) ∧ u.dram = [] ∧ u.pstore = [] ∧ u.cache = [] ∧ u.pend = [] ∧ u.grants = []
        ∧ (∀ t, u.thread t = State.reset.thread t) ∧ (s.tu.source = .ptm → u.tu.source = .none)
        ∧ u.fld aSU_RESET 16 16 = min (s.fld aSU_RESET 16 16 + 1) 0xFFFF)
    ∧ (s.pins.held = true → exec .moduleReset s = .next s)
    ∧ (s.pins.held = true → ∃ u, exec .moduleRelease s = .next u ∧ u.pins.held = false ∧ u.tu = s.tu ∧ u.eqDigestBusy = true
        ∧ (s.pins.aonReady = true → u.fld aSU_STATUS 0 4 = 2 ∧ u.reg (aSU_STEP_RT 2) = s.nowW)
        ∧ (s.pins.aonReady = false → u.regs = s.regs))
    ∧ (s.pins.held = false → exec .moduleRelease s = .next s)
    ∧ (∀ hc : BitVec 2, s.pins.pwrGood = true → s.pins.held = false → s.pins.strapsSampled = false →
        s.pins.releasedAt + cycUs 5 ≤ s.cyc → ∃ u, exec (.strapSample hc) s = .next u
        ∧ u.layout = (if hc = 3 then 0 else hc.toNat) ∧ u.fld aMOD_STRAP 0 2 = hc.toNat
        ∧ u.flag aMOD_STRAP 4 = decide (hc = 3) ∧ u.pins.strapsSampled = true)
    ∧ (∀ hc : BitVec 2, s.pins.strapsSampled = true → exec (.strapSample hc) s = .next s)
    ∧ (s.fld aSU_STATUS 0 4 = 3 → s.pins.held = false → ∃ u, exec .stackClockReady s = .next u
        ∧ u.fld aSU_STATUS 0 4 = 4 ∧ u.reg (aSU_STEP_RT 4) = s.nowW ∧ RegsKept s u [aSU_STATUS, aSU_STEP_RT 4]
        ∧ u = { s with regs := u.regs })
    ∧ (s.fld aSU_STATUS 0 4 ≠ 3 → exec .stackClockReady s = .next s)
    ∧ (∀ sweep clocks, s.fld aSU_STATUS 0 4 = 4 → s.pins.held = false → ∃ u, exec (.bootFillDone sweep clocks) s = .next u
        ∧ u.fld aSU_STATUS 0 4 = 6 ∧ u.reg (aSU_STEP_RT 6) = s.nowW ∧ u.flag aXR_GSTATUS 0 = true ∧ u.cache = []
        ∧ u.reg aSCRUB_POS = 0)
    ∧ (∀ sweep clocks, s.fld aSU_STATUS 0 4 ≠ 4 → exec (.bootFillDone sweep clocks) s = .next s)
end

