-- ==== Sys2Proof/Laws/Sparse.lean ====
section
/-! SUPPORT. Laws of the sparse stores: a write keeps the canonical form, a read after a write gives the value written,
and a write leaves every other key alone. -/

namespace Sys2Proof.Machine

/-- The canonical form of a list with a first entry. -/
theorem sparseWf_cons {α : Type} [DecidableEq α] (d : Nat → α) (a : Nat) (v : α) (l : List (Nat × α)) :
    sparseWf d ((a, v) :: l) = true ↔ v ≠ d a ∧ (∀ p ∈ l, a < p.1) ∧ sparseWf d l = true := by
  induction l generalizing a v with
  | nil => simp [sparseWf]
  | cons q l ih =>
    obtain ⟨b, w⟩ := q
    have hb := ih b w
    simp only [sparseWf, Bool.and_eq_true, decide_eq_true_eq, List.mem_cons, forall_eq_or_imp]
    constructor
    · rintro ⟨⟨h1, h2⟩, h3⟩
      have h4 := hb.mp h3
      exact ⟨h1, ⟨h2, fun p hp => lt_trans h2 (h4.2.1 p hp)⟩, h3⟩
    · rintro ⟨h1, ⟨h2, _⟩, h3⟩
      exact ⟨⟨h1, h2⟩, h3⟩

/-- Below the first key nothing is listed. -/
theorem sparseGet_below {α : Type} (d : Nat → α) (a : Nat) (l : List (Nat × α)) (h : ∀ p ∈ l, a < p.1) :
    sparseGet d l a = d a := by
  induction l with
  | nil => rfl
  | cons q l ih =>
    have hq := h q (by simp)
    simp only [sparseGet]
    rw [if_neg (by omega)]
    exact ih (fun p hp => h p (by simp [hp]))

/-- Keys of a written list: the written one and those there before. -/
theorem sparsePut_keys {α : Type} [DecidableEq α] (d : Nat → α) (l : List (Nat × α)) (a : Nat) (v : α) (n : Nat)
    (h : ∀ p ∈ l, n < p.1) (hn : n < a) : ∀ p ∈ sparsePut d l a v, n < p.1 := by
  induction l with
  | nil =>
    unfold sparsePut
    split <;> simp [hn]
  | cons q l ih =>
    obtain ⟨b, w⟩ := q
    have hb : n < b := h (b, w) (by simp)
    have hl : ∀ p ∈ l, n < p.1 := fun p hp => h p (by simp [hp])
    unfold sparsePut
    split
    · intro p hp
      rcases List.mem_cons.mp hp with rfl | hp
      · exact hb
      · exact ih hl p hp
    · split
      · split
        · exact hl
        · intro p hp
          rcases List.mem_cons.mp hp with rfl | hp
          · exact hn
          · exact hl p hp
      · split
        · exact h
        · intro p hp
          rcases List.mem_cons.mp hp with rfl | hp
          · exact hn
          · exact h p hp

/-- A write keeps the canonical form. -/
theorem sparsePut_wf {α : Type} [DecidableEq α] (d : Nat → α) (l : List (Nat × α)) (a : Nat) (v : α)
    (h : sparseWf d l = true) : sparseWf d (sparsePut d l a v) = true := by
  induction l with
  | nil =>
    unfold sparsePut
    split <;> simp_all [sparseWf]
  | cons q l ih =>
    obtain ⟨b, w⟩ := q
    obtain ⟨h1, h2, h3⟩ := (sparseWf_cons d b w l).mp h
    unfold sparsePut
    split
    · rename_i hlt
      exact (sparseWf_cons d b w _).mpr ⟨h1, sparsePut_keys d l a v b h2 hlt, ih h3⟩
    · split
      · rename_i heq
        split
        · exact h3
        · rename_i hv
          exact (sparseWf_cons d a v l).mpr ⟨hv, fun p hp => heq ▸ h2 p hp, h3⟩
      · rename_i hnlt hne
        split
        · exact h
        · rename_i hv
          refine (sparseWf_cons d a v _).mpr ⟨hv, fun p hp => ?_, h⟩
          rcases List.mem_cons.mp hp with rfl | hp
          · show a < b
            omega
          · have := h2 p hp
            omega

/-- A read of another key sees no write. -/
theorem sparseGet_put_other {α : Type} [DecidableEq α] (d : Nat → α) (l : List (Nat × α)) (a x : Nat) (v : α)
    (h : x ≠ a) : sparseGet d (sparsePut d l a v) x = sparseGet d l x := by
  induction l with
  | nil =>
    unfold sparsePut
    split
    · rfl
    · simp [sparseGet, Ne.symm h]
  | cons q l ih =>
    obtain ⟨b, w⟩ := q
    unfold sparsePut
    split
    · simp only [sparseGet, ih]
    · split
      · rename_i heq
        have hbx : b ≠ x := fun hb => h (by omega)
        split
        · simp [sparseGet, hbx]
        · simp [sparseGet, hbx, Ne.symm h]
      · split
        · rfl
        · simp [sparseGet, Ne.symm h]

/-- A read after a write to the same key gives the value written. -/
theorem sparseGet_put_same {α : Type} [DecidableEq α] (d : Nat → α) (l : List (Nat × α)) (a : Nat) (v : α)
    (h : sparseWf d l = true) : sparseGet d (sparsePut d l a v) a = v := by
  induction l with
  | nil =>
    unfold sparsePut
    split
    · simp_all [sparseGet]
    · simp [sparseGet]
  | cons q l ih =>
    obtain ⟨b, w⟩ := q
    obtain ⟨_, h2, h3⟩ := (sparseWf_cons d b w l).mp h
    unfold sparsePut
    split
    · rename_i hlt
      simp [sparseGet, Nat.ne_of_lt hlt, ih h3]
    · split
      · rename_i heq
        split
        · rename_i hv
          rw [hv]
          exact sparseGet_below d a l (fun p hp => heq ▸ h2 p hp)
        · simp [sparseGet]
      · rename_i hnlt hne
        split
        · rename_i hv
          rw [hv]
          refine sparseGet_below d a _ (fun p hp => ?_)
          rcases List.mem_cons.mp hp with rfl | hp
          · show a < b
            omega
          · have := h2 p hp
            omega
        · simp [sparseGet]

/-- Leaving entries out keeps the canonical form. -/
theorem sparseWf_filter {α : Type} [DecidableEq α] (d : Nat → α) (f : Nat × α → Bool) (l : List (Nat × α))
    (h : sparseWf d l = true) : sparseWf d (l.filter f) = true := by
  induction l with
  | nil => rfl
  | cons q l ih =>
    obtain ⟨b, w⟩ := q
    obtain ⟨h1, h2, h3⟩ := (sparseWf_cons d b w l).mp h
    rw [List.filter_cons]
    split
    · exact (sparseWf_cons d b w _).mpr ⟨h1, fun p hp => h2 p (List.mem_filter.mp hp).1, ih h3⟩
    · exact ih h3

/-! Memories -/

/-- A byte written keeps the canonical form. -/
theorem Memory.set_wf (m : List Host.Cell) (a : Nat) (v : Byte) (h : Memory.wf m = true) :
    Memory.wf (Memory.set m a v) = true := sparsePut_wf _ m a v h

/-- A number stored keeps the canonical form. -/
theorem Memory.setN_wf (m : List Host.Cell) (a n v : Nat) (h : Memory.wf m = true) :
    Memory.wf (Memory.setN m a n v) = true := by
  induction n generalizing m a v with
  | zero => exact h
  | succ n ih => exact ih _ _ _ (Memory.set_wf m a _ h)

/-- Bytes stored keep the canonical form. -/
theorem Memory.setBytes_wf (m : List Host.Cell) (a : Nat) (bs : List Byte) (h : Memory.wf m = true) :
    Memory.wf (Memory.setBytes m a bs) = true := by
  induction bs generalizing m a with
  | nil => exact h
  | cons b bs ih => exact ih _ _ (Memory.set_wf m a b h)

/-- Leaving bytes out keeps the canonical form. -/
theorem Memory.filter_wf (m : List Host.Cell) (f : Host.Cell → Bool) (h : Memory.wf m = true) :
    Memory.wf (m.filter f) = true := sparseWf_filter _ f m h

/-- The byte written is read back. -/
theorem Memory.get_set_same (m : List Host.Cell) (a : Nat) (v : Byte) (h : Memory.wf m = true) :
    Memory.get (Memory.set m a v) a = v := sparseGet_put_same _ m a v h

/-- Another byte is as before. -/
theorem Memory.get_set_other (m : List Host.Cell) (a x : Nat) (v : Byte) (h : x ≠ a) :
    Memory.get (Memory.set m a v) x = Memory.get m x := sparseGet_put_other _ m a x v h

/-- A number stored leaves every byte outside it alone. -/
theorem Memory.get_setN_other (m : List Host.Cell) (a n v x : Nat) (h : x < a ∨ a + n ≤ x) :
    Memory.get (Memory.setN m a n v) x = Memory.get m x := by
  induction n generalizing m a v with
  | zero => rfl
  | succ n ih =>
    rw [Memory.setN, ih _ _ _ (by omega), Memory.get_set_other _ _ _ _ (by omega)]

/-- Bytes stored leave every byte outside them alone. -/
theorem Memory.get_setBytes_other (m : List Host.Cell) (a : Nat) (bs : List Byte) (x : Nat)
    (h : x < a ∨ a + bs.length ≤ x) : Memory.get (Memory.setBytes m a bs) x = Memory.get m x := by
  induction bs generalizing m a with
  | nil => rfl
  | cons b bs ih =>
    rw [List.length_cons] at h
    rw [Memory.setBytes, ih _ _ (by omega), Memory.get_set_other _ _ _ _ (by omega)]

/-- A number stored is read back, up to its width. -/
theorem Memory.getN_setN_same (m : List Host.Cell) (a n v : Nat) (h : Memory.wf m = true) :
    Memory.getN (Memory.setN m a n v) a n = v % 256 ^ n := by
  induction n generalizing m a v with
  | zero => simp [Memory.getN, Nat.mod_one]
  | succ n ih =>
    rw [Memory.setN, Memory.getN, ih _ _ _ (Memory.set_wf m a _ h),
      Memory.get_setN_other _ _ _ _ _ (by omega), Memory.get_set_same _ _ _ h, pow_succ]
    rw [BitVec.toNat_ofNat, Nat.mul_comm (256 ^ n) 256, Nat.mod_mul]

end Sys2Proof.Machine
end

