-- ==== Sys2Proof/Laws/State.lean ====
section
/-! SUPPORT. Laws of State: what each named update leaves alone, field by field, and what each part reads as after it. -/

namespace Sys2Proof.Machine

variable (s : State)

/-! State.setReg changes `regs` alone. -/

@[simp] theorem State.setReg_pending (a : Nat) (v : Word) : (s.setReg a v).pending = s.pending := rfl
@[simp] theorem State.setReg_freeCtr (a : Nat) (v : Word) : (s.setReg a v).freeCtr = s.freeCtr := rfl
@[simp] theorem State.setReg_outputs (a : Nat) (v : Word) : (s.setReg a v).outputs = s.outputs := rfl
@[simp] theorem State.setReg_pend (a : Nat) (v : Word) : (s.setReg a v).pend = s.pend := rfl
@[simp] theorem State.setReg_tu (a : Nat) (v : Word) : (s.setReg a v).tu = s.tu := rfl
@[simp] theorem State.setReg_halt (a : Nat) (v : Word) : (s.setReg a v).halt = s.halt := rfl
@[simp] theorem State.setReg_eng (a : Nat) (v : Word) : (s.setReg a v).eng = s.eng := rfl
@[simp] theorem State.setReg_pstore (a : Nat) (v : Word) : (s.setReg a v).pstore = s.pstore := rfl
@[simp] theorem State.setReg_dram (a : Nat) (v : Word) : (s.setReg a v).dram = s.dram := rfl
@[simp] theorem State.setReg_cars (a : Nat) (v : Word) : (s.setReg a v).cars = s.cars := rfl
@[simp] theorem State.setReg_seals (a : Nat) (v : Word) : (s.setReg a v).seals = s.seals := rfl
@[simp] theorem State.setReg_outs (a : Nat) (v : Word) : (s.setReg a v).outs = s.outs := rfl
@[simp] theorem State.setReg_heads (a : Nat) (v : Word) : (s.setReg a v).heads = s.heads := rfl
@[simp] theorem State.setReg_grants (a : Nat) (v : Word) : (s.setReg a v).grants = s.grants := rfl
@[simp] theorem State.setReg_filling (a : Nat) (v : Word) : (s.setReg a v).filling = s.filling := rfl
@[simp] theorem State.setReg_cache (a : Nat) (v : Word) : (s.setReg a v).cache = s.cache := rfl
@[simp] theorem State.setReg_mem (a : Nat) (v : Word) : (s.setReg a v).mem = s.mem := rfl
@[simp] theorem State.setReg_chans (a : Nat) (v : Word) : (s.setReg a v).chans = s.chans := rfl
@[simp] theorem State.setReg_integ (a : Nat) (v : Word) : (s.setReg a v).integ = s.integ := rfl
@[simp] theorem State.setReg_links (a : Nat) (v : Word) : (s.setReg a v).links = s.links := rfl
@[simp] theorem State.setReg_therm (a : Nat) (v : Word) : (s.setReg a v).therm = s.therm := rfl
@[simp] theorem State.setReg_power (a : Nat) (v : Word) : (s.setReg a v).power = s.power := rfl
@[simp] theorem State.setReg_otp (a : Nat) (v : Word) : (s.setReg a v).otp = s.otp := rfl
@[simp] theorem State.setReg_img (a : Nat) (v : Word) : (s.setReg a v).img = s.img := rfl
@[simp] theorem State.setReg_mgmt (a : Nat) (v : Word) : (s.setReg a v).mgmt = s.mgmt := rfl
@[simp] theorem State.setReg_pins (a : Nat) (v : Word) : (s.setReg a v).pins = s.pins := rfl
@[simp] theorem State.setReg_regul (a : Nat) (v : Word) : (s.setReg a v).regul = s.regul := rfl
@[simp] theorem State.setReg_fcWindow (a : Nat) (v : Word) : (s.setReg a v).fcWindow = s.fcWindow := rfl
@[simp] theorem State.setReg_cfgPass (a : Nat) (v : Word) : (s.setReg a v).cfgPass = s.cfgPass := rfl
@[simp] theorem State.setReg_pendAt (a : Nat) (v : Word) : (s.setReg a v).pendAt = s.pendAt := rfl
@[simp] theorem State.setReg_strobeCycle (a : Nat) (v : Word) : (s.setReg a v).strobeCycle = s.strobeCycle := rfl
@[simp] theorem State.setReg_strobeDone (a : Nat) (v : Word) : (s.setReg a v).strobeDone = s.strobeDone := rfl
@[simp] theorem State.setReg_strobeHeld (a : Nat) (v : Word) : (s.setReg a v).strobeHeld = s.strobeHeld := rfl
@[simp] theorem State.setReg_lateArms (a : Nat) (v : Word) : (s.setReg a v).lateArms = s.lateArms := rfl
@[simp] theorem State.setReg_tcReadyAt (a : Nat) (v : Word) : (s.setReg a v).tcReadyAt = s.tcReadyAt := rfl
@[simp] theorem State.setReg_eqDigestBusy (a : Nat) (v : Word) : (s.setReg a v).eqDigestBusy = s.eqDigestBusy := rfl
@[simp] theorem State.setReg_fcFirstCycle (a : Nat) (v : Word) : (s.setReg a v).fcFirstCycle = s.fcFirstCycle := rfl
@[simp] theorem State.setReg_snapCycle (a : Nat) (v : Word) : (s.setReg a v).snapCycle = s.snapCycle := rfl
@[simp] theorem State.setReg_snapDue (a : Nat) (v : Word) : (s.setReg a v).snapDue = s.snapDue := rfl
@[simp] theorem State.setReg_cycleCopies (a : Nat) (v : Word) : (s.setReg a v).cycleCopies = s.cycleCopies := rfl
@[simp] theorem State.setReg_seedUntil (a : Nat) (v : Word) : (s.setReg a v).seedUntil = s.seedUntil := rfl
@[simp] theorem State.setReg_lockWritten (a : Nat) (v : Word) : (s.setReg a v).lockWritten = s.lockWritten := rfl
@[simp] theorem State.setReg_laneEq (a : Nat) (v : Word) : (s.setReg a v).laneEq = s.laneEq := rfl
@[simp] theorem State.setReg_laneErrs (a : Nat) (v : Word) : (s.setReg a v).laneErrs = s.laneErrs := rfl

/-! State.setFld changes `regs` alone. -/

@[simp] theorem State.setFld_pending (a lo n x : Nat) : (s.setFld a lo n x).pending = s.pending := rfl
@[simp] theorem State.setFld_freeCtr (a lo n x : Nat) : (s.setFld a lo n x).freeCtr = s.freeCtr := rfl
@[simp] theorem State.setFld_outputs (a lo n x : Nat) : (s.setFld a lo n x).outputs = s.outputs := rfl
@[simp] theorem State.setFld_pend (a lo n x : Nat) : (s.setFld a lo n x).pend = s.pend := rfl
@[simp] theorem State.setFld_tu (a lo n x : Nat) : (s.setFld a lo n x).tu = s.tu := rfl
@[simp] theorem State.setFld_halt (a lo n x : Nat) : (s.setFld a lo n x).halt = s.halt := rfl
@[simp] theorem State.setFld_eng (a lo n x : Nat) : (s.setFld a lo n x).eng = s.eng := rfl
@[simp] theorem State.setFld_pstore (a lo n x : Nat) : (s.setFld a lo n x).pstore = s.pstore := rfl
@[simp] theorem State.setFld_dram (a lo n x : Nat) : (s.setFld a lo n x).dram = s.dram := rfl
@[simp] theorem State.setFld_cars (a lo n x : Nat) : (s.setFld a lo n x).cars = s.cars := rfl
@[simp] theorem State.setFld_seals (a lo n x : Nat) : (s.setFld a lo n x).seals = s.seals := rfl
@[simp] theorem State.setFld_outs (a lo n x : Nat) : (s.setFld a lo n x).outs = s.outs := rfl
@[simp] theorem State.setFld_heads (a lo n x : Nat) : (s.setFld a lo n x).heads = s.heads := rfl
@[simp] theorem State.setFld_grants (a lo n x : Nat) : (s.setFld a lo n x).grants = s.grants := rfl
@[simp] theorem State.setFld_filling (a lo n x : Nat) : (s.setFld a lo n x).filling = s.filling := rfl
@[simp] theorem State.setFld_cache (a lo n x : Nat) : (s.setFld a lo n x).cache = s.cache := rfl
@[simp] theorem State.setFld_mem (a lo n x : Nat) : (s.setFld a lo n x).mem = s.mem := rfl
@[simp] theorem State.setFld_chans (a lo n x : Nat) : (s.setFld a lo n x).chans = s.chans := rfl
@[simp] theorem State.setFld_integ (a lo n x : Nat) : (s.setFld a lo n x).integ = s.integ := rfl
@[simp] theorem State.setFld_links (a lo n x : Nat) : (s.setFld a lo n x).links = s.links := rfl
@[simp] theorem State.setFld_therm (a lo n x : Nat) : (s.setFld a lo n x).therm = s.therm := rfl
@[simp] theorem State.setFld_power (a lo n x : Nat) : (s.setFld a lo n x).power = s.power := rfl
@[simp] theorem State.setFld_otp (a lo n x : Nat) : (s.setFld a lo n x).otp = s.otp := rfl
@[simp] theorem State.setFld_img (a lo n x : Nat) : (s.setFld a lo n x).img = s.img := rfl
@[simp] theorem State.setFld_mgmt (a lo n x : Nat) : (s.setFld a lo n x).mgmt = s.mgmt := rfl
@[simp] theorem State.setFld_pins (a lo n x : Nat) : (s.setFld a lo n x).pins = s.pins := rfl
@[simp] theorem State.setFld_regul (a lo n x : Nat) : (s.setFld a lo n x).regul = s.regul := rfl
@[simp] theorem State.setFld_fcWindow (a lo n x : Nat) : (s.setFld a lo n x).fcWindow = s.fcWindow := rfl
@[simp] theorem State.setFld_cfgPass (a lo n x : Nat) : (s.setFld a lo n x).cfgPass = s.cfgPass := rfl
@[simp] theorem State.setFld_pendAt (a lo n x : Nat) : (s.setFld a lo n x).pendAt = s.pendAt := rfl
@[simp] theorem State.setFld_strobeCycle (a lo n x : Nat) : (s.setFld a lo n x).strobeCycle = s.strobeCycle := rfl
@[simp] theorem State.setFld_strobeDone (a lo n x : Nat) : (s.setFld a lo n x).strobeDone = s.strobeDone := rfl
@[simp] theorem State.setFld_strobeHeld (a lo n x : Nat) : (s.setFld a lo n x).strobeHeld = s.strobeHeld := rfl
@[simp] theorem State.setFld_lateArms (a lo n x : Nat) : (s.setFld a lo n x).lateArms = s.lateArms := rfl
@[simp] theorem State.setFld_tcReadyAt (a lo n x : Nat) : (s.setFld a lo n x).tcReadyAt = s.tcReadyAt := rfl
@[simp] theorem State.setFld_eqDigestBusy (a lo n x : Nat) : (s.setFld a lo n x).eqDigestBusy = s.eqDigestBusy := rfl
@[simp] theorem State.setFld_fcFirstCycle (a lo n x : Nat) : (s.setFld a lo n x).fcFirstCycle = s.fcFirstCycle := rfl
@[simp] theorem State.setFld_snapCycle (a lo n x : Nat) : (s.setFld a lo n x).snapCycle = s.snapCycle := rfl
@[simp] theorem State.setFld_snapDue (a lo n x : Nat) : (s.setFld a lo n x).snapDue = s.snapDue := rfl
@[simp] theorem State.setFld_cycleCopies (a lo n x : Nat) : (s.setFld a lo n x).cycleCopies = s.cycleCopies := rfl
@[simp] theorem State.setFld_seedUntil (a lo n x : Nat) : (s.setFld a lo n x).seedUntil = s.seedUntil := rfl
@[simp] theorem State.setFld_lockWritten (a lo n x : Nat) : (s.setFld a lo n x).lockWritten = s.lockWritten := rfl
@[simp] theorem State.setFld_laneEq (a lo n x : Nat) : (s.setFld a lo n x).laneEq = s.laneEq := rfl
@[simp] theorem State.setFld_laneErrs (a lo n x : Nat) : (s.setFld a lo n x).laneErrs = s.laneErrs := rfl

/-! State.setFlag changes `regs` alone. -/

@[simp] theorem State.setFlag_pending (a i : Nat) (b : Bool) : (s.setFlag a i b).pending = s.pending := rfl
@[simp] theorem State.setFlag_freeCtr (a i : Nat) (b : Bool) : (s.setFlag a i b).freeCtr = s.freeCtr := rfl
@[simp] theorem State.setFlag_outputs (a i : Nat) (b : Bool) : (s.setFlag a i b).outputs = s.outputs := rfl
@[simp] theorem State.setFlag_pend (a i : Nat) (b : Bool) : (s.setFlag a i b).pend = s.pend := rfl
@[simp] theorem State.setFlag_tu (a i : Nat) (b : Bool) : (s.setFlag a i b).tu = s.tu := rfl
@[simp] theorem State.setFlag_halt (a i : Nat) (b : Bool) : (s.setFlag a i b).halt = s.halt := rfl
@[simp] theorem State.setFlag_eng (a i : Nat) (b : Bool) : (s.setFlag a i b).eng = s.eng := rfl
@[simp] theorem State.setFlag_pstore (a i : Nat) (b : Bool) : (s.setFlag a i b).pstore = s.pstore := rfl
@[simp] theorem State.setFlag_dram (a i : Nat) (b : Bool) : (s.setFlag a i b).dram = s.dram := rfl
@[simp] theorem State.setFlag_cars (a i : Nat) (b : Bool) : (s.setFlag a i b).cars = s.cars := rfl
@[simp] theorem State.setFlag_seals (a i : Nat) (b : Bool) : (s.setFlag a i b).seals = s.seals := rfl
@[simp] theorem State.setFlag_outs (a i : Nat) (b : Bool) : (s.setFlag a i b).outs = s.outs := rfl
@[simp] theorem State.setFlag_heads (a i : Nat) (b : Bool) : (s.setFlag a i b).heads = s.heads := rfl
@[simp] theorem State.setFlag_grants (a i : Nat) (b : Bool) : (s.setFlag a i b).grants = s.grants := rfl
@[simp] theorem State.setFlag_filling (a i : Nat) (b : Bool) : (s.setFlag a i b).filling = s.filling := rfl
@[simp] theorem State.setFlag_cache (a i : Nat) (b : Bool) : (s.setFlag a i b).cache = s.cache := rfl
@[simp] theorem State.setFlag_mem (a i : Nat) (b : Bool) : (s.setFlag a i b).mem = s.mem := rfl
@[simp] theorem State.setFlag_chans (a i : Nat) (b : Bool) : (s.setFlag a i b).chans = s.chans := rfl
@[simp] theorem State.setFlag_integ (a i : Nat) (b : Bool) : (s.setFlag a i b).integ = s.integ := rfl
@[simp] theorem State.setFlag_links (a i : Nat) (b : Bool) : (s.setFlag a i b).links = s.links := rfl
@[simp] theorem State.setFlag_therm (a i : Nat) (b : Bool) : (s.setFlag a i b).therm = s.therm := rfl
@[simp] theorem State.setFlag_power (a i : Nat) (b : Bool) : (s.setFlag a i b).power = s.power := rfl
@[simp] theorem State.setFlag_otp (a i : Nat) (b : Bool) : (s.setFlag a i b).otp = s.otp := rfl
@[simp] theorem State.setFlag_img (a i : Nat) (b : Bool) : (s.setFlag a i b).img = s.img := rfl
@[simp] theorem State.setFlag_mgmt (a i : Nat) (b : Bool) : (s.setFlag a i b).mgmt = s.mgmt := rfl
@[simp] theorem State.setFlag_pins (a i : Nat) (b : Bool) : (s.setFlag a i b).pins = s.pins := rfl
@[simp] theorem State.setFlag_regul (a i : Nat) (b : Bool) : (s.setFlag a i b).regul = s.regul := rfl
@[simp] theorem State.setFlag_fcWindow (a i : Nat) (b : Bool) : (s.setFlag a i b).fcWindow = s.fcWindow := rfl
@[simp] theorem State.setFlag_cfgPass (a i : Nat) (b : Bool) : (s.setFlag a i b).cfgPass = s.cfgPass := rfl
@[simp] theorem State.setFlag_pendAt (a i : Nat) (b : Bool) : (s.setFlag a i b).pendAt = s.pendAt := rfl
@[simp] theorem State.setFlag_strobeCycle (a i : Nat) (b : Bool) : (s.setFlag a i b).strobeCycle = s.strobeCycle := rfl
@[simp] theorem State.setFlag_strobeDone (a i : Nat) (b : Bool) : (s.setFlag a i b).strobeDone = s.strobeDone := rfl
@[simp] theorem State.setFlag_strobeHeld (a i : Nat) (b : Bool) : (s.setFlag a i b).strobeHeld = s.strobeHeld := rfl
@[simp] theorem State.setFlag_lateArms (a i : Nat) (b : Bool) : (s.setFlag a i b).lateArms = s.lateArms := rfl
@[simp] theorem State.setFlag_tcReadyAt (a i : Nat) (b : Bool) : (s.setFlag a i b).tcReadyAt = s.tcReadyAt := rfl
@[simp] theorem State.setFlag_eqDigestBusy (a i : Nat) (b : Bool) : (s.setFlag a i b).eqDigestBusy = s.eqDigestBusy := rfl
@[simp] theorem State.setFlag_fcFirstCycle (a i : Nat) (b : Bool) : (s.setFlag a i b).fcFirstCycle = s.fcFirstCycle := rfl
@[simp] theorem State.setFlag_snapCycle (a i : Nat) (b : Bool) : (s.setFlag a i b).snapCycle = s.snapCycle := rfl
@[simp] theorem State.setFlag_snapDue (a i : Nat) (b : Bool) : (s.setFlag a i b).snapDue = s.snapDue := rfl
@[simp] theorem State.setFlag_cycleCopies (a i : Nat) (b : Bool) : (s.setFlag a i b).cycleCopies = s.cycleCopies := rfl
@[simp] theorem State.setFlag_seedUntil (a i : Nat) (b : Bool) : (s.setFlag a i b).seedUntil = s.seedUntil := rfl
@[simp] theorem State.setFlag_lockWritten (a i : Nat) (b : Bool) : (s.setFlag a i b).lockWritten = s.lockWritten := rfl
@[simp] theorem State.setFlag_laneEq (a i : Nat) (b : Bool) : (s.setFlag a i b).laneEq = s.laneEq := rfl
@[simp] theorem State.setFlag_laneErrs (a i : Nat) (b : Bool) : (s.setFlag a i b).laneErrs = s.laneErrs := rfl

/-! State.bump changes `regs` alone. -/

@[simp] theorem State.bump_pending (a lo n k : Nat) : (s.bump a lo n k).pending = s.pending := rfl
@[simp] theorem State.bump_freeCtr (a lo n k : Nat) : (s.bump a lo n k).freeCtr = s.freeCtr := rfl
@[simp] theorem State.bump_outputs (a lo n k : Nat) : (s.bump a lo n k).outputs = s.outputs := rfl
@[simp] theorem State.bump_pend (a lo n k : Nat) : (s.bump a lo n k).pend = s.pend := rfl
@[simp] theorem State.bump_tu (a lo n k : Nat) : (s.bump a lo n k).tu = s.tu := rfl
@[simp] theorem State.bump_halt (a lo n k : Nat) : (s.bump a lo n k).halt = s.halt := rfl
@[simp] theorem State.bump_eng (a lo n k : Nat) : (s.bump a lo n k).eng = s.eng := rfl
@[simp] theorem State.bump_pstore (a lo n k : Nat) : (s.bump a lo n k).pstore = s.pstore := rfl
@[simp] theorem State.bump_dram (a lo n k : Nat) : (s.bump a lo n k).dram = s.dram := rfl
@[simp] theorem State.bump_cars (a lo n k : Nat) : (s.bump a lo n k).cars = s.cars := rfl
@[simp] theorem State.bump_seals (a lo n k : Nat) : (s.bump a lo n k).seals = s.seals := rfl
@[simp] theorem State.bump_outs (a lo n k : Nat) : (s.bump a lo n k).outs = s.outs := rfl
@[simp] theorem State.bump_heads (a lo n k : Nat) : (s.bump a lo n k).heads = s.heads := rfl
@[simp] theorem State.bump_grants (a lo n k : Nat) : (s.bump a lo n k).grants = s.grants := rfl
@[simp] theorem State.bump_filling (a lo n k : Nat) : (s.bump a lo n k).filling = s.filling := rfl
@[simp] theorem State.bump_cache (a lo n k : Nat) : (s.bump a lo n k).cache = s.cache := rfl
@[simp] theorem State.bump_mem (a lo n k : Nat) : (s.bump a lo n k).mem = s.mem := rfl
@[simp] theorem State.bump_chans (a lo n k : Nat) : (s.bump a lo n k).chans = s.chans := rfl
@[simp] theorem State.bump_integ (a lo n k : Nat) : (s.bump a lo n k).integ = s.integ := rfl
@[simp] theorem State.bump_links (a lo n k : Nat) : (s.bump a lo n k).links = s.links := rfl
@[simp] theorem State.bump_therm (a lo n k : Nat) : (s.bump a lo n k).therm = s.therm := rfl
@[simp] theorem State.bump_power (a lo n k : Nat) : (s.bump a lo n k).power = s.power := rfl
@[simp] theorem State.bump_otp (a lo n k : Nat) : (s.bump a lo n k).otp = s.otp := rfl
@[simp] theorem State.bump_img (a lo n k : Nat) : (s.bump a lo n k).img = s.img := rfl
@[simp] theorem State.bump_mgmt (a lo n k : Nat) : (s.bump a lo n k).mgmt = s.mgmt := rfl
@[simp] theorem State.bump_pins (a lo n k : Nat) : (s.bump a lo n k).pins = s.pins := rfl
@[simp] theorem State.bump_regul (a lo n k : Nat) : (s.bump a lo n k).regul = s.regul := rfl
@[simp] theorem State.bump_fcWindow (a lo n k : Nat) : (s.bump a lo n k).fcWindow = s.fcWindow := rfl
@[simp] theorem State.bump_cfgPass (a lo n k : Nat) : (s.bump a lo n k).cfgPass = s.cfgPass := rfl
@[simp] theorem State.bump_pendAt (a lo n k : Nat) : (s.bump a lo n k).pendAt = s.pendAt := rfl
@[simp] theorem State.bump_strobeCycle (a lo n k : Nat) : (s.bump a lo n k).strobeCycle = s.strobeCycle := rfl
@[simp] theorem State.bump_strobeDone (a lo n k : Nat) : (s.bump a lo n k).strobeDone = s.strobeDone := rfl
@[simp] theorem State.bump_strobeHeld (a lo n k : Nat) : (s.bump a lo n k).strobeHeld = s.strobeHeld := rfl
@[simp] theorem State.bump_lateArms (a lo n k : Nat) : (s.bump a lo n k).lateArms = s.lateArms := rfl
@[simp] theorem State.bump_tcReadyAt (a lo n k : Nat) : (s.bump a lo n k).tcReadyAt = s.tcReadyAt := rfl
@[simp] theorem State.bump_eqDigestBusy (a lo n k : Nat) : (s.bump a lo n k).eqDigestBusy = s.eqDigestBusy := rfl
@[simp] theorem State.bump_fcFirstCycle (a lo n k : Nat) : (s.bump a lo n k).fcFirstCycle = s.fcFirstCycle := rfl
@[simp] theorem State.bump_snapCycle (a lo n k : Nat) : (s.bump a lo n k).snapCycle = s.snapCycle := rfl
@[simp] theorem State.bump_snapDue (a lo n k : Nat) : (s.bump a lo n k).snapDue = s.snapDue := rfl
@[simp] theorem State.bump_cycleCopies (a lo n k : Nat) : (s.bump a lo n k).cycleCopies = s.cycleCopies := rfl
@[simp] theorem State.bump_seedUntil (a lo n k : Nat) : (s.bump a lo n k).seedUntil = s.seedUntil := rfl
@[simp] theorem State.bump_lockWritten (a lo n k : Nat) : (s.bump a lo n k).lockWritten = s.lockWritten := rfl
@[simp] theorem State.bump_laneEq (a lo n k : Nat) : (s.bump a lo n k).laneEq = s.laneEq := rfl
@[simp] theorem State.bump_laneErrs (a lo n k : Nat) : (s.bump a lo n k).laneErrs = s.laneErrs := rfl

/-! State.setThread changes `eng` alone. -/

@[simp] theorem State.setThread_pending (t : Fin 8) (x : Thread) : (s.setThread t x).pending = s.pending := rfl
@[simp] theorem State.setThread_freeCtr (t : Fin 8) (x : Thread) : (s.setThread t x).freeCtr = s.freeCtr := rfl
@[simp] theorem State.setThread_outputs (t : Fin 8) (x : Thread) : (s.setThread t x).outputs = s.outputs := rfl
@[simp] theorem State.setThread_regs (t : Fin 8) (x : Thread) : (s.setThread t x).regs = s.regs := rfl
@[simp] theorem State.setThread_pend (t : Fin 8) (x : Thread) : (s.setThread t x).pend = s.pend := rfl
@[simp] theorem State.setThread_tu (t : Fin 8) (x : Thread) : (s.setThread t x).tu = s.tu := rfl
@[simp] theorem State.setThread_halt (t : Fin 8) (x : Thread) : (s.setThread t x).halt = s.halt := rfl
@[simp] theorem State.setThread_pstore (t : Fin 8) (x : Thread) : (s.setThread t x).pstore = s.pstore := rfl
@[simp] theorem State.setThread_dram (t : Fin 8) (x : Thread) : (s.setThread t x).dram = s.dram := rfl
@[simp] theorem State.setThread_cars (t : Fin 8) (x : Thread) : (s.setThread t x).cars = s.cars := rfl
@[simp] theorem State.setThread_seals (t : Fin 8) (x : Thread) : (s.setThread t x).seals = s.seals := rfl
@[simp] theorem State.setThread_outs (t : Fin 8) (x : Thread) : (s.setThread t x).outs = s.outs := rfl
@[simp] theorem State.setThread_heads (t : Fin 8) (x : Thread) : (s.setThread t x).heads = s.heads := rfl
@[simp] theorem State.setThread_grants (t : Fin 8) (x : Thread) : (s.setThread t x).grants = s.grants := rfl
@[simp] theorem State.setThread_filling (t : Fin 8) (x : Thread) : (s.setThread t x).filling = s.filling := rfl
@[simp] theorem State.setThread_cache (t : Fin 8) (x : Thread) : (s.setThread t x).cache = s.cache := rfl
@[simp] theorem State.setThread_mem (t : Fin 8) (x : Thread) : (s.setThread t x).mem = s.mem := rfl
@[simp] theorem State.setThread_chans (t : Fin 8) (x : Thread) : (s.setThread t x).chans = s.chans := rfl
@[simp] theorem State.setThread_integ (t : Fin 8) (x : Thread) : (s.setThread t x).integ = s.integ := rfl
@[simp] theorem State.setThread_links (t : Fin 8) (x : Thread) : (s.setThread t x).links = s.links := rfl
@[simp] theorem State.setThread_therm (t : Fin 8) (x : Thread) : (s.setThread t x).therm = s.therm := rfl
@[simp] theorem State.setThread_power (t : Fin 8) (x : Thread) : (s.setThread t x).power = s.power := rfl
@[simp] theorem State.setThread_otp (t : Fin 8) (x : Thread) : (s.setThread t x).otp = s.otp := rfl
@[simp] theorem State.setThread_img (t : Fin 8) (x : Thread) : (s.setThread t x).img = s.img := rfl
@[simp] theorem State.setThread_mgmt (t : Fin 8) (x : Thread) : (s.setThread t x).mgmt = s.mgmt := rfl
@[simp] theorem State.setThread_pins (t : Fin 8) (x : Thread) : (s.setThread t x).pins = s.pins := rfl
@[simp] theorem State.setThread_regul (t : Fin 8) (x : Thread) : (s.setThread t x).regul = s.regul := rfl
@[simp] theorem State.setThread_fcWindow (t : Fin 8) (x : Thread) : (s.setThread t x).fcWindow = s.fcWindow := rfl
@[simp] theorem State.setThread_cfgPass (t : Fin 8) (x : Thread) : (s.setThread t x).cfgPass = s.cfgPass := rfl
@[simp] theorem State.setThread_pendAt (t : Fin 8) (x : Thread) : (s.setThread t x).pendAt = s.pendAt := rfl
@[simp] theorem State.setThread_strobeCycle (t : Fin 8) (x : Thread) : (s.setThread t x).strobeCycle = s.strobeCycle := rfl
@[simp] theorem State.setThread_strobeDone (t : Fin 8) (x : Thread) : (s.setThread t x).strobeDone = s.strobeDone := rfl
@[simp] theorem State.setThread_strobeHeld (t : Fin 8) (x : Thread) : (s.setThread t x).strobeHeld = s.strobeHeld := rfl
@[simp] theorem State.setThread_lateArms (t : Fin 8) (x : Thread) : (s.setThread t x).lateArms = s.lateArms := rfl
@[simp] theorem State.setThread_tcReadyAt (t : Fin 8) (x : Thread) : (s.setThread t x).tcReadyAt = s.tcReadyAt := rfl
@[simp] theorem State.setThread_eqDigestBusy (t : Fin 8) (x : Thread) : (s.setThread t x).eqDigestBusy = s.eqDigestBusy := rfl
@[simp] theorem State.setThread_fcFirstCycle (t : Fin 8) (x : Thread) : (s.setThread t x).fcFirstCycle = s.fcFirstCycle := rfl
@[simp] theorem State.setThread_snapCycle (t : Fin 8) (x : Thread) : (s.setThread t x).snapCycle = s.snapCycle := rfl
@[simp] theorem State.setThread_snapDue (t : Fin 8) (x : Thread) : (s.setThread t x).snapDue = s.snapDue := rfl
@[simp] theorem State.setThread_cycleCopies (t : Fin 8) (x : Thread) : (s.setThread t x).cycleCopies = s.cycleCopies := rfl
@[simp] theorem State.setThread_seedUntil (t : Fin 8) (x : Thread) : (s.setThread t x).seedUntil = s.seedUntil := rfl
@[simp] theorem State.setThread_lockWritten (t : Fin 8) (x : Thread) : (s.setThread t x).lockWritten = s.lockWritten := rfl
@[simp] theorem State.setThread_laneEq (t : Fin 8) (x : Thread) : (s.setThread t x).laneEq = s.laneEq := rfl
@[simp] theorem State.setThread_laneErrs (t : Fin 8) (x : Thread) : (s.setThread t x).laneErrs = s.laneErrs := rfl

/-! State.setCar changes `cars` alone. -/

@[simp] theorem State.setCar_pending (c : Fin 32) (x : Carriage) : (s.setCar c x).pending = s.pending := rfl
@[simp] theorem State.setCar_freeCtr (c : Fin 32) (x : Carriage) : (s.setCar c x).freeCtr = s.freeCtr := rfl
@[simp] theorem State.setCar_outputs (c : Fin 32) (x : Carriage) : (s.setCar c x).outputs = s.outputs := rfl
@[simp] theorem State.setCar_regs (c : Fin 32) (x : Carriage) : (s.setCar c x).regs = s.regs := rfl
@[simp] theorem State.setCar_pend (c : Fin 32) (x : Carriage) : (s.setCar c x).pend = s.pend := rfl
@[simp] theorem State.setCar_tu (c : Fin 32) (x : Carriage) : (s.setCar c x).tu = s.tu := rfl
@[simp] theorem State.setCar_halt (c : Fin 32) (x : Carriage) : (s.setCar c x).halt = s.halt := rfl
@[simp] theorem State.setCar_eng (c : Fin 32) (x : Carriage) : (s.setCar c x).eng = s.eng := rfl
@[simp] theorem State.setCar_pstore (c : Fin 32) (x : Carriage) : (s.setCar c x).pstore = s.pstore := rfl
@[simp] theorem State.setCar_dram (c : Fin 32) (x : Carriage) : (s.setCar c x).dram = s.dram := rfl
@[simp] theorem State.setCar_seals (c : Fin 32) (x : Carriage) : (s.setCar c x).seals = s.seals := rfl
@[simp] theorem State.setCar_outs (c : Fin 32) (x : Carriage) : (s.setCar c x).outs = s.outs := rfl
@[simp] theorem State.setCar_heads (c : Fin 32) (x : Carriage) : (s.setCar c x).heads = s.heads := rfl
@[simp] theorem State.setCar_grants (c : Fin 32) (x : Carriage) : (s.setCar c x).grants = s.grants := rfl
@[simp] theorem State.setCar_filling (c : Fin 32) (x : Carriage) : (s.setCar c x).filling = s.filling := rfl
@[simp] theorem State.setCar_cache (c : Fin 32) (x : Carriage) : (s.setCar c x).cache = s.cache := rfl
@[simp] theorem State.setCar_mem (c : Fin 32) (x : Carriage) : (s.setCar c x).mem = s.mem := rfl
@[simp] theorem State.setCar_chans (c : Fin 32) (x : Carriage) : (s.setCar c x).chans = s.chans := rfl
@[simp] theorem State.setCar_integ (c : Fin 32) (x : Carriage) : (s.setCar c x).integ = s.integ := rfl
@[simp] theorem State.setCar_links (c : Fin 32) (x : Carriage) : (s.setCar c x).links = s.links := rfl
@[simp] theorem State.setCar_therm (c : Fin 32) (x : Carriage) : (s.setCar c x).therm = s.therm := rfl
@[simp] theorem State.setCar_power (c : Fin 32) (x : Carriage) : (s.setCar c x).power = s.power := rfl
@[simp] theorem State.setCar_otp (c : Fin 32) (x : Carriage) : (s.setCar c x).otp = s.otp := rfl
@[simp] theorem State.setCar_img (c : Fin 32) (x : Carriage) : (s.setCar c x).img = s.img := rfl
@[simp] theorem State.setCar_mgmt (c : Fin 32) (x : Carriage) : (s.setCar c x).mgmt = s.mgmt := rfl
@[simp] theorem State.setCar_pins (c : Fin 32) (x : Carriage) : (s.setCar c x).pins = s.pins := rfl
@[simp] theorem State.setCar_regul (c : Fin 32) (x : Carriage) : (s.setCar c x).regul = s.regul := rfl
@[simp] theorem State.setCar_fcWindow (c : Fin 32) (x : Carriage) : (s.setCar c x).fcWindow = s.fcWindow := rfl
@[simp] theorem State.setCar_cfgPass (c : Fin 32) (x : Carriage) : (s.setCar c x).cfgPass = s.cfgPass := rfl
@[simp] theorem State.setCar_pendAt (c : Fin 32) (x : Carriage) : (s.setCar c x).pendAt = s.pendAt := rfl
@[simp] theorem State.setCar_strobeCycle (c : Fin 32) (x : Carriage) : (s.setCar c x).strobeCycle = s.strobeCycle := rfl
@[simp] theorem State.setCar_strobeDone (c : Fin 32) (x : Carriage) : (s.setCar c x).strobeDone = s.strobeDone := rfl
@[simp] theorem State.setCar_strobeHeld (c : Fin 32) (x : Carriage) : (s.setCar c x).strobeHeld = s.strobeHeld := rfl
@[simp] theorem State.setCar_lateArms (c : Fin 32) (x : Carriage) : (s.setCar c x).lateArms = s.lateArms := rfl
@[simp] theorem State.setCar_tcReadyAt (c : Fin 32) (x : Carriage) : (s.setCar c x).tcReadyAt = s.tcReadyAt := rfl
@[simp] theorem State.setCar_eqDigestBusy (c : Fin 32) (x : Carriage) : (s.setCar c x).eqDigestBusy = s.eqDigestBusy := rfl
@[simp] theorem State.setCar_fcFirstCycle (c : Fin 32) (x : Carriage) : (s.setCar c x).fcFirstCycle = s.fcFirstCycle := rfl
@[simp] theorem State.setCar_snapCycle (c : Fin 32) (x : Carriage) : (s.setCar c x).snapCycle = s.snapCycle := rfl
@[simp] theorem State.setCar_snapDue (c : Fin 32) (x : Carriage) : (s.setCar c x).snapDue = s.snapDue := rfl
@[simp] theorem State.setCar_cycleCopies (c : Fin 32) (x : Carriage) : (s.setCar c x).cycleCopies = s.cycleCopies := rfl
@[simp] theorem State.setCar_seedUntil (c : Fin 32) (x : Carriage) : (s.setCar c x).seedUntil = s.seedUntil := rfl
@[simp] theorem State.setCar_lockWritten (c : Fin 32) (x : Carriage) : (s.setCar c x).lockWritten = s.lockWritten := rfl
@[simp] theorem State.setCar_laneEq (c : Fin 32) (x : Carriage) : (s.setCar c x).laneEq = s.laneEq := rfl
@[simp] theorem State.setCar_laneErrs (c : Fin 32) (x : Carriage) : (s.setCar c x).laneErrs = s.laneErrs := rfl

/-! State.setSeal changes `seals` alone. -/

@[simp] theorem State.setSeal_pending (i : Fin 4) (x : Seal) : (s.setSeal i x).pending = s.pending := rfl
@[simp] theorem State.setSeal_freeCtr (i : Fin 4) (x : Seal) : (s.setSeal i x).freeCtr = s.freeCtr := rfl
@[simp] theorem State.setSeal_outputs (i : Fin 4) (x : Seal) : (s.setSeal i x).outputs = s.outputs := rfl
@[simp] theorem State.setSeal_regs (i : Fin 4) (x : Seal) : (s.setSeal i x).regs = s.regs := rfl
@[simp] theorem State.setSeal_pend (i : Fin 4) (x : Seal) : (s.setSeal i x).pend = s.pend := rfl
@[simp] theorem State.setSeal_tu (i : Fin 4) (x : Seal) : (s.setSeal i x).tu = s.tu := rfl
@[simp] theorem State.setSeal_halt (i : Fin 4) (x : Seal) : (s.setSeal i x).halt = s.halt := rfl
@[simp] theorem State.setSeal_eng (i : Fin 4) (x : Seal) : (s.setSeal i x).eng = s.eng := rfl
@[simp] theorem State.setSeal_pstore (i : Fin 4) (x : Seal) : (s.setSeal i x).pstore = s.pstore := rfl
@[simp] theorem State.setSeal_dram (i : Fin 4) (x : Seal) : (s.setSeal i x).dram = s.dram := rfl
@[simp] theorem State.setSeal_cars (i : Fin 4) (x : Seal) : (s.setSeal i x).cars = s.cars := rfl
@[simp] theorem State.setSeal_outs (i : Fin 4) (x : Seal) : (s.setSeal i x).outs = s.outs := rfl
@[simp] theorem State.setSeal_heads (i : Fin 4) (x : Seal) : (s.setSeal i x).heads = s.heads := rfl
@[simp] theorem State.setSeal_grants (i : Fin 4) (x : Seal) : (s.setSeal i x).grants = s.grants := rfl
@[simp] theorem State.setSeal_filling (i : Fin 4) (x : Seal) : (s.setSeal i x).filling = s.filling := rfl
@[simp] theorem State.setSeal_cache (i : Fin 4) (x : Seal) : (s.setSeal i x).cache = s.cache := rfl
@[simp] theorem State.setSeal_mem (i : Fin 4) (x : Seal) : (s.setSeal i x).mem = s.mem := rfl
@[simp] theorem State.setSeal_chans (i : Fin 4) (x : Seal) : (s.setSeal i x).chans = s.chans := rfl
@[simp] theorem State.setSeal_integ (i : Fin 4) (x : Seal) : (s.setSeal i x).integ = s.integ := rfl
@[simp] theorem State.setSeal_links (i : Fin 4) (x : Seal) : (s.setSeal i x).links = s.links := rfl
@[simp] theorem State.setSeal_therm (i : Fin 4) (x : Seal) : (s.setSeal i x).therm = s.therm := rfl
@[simp] theorem State.setSeal_power (i : Fin 4) (x : Seal) : (s.setSeal i x).power = s.power := rfl
@[simp] theorem State.setSeal_otp (i : Fin 4) (x : Seal) : (s.setSeal i x).otp = s.otp := rfl
@[simp] theorem State.setSeal_img (i : Fin 4) (x : Seal) : (s.setSeal i x).img = s.img := rfl
@[simp] theorem State.setSeal_mgmt (i : Fin 4) (x : Seal) : (s.setSeal i x).mgmt = s.mgmt := rfl
@[simp] theorem State.setSeal_pins (i : Fin 4) (x : Seal) : (s.setSeal i x).pins = s.pins := rfl
@[simp] theorem State.setSeal_regul (i : Fin 4) (x : Seal) : (s.setSeal i x).regul = s.regul := rfl
@[simp] theorem State.setSeal_fcWindow (i : Fin 4) (x : Seal) : (s.setSeal i x).fcWindow = s.fcWindow := rfl
@[simp] theorem State.setSeal_cfgPass (i : Fin 4) (x : Seal) : (s.setSeal i x).cfgPass = s.cfgPass := rfl
@[simp] theorem State.setSeal_pendAt (i : Fin 4) (x : Seal) : (s.setSeal i x).pendAt = s.pendAt := rfl
@[simp] theorem State.setSeal_strobeCycle (i : Fin 4) (x : Seal) : (s.setSeal i x).strobeCycle = s.strobeCycle := rfl
@[simp] theorem State.setSeal_strobeDone (i : Fin 4) (x : Seal) : (s.setSeal i x).strobeDone = s.strobeDone := rfl
@[simp] theorem State.setSeal_strobeHeld (i : Fin 4) (x : Seal) : (s.setSeal i x).strobeHeld = s.strobeHeld := rfl
@[simp] theorem State.setSeal_lateArms (i : Fin 4) (x : Seal) : (s.setSeal i x).lateArms = s.lateArms := rfl
@[simp] theorem State.setSeal_tcReadyAt (i : Fin 4) (x : Seal) : (s.setSeal i x).tcReadyAt = s.tcReadyAt := rfl
@[simp] theorem State.setSeal_eqDigestBusy (i : Fin 4) (x : Seal) : (s.setSeal i x).eqDigestBusy = s.eqDigestBusy := rfl
@[simp] theorem State.setSeal_fcFirstCycle (i : Fin 4) (x : Seal) : (s.setSeal i x).fcFirstCycle = s.fcFirstCycle := rfl
@[simp] theorem State.setSeal_snapCycle (i : Fin 4) (x : Seal) : (s.setSeal i x).snapCycle = s.snapCycle := rfl
@[simp] theorem State.setSeal_snapDue (i : Fin 4) (x : Seal) : (s.setSeal i x).snapDue = s.snapDue := rfl
@[simp] theorem State.setSeal_cycleCopies (i : Fin 4) (x : Seal) : (s.setSeal i x).cycleCopies = s.cycleCopies := rfl
@[simp] theorem State.setSeal_seedUntil (i : Fin 4) (x : Seal) : (s.setSeal i x).seedUntil = s.seedUntil := rfl
@[simp] theorem State.setSeal_lockWritten (i : Fin 4) (x : Seal) : (s.setSeal i x).lockWritten = s.lockWritten := rfl
@[simp] theorem State.setSeal_laneEq (i : Fin 4) (x : Seal) : (s.setSeal i x).laneEq = s.laneEq := rfl
@[simp] theorem State.setSeal_laneErrs (i : Fin 4) (x : Seal) : (s.setSeal i x).laneErrs = s.laneErrs := rfl

/-! State.setOuting changes `outs` alone. -/

@[simp] theorem State.setOuting_pending (i : Fin 8) (x : Outing) : (s.setOuting i x).pending = s.pending := rfl
@[simp] theorem State.setOuting_freeCtr (i : Fin 8) (x : Outing) : (s.setOuting i x).freeCtr = s.freeCtr := rfl
@[simp] theorem State.setOuting_outputs (i : Fin 8) (x : Outing) : (s.setOuting i x).outputs = s.outputs := rfl
@[simp] theorem State.setOuting_regs (i : Fin 8) (x : Outing) : (s.setOuting i x).regs = s.regs := rfl
@[simp] theorem State.setOuting_pend (i : Fin 8) (x : Outing) : (s.setOuting i x).pend = s.pend := rfl
@[simp] theorem State.setOuting_tu (i : Fin 8) (x : Outing) : (s.setOuting i x).tu = s.tu := rfl
@[simp] theorem State.setOuting_halt (i : Fin 8) (x : Outing) : (s.setOuting i x).halt = s.halt := rfl
@[simp] theorem State.setOuting_eng (i : Fin 8) (x : Outing) : (s.setOuting i x).eng = s.eng := rfl
@[simp] theorem State.setOuting_pstore (i : Fin 8) (x : Outing) : (s.setOuting i x).pstore = s.pstore := rfl
@[simp] theorem State.setOuting_dram (i : Fin 8) (x : Outing) : (s.setOuting i x).dram = s.dram := rfl
@[simp] theorem State.setOuting_cars (i : Fin 8) (x : Outing) : (s.setOuting i x).cars = s.cars := rfl
@[simp] theorem State.setOuting_seals (i : Fin 8) (x : Outing) : (s.setOuting i x).seals = s.seals := rfl
@[simp] theorem State.setOuting_heads (i : Fin 8) (x : Outing) : (s.setOuting i x).heads = s.heads := rfl
@[simp] theorem State.setOuting_grants (i : Fin 8) (x : Outing) : (s.setOuting i x).grants = s.grants := rfl
@[simp] theorem State.setOuting_filling (i : Fin 8) (x : Outing) : (s.setOuting i x).filling = s.filling := rfl
@[simp] theorem State.setOuting_cache (i : Fin 8) (x : Outing) : (s.setOuting i x).cache = s.cache := rfl
@[simp] theorem State.setOuting_mem (i : Fin 8) (x : Outing) : (s.setOuting i x).mem = s.mem := rfl
@[simp] theorem State.setOuting_chans (i : Fin 8) (x : Outing) : (s.setOuting i x).chans = s.chans := rfl
@[simp] theorem State.setOuting_integ (i : Fin 8) (x : Outing) : (s.setOuting i x).integ = s.integ := rfl
@[simp] theorem State.setOuting_links (i : Fin 8) (x : Outing) : (s.setOuting i x).links = s.links := rfl
@[simp] theorem State.setOuting_therm (i : Fin 8) (x : Outing) : (s.setOuting i x).therm = s.therm := rfl
@[simp] theorem State.setOuting_power (i : Fin 8) (x : Outing) : (s.setOuting i x).power = s.power := rfl
@[simp] theorem State.setOuting_otp (i : Fin 8) (x : Outing) : (s.setOuting i x).otp = s.otp := rfl
@[simp] theorem State.setOuting_img (i : Fin 8) (x : Outing) : (s.setOuting i x).img = s.img := rfl
@[simp] theorem State.setOuting_mgmt (i : Fin 8) (x : Outing) : (s.setOuting i x).mgmt = s.mgmt := rfl
@[simp] theorem State.setOuting_pins (i : Fin 8) (x : Outing) : (s.setOuting i x).pins = s.pins := rfl
@[simp] theorem State.setOuting_regul (i : Fin 8) (x : Outing) : (s.setOuting i x).regul = s.regul := rfl
@[simp] theorem State.setOuting_fcWindow (i : Fin 8) (x : Outing) : (s.setOuting i x).fcWindow = s.fcWindow := rfl
@[simp] theorem State.setOuting_cfgPass (i : Fin 8) (x : Outing) : (s.setOuting i x).cfgPass = s.cfgPass := rfl
@[simp] theorem State.setOuting_pendAt (i : Fin 8) (x : Outing) : (s.setOuting i x).pendAt = s.pendAt := rfl
@[simp] theorem State.setOuting_strobeCycle (i : Fin 8) (x : Outing) : (s.setOuting i x).strobeCycle = s.strobeCycle := rfl
@[simp] theorem State.setOuting_strobeDone (i : Fin 8) (x : Outing) : (s.setOuting i x).strobeDone = s.strobeDone := rfl
@[simp] theorem State.setOuting_strobeHeld (i : Fin 8) (x : Outing) : (s.setOuting i x).strobeHeld = s.strobeHeld := rfl
@[simp] theorem State.setOuting_lateArms (i : Fin 8) (x : Outing) : (s.setOuting i x).lateArms = s.lateArms := rfl
@[simp] theorem State.setOuting_tcReadyAt (i : Fin 8) (x : Outing) : (s.setOuting i x).tcReadyAt = s.tcReadyAt := rfl
@[simp] theorem State.setOuting_eqDigestBusy (i : Fin 8) (x : Outing) : (s.setOuting i x).eqDigestBusy = s.eqDigestBusy := rfl
@[simp] theorem State.setOuting_fcFirstCycle (i : Fin 8) (x : Outing) : (s.setOuting i x).fcFirstCycle = s.fcFirstCycle := rfl
@[simp] theorem State.setOuting_snapCycle (i : Fin 8) (x : Outing) : (s.setOuting i x).snapCycle = s.snapCycle := rfl
@[simp] theorem State.setOuting_snapDue (i : Fin 8) (x : Outing) : (s.setOuting i x).snapDue = s.snapDue := rfl
@[simp] theorem State.setOuting_cycleCopies (i : Fin 8) (x : Outing) : (s.setOuting i x).cycleCopies = s.cycleCopies := rfl
@[simp] theorem State.setOuting_seedUntil (i : Fin 8) (x : Outing) : (s.setOuting i x).seedUntil = s.seedUntil := rfl
@[simp] theorem State.setOuting_lockWritten (i : Fin 8) (x : Outing) : (s.setOuting i x).lockWritten = s.lockWritten := rfl
@[simp] theorem State.setOuting_laneEq (i : Fin 8) (x : Outing) : (s.setOuting i x).laneEq = s.laneEq := rfl
@[simp] theorem State.setOuting_laneErrs (i : Fin 8) (x : Outing) : (s.setOuting i x).laneErrs = s.laneErrs := rfl

/-! State.setHead changes `heads` alone. -/

@[simp] theorem State.setHead_pending (k : Fin 16) (x : Head) : (s.setHead k x).pending = s.pending := rfl
@[simp] theorem State.setHead_freeCtr (k : Fin 16) (x : Head) : (s.setHead k x).freeCtr = s.freeCtr := rfl
@[simp] theorem State.setHead_outputs (k : Fin 16) (x : Head) : (s.setHead k x).outputs = s.outputs := rfl
@[simp] theorem State.setHead_regs (k : Fin 16) (x : Head) : (s.setHead k x).regs = s.regs := rfl
@[simp] theorem State.setHead_pend (k : Fin 16) (x : Head) : (s.setHead k x).pend = s.pend := rfl
@[simp] theorem State.setHead_tu (k : Fin 16) (x : Head) : (s.setHead k x).tu = s.tu := rfl
@[simp] theorem State.setHead_halt (k : Fin 16) (x : Head) : (s.setHead k x).halt = s.halt := rfl
@[simp] theorem State.setHead_eng (k : Fin 16) (x : Head) : (s.setHead k x).eng = s.eng := rfl
@[simp] theorem State.setHead_pstore (k : Fin 16) (x : Head) : (s.setHead k x).pstore = s.pstore := rfl
@[simp] theorem State.setHead_dram (k : Fin 16) (x : Head) : (s.setHead k x).dram = s.dram := rfl
@[simp] theorem State.setHead_cars (k : Fin 16) (x : Head) : (s.setHead k x).cars = s.cars := rfl
@[simp] theorem State.setHead_seals (k : Fin 16) (x : Head) : (s.setHead k x).seals = s.seals := rfl
@[simp] theorem State.setHead_outs (k : Fin 16) (x : Head) : (s.setHead k x).outs = s.outs := rfl
@[simp] theorem State.setHead_grants (k : Fin 16) (x : Head) : (s.setHead k x).grants = s.grants := rfl
@[simp] theorem State.setHead_filling (k : Fin 16) (x : Head) : (s.setHead k x).filling = s.filling := rfl
@[simp] theorem State.setHead_cache (k : Fin 16) (x : Head) : (s.setHead k x).cache = s.cache := rfl
@[simp] theorem State.setHead_mem (k : Fin 16) (x : Head) : (s.setHead k x).mem = s.mem := rfl
@[simp] theorem State.setHead_chans (k : Fin 16) (x : Head) : (s.setHead k x).chans = s.chans := rfl
@[simp] theorem State.setHead_integ (k : Fin 16) (x : Head) : (s.setHead k x).integ = s.integ := rfl
@[simp] theorem State.setHead_links (k : Fin 16) (x : Head) : (s.setHead k x).links = s.links := rfl
@[simp] theorem State.setHead_therm (k : Fin 16) (x : Head) : (s.setHead k x).therm = s.therm := rfl
@[simp] theorem State.setHead_power (k : Fin 16) (x : Head) : (s.setHead k x).power = s.power := rfl
@[simp] theorem State.setHead_otp (k : Fin 16) (x : Head) : (s.setHead k x).otp = s.otp := rfl
@[simp] theorem State.setHead_img (k : Fin 16) (x : Head) : (s.setHead k x).img = s.img := rfl
@[simp] theorem State.setHead_mgmt (k : Fin 16) (x : Head) : (s.setHead k x).mgmt = s.mgmt := rfl
@[simp] theorem State.setHead_pins (k : Fin 16) (x : Head) : (s.setHead k x).pins = s.pins := rfl
@[simp] theorem State.setHead_regul (k : Fin 16) (x : Head) : (s.setHead k x).regul = s.regul := rfl
@[simp] theorem State.setHead_fcWindow (k : Fin 16) (x : Head) : (s.setHead k x).fcWindow = s.fcWindow := rfl
@[simp] theorem State.setHead_cfgPass (k : Fin 16) (x : Head) : (s.setHead k x).cfgPass = s.cfgPass := rfl
@[simp] theorem State.setHead_pendAt (k : Fin 16) (x : Head) : (s.setHead k x).pendAt = s.pendAt := rfl
@[simp] theorem State.setHead_strobeCycle (k : Fin 16) (x : Head) : (s.setHead k x).strobeCycle = s.strobeCycle := rfl
@[simp] theorem State.setHead_strobeDone (k : Fin 16) (x : Head) : (s.setHead k x).strobeDone = s.strobeDone := rfl
@[simp] theorem State.setHead_strobeHeld (k : Fin 16) (x : Head) : (s.setHead k x).strobeHeld = s.strobeHeld := rfl
@[simp] theorem State.setHead_lateArms (k : Fin 16) (x : Head) : (s.setHead k x).lateArms = s.lateArms := rfl
@[simp] theorem State.setHead_tcReadyAt (k : Fin 16) (x : Head) : (s.setHead k x).tcReadyAt = s.tcReadyAt := rfl
@[simp] theorem State.setHead_eqDigestBusy (k : Fin 16) (x : Head) : (s.setHead k x).eqDigestBusy = s.eqDigestBusy := rfl
@[simp] theorem State.setHead_fcFirstCycle (k : Fin 16) (x : Head) : (s.setHead k x).fcFirstCycle = s.fcFirstCycle := rfl
@[simp] theorem State.setHead_snapCycle (k : Fin 16) (x : Head) : (s.setHead k x).snapCycle = s.snapCycle := rfl
@[simp] theorem State.setHead_snapDue (k : Fin 16) (x : Head) : (s.setHead k x).snapDue = s.snapDue := rfl
@[simp] theorem State.setHead_cycleCopies (k : Fin 16) (x : Head) : (s.setHead k x).cycleCopies = s.cycleCopies := rfl
@[simp] theorem State.setHead_seedUntil (k : Fin 16) (x : Head) : (s.setHead k x).seedUntil = s.seedUntil := rfl
@[simp] theorem State.setHead_lockWritten (k : Fin 16) (x : Head) : (s.setHead k x).lockWritten = s.lockWritten := rfl
@[simp] theorem State.setHead_laneEq (k : Fin 16) (x : Head) : (s.setHead k x).laneEq = s.laneEq := rfl
@[simp] theorem State.setHead_laneErrs (k : Fin 16) (x : Head) : (s.setHead k x).laneErrs = s.laneErrs := rfl

/-! State.setChan changes `chans` alone. -/

@[simp] theorem State.setChan_pending (c : Fin 32) (x : Channel) : (s.setChan c x).pending = s.pending := rfl
@[simp] theorem State.setChan_freeCtr (c : Fin 32) (x : Channel) : (s.setChan c x).freeCtr = s.freeCtr := rfl
@[simp] theorem State.setChan_outputs (c : Fin 32) (x : Channel) : (s.setChan c x).outputs = s.outputs := rfl
@[simp] theorem State.setChan_regs (c : Fin 32) (x : Channel) : (s.setChan c x).regs = s.regs := rfl
@[simp] theorem State.setChan_pend (c : Fin 32) (x : Channel) : (s.setChan c x).pend = s.pend := rfl
@[simp] theorem State.setChan_tu (c : Fin 32) (x : Channel) : (s.setChan c x).tu = s.tu := rfl
@[simp] theorem State.setChan_halt (c : Fin 32) (x : Channel) : (s.setChan c x).halt = s.halt := rfl
@[simp] theorem State.setChan_eng (c : Fin 32) (x : Channel) : (s.setChan c x).eng = s.eng := rfl
@[simp] theorem State.setChan_pstore (c : Fin 32) (x : Channel) : (s.setChan c x).pstore = s.pstore := rfl
@[simp] theorem State.setChan_dram (c : Fin 32) (x : Channel) : (s.setChan c x).dram = s.dram := rfl
@[simp] theorem State.setChan_cars (c : Fin 32) (x : Channel) : (s.setChan c x).cars = s.cars := rfl
@[simp] theorem State.setChan_seals (c : Fin 32) (x : Channel) : (s.setChan c x).seals = s.seals := rfl
@[simp] theorem State.setChan_outs (c : Fin 32) (x : Channel) : (s.setChan c x).outs = s.outs := rfl
@[simp] theorem State.setChan_heads (c : Fin 32) (x : Channel) : (s.setChan c x).heads = s.heads := rfl
@[simp] theorem State.setChan_grants (c : Fin 32) (x : Channel) : (s.setChan c x).grants = s.grants := rfl
@[simp] theorem State.setChan_filling (c : Fin 32) (x : Channel) : (s.setChan c x).filling = s.filling := rfl
@[simp] theorem State.setChan_cache (c : Fin 32) (x : Channel) : (s.setChan c x).cache = s.cache := rfl
@[simp] theorem State.setChan_mem (c : Fin 32) (x : Channel) : (s.setChan c x).mem = s.mem := rfl
@[simp] theorem State.setChan_integ (c : Fin 32) (x : Channel) : (s.setChan c x).integ = s.integ := rfl
@[simp] theorem State.setChan_links (c : Fin 32) (x : Channel) : (s.setChan c x).links = s.links := rfl
@[simp] theorem State.setChan_therm (c : Fin 32) (x : Channel) : (s.setChan c x).therm = s.therm := rfl
@[simp] theorem State.setChan_power (c : Fin 32) (x : Channel) : (s.setChan c x).power = s.power := rfl
@[simp] theorem State.setChan_otp (c : Fin 32) (x : Channel) : (s.setChan c x).otp = s.otp := rfl
@[simp] theorem State.setChan_img (c : Fin 32) (x : Channel) : (s.setChan c x).img = s.img := rfl
@[simp] theorem State.setChan_mgmt (c : Fin 32) (x : Channel) : (s.setChan c x).mgmt = s.mgmt := rfl
@[simp] theorem State.setChan_pins (c : Fin 32) (x : Channel) : (s.setChan c x).pins = s.pins := rfl
@[simp] theorem State.setChan_regul (c : Fin 32) (x : Channel) : (s.setChan c x).regul = s.regul := rfl
@[simp] theorem State.setChan_fcWindow (c : Fin 32) (x : Channel) : (s.setChan c x).fcWindow = s.fcWindow := rfl
@[simp] theorem State.setChan_cfgPass (c : Fin 32) (x : Channel) : (s.setChan c x).cfgPass = s.cfgPass := rfl
@[simp] theorem State.setChan_pendAt (c : Fin 32) (x : Channel) : (s.setChan c x).pendAt = s.pendAt := rfl
@[simp] theorem State.setChan_strobeCycle (c : Fin 32) (x : Channel) : (s.setChan c x).strobeCycle = s.strobeCycle := rfl
@[simp] theorem State.setChan_strobeDone (c : Fin 32) (x : Channel) : (s.setChan c x).strobeDone = s.strobeDone := rfl
@[simp] theorem State.setChan_strobeHeld (c : Fin 32) (x : Channel) : (s.setChan c x).strobeHeld = s.strobeHeld := rfl
@[simp] theorem State.setChan_lateArms (c : Fin 32) (x : Channel) : (s.setChan c x).lateArms = s.lateArms := rfl
@[simp] theorem State.setChan_tcReadyAt (c : Fin 32) (x : Channel) : (s.setChan c x).tcReadyAt = s.tcReadyAt := rfl
@[simp] theorem State.setChan_eqDigestBusy (c : Fin 32) (x : Channel) : (s.setChan c x).eqDigestBusy = s.eqDigestBusy := rfl
@[simp] theorem State.setChan_fcFirstCycle (c : Fin 32) (x : Channel) : (s.setChan c x).fcFirstCycle = s.fcFirstCycle := rfl
@[simp] theorem State.setChan_snapCycle (c : Fin 32) (x : Channel) : (s.setChan c x).snapCycle = s.snapCycle := rfl
@[simp] theorem State.setChan_snapDue (c : Fin 32) (x : Channel) : (s.setChan c x).snapDue = s.snapDue := rfl
@[simp] theorem State.setChan_cycleCopies (c : Fin 32) (x : Channel) : (s.setChan c x).cycleCopies = s.cycleCopies := rfl
@[simp] theorem State.setChan_seedUntil (c : Fin 32) (x : Channel) : (s.setChan c x).seedUntil = s.seedUntil := rfl
@[simp] theorem State.setChan_lockWritten (c : Fin 32) (x : Channel) : (s.setChan c x).lockWritten = s.lockWritten := rfl
@[simp] theorem State.setChan_laneEq (c : Fin 32) (x : Channel) : (s.setChan c x).laneEq = s.laneEq := rfl
@[simp] theorem State.setChan_laneErrs (c : Fin 32) (x : Channel) : (s.setChan c x).laneErrs = s.laneErrs := rfl

/-! State.setDom changes `power` alone. -/

@[simp] theorem State.setDom_pending (n : Fin 64) (x : Domain) : (s.setDom n x).pending = s.pending := rfl
@[simp] theorem State.setDom_freeCtr (n : Fin 64) (x : Domain) : (s.setDom n x).freeCtr = s.freeCtr := rfl
@[simp] theorem State.setDom_outputs (n : Fin 64) (x : Domain) : (s.setDom n x).outputs = s.outputs := rfl
@[simp] theorem State.setDom_regs (n : Fin 64) (x : Domain) : (s.setDom n x).regs = s.regs := rfl
@[simp] theorem State.setDom_pend (n : Fin 64) (x : Domain) : (s.setDom n x).pend = s.pend := rfl
@[simp] theorem State.setDom_tu (n : Fin 64) (x : Domain) : (s.setDom n x).tu = s.tu := rfl
@[simp] theorem State.setDom_halt (n : Fin 64) (x : Domain) : (s.setDom n x).halt = s.halt := rfl
@[simp] theorem State.setDom_eng (n : Fin 64) (x : Domain) : (s.setDom n x).eng = s.eng := rfl
@[simp] theorem State.setDom_pstore (n : Fin 64) (x : Domain) : (s.setDom n x).pstore = s.pstore := rfl
@[simp] theorem State.setDom_dram (n : Fin 64) (x : Domain) : (s.setDom n x).dram = s.dram := rfl
@[simp] theorem State.setDom_cars (n : Fin 64) (x : Domain) : (s.setDom n x).cars = s.cars := rfl
@[simp] theorem State.setDom_seals (n : Fin 64) (x : Domain) : (s.setDom n x).seals = s.seals := rfl
@[simp] theorem State.setDom_outs (n : Fin 64) (x : Domain) : (s.setDom n x).outs = s.outs := rfl
@[simp] theorem State.setDom_heads (n : Fin 64) (x : Domain) : (s.setDom n x).heads = s.heads := rfl
@[simp] theorem State.setDom_grants (n : Fin 64) (x : Domain) : (s.setDom n x).grants = s.grants := rfl
@[simp] theorem State.setDom_filling (n : Fin 64) (x : Domain) : (s.setDom n x).filling = s.filling := rfl
@[simp] theorem State.setDom_cache (n : Fin 64) (x : Domain) : (s.setDom n x).cache = s.cache := rfl
@[simp] theorem State.setDom_mem (n : Fin 64) (x : Domain) : (s.setDom n x).mem = s.mem := rfl
@[simp] theorem State.setDom_chans (n : Fin 64) (x : Domain) : (s.setDom n x).chans = s.chans := rfl
@[simp] theorem State.setDom_integ (n : Fin 64) (x : Domain) : (s.setDom n x).integ = s.integ := rfl
@[simp] theorem State.setDom_links (n : Fin 64) (x : Domain) : (s.setDom n x).links = s.links := rfl
@[simp] theorem State.setDom_therm (n : Fin 64) (x : Domain) : (s.setDom n x).therm = s.therm := rfl
@[simp] theorem State.setDom_otp (n : Fin 64) (x : Domain) : (s.setDom n x).otp = s.otp := rfl
@[simp] theorem State.setDom_img (n : Fin 64) (x : Domain) : (s.setDom n x).img = s.img := rfl
@[simp] theorem State.setDom_mgmt (n : Fin 64) (x : Domain) : (s.setDom n x).mgmt = s.mgmt := rfl
@[simp] theorem State.setDom_pins (n : Fin 64) (x : Domain) : (s.setDom n x).pins = s.pins := rfl
@[simp] theorem State.setDom_regul (n : Fin 64) (x : Domain) : (s.setDom n x).regul = s.regul := rfl
@[simp] theorem State.setDom_fcWindow (n : Fin 64) (x : Domain) : (s.setDom n x).fcWindow = s.fcWindow := rfl
@[simp] theorem State.setDom_cfgPass (n : Fin 64) (x : Domain) : (s.setDom n x).cfgPass = s.cfgPass := rfl
@[simp] theorem State.setDom_pendAt (n : Fin 64) (x : Domain) : (s.setDom n x).pendAt = s.pendAt := rfl
@[simp] theorem State.setDom_strobeCycle (n : Fin 64) (x : Domain) : (s.setDom n x).strobeCycle = s.strobeCycle := rfl
@[simp] theorem State.setDom_strobeDone (n : Fin 64) (x : Domain) : (s.setDom n x).strobeDone = s.strobeDone := rfl
@[simp] theorem State.setDom_strobeHeld (n : Fin 64) (x : Domain) : (s.setDom n x).strobeHeld = s.strobeHeld := rfl
@[simp] theorem State.setDom_lateArms (n : Fin 64) (x : Domain) : (s.setDom n x).lateArms = s.lateArms := rfl
@[simp] theorem State.setDom_tcReadyAt (n : Fin 64) (x : Domain) : (s.setDom n x).tcReadyAt = s.tcReadyAt := rfl
@[simp] theorem State.setDom_eqDigestBusy (n : Fin 64) (x : Domain) : (s.setDom n x).eqDigestBusy = s.eqDigestBusy := rfl
@[simp] theorem State.setDom_fcFirstCycle (n : Fin 64) (x : Domain) : (s.setDom n x).fcFirstCycle = s.fcFirstCycle := rfl
@[simp] theorem State.setDom_snapCycle (n : Fin 64) (x : Domain) : (s.setDom n x).snapCycle = s.snapCycle := rfl
@[simp] theorem State.setDom_snapDue (n : Fin 64) (x : Domain) : (s.setDom n x).snapDue = s.snapDue := rfl
@[simp] theorem State.setDom_cycleCopies (n : Fin 64) (x : Domain) : (s.setDom n x).cycleCopies = s.cycleCopies := rfl
@[simp] theorem State.setDom_seedUntil (n : Fin 64) (x : Domain) : (s.setDom n x).seedUntil = s.seedUntil := rfl
@[simp] theorem State.setDom_lockWritten (n : Fin 64) (x : Domain) : (s.setDom n x).lockWritten = s.lockWritten := rfl
@[simp] theorem State.setDom_laneEq (n : Fin 64) (x : Domain) : (s.setDom n x).laneEq = s.laneEq := rfl
@[simp] theorem State.setDom_laneErrs (n : Fin 64) (x : Domain) : (s.setDom n x).laneErrs = s.laneErrs := rfl

/-! State.emit changes `outputs` alone. -/

@[simp] theorem State.emit_pending (o : Output) : (s.emit o).pending = s.pending := rfl
@[simp] theorem State.emit_freeCtr (o : Output) : (s.emit o).freeCtr = s.freeCtr := rfl
@[simp] theorem State.emit_regs (o : Output) : (s.emit o).regs = s.regs := rfl
@[simp] theorem State.emit_pend (o : Output) : (s.emit o).pend = s.pend := rfl
@[simp] theorem State.emit_tu (o : Output) : (s.emit o).tu = s.tu := rfl
@[simp] theorem State.emit_halt (o : Output) : (s.emit o).halt = s.halt := rfl
@[simp] theorem State.emit_eng (o : Output) : (s.emit o).eng = s.eng := rfl
@[simp] theorem State.emit_pstore (o : Output) : (s.emit o).pstore = s.pstore := rfl
@[simp] theorem State.emit_dram (o : Output) : (s.emit o).dram = s.dram := rfl
@[simp] theorem State.emit_cars (o : Output) : (s.emit o).cars = s.cars := rfl
@[simp] theorem State.emit_seals (o : Output) : (s.emit o).seals = s.seals := rfl
@[simp] theorem State.emit_outs (o : Output) : (s.emit o).outs = s.outs := rfl
@[simp] theorem State.emit_heads (o : Output) : (s.emit o).heads = s.heads := rfl
@[simp] theorem State.emit_grants (o : Output) : (s.emit o).grants = s.grants := rfl
@[simp] theorem State.emit_filling (o : Output) : (s.emit o).filling = s.filling := rfl
@[simp] theorem State.emit_cache (o : Output) : (s.emit o).cache = s.cache := rfl
@[simp] theorem State.emit_mem (o : Output) : (s.emit o).mem = s.mem := rfl
@[simp] theorem State.emit_chans (o : Output) : (s.emit o).chans = s.chans := rfl
@[simp] theorem State.emit_integ (o : Output) : (s.emit o).integ = s.integ := rfl
@[simp] theorem State.emit_links (o : Output) : (s.emit o).links = s.links := rfl
@[simp] theorem State.emit_therm (o : Output) : (s.emit o).therm = s.therm := rfl
@[simp] theorem State.emit_power (o : Output) : (s.emit o).power = s.power := rfl
@[simp] theorem State.emit_otp (o : Output) : (s.emit o).otp = s.otp := rfl
@[simp] theorem State.emit_img (o : Output) : (s.emit o).img = s.img := rfl
@[simp] theorem State.emit_mgmt (o : Output) : (s.emit o).mgmt = s.mgmt := rfl
@[simp] theorem State.emit_pins (o : Output) : (s.emit o).pins = s.pins := rfl
@[simp] theorem State.emit_regul (o : Output) : (s.emit o).regul = s.regul := rfl
@[simp] theorem State.emit_fcWindow (o : Output) : (s.emit o).fcWindow = s.fcWindow := rfl
@[simp] theorem State.emit_cfgPass (o : Output) : (s.emit o).cfgPass = s.cfgPass := rfl
@[simp] theorem State.emit_pendAt (o : Output) : (s.emit o).pendAt = s.pendAt := rfl
@[simp] theorem State.emit_strobeCycle (o : Output) : (s.emit o).strobeCycle = s.strobeCycle := rfl
@[simp] theorem State.emit_strobeDone (o : Output) : (s.emit o).strobeDone = s.strobeDone := rfl
@[simp] theorem State.emit_strobeHeld (o : Output) : (s.emit o).strobeHeld = s.strobeHeld := rfl
@[simp] theorem State.emit_lateArms (o : Output) : (s.emit o).lateArms = s.lateArms := rfl
@[simp] theorem State.emit_tcReadyAt (o : Output) : (s.emit o).tcReadyAt = s.tcReadyAt := rfl
@[simp] theorem State.emit_eqDigestBusy (o : Output) : (s.emit o).eqDigestBusy = s.eqDigestBusy := rfl
@[simp] theorem State.emit_fcFirstCycle (o : Output) : (s.emit o).fcFirstCycle = s.fcFirstCycle := rfl
@[simp] theorem State.emit_snapCycle (o : Output) : (s.emit o).snapCycle = s.snapCycle := rfl
@[simp] theorem State.emit_snapDue (o : Output) : (s.emit o).snapDue = s.snapDue := rfl
@[simp] theorem State.emit_cycleCopies (o : Output) : (s.emit o).cycleCopies = s.cycleCopies := rfl
@[simp] theorem State.emit_seedUntil (o : Output) : (s.emit o).seedUntil = s.seedUntil := rfl
@[simp] theorem State.emit_lockWritten (o : Output) : (s.emit o).lockWritten = s.lockWritten := rfl
@[simp] theorem State.emit_laneEq (o : Output) : (s.emit o).laneEq = s.laneEq := rfl
@[simp] theorem State.emit_laneErrs (o : Output) : (s.emit o).laneErrs = s.laneErrs := rfl

/-! State.emitAll changes `outputs` alone. -/

@[simp] theorem State.emitAll_pending (os : List Output) : (s.emitAll os).pending = s.pending := rfl
@[simp] theorem State.emitAll_freeCtr (os : List Output) : (s.emitAll os).freeCtr = s.freeCtr := rfl
@[simp] theorem State.emitAll_regs (os : List Output) : (s.emitAll os).regs = s.regs := rfl
@[simp] theorem State.emitAll_pend (os : List Output) : (s.emitAll os).pend = s.pend := rfl
@[simp] theorem State.emitAll_tu (os : List Output) : (s.emitAll os).tu = s.tu := rfl
@[simp] theorem State.emitAll_halt (os : List Output) : (s.emitAll os).halt = s.halt := rfl
@[simp] theorem State.emitAll_eng (os : List Output) : (s.emitAll os).eng = s.eng := rfl
@[simp] theorem State.emitAll_pstore (os : List Output) : (s.emitAll os).pstore = s.pstore := rfl
@[simp] theorem State.emitAll_dram (os : List Output) : (s.emitAll os).dram = s.dram := rfl
@[simp] theorem State.emitAll_cars (os : List Output) : (s.emitAll os).cars = s.cars := rfl
@[simp] theorem State.emitAll_seals (os : List Output) : (s.emitAll os).seals = s.seals := rfl
@[simp] theorem State.emitAll_outs (os : List Output) : (s.emitAll os).outs = s.outs := rfl
@[simp] theorem State.emitAll_heads (os : List Output) : (s.emitAll os).heads = s.heads := rfl
@[simp] theorem State.emitAll_grants (os : List Output) : (s.emitAll os).grants = s.grants := rfl
@[simp] theorem State.emitAll_filling (os : List Output) : (s.emitAll os).filling = s.filling := rfl
@[simp] theorem State.emitAll_cache (os : List Output) : (s.emitAll os).cache = s.cache := rfl
@[simp] theorem State.emitAll_mem (os : List Output) : (s.emitAll os).mem = s.mem := rfl
@[simp] theorem State.emitAll_chans (os : List Output) : (s.emitAll os).chans = s.chans := rfl
@[simp] theorem State.emitAll_integ (os : List Output) : (s.emitAll os).integ = s.integ := rfl
@[simp] theorem State.emitAll_links (os : List Output) : (s.emitAll os).links = s.links := rfl
@[simp] theorem State.emitAll_therm (os : List Output) : (s.emitAll os).therm = s.therm := rfl
@[simp] theorem State.emitAll_power (os : List Output) : (s.emitAll os).power = s.power := rfl
@[simp] theorem State.emitAll_otp (os : List Output) : (s.emitAll os).otp = s.otp := rfl
@[simp] theorem State.emitAll_img (os : List Output) : (s.emitAll os).img = s.img := rfl
@[simp] theorem State.emitAll_mgmt (os : List Output) : (s.emitAll os).mgmt = s.mgmt := rfl
@[simp] theorem State.emitAll_pins (os : List Output) : (s.emitAll os).pins = s.pins := rfl
@[simp] theorem State.emitAll_regul (os : List Output) : (s.emitAll os).regul = s.regul := rfl
@[simp] theorem State.emitAll_fcWindow (os : List Output) : (s.emitAll os).fcWindow = s.fcWindow := rfl
@[simp] theorem State.emitAll_cfgPass (os : List Output) : (s.emitAll os).cfgPass = s.cfgPass := rfl
@[simp] theorem State.emitAll_pendAt (os : List Output) : (s.emitAll os).pendAt = s.pendAt := rfl
@[simp] theorem State.emitAll_strobeCycle (os : List Output) : (s.emitAll os).strobeCycle = s.strobeCycle := rfl
@[simp] theorem State.emitAll_strobeDone (os : List Output) : (s.emitAll os).strobeDone = s.strobeDone := rfl
@[simp] theorem State.emitAll_strobeHeld (os : List Output) : (s.emitAll os).strobeHeld = s.strobeHeld := rfl
@[simp] theorem State.emitAll_lateArms (os : List Output) : (s.emitAll os).lateArms = s.lateArms := rfl
@[simp] theorem State.emitAll_tcReadyAt (os : List Output) : (s.emitAll os).tcReadyAt = s.tcReadyAt := rfl
@[simp] theorem State.emitAll_eqDigestBusy (os : List Output) : (s.emitAll os).eqDigestBusy = s.eqDigestBusy := rfl
@[simp] theorem State.emitAll_fcFirstCycle (os : List Output) : (s.emitAll os).fcFirstCycle = s.fcFirstCycle := rfl
@[simp] theorem State.emitAll_snapCycle (os : List Output) : (s.emitAll os).snapCycle = s.snapCycle := rfl
@[simp] theorem State.emitAll_snapDue (os : List Output) : (s.emitAll os).snapDue = s.snapDue := rfl
@[simp] theorem State.emitAll_cycleCopies (os : List Output) : (s.emitAll os).cycleCopies = s.cycleCopies := rfl
@[simp] theorem State.emitAll_seedUntil (os : List Output) : (s.emitAll os).seedUntil = s.seedUntil := rfl
@[simp] theorem State.emitAll_lockWritten (os : List Output) : (s.emitAll os).lockWritten = s.lockWritten := rfl
@[simp] theorem State.emitAll_laneEq (os : List Output) : (s.emitAll os).laneEq = s.laneEq := rfl
@[simp] theorem State.emitAll_laneErrs (os : List Output) : (s.emitAll os).laneErrs = s.laneErrs := rfl

/-! State.freeNext changes `freeCtr` alone. -/

@[simp] theorem State.freeNext_pending : (s.freeNext ).pending = s.pending := rfl
@[simp] theorem State.freeNext_outputs : (s.freeNext ).outputs = s.outputs := rfl
@[simp] theorem State.freeNext_regs : (s.freeNext ).regs = s.regs := rfl
@[simp] theorem State.freeNext_pend : (s.freeNext ).pend = s.pend := rfl
@[simp] theorem State.freeNext_tu : (s.freeNext ).tu = s.tu := rfl
@[simp] theorem State.freeNext_halt : (s.freeNext ).halt = s.halt := rfl
@[simp] theorem State.freeNext_eng : (s.freeNext ).eng = s.eng := rfl
@[simp] theorem State.freeNext_pstore : (s.freeNext ).pstore = s.pstore := rfl
@[simp] theorem State.freeNext_dram : (s.freeNext ).dram = s.dram := rfl
@[simp] theorem State.freeNext_cars : (s.freeNext ).cars = s.cars := rfl
@[simp] theorem State.freeNext_seals : (s.freeNext ).seals = s.seals := rfl
@[simp] theorem State.freeNext_outs : (s.freeNext ).outs = s.outs := rfl
@[simp] theorem State.freeNext_heads : (s.freeNext ).heads = s.heads := rfl
@[simp] theorem State.freeNext_grants : (s.freeNext ).grants = s.grants := rfl
@[simp] theorem State.freeNext_filling : (s.freeNext ).filling = s.filling := rfl
@[simp] theorem State.freeNext_cache : (s.freeNext ).cache = s.cache := rfl
@[simp] theorem State.freeNext_mem : (s.freeNext ).mem = s.mem := rfl
@[simp] theorem State.freeNext_chans : (s.freeNext ).chans = s.chans := rfl
@[simp] theorem State.freeNext_integ : (s.freeNext ).integ = s.integ := rfl
@[simp] theorem State.freeNext_links : (s.freeNext ).links = s.links := rfl
@[simp] theorem State.freeNext_therm : (s.freeNext ).therm = s.therm := rfl
@[simp] theorem State.freeNext_power : (s.freeNext ).power = s.power := rfl
@[simp] theorem State.freeNext_otp : (s.freeNext ).otp = s.otp := rfl
@[simp] theorem State.freeNext_img : (s.freeNext ).img = s.img := rfl
@[simp] theorem State.freeNext_mgmt : (s.freeNext ).mgmt = s.mgmt := rfl
@[simp] theorem State.freeNext_pins : (s.freeNext ).pins = s.pins := rfl
@[simp] theorem State.freeNext_regul : (s.freeNext ).regul = s.regul := rfl
@[simp] theorem State.freeNext_fcWindow : (s.freeNext ).fcWindow = s.fcWindow := rfl
@[simp] theorem State.freeNext_cfgPass : (s.freeNext ).cfgPass = s.cfgPass := rfl
@[simp] theorem State.freeNext_pendAt : (s.freeNext ).pendAt = s.pendAt := rfl
@[simp] theorem State.freeNext_strobeCycle : (s.freeNext ).strobeCycle = s.strobeCycle := rfl
@[simp] theorem State.freeNext_strobeDone : (s.freeNext ).strobeDone = s.strobeDone := rfl
@[simp] theorem State.freeNext_strobeHeld : (s.freeNext ).strobeHeld = s.strobeHeld := rfl
@[simp] theorem State.freeNext_lateArms : (s.freeNext ).lateArms = s.lateArms := rfl
@[simp] theorem State.freeNext_tcReadyAt : (s.freeNext ).tcReadyAt = s.tcReadyAt := rfl
@[simp] theorem State.freeNext_eqDigestBusy : (s.freeNext ).eqDigestBusy = s.eqDigestBusy := rfl
@[simp] theorem State.freeNext_fcFirstCycle : (s.freeNext ).fcFirstCycle = s.fcFirstCycle := rfl
@[simp] theorem State.freeNext_snapCycle : (s.freeNext ).snapCycle = s.snapCycle := rfl
@[simp] theorem State.freeNext_snapDue : (s.freeNext ).snapDue = s.snapDue := rfl
@[simp] theorem State.freeNext_cycleCopies : (s.freeNext ).cycleCopies = s.cycleCopies := rfl
@[simp] theorem State.freeNext_seedUntil : (s.freeNext ).seedUntil = s.seedUntil := rfl
@[simp] theorem State.freeNext_lockWritten : (s.freeNext ).lockWritten = s.lockWritten := rfl
@[simp] theorem State.freeNext_laneEq : (s.freeNext ).laneEq = s.laneEq := rfl
@[simp] theorem State.freeNext_laneErrs : (s.freeNext ).laneErrs = s.laneErrs := rfl

/-! Parts held in vectors: the one replaced, the others. -/

@[simp] theorem State.thread_setThread_same (i : Fin 8) (x : Thread) : (s.setThread i x).thread i = x := by
  simp [State.thread, State.setThread]

theorem State.thread_setThread_ne (i j : Fin 8) (x : Thread) (h : j ≠ i) : (s.setThread i x).thread j = s.thread j := by
  have : i.val ≠ j.val := fun e => h (Fin.ext e.symm)
  simp [State.thread, State.setThread, Vector.getElem_set_ne _ _ this]

@[simp] theorem State.thread_setReg (a : Nat) (v : Word) (i : Fin 8) : (s.setReg a v).thread i = s.thread i := rfl
@[simp] theorem State.thread_setFld (a lo n x : Nat) (i : Fin 8) : (s.setFld a lo n x).thread i = s.thread i := rfl
@[simp] theorem State.thread_setFlag (a i : Nat) (b : Bool) (j : Fin 8) : (s.setFlag a i b).thread j = s.thread j := rfl
@[simp] theorem State.thread_bump (a lo n k : Nat) (i : Fin 8) : (s.bump a lo n k).thread i = s.thread i := rfl
@[simp] theorem State.thread_setCar (c : Fin 32) (x : Carriage) (i : Fin 8) : (s.setCar c x).thread i = s.thread i := rfl
@[simp] theorem State.thread_setSeal (i : Fin 4) (x : Seal) (j : Fin 8) : (s.setSeal i x).thread j = s.thread j := rfl
@[simp] theorem State.thread_setOuting (i : Fin 8) (x : Outing) (j : Fin 8) : (s.setOuting i x).thread j = s.thread j := rfl
@[simp] theorem State.thread_setHead (k : Fin 16) (x : Head) (i : Fin 8) : (s.setHead k x).thread i = s.thread i := rfl
@[simp] theorem State.thread_setChan (c : Fin 32) (x : Channel) (i : Fin 8) : (s.setChan c x).thread i = s.thread i := rfl
@[simp] theorem State.thread_setDom (n : Fin 64) (x : Domain) (i : Fin 8) : (s.setDom n x).thread i = s.thread i := rfl
@[simp] theorem State.thread_emit (o : Output) (i : Fin 8) : (s.emit o).thread i = s.thread i := rfl
@[simp] theorem State.thread_emitAll (os : List Output) (i : Fin 8) : (s.emitAll os).thread i = s.thread i := rfl
@[simp] theorem State.thread_freeNext (i : Fin 8) : (s.freeNext ).thread i = s.thread i := rfl

@[simp] theorem State.car_setCar_same (i : Fin 32) (x : Carriage) : (s.setCar i x).car i = x := by
  simp [State.car, State.setCar]

theorem State.car_setCar_ne (i j : Fin 32) (x : Carriage) (h : j ≠ i) : (s.setCar i x).car j = s.car j := by
  have : i.val ≠ j.val := fun e => h (Fin.ext e.symm)
  simp [State.car, State.setCar, Vector.getElem_set_ne _ _ this]

@[simp] theorem State.car_setReg (a : Nat) (v : Word) (i : Fin 32) : (s.setReg a v).car i = s.car i := rfl
@[simp] theorem State.car_setFld (a lo n x : Nat) (i : Fin 32) : (s.setFld a lo n x).car i = s.car i := rfl
@[simp] theorem State.car_setFlag (a i : Nat) (b : Bool) (j : Fin 32) : (s.setFlag a i b).car j = s.car j := rfl
@[simp] theorem State.car_bump (a lo n k : Nat) (i : Fin 32) : (s.bump a lo n k).car i = s.car i := rfl
@[simp] theorem State.car_setThread (t : Fin 8) (x : Thread) (i : Fin 32) : (s.setThread t x).car i = s.car i := rfl
@[simp] theorem State.car_setSeal (i : Fin 4) (x : Seal) (j : Fin 32) : (s.setSeal i x).car j = s.car j := rfl
@[simp] theorem State.car_setOuting (i : Fin 8) (x : Outing) (j : Fin 32) : (s.setOuting i x).car j = s.car j := rfl
@[simp] theorem State.car_setHead (k : Fin 16) (x : Head) (i : Fin 32) : (s.setHead k x).car i = s.car i := rfl
@[simp] theorem State.car_setChan (c : Fin 32) (x : Channel) (i : Fin 32) : (s.setChan c x).car i = s.car i := rfl
@[simp] theorem State.car_setDom (n : Fin 64) (x : Domain) (i : Fin 32) : (s.setDom n x).car i = s.car i := rfl
@[simp] theorem State.car_emit (o : Output) (i : Fin 32) : (s.emit o).car i = s.car i := rfl
@[simp] theorem State.car_emitAll (os : List Output) (i : Fin 32) : (s.emitAll os).car i = s.car i := rfl
@[simp] theorem State.car_freeNext (i : Fin 32) : (s.freeNext ).car i = s.car i := rfl

@[simp] theorem State.seal_setSeal_same (i : Fin 4) (x : Seal) : (s.setSeal i x).seal i = x := by
  simp [State.seal, State.setSeal]

theorem State.seal_setSeal_ne (i j : Fin 4) (x : Seal) (h : j ≠ i) : (s.setSeal i x).seal j = s.seal j := by
  have : i.val ≠ j.val := fun e => h (Fin.ext e.symm)
  simp [State.seal, State.setSeal, Vector.getElem_set_ne _ _ this]

@[simp] theorem State.seal_setReg (a : Nat) (v : Word) (i : Fin 4) : (s.setReg a v).seal i = s.seal i := rfl
@[simp] theorem State.seal_setFld (a lo n x : Nat) (i : Fin 4) : (s.setFld a lo n x).seal i = s.seal i := rfl
@[simp] theorem State.seal_setFlag (a i : Nat) (b : Bool) (j : Fin 4) : (s.setFlag a i b).seal j = s.seal j := rfl
@[simp] theorem State.seal_bump (a lo n k : Nat) (i : Fin 4) : (s.bump a lo n k).seal i = s.seal i := rfl
@[simp] theorem State.seal_setThread (t : Fin 8) (x : Thread) (i : Fin 4) : (s.setThread t x).seal i = s.seal i := rfl
@[simp] theorem State.seal_setCar (c : Fin 32) (x : Carriage) (i : Fin 4) : (s.setCar c x).seal i = s.seal i := rfl
@[simp] theorem State.seal_setOuting (i : Fin 8) (x : Outing) (j : Fin 4) : (s.setOuting i x).seal j = s.seal j := rfl
@[simp] theorem State.seal_setHead (k : Fin 16) (x : Head) (i : Fin 4) : (s.setHead k x).seal i = s.seal i := rfl
@[simp] theorem State.seal_setChan (c : Fin 32) (x : Channel) (i : Fin 4) : (s.setChan c x).seal i = s.seal i := rfl
@[simp] theorem State.seal_setDom (n : Fin 64) (x : Domain) (i : Fin 4) : (s.setDom n x).seal i = s.seal i := rfl
@[simp] theorem State.seal_emit (o : Output) (i : Fin 4) : (s.emit o).seal i = s.seal i := rfl
@[simp] theorem State.seal_emitAll (os : List Output) (i : Fin 4) : (s.emitAll os).seal i = s.seal i := rfl
@[simp] theorem State.seal_freeNext (i : Fin 4) : (s.freeNext ).seal i = s.seal i := rfl

@[simp] theorem State.outing_setOuting_same (i : Fin 8) (x : Outing) : (s.setOuting i x).outing i = x := by
  simp [State.outing, State.setOuting]

theorem State.outing_setOuting_ne (i j : Fin 8) (x : Outing) (h : j ≠ i) : (s.setOuting i x).outing j = s.outing j := by
  have : i.val ≠ j.val := fun e => h (Fin.ext e.symm)
  simp [State.outing, State.setOuting, Vector.getElem_set_ne _ _ this]

@[simp] theorem State.outing_setReg (a : Nat) (v : Word) (i : Fin 8) : (s.setReg a v).outing i = s.outing i := rfl
@[simp] theorem State.outing_setFld (a lo n x : Nat) (i : Fin 8) : (s.setFld a lo n x).outing i = s.outing i := rfl
@[simp] theorem State.outing_setFlag (a i : Nat) (b : Bool) (j : Fin 8) : (s.setFlag a i b).outing j = s.outing j := rfl
@[simp] theorem State.outing_bump (a lo n k : Nat) (i : Fin 8) : (s.bump a lo n k).outing i = s.outing i := rfl
@[simp] theorem State.outing_setThread (t : Fin 8) (x : Thread) (i : Fin 8) : (s.setThread t x).outing i = s.outing i := rfl
@[simp] theorem State.outing_setCar (c : Fin 32) (x : Carriage) (i : Fin 8) : (s.setCar c x).outing i = s.outing i := rfl
@[simp] theorem State.outing_setSeal (i : Fin 4) (x : Seal) (j : Fin 8) : (s.setSeal i x).outing j = s.outing j := rfl
@[simp] theorem State.outing_setHead (k : Fin 16) (x : Head) (i : Fin 8) : (s.setHead k x).outing i = s.outing i := rfl
@[simp] theorem State.outing_setChan (c : Fin 32) (x : Channel) (i : Fin 8) : (s.setChan c x).outing i = s.outing i := rfl
@[simp] theorem State.outing_setDom (n : Fin 64) (x : Domain) (i : Fin 8) : (s.setDom n x).outing i = s.outing i := rfl
@[simp] theorem State.outing_emit (o : Output) (i : Fin 8) : (s.emit o).outing i = s.outing i := rfl
@[simp] theorem State.outing_emitAll (os : List Output) (i : Fin 8) : (s.emitAll os).outing i = s.outing i := rfl
@[simp] theorem State.outing_freeNext (i : Fin 8) : (s.freeNext ).outing i = s.outing i := rfl

@[simp] theorem State.head_setHead_same (i : Fin 16) (x : Head) : (s.setHead i x).head i = x := by
  simp [State.head, State.setHead]

theorem State.head_setHead_ne (i j : Fin 16) (x : Head) (h : j ≠ i) : (s.setHead i x).head j = s.head j := by
  have : i.val ≠ j.val := fun e => h (Fin.ext e.symm)
  simp [State.head, State.setHead, Vector.getElem_set_ne _ _ this]

@[simp] theorem State.head_setReg (a : Nat) (v : Word) (i : Fin 16) : (s.setReg a v).head i = s.head i := rfl
@[simp] theorem State.head_setFld (a lo n x : Nat) (i : Fin 16) : (s.setFld a lo n x).head i = s.head i := rfl
@[simp] theorem State.head_setFlag (a i : Nat) (b : Bool) (j : Fin 16) : (s.setFlag a i b).head j = s.head j := rfl
@[simp] theorem State.head_bump (a lo n k : Nat) (i : Fin 16) : (s.bump a lo n k).head i = s.head i := rfl
@[simp] theorem State.head_setThread (t : Fin 8) (x : Thread) (i : Fin 16) : (s.setThread t x).head i = s.head i := rfl
@[simp] theorem State.head_setCar (c : Fin 32) (x : Carriage) (i : Fin 16) : (s.setCar c x).head i = s.head i := rfl
@[simp] theorem State.head_setSeal (i : Fin 4) (x : Seal) (j : Fin 16) : (s.setSeal i x).head j = s.head j := rfl
@[simp] theorem State.head_setOuting (i : Fin 8) (x : Outing) (j : Fin 16) : (s.setOuting i x).head j = s.head j := rfl
@[simp] theorem State.head_setChan (c : Fin 32) (x : Channel) (i : Fin 16) : (s.setChan c x).head i = s.head i := rfl
@[simp] theorem State.head_setDom (n : Fin 64) (x : Domain) (i : Fin 16) : (s.setDom n x).head i = s.head i := rfl
@[simp] theorem State.head_emit (o : Output) (i : Fin 16) : (s.emit o).head i = s.head i := rfl
@[simp] theorem State.head_emitAll (os : List Output) (i : Fin 16) : (s.emitAll os).head i = s.head i := rfl
@[simp] theorem State.head_freeNext (i : Fin 16) : (s.freeNext ).head i = s.head i := rfl

@[simp] theorem State.chan_setChan_same (i : Fin 32) (x : Channel) : (s.setChan i x).chan i = x := by
  simp [State.chan, State.setChan]

theorem State.chan_setChan_ne (i j : Fin 32) (x : Channel) (h : j ≠ i) : (s.setChan i x).chan j = s.chan j := by
  have : i.val ≠ j.val := fun e => h (Fin.ext e.symm)
  simp [State.chan, State.setChan, Vector.getElem_set_ne _ _ this]

@[simp] theorem State.chan_setReg (a : Nat) (v : Word) (i : Fin 32) : (s.setReg a v).chan i = s.chan i := rfl
@[simp] theorem State.chan_setFld (a lo n x : Nat) (i : Fin 32) : (s.setFld a lo n x).chan i = s.chan i := rfl
@[simp] theorem State.chan_setFlag (a i : Nat) (b : Bool) (j : Fin 32) : (s.setFlag a i b).chan j = s.chan j := rfl
@[simp] theorem State.chan_bump (a lo n k : Nat) (i : Fin 32) : (s.bump a lo n k).chan i = s.chan i := rfl
@[simp] theorem State.chan_setThread (t : Fin 8) (x : Thread) (i : Fin 32) : (s.setThread t x).chan i = s.chan i := rfl
@[simp] theorem State.chan_setCar (c : Fin 32) (x : Carriage) (i : Fin 32) : (s.setCar c x).chan i = s.chan i := rfl
@[simp] theorem State.chan_setSeal (i : Fin 4) (x : Seal) (j : Fin 32) : (s.setSeal i x).chan j = s.chan j := rfl
@[simp] theorem State.chan_setOuting (i : Fin 8) (x : Outing) (j : Fin 32) : (s.setOuting i x).chan j = s.chan j := rfl
@[simp] theorem State.chan_setHead (k : Fin 16) (x : Head) (i : Fin 32) : (s.setHead k x).chan i = s.chan i := rfl
@[simp] theorem State.chan_setDom (n : Fin 64) (x : Domain) (i : Fin 32) : (s.setDom n x).chan i = s.chan i := rfl
@[simp] theorem State.chan_emit (o : Output) (i : Fin 32) : (s.emit o).chan i = s.chan i := rfl
@[simp] theorem State.chan_emitAll (os : List Output) (i : Fin 32) : (s.emitAll os).chan i = s.chan i := rfl
@[simp] theorem State.chan_freeNext (i : Fin 32) : (s.freeNext ).chan i = s.chan i := rfl

@[simp] theorem State.dom_setDom_same (i : Fin 64) (x : Domain) : (s.setDom i x).dom i = x := by
  simp [State.dom, State.setDom]

theorem State.dom_setDom_ne (i j : Fin 64) (x : Domain) (h : j ≠ i) : (s.setDom i x).dom j = s.dom j := by
  have : i.val ≠ j.val := fun e => h (Fin.ext e.symm)
  simp [State.dom, State.setDom, Vector.getElem_set_ne _ _ this]

@[simp] theorem State.dom_setReg (a : Nat) (v : Word) (i : Fin 64) : (s.setReg a v).dom i = s.dom i := rfl
@[simp] theorem State.dom_setFld (a lo n x : Nat) (i : Fin 64) : (s.setFld a lo n x).dom i = s.dom i := rfl
@[simp] theorem State.dom_setFlag (a i : Nat) (b : Bool) (j : Fin 64) : (s.setFlag a i b).dom j = s.dom j := rfl
@[simp] theorem State.dom_bump (a lo n k : Nat) (i : Fin 64) : (s.bump a lo n k).dom i = s.dom i := rfl
@[simp] theorem State.dom_setThread (t : Fin 8) (x : Thread) (i : Fin 64) : (s.setThread t x).dom i = s.dom i := rfl
@[simp] theorem State.dom_setCar (c : Fin 32) (x : Carriage) (i : Fin 64) : (s.setCar c x).dom i = s.dom i := rfl
@[simp] theorem State.dom_setSeal (i : Fin 4) (x : Seal) (j : Fin 64) : (s.setSeal i x).dom j = s.dom j := rfl
@[simp] theorem State.dom_setOuting (i : Fin 8) (x : Outing) (j : Fin 64) : (s.setOuting i x).dom j = s.dom j := rfl
@[simp] theorem State.dom_setHead (k : Fin 16) (x : Head) (i : Fin 64) : (s.setHead k x).dom i = s.dom i := rfl
@[simp] theorem State.dom_setChan (c : Fin 32) (x : Channel) (i : Fin 64) : (s.setChan c x).dom i = s.dom i := rfl
@[simp] theorem State.dom_emit (o : Output) (i : Fin 64) : (s.emit o).dom i = s.dom i := rfl
@[simp] theorem State.dom_emitAll (os : List Output) (i : Fin 64) : (s.emitAll os).dom i = s.dom i := rfl
@[simp] theorem State.dom_freeNext (i : Fin 64) : (s.freeNext ).dom i = s.dom i := rfl

/-! Registers -/

/-- A register reads as what was written, in a store in canonical form. -/
theorem State.reg_setReg_same (a : Nat) (v : Word) (h : sparseWf regReset s.regs = true) : (s.setReg a v).reg a = v :=
  sparseGet_put_same _ _ _ _ h

/-- Another register reads as before. -/
theorem State.reg_setReg_ne (a b : Nat) (v : Word) (h : b ≠ a) : (s.setReg a v).reg b = s.reg b :=
  sparseGet_put_other _ _ _ _ _ h

/-- Every named write of a register is a write of the whole register. -/
theorem State.setFld_eq (a lo n x : Nat) : s.setFld a lo n x = s.setReg a (putBits (s.reg a) lo n x) := rfl

theorem State.setFlag_eq (a i : Nat) (b : Bool) : s.setFlag a i b = s.setReg a (putBits (s.reg a) i 1 (bit b)) := rfl

theorem State.bump_eq (a lo n k : Nat) : s.bump a lo n k = s.setReg a (putBits (s.reg a) lo n (satAt n (s.fld a lo n + k))) :=
  rfl

theorem State.reg_setFld_ne (a b lo n x : Nat) (h : b ≠ a) : (s.setFld a lo n x).reg b = s.reg b := s.reg_setReg_ne a b _ h

theorem State.reg_setFlag_ne (a b i : Nat) (v : Bool) (h : b ≠ a) : (s.setFlag a i v).reg b = s.reg b := s.reg_setReg_ne a b _ h

theorem State.reg_bump_ne (a b lo n k : Nat) (h : b ≠ a) : (s.bump a lo n k).reg b = s.reg b := s.reg_setReg_ne a b _ h

@[simp] theorem State.reg_setThread (t : Fin 8) (x : Thread) (r : Nat) : (s.setThread t x).reg r = s.reg r := rfl
@[simp] theorem State.reg_setCar (c : Fin 32) (x : Carriage) (r : Nat) : (s.setCar c x).reg r = s.reg r := rfl
@[simp] theorem State.reg_setSeal (i : Fin 4) (x : Seal) (r : Nat) : (s.setSeal i x).reg r = s.reg r := rfl
@[simp] theorem State.reg_setOuting (i : Fin 8) (x : Outing) (r : Nat) : (s.setOuting i x).reg r = s.reg r := rfl
@[simp] theorem State.reg_setHead (k : Fin 16) (x : Head) (r : Nat) : (s.setHead k x).reg r = s.reg r := rfl
@[simp] theorem State.reg_setChan (c : Fin 32) (x : Channel) (r : Nat) : (s.setChan c x).reg r = s.reg r := rfl
@[simp] theorem State.reg_setDom (n : Fin 64) (x : Domain) (r : Nat) : (s.setDom n x).reg r = s.reg r := rfl
@[simp] theorem State.reg_emit (o : Output) (r : Nat) : (s.emit o).reg r = s.reg r := rfl
@[simp] theorem State.reg_emitAll (os : List Output) (r : Nat) : (s.emitAll os).reg r = s.reg r := rfl
@[simp] theorem State.reg_freeNext (r : Nat) : (s.freeNext ).reg r = s.reg r := rfl

end Sys2Proof.Machine
end

