-- ==== Sys2Proof/Laws/Bits.lean ====
section
/-! SUPPORT. Laws of bit fields: a field reads as what was put into it, and no other bit changes. -/

namespace Sys2Proof.Machine

/-- A bit of a field read. -/
theorem testBit_getBits (v : Word) (lo n i : Nat) :
    (getBits v lo n).testBit i = (decide (i < n) && v.getLsbD (lo + i)) := by
  simp [getBits, Nat.testBit_mod_two_pow, BitVec.getLsbD, Nat.testBit_shiftRight]

/-- A bit of a word with a field replaced. -/
theorem getLsbD_putBits (v : Word) (lo n x j : Nat) :
    (putBits v lo n x).getLsbD j =
      if lo ≤ j ∧ j < lo + n ∧ j < 64 then x.testBit (j - lo) else v.getLsbD j := by
  have key : ∀ k, (BitVec.ofNat 64 (2 ^ n - 1)).getLsbD k = (decide (k < 64) && decide (k < n)) := by
    intro k
    rw [BitVec.getLsbD_ofNat, Nat.testBit_two_pow_sub_one]
  simp only [putBits, BitVec.getLsbD_or, BitVec.getLsbD_and, BitVec.getLsbD_not, BitVec.getLsbD_shiftLeft, key,
    BitVec.getLsbD_ofNat, Nat.testBit_mod_two_pow]
  by_cases h64 : j < 64
  · by_cases hlo : lo ≤ j
    · by_cases hn : j - lo < n
      · have h2 : j < lo + n := by omega
        have h3 : j - lo < 64 := by omega
        have h4 : ¬ j < lo := by omega
        simp [h64, hlo, hn, h2, h3, h4]
      · have h2 : ¬ j < lo + n := by omega
        simp [h64, hn, h2]
    · have h4 : j < lo := by omega
      simp [h64, hlo, h4]
  · have : v.getLsbD j = false := BitVec.getLsbD_of_ge v j (by omega)
    simp [h64, this]

/-- A field reads as what was put into it. -/
theorem getBits_putBits_same (v : Word) (lo n x : Nat) (h : lo + n ≤ 64) :
    getBits (putBits v lo n x) lo n = x % 2 ^ n := by
  apply Nat.eq_of_testBit_eq
  intro i
  rw [testBit_getBits, getLsbD_putBits, Nat.testBit_mod_two_pow]
  by_cases hi : i < n
  · have h1 : lo + i < lo + n := by omega
    have h2 : lo + i < 64 := by omega
    simp [hi, h2]
  · simp [hi]

/-- A disjoint field reads as before. -/
theorem getBits_putBits_disjoint (v : Word) (lo n lo' n' x : Nat) (h : lo' + n' ≤ lo ∨ lo + n ≤ lo') :
    getBits (putBits v lo n x) lo' n' = getBits v lo' n' := by
  apply Nat.eq_of_testBit_eq
  intro i
  rw [testBit_getBits, testBit_getBits, getLsbD_putBits]
  by_cases hi : i < n'
  · have h1 : ¬ (lo ≤ lo' + i ∧ lo' + i < lo + n ∧ lo' + i < 64) := by omega
    simp [hi, h1]
  · simp [hi]

/-- A field is below its limit. -/
theorem getBits_lt (v : Word) (lo n : Nat) : getBits v lo n < 2 ^ n := Nat.mod_lt _ (Nat.two_pow_pos n)

/-- A register's field reads as what was put into it. -/
theorem State.fld_setFld_same (s : State) (a lo n x : Nat) (h : sparseWf regReset s.regs = true) (hn : lo + n ≤ 64) :
    (s.setFld a lo n x).fld a lo n = x % 2 ^ n := by
  rw [State.fld, State.setFld, State.reg_setReg_same _ _ _ h, getBits_putBits_same _ _ _ _ hn]

/-- A disjoint field of the register reads as before. -/
theorem State.fld_setFld_disjoint (s : State) (a lo n lo' n' x : Nat) (h : sparseWf regReset s.regs = true)
    (hd : lo' + n' ≤ lo ∨ lo + n ≤ lo') : (s.setFld a lo n x).fld a lo' n' = s.fld a lo' n' := by
  rw [State.fld, State.setFld, State.reg_setReg_same _ _ _ h, getBits_putBits_disjoint _ _ _ _ _ _ hd, State.fld]

/-- A bit reads as it was set. -/
theorem State.flag_setFlag_same (s : State) (a i : Nat) (b : Bool) (h : sparseWf regReset s.regs = true) (hi : i < 64) :
    (s.setFlag a i b).flag a i = b := by
  rw [State.flag, State.setFlag, State.setFld, State.reg_setReg_same _ _ _ h, getLsbD_putBits]
  cases b <;> simp [bit, hi]

/-- Another bit of the register reads as before. -/
theorem State.flag_setFlag_other (s : State) (a i j : Nat) (b : Bool) (h : sparseWf regReset s.regs = true) (hi : j ≠ i) :
    (s.setFlag a i b).flag a j = s.flag a j := by
  rw [State.flag, State.setFlag, State.setFld, State.reg_setReg_same _ _ _ h, getLsbD_putBits, State.flag]
  exact if_neg (by omega)

/-- A counter advanced holds at its greatest value (saturation). -/
theorem State.fld_bump_same (s : State) (a lo n k : Nat) (h : sparseWf regReset s.regs = true) (hn : lo + n ≤ 64) :
    (s.bump a lo n k).fld a lo n = min (s.fld a lo n + k) (2 ^ n - 1) := by
  rw [State.bump, State.fld_setFld_same _ _ _ _ _ h hn, satAt, Nat.mod_eq_of_lt]
  have := Nat.two_pow_pos n
  omega

/-- Every named write of a register keeps the store's canonical form. -/
theorem State.setReg_regsWf (s : State) (a : Nat) (v : Word) (h : sparseWf regReset s.regs = true) :
    sparseWf regReset (s.setReg a v).regs = true := sparsePut_wf _ _ _ _ h

theorem State.setFld_regsWf (s : State) (a lo n x : Nat) (h : sparseWf regReset s.regs = true) :
    sparseWf regReset (s.setFld a lo n x).regs = true := s.setReg_regsWf _ _ h

theorem State.setFlag_regsWf (s : State) (a i : Nat) (b : Bool) (h : sparseWf regReset s.regs = true) :
    sparseWf regReset (s.setFlag a i b).regs = true := s.setReg_regsWf _ _ h

theorem State.bump_regsWf (s : State) (a lo n k : Nat) (h : sparseWf regReset s.regs = true) :
    sparseWf regReset (s.bump a lo n k).regs = true := s.setReg_regsWf _ _ h

end Sys2Proof.Machine
end

