-- ==== Sys2Proof/Laws/Faults.lean ====
section
/-! SUPPORT. Laws of the fault collector: what raising an event leaves unchanged, whatever its reaction. -/

namespace Sys2Proof.Machine

/-- What no reaction to a fault event changes, and the canonical forms it keeps. A reaction writes registers, threads,
carriages, seals, outings, heads, logs, progress records, power requests and the flush list of a shutdown. -/
structure FaultFrame (s u : State) : Prop where
  pending : u.pending = s.pending
  pend : u.pend = s.pend
  tu : u.tu = s.tu
  halt : u.halt = s.halt
  dram : u.dram = s.dram
  grants : u.grants = s.grants
  filling : u.filling = s.filling
  cache : u.cache = s.cache
  chans : u.chans = s.chans
  integ : u.integ = s.integ
  links : u.links = s.links
  otp : u.otp = s.otp
  img : u.img = s.img
  pins : u.pins = s.pins
  regul : u.regul = s.regul
  regs : sparseWf regReset s.regs = true → sparseWf regReset u.regs = true
  pstore : Memory.wf s.pstore = true → Memory.wf u.pstore = true

namespace FaultFrame

theorem refl (s : State) : FaultFrame s s :=
  ⟨rfl, rfl, rfl, rfl, rfl, rfl, rfl, rfl, rfl, rfl, rfl, rfl, rfl, rfl, rfl, id, id⟩

theorem trans {s t u : State} (h : FaultFrame s t) (k : FaultFrame t u) : FaultFrame s u :=
  ⟨k.1.trans h.1, k.2.trans h.2, k.3.trans h.3, k.4.trans h.4, k.5.trans h.5, k.6.trans h.6, k.7.trans h.7,
   k.8.trans h.8, k.9.trans h.9, k.10.trans h.10, k.11.trans h.11, k.12.trans h.12, k.13.trans h.13, k.14.trans h.14,
   k.15.trans h.15, fun x => k.16 (h.16 x), fun x => k.17 (h.17 x)⟩

/-- A fold keeps the frame if each of its steps does. -/
theorem foldl {α : Type} (f : State → α → State) (l : List α) (s : State) (hf : ∀ s a, FaultFrame s (f s a)) :
    FaultFrame s (l.foldl f s) := by
  induction l generalizing s with
  | nil => exact refl s
  | cons a l ih => exact (hf s a).trans (ih (f s a))

/-- A choice keeps the frame if both sides do. -/
theorem ite {c : Prop} [Decidable c] {s t u : State} (ht : FaultFrame s t) (hu : FaultFrame s u) :
    FaultFrame s (if c then t else u) := by
  split
  · exact ht
  · exact hu

theorem setReg (s : State) (a : Nat) (v : Word) : FaultFrame s (s.setReg a v) :=
  ⟨rfl, rfl, rfl, rfl, rfl, rfl, rfl, rfl, rfl, rfl, rfl, rfl, rfl, rfl, rfl, State.setReg_regsWf s a v, id⟩
theorem setFld (s : State) (a lo n x : Nat) : FaultFrame s (s.setFld a lo n x) := setReg s a _
theorem setFlag (s : State) (a i : Nat) (b : Bool) : FaultFrame s (s.setFlag a i b) := setReg s a _
theorem bump (s : State) (a lo n k : Nat) : FaultFrame s (s.bump a lo n k) := setReg s a _
theorem setThread (s : State) (t : Fin 8) (x : Thread) : FaultFrame s (s.setThread t x) :=
  ⟨rfl, rfl, rfl, rfl, rfl, rfl, rfl, rfl, rfl, rfl, rfl, rfl, rfl, rfl, rfl, id, id⟩
theorem setCar (s : State) (c : Fin 32) (x : Carriage) : FaultFrame s (s.setCar c x) :=
  ⟨rfl, rfl, rfl, rfl, rfl, rfl, rfl, rfl, rfl, rfl, rfl, rfl, rfl, rfl, rfl, id, id⟩
theorem setSeal (s : State) (i : Fin 4) (x : Seal) : FaultFrame s (s.setSeal i x) :=
  ⟨rfl, rfl, rfl, rfl, rfl, rfl, rfl, rfl, rfl, rfl, rfl, rfl, rfl, rfl, rfl, id, id⟩
theorem setOuting (s : State) (i : Fin 8) (x : Outing) : FaultFrame s (s.setOuting i x) :=
  ⟨rfl, rfl, rfl, rfl, rfl, rfl, rfl, rfl, rfl, rfl, rfl, rfl, rfl, rfl, rfl, id, id⟩
theorem setHead (s : State) (k : Fin 16) (x : Head) : FaultFrame s (s.setHead k x) :=
  ⟨rfl, rfl, rfl, rfl, rfl, rfl, rfl, rfl, rfl, rfl, rfl, rfl, rfl, rfl, rfl, id, id⟩
theorem emit (s : State) (o : Output) : FaultFrame s (s.emit o) :=
  ⟨rfl, rfl, rfl, rfl, rfl, rfl, rfl, rfl, rfl, rfl, rfl, rfl, rfl, rfl, rfl, id, id⟩

/-! Records -/

theorem toFm (s : State) (log : EventLog) (r : Record) : FaultFrame s (s.toFm log r) := by
  unfold State.toFm
  refine ite ⟨rfl, rfl, rfl, rfl, rfl, rfl, rfl, rfl, rfl, rfl, rfl, rfl, rfl, rfl, rfl, id, id⟩
    ⟨rfl, rfl, rfl, rfl, rfl, rfl, rfl, rfl, rfl, rfl, rfl, rfl, rfl, rfl, rfl, id, id⟩
theorem toHead (s : State) (k : Fin 16) (log : EventLog) (r : Record) : FaultFrame s (s.toHead k log r) :=
  setHead s k _
theorem toHeads (s : State) (ks : List (Fin 16)) (log : EventLog) (r : Record) :
    FaultFrame s (s.toHeads ks log r) := foldl _ ks s (fun s k => toHead s k log r)
theorem toHeadAndFm (s : State) (k : Fin 16) (log : EventLog) (r : Record) :
    FaultFrame s (s.toHeadAndFm k log r) := (toHead s k log r).trans (toFm _ log r)
theorem toAll (s : State) (log : EventLog) (r : Record) : FaultFrame s (s.toAll log r) :=
  (toHeads s _ log r).trans (toFm _ log r)

/-! Comparators, snapshots, ALIVE, threads -/

theorem tcDisarm (s : State) (n : Nat) : FaultFrame s (s.tcDisarm n) := setFlag s _ _ _
theorem tcFree (s : State) (n : Nat) : FaultFrame s (s.tcFree n) :=
  ((tcDisarm s n).trans (setReg _ _ _)).trans (setReg _ _ _)

theorem snapTrigger (s : State) (b comp severe : Nat) : FaultFrame s (s.snapTrigger b comp severe) := by
  have h : ∀ (s : State) (v : Word) (n : Option Nat), FaultFrame s
      { (s.setReg aSNAP_STATUS v).setReg aSNAP_RT s.nowW with snapCycle := n, snapDue := true } :=
    fun s v n => ((setReg s _ v).trans (setReg _ _ _)).trans
      ⟨rfl, rfl, rfl, rfl, rfl, rfl, rfl, rfl, rfl, rfl, rfl, rfl, rfl, rfl, rfl, id, id⟩
  unfold State.snapTrigger
  dsimp only
  split
  · split
    · have h1 : FaultFrame s (if b = 2 then (s.setFlag aSNAP_STATUS b true).setFld aSNAP_STATUS 6 6 comp
          else s.setFlag aSNAP_STATUS b true) := (setFlag s aSNAP_STATUS b true).trans (ite (setFld _ _ _ _ _) (refl _))
      exact h1.trans (ite (setFld _ _ _ _ _) (refl _))
    · exact bump s _ _ _ _
  · exact h s _ _

theorem aliveStop (s : State) (cause : Nat) : FaultFrame s (s.aliveStop cause) := by
  unfold State.aliveStop
  exact ite (refl s) (((setFlag s _ _ _).trans (setFld _ _ _ _ _)).trans (setReg _ _ _))

theorem setEvents (s : State) (t : Fin 8) (m : BitVec 16) : FaultFrame s (s.setEvents t m) := setThread s t _
theorem notify (s : State) (b : Nat) : FaultFrame s (s.notify b) := setEvents s _ _
theorem notifyFault (s : State) (src : Nat) : FaultFrame s (s.notifyFault src) :=
  (setFlag s _ _ _).trans (notify _ _)

theorem dropRequest (s : State) (w : WaitCond) : FaultFrame s (s.dropRequest w) := by
  unfold State.dropRequest
  split
  · exact ⟨rfl, rfl, rfl, rfl, rfl, rfl, rfl, rfl, rfl, rfl, rfl, rfl, rfl, rfl, rfl, id, id⟩
  · exact refl s

theorem haltThread (s : State) (t : Fin 8) : FaultFrame s (s.haltThread t) := by
  unfold State.haltThread
  dsimp only
  split
  · split
    · exact setThread s t _
    · exact setThread s t _
    · exact setThread s t _
  · exact (dropRequest s _).trans (setThread _ t _)
  · exact refl s

theorem haltAll (s : State) : FaultFrame s s.haltAll := foldl _ _ s (fun s t => haltThread s t)

/-! Carriages, seals and outings -/

theorem writeProgress (s : State) (c : Fin 32) (desc entry done : Nat) (acc : Word) :
    FaultFrame s (s.writeProgress c desc entry done acc) := by
  have h : ∀ (s : State) (m : List Host.Cell), (Memory.wf s.pstore = true → Memory.wf m = true) →
      FaultFrame s { s with pstore := m } := fun s m hm =>
    ⟨rfl, rfl, rfl, rfl, rfl, rfl, rfl, rfl, rfl, rfl, rfl, rfl, rfl, rfl, rfl, id, hm⟩
  unfold State.writeProgress
  dsimp only
  refine (setCar s c _).trans (h _ _ fun hm => ?_)
  exact Memory.setN_wf _ _ _ _ (Memory.setN_wf _ _ _ _ (Memory.setN_wf _ _ _ _ (Memory.setN_wf _ _ _ _ hm)))

theorem carEvent (s : State) (c : Fin 32) : FaultFrame s (s.carEvent c) := by
  unfold State.carEvent
  dsimp only
  split
  · exact (setCar s c _).trans (setEvents _ _ _)
  · exact setCar s c _

theorem carStopBy (s : State) (c : Fin 32) (code src : Nat) : FaultFrame s (s.carStopBy c code src) := by
  have h1 : FaultFrame s (match (s.car c).comp with
      | some n => if code = 5 ∨ code = 6 then (s.tcDisarm n).setReg (aTC_OWNER n) 0 else s.tcFree n
      | none => s) := by
    split
    · exact ite ((tcDisarm s _).trans (setReg _ _ _)) (tcFree s _)
    · exact refl s
  unfold State.carStopBy
  refine ((h1.trans (setCar _ c _)).trans (ite (writeProgress _ _ _ _ _ _) (ite (refl _)
    (writeProgress _ _ _ _ _ _)))).trans ((carEvent _ c).trans (ite (refl _) (toFm _ _ _)))

theorem carStop (s : State) (c : Fin 32) (code : Nat) : FaultFrame s (s.carStop c code) := carStopBy s c code _

theorem carStopAtLine (s : State) (c : Fin 32) (code src : Nat) : FaultFrame s (s.carStopAtLine c code src) := by
  unfold State.carStopAtLine
  dsimp only
  split
  · exact carStopBy s c code src
  · exact ite (setCar s c _) (carStopBy s c code src)
  · exact refl s

theorem carUnreserve (s : State) (c : Fin 32) : FaultFrame s (s.carUnreserve c) :=
  ite ((setCar s c _).trans (carEvent _ c)) (refl s)

theorem sealRecord (s : State) (i : Fin 4) (outcome : Nat) : FaultFrame s (s.sealRecord i outcome) := by
  unfold State.sealRecord
  exact (toHeads s _ _ _).trans (toFm _ _ _)

theorem sealFail (s : State) (i : Fin 4) (reason : Nat) : FaultFrame s (s.sealFail i reason).1 := by
  unfold State.sealFail
  dsimp only
  refine FaultFrame.trans ?_ (sealRecord _ i 2)
  refine FaultFrame.trans ?_ (setSeal _ i _)
  refine (foldl (fun s c => s.carUnreserve c) (s.seal i).carriages s (fun s c => carUnreserve s c)).trans ?_
  exact ⟨rfl, rfl, rfl, rfl, rfl, rfl, rfl, rfl, rfl, rfl, rfl, rfl, rfl, rfl, rfl, id, id⟩

theorem carPost (s : State) (c : Fin 32) : FaultFrame s (s.carPost c) := by
  unfold State.carPost
  dsimp only
  split
  · exact refl s
  · rename_i p _
    refine ite (refl s) ?_
    have h : FaultFrame s ((s.emit (.peer p.outing.head (p.outing.rollcall + 16 * s.fld aOUT_DEVINDEX 0 12)
        (s.rollcallBytes p) true false)).setCar c { s.car c with post := some { p with sent := true } }) :=
      (emit s _).trans (setCar _ c _)
    exact h.trans (ite (refl _) (ite (ite (setOuting _ _ _) (refl _)) (ite (setOuting _ _ _) (refl _))))

theorem outingAbsent (s : State) (i : Fin 8) (reason bound : Nat) (post : Bool) :
    FaultFrame s (s.outingAbsent i reason bound post).1 := by
  unfold State.outingAbsent
  exact (setOuting s i _).trans (ite ((setCar _ _ _).trans (carPost _ _)) (carUnreserve _ _))

/-! Shutdown and reactions -/

theorem thermalRecord (s : State) (src layer stage frac : Nat) :
    FaultFrame s (s.thermalRecord src layer stage frac) := toAll s _ _

/-- A fold over a state and a list of events keeps the frame of the state if each of its steps does. -/
theorem foldl_pair {α β : Type} {s : State} (f : State × List β → α → State × List β) (l : List α) (u : State)
    (h : FaultFrame s u) (hf : ∀ p a, FaultFrame p.1 (f p a).1) : FaultFrame s (l.foldl f (u, [])).1 := by
  have key : ∀ p : State × List β, FaultFrame s p.1 → FaultFrame s (l.foldl f p).1 := by
    induction l with
    | nil => exact fun _ hp => hp
    | cons a l ih => exact fun p hp => ih (f p a) (hp.trans (hf p a))
  exact key (u, []) h

theorem beginShutdown (s : State) (src layer : Nat) : FaultFrame s (s.beginShutdown src layer).1 := by
  unfold State.beginShutdown
  split
  · exact refl s
  · have hm : ∀ (s : State) (l : List Nat), FaultFrame s { s with mem := { s.mem with flush := l } } := fun s l =>
      ⟨rfl, rfl, rfl, rfl, rfl, rfl, rfl, rfl, rfl, rfl, rfl, rfl, rfl, rfl, rfl, id, id⟩
    have ht : ∀ (s : State) (a : Option (Nat × Nat)), FaultFrame s
        { s with therm := { s.therm with shutAt := a, drainedAt := none } } := fun s a =>
      ⟨rfl, rfl, rfl, rfl, rfl, rfl, rfl, rfl, rfl, rfl, rfl, rfl, rfl, rfl, rfl, id, id⟩
    have h0 : FaultFrame s ((s.setFld aTH_STATUS 4 2 1).setReg aTH_SHUT
        (packBits [(0, 16, src), (16, 5, if (src == 90) = true then layer else 0x1F)])) :=
      (setFld s _ _ _ _).trans (setReg _ _ _)
    dsimp only
    generalize (s.setFld aTH_STATUS 4 2 1).setReg aTH_SHUT
        (packBits [(0, 16, src), (16, 5, if (src == 90) = true then layer else 0x1F)]) = a at h0 ⊢
    have h1 : FaultFrame s (if (src == 90) = true then (a.setFlag aTH_STATUS 6 true).thermalRecord src layer 4 0 else a) :=
      h0.trans (ite ((setFlag _ _ _ _).trans (thermalRecord _ _ _ _ _)) (refl _))
    generalize (if (src == 90) = true then (a.setFlag aTH_STATUS 6 true).thermalRecord src layer 4 0 else a) = b at h1 ⊢
    refine FaultFrame.trans ?_ (hm _ _)
    refine foldl_pair _ _ _ ?_ ?_
    · refine foldl_pair _ _ _ ?_ ?_
      · refine FaultFrame.trans ?_ (foldl _ _ _ (fun s c => carStopAtLine s c 1 0xFFFF))
        exact (h1.trans (ht b _)).trans (haltAll _)
      · intro p i
        split
        · exact (sealFail p.1 i 3).trans (tcDisarm _ _)
        · exact refl _
    · intro p i
      split
      · exact (outingAbsent p.1 i 3 0 false).trans (tcDisarm _ _)
      · exact refl _

theorem headFreeze (s : State) (k : Fin 16) (reason addr stamp windowMs until_ : Nat) :
    FaultFrame s (s.headFreeze k reason addr stamp windowMs until_) := by
  unfold State.headFreeze
  exact (setHead s k _).trans (toHeadAndFm _ _ _ _)

theorem freezeMaster (s : State) (src : Nat) (m : Master) : FaultFrame s (s.freezeMaster src m) := by
  unfold State.freezeMaster
  split
  · split
    · exact headFreeze s _ _ _ _ _ _
    · exact refl s
  · exact ((((setThread s _ _).trans (setReg _ _ _)).trans (setReg _ _ _)).trans (setReg _ _ _)).trans (toFm _ _ _)
  · exact (carStop s _ 4).trans (toFm _ _ _)

theorem fenceUnit (s : State) (src : Nat) (noFreeze : Bool) (m : Master) :
    FaultFrame s (s.fenceUnit src noFreeze m) := by
  unfold State.fenceUnit
  split
  · split
    · exact refl s
    · exact headFreeze s _ _ _ _ _ _
  · exact (ite (refl s) (freezeMaster s src _)).trans (haltAll _)
  · exact (freezeMaster s src _).trans (foldl _ _ _ (fun s d => carStopAtLine s d 10 src))

theorem latchFirst (s : State) (e : FaultEvent) : FaultFrame s (s.latchFirst e) := by
  have h : ∀ (s : State) (a b c : Word) (n : Nat), FaultFrame s
      { ((s.setReg aFC_FIRST a).setReg aFC_FIRST_RT b).setReg aFC_FIRST_DETAIL c with fcFirstCycle := n } :=
    fun s a b c n => (((setReg s _ a).trans (setReg _ _ b)).trans (setReg _ _ c)).trans
      ⟨rfl, rfl, rfl, rfl, rfl, rfl, rfl, rfl, rfl, rfl, rfl, rfl, rfl, rfl, rfl, id, id⟩
  unfold State.latchFirst
  exact ite (ite (h s _ _ _ _) (setFlag s _ _ _)) (h s _ _ _ _)

theorem countEvent (s : State) (src : Nat) : FaultFrame s (s.countEvent src).1 := by
  unfold State.countEvent
  dsimp only
  split
  · exact (bump s _ _ _ _).trans (bump _ _ _ _ _)
  · refine FaultFrame.trans ?_ (ite (setFlag _ _ _ _) (refl _))
    refine FaultFrame.trans ?_ (setFld _ _ _ _ _)
    refine (bump s (aFC_SRC_STAT src) 16 16 1).trans (ite ?_ (refl _))
    exact ⟨rfl, rfl, rfl, rfl, rfl, rfl, rfl, rfl, rfl, rfl, rfl, rfl, rfl, rfl, rfl, id, id⟩

theorem raiseOne (s : State) (e : FaultEvent) : FaultFrame s (s.raiseOne e).1 := by
  unfold State.raiseOne
  split
  · exact refl s
  · have h1 : FaultFrame s ((s.latchFirst e).countEvent e.src).1 := (latchFirst s e).trans (countEvent _ _)
    rcases h : (s.latchFirst e).countEvent e.src with ⟨u, was, severe⟩
    rw [h] at h1
    simp only [h]
    dsimp only at h1
    have h2 : FaultFrame s (if (severe && !was && u.flag aSNAP_CTRL 3) = true then u.snapTrigger 3 0 e.src else u) :=
      h1.trans (ite (snapTrigger _ _ _ _) (refl _))
    generalize (if (severe && !was && u.flag aSNAP_CTRL 3) = true then u.snapTrigger 3 0 e.src else u) = v at h2 ⊢
    have h3 : FaultFrame s (if e.src = 3 then v.aliveStop 3 else v) := h2.trans (ite (aliveStop _ _) (refl _))
    generalize (if e.src = 3 then v.aliveStop 3 else v) = w at h3 ⊢
    generalize actingClass (w.sourceClass e.src) severe e.master.isSome = cls
    have h4 : FaultFrame s (if 1 ≤ cls then w.notifyFault e.src else w) := h3.trans (ite (notifyFault _ _) (refl _))
    generalize (if 1 ≤ cls then w.notifyFault e.src else w) = x at h4 ⊢
    have h5 : FaultFrame s (match e.master with
        | some m => if cls = 3 then x.fenceUnit e.src e.noFreeze m
            else if 2 ≤ cls ∧ e.noFreeze = false then x.freezeMaster e.src m else x
        | none => x) := by
      refine h4.trans ?_
      split
      · exact ite (fenceUnit _ _ _ _) (ite (freezeMaster _ _ _) (refl _))
      · exact refl _
    refine h5.trans ?_
    by_cases h6 : cls = 4
    · rw [if_pos h6]
      exact aliveStop _ _
    · rw [if_neg h6]
      by_cases h7 : cls = 5
      · rw [if_pos h7]
        exact (aliveStop _ _).trans (beginShutdown _ _ _)
      · rw [if_neg h7]
        exact refl _

theorem raiseAll (s : State) (n : Nat) (es : List FaultEvent) : FaultFrame s (s.raiseAll n es) := by
  induction n generalizing s es with
  | zero => exact refl s
  | succ n ih =>
    cases es with
    | nil => exact refl s
    | cons e es => exact (raiseOne s e).trans (ih _ _)

theorem raiseList (s : State) (es : List FaultEvent) : FaultFrame s (s.raiseList es) := raiseAll s _ es
theorem raise (s : State) (src idx val : Nat) : FaultFrame s (s.raise src idx val) := raiseList s _
theorem raiseBy (s : State) (src idx val : Nat) (m : Master) : FaultFrame s (s.raiseBy src idx val m) := raiseList s _
theorem headViolation (s : State) (k : Fin 16) (reason addr stamp : Nat) :
    FaultFrame s (s.headViolation k reason addr stamp) := raiseBy s _ _ _ _
theorem threadViolation (s : State) (t : Fin 8) (reason : Nat) (word : Word) (addr : Nat) (bus : Bool) :
    FaultFrame s (s.threadViolation t reason word addr bus) := raiseBy s _ _ _ _
theorem carriageViolation (s : State) (c : Fin 32) (addr : Nat) : FaultFrame s (s.carriageViolation c addr) :=
  raiseBy s _ _ _ _

end FaultFrame

end Sys2Proof.Machine
end

