-- ==== Sys2Proof/Laws/Issue.lean ====
section
/-! SUPPORT. Laws of issuing an instruction: what `State.issue` does in each of its cases, what a general register and an
operand read as after an issue is counted, and when a command ends without a snapshot copy. -/

namespace Sys2Proof.Machine

/-- A command that triggered no snapshot ends in the state it computed. -/
theorem finish_quiet (s t : State) (h : t.snapDue = false) : finish s t = .next t := by
  simp [finish, State.settle, h]

/-- Every command that ends through `finish` answers a next state. -/
theorem finish_next (s t : State) : finish s t = .next (State.settle s t) := rfl

/-- A thread that runs with nothing unfinished issues a legal word: it is counted, then has its effect. -/
theorem State.issue_ready (s : State) (t : Fin 8) (op : Nat) (f : InsnFields) (n : Nat) (body : State → State)
    (h1 : s.canIssue t = true) (h2 : s.fetchable (s.pcOf t) = true) (h3 : insnLegal op f = true) :
    s.issue t op f n body = body (s.countIssue t n) := by
  simp [State.issue, h1, h2, h3]

/-- A thread that does not run issues nothing. -/
theorem State.issue_idle (s : State) (t : Fin 8) (op : Nat) (f : InsnFields) (n : Nat) (body : State → State)
    (h : s.canIssue t = false) : s.issue t op f n body = s := by
  simp [State.issue, h]

/-- A program counter outside the code freezes the thread with reason 3. -/
theorem State.issue_unfetchable (s : State) (t : Fin 8) (op : Nat) (f : InsnFields) (n : Nat) (body : State → State)
    (h1 : s.canIssue t = true) (h2 : s.fetchable (s.pcOf t) = false) :
    s.issue t op f n body = s.threadViolation t 3 0 (s.pcOf t) false := by
  simp [State.issue, h1, h2]

/-- An illegal word is counted and freezes the thread with reason 2. -/
theorem State.issue_illegal (s : State) (t : Fin 8) (op : Nat) (f : InsnFields) (n : Nat) (body : State → State)
    (h1 : s.canIssue t = true) (h2 : s.fetchable (s.pcOf t) = true) (h3 : insnLegal op f = false) :
    s.issue t op f n body
      = (s.countIssue t n).threadViolation t 2 (insnWord op f) ((s.countIssue t n).pcOf t) false := by
  simp [State.issue, h1, h2, h3]

/-- Counting an issue changes the thread's ready time alone. -/
theorem State.thread_countIssue (s : State) (t u : Fin 8) (n : Nat) :
    (s.countIssue t n).thread u = if u = t then { s.thread t with readyAt := s.ecyc + n } else s.thread u := by
  unfold State.countIssue
  by_cases h : u = t
  · subst h
    rw [State.thread_setThread_same, if_pos rfl]
    rfl
  · rw [State.thread_setThread_ne _ _ _ _ h, if_neg h]
    rfl

/-- A general register after counting an issue. -/
@[simp] theorem State.gpr_countIssue (s : State) (t u : Fin 8) (n : Nat) (r : BitVec 4) :
    (s.countIssue t n).gpr u r = s.gpr u r := by
  unfold State.gpr
  rw [State.thread_countIssue]
  split
  · rfl
  · split
    · next h => subst h; rfl
    · rfl

/-- The second operand after counting an issue. -/
@[simp] theorem State.op2_countIssue (s : State) (t u : Fin 8) (n : Nat) (f : InsnFields) :
    (s.countIssue t n).op2 u f = s.op2 u f := by
  simp [State.op2]

/-- An address operand after counting an issue. -/
@[simp] theorem State.insnAddr_countIssue (s : State) (t u : Fin 8) (n : Nat) (f : InsnFields) :
    (s.countIssue t n).insnAddr u f = s.insnAddr u f := by
  simp [State.insnAddr]

/-! No update of an instruction owes a snapshot copy by itself. -/

@[simp] theorem State.snapDue_countIssue (s : State) (t : Fin 8) (n : Nat) :
    (s.countIssue t n).snapDue = s.snapDue := rfl
@[simp] theorem State.snapDue_advance (s : State) (t : Fin 8) : (s.advance t).snapDue = s.snapDue := rfl
@[simp] theorem State.snapDue_setFlags (s : State) (t : Fin 8) (z n c : Bool) :
    (s.setFlags t z n c).snapDue = s.snapDue := rfl
@[simp] theorem State.snapDue_setGpr (s : State) (t : Fin 8) (r : BitVec 4) (v : Word) :
    (s.setGpr t r v).snapDue = s.snapDue := by
  unfold State.setGpr
  split <;> rfl

end Sys2Proof.Machine
end

