-- ==== Sys2Proof/Tests/Slice0.lean ====
section
/-! SUPPORT. The author's own tests: for every clause of a statement a state and operands that meet its hypotheses,
single steps against values worked out from the spec, and ill-formed commands that WellFormed refuses. -/

namespace Sys2Proof.Tests

open Sys2Proof Sys2Proof.Machine Sys2Proof.Claims

set_option Elab.async false

/-- A reset block whose program has 4 KiB of code. -/
def codeS : State := State.reset.setReg aTT_CODE_END 0x1000

/-- Thread 0 runs, with an unfinished instruction or none. -/
def runS (w : WaitCond) : State := codeS.setThread 0 { Thread.reset with st := .run, wait := w }

/-- Thread 0 runs with some fields set. -/
def runT (f : Thread → Thread) : State := codeS.setThread 0 (f { Thread.reset with st := .run })

/-- Thread 0 waits. -/
def waitS (w : WaitCond) : State := codeS.setThread 0 { Thread.reset with st := .wait, wait := w }

/-- Fields of an instruction. -/
def ins (d a b mode s8 imm : Nat) : InsnFields :=
  ⟨BitVec.ofNat 4 d, BitVec.ofNat 4 a, BitVec.ofNat 4 b, BitVec.ofNat 4 mode, BitVec.ofNat 8 s8, BitVec.ofNat 32 imm⟩

/-- Head `k` in a link state at a rate. -/
def headS (k : Fin 16) (l : LinkState) (r : BitVec 3) : State :=
  State.reset.setHead k { Head.reset with link := l, rate := r }

/-- Head 0 serves CXL.mem at 32 GT/s with one decoder, and block 0 is granted. -/
def memS : State :=
  { (State.reset.setHead 0 { Head.reset with link := .l0, rate := 4, hdm := [⟨0, 0x10000000, 0x20000000, 0⟩] }) with
    grants := [⟨0, 0, 0⟩] }

/-- The FM API on I3C is open, start-up at step 8 and the service open. -/
def fmS : State :=
  let s := ((headS 0 .l0 4).setReg aHEAD_GCTRL 0x10).setFld aSU_STATUS 0 4 8
  { (s.setReg aSU_CTRL 1) with mgmt := { s.mgmt with i3cAddr := some 8 } }

/-- A state whose RT is `n` ns and whose clock is `c` cycles. -/
def at_ (s : State) (n c : Nat) : State := { s with tu := { s.tu with rt := BitVec.ofNat 96 (n * 2 ^ 32), cycle := c } }

/-- A request. -/
def req (src : Src) (kind : ReqKind) (line : Nat) : Req :=
  { src := src, kind := kind, uio := false, line := line, val := ⟨0, false⟩, mask := BitVec.allOnes 64, stamp := 0, tag := 0 }

/-- Carriage 0 runs at descriptor address 0x1000, whose words are given, with an open window. -/
def carS (op flags head : Nat) (o0 o1 o2 : Nat) : State :=
  let s := (codeS.setReg (aCR_WIN_LIMIT 0) 0x1000000).setCar 0 { Carriage.reset with st := .running, desc := 0x1000 }
  let m := Memory.setN s.pstore 0x1000 8 (op + flags * 2 ^ 8 + head * 2 ^ 16)
  let m := Memory.setN (Memory.setN m 0x1008 8 o0) 0x1010 8 o1
  { s with pstore := Memory.setN m 0x1018 8 o2 }

/-- Descriptor of `carS`. -/
def desc (op flags head : Nat) (o0 o1 o2 : Nat) : Desc :=
  { op := BitVec.ofNat 8 op, flags := BitVec.ofNat 8 flags, head := BitVec.ofNat 16 head, reserved := 0,
    o0 := BitVec.ofNat 64 o0, o1 := BitVec.ofNat 64 o1, o2 := BitVec.ofNat 64 o2, o3 := 0, o4 := 0 }

/-- A channel with a fault under way. -/
def faultS (back : Bool) : State :=
  (State.reset.setFlag (aINT_CH_STATUS 0) 0 true).setChan 0 { Channel.reset with inService := back }

/-- The request path with some fields set. -/
def path (s : State) (f : MemPath → MemPath) : State := { s with mem := f s.mem }

/-- A domain in a state. -/
def dom (s : State) (n : Fin 64) (x : DomState) : State := s.setDom n { s.dom n with st := x }

theorem test_StepRunsFrontCommand_can :
    (let s := State.reset; s.pending = []) ∧
    (let s := { State.reset with pending := [.haltOpen] }; s.pending = [.haltOpen]) ∧
    (let s := { State.reset with pins := { State.reset.pins with pwrGood := false } };
      s.pending = [] ∧ s.pins.pwrGood = false) := by
  refine ⟨?_, ?_, ?_⟩ <;> decide +kernel

theorem test_StepKeepsStores_can :
    (let s := State.reset; s.regsWf = true ∧ s.pstoreWf = true ∧ s.dramWf = true ∧ Quiet s) := by
  unfold Quiet; decide +kernel

namespace CycleAddsIncrement

/-- Helper of the states below. -/
def corrS (k : Correction) (left : Int) : State := { State.reset with tu := { State.reset.tu with corr := k, corrLeft := left } }

set_option maxRecDepth 100000 in
theorem test_CycleAddsIncrement_can :
  (let s : State := State.reset;
    (s.tu.corr = Correction.none) ∧ (s.fld aTU_FREQ 0 32 = 0)) ∧
  (let s : State := corrS .steer 1;
    (s.tu.corr = Correction.steer) ∧ (s.fld aTU_FREQ 0 32 = 0)) ∧
  (let s : State := corrS .fwd (-5);
    (s.tu.corr = Correction.fwd) ∧ (s.fld aTU_FREQ 0 32 = 0) ∧ (s.tu.corrLeft ≤ 0)) ∧
  (let s : State := corrS .back 5;
    (s.tu.corr = Correction.back) ∧ (s.fld aTU_FREQ 0 32 = 0) ∧ (0 < s.tu.corrLeft)) := by
  refine ⟨?_, ?_, ?_, ?_⟩ <;> decide +kernel

end CycleAddsIncrement

namespace GeneralRegisters

set_option maxRecDepth 100000 in
theorem test_GeneralRegisters_can :
  (let r : BitVec 4 := 1;
    (r ≠ 0)) ∧
  (let r : BitVec 4 := 1;
    let q : BitVec 4 := 2;
    (q ≠ r)) ∧
  (let t : Fin 8 := 0;
    let u : Fin 8 := 1;
    (u ≠ t)) := by
  refine ⟨?_, ?_, ?_⟩ <;> decide +kernel

end GeneralRegisters

namespace ControlInstructions

set_option maxRecDepth 100000 in
theorem test_ControlInstructions_can :
  (let s : State := runS .none;
    (s.regsWf = true)) ∧
  (let s : State := runS .none;
    let t : Fin 8 := 0;
    let f : InsnFields := ins 0 0 0 0 0 0;
    (Ready s t 0 f)) ∧
  (let s : State := runS .none;
    let t : Fin 8 := 0;
    let f : InsnFields := ins 0 0 0 0 0 0;
    (Ready s t 1 f)) ∧
  (let s : State := runS .none;
    let t : Fin 8 := 0;
    let f : InsnFields := ins 0 0 0 0 0 0;
    (Ready s t 2 f)) ∧
  (let s : State := at_ (runS (.yield 5)) 10 20;
    let t : Fin 8 := 0;
    let n : Nat := 5;
    (0 < n) ∧ ((s.thread t).wait = WaitCond.yield n) ∧ (n ≤ s.ecyc)) ∧
  (let s : State := runS (.yield 5);
    let t : Fin 8 := 0;
    let n : Nat := 5;
    (0 < n) ∧ ((s.thread t).wait = WaitCond.yield n) ∧ (s.ecyc < n)) ∧
  (let s : State := runS (.yield 0);
    let t : Fin 8 := 0;
    ((s.thread t).wait = WaitCond.yield 0) ∧ (s.passing t = true) ∧ (s.eng.issuedAt ≠ some s.ecyc) ∧ (List.find? (fun j => s.ready j || s.passing j) s.rotation = some t)) := by
  unfold Ready Quiet; refine ⟨?_, ?_, ?_, ?_, ?_, ?_, ?_⟩ <;> decide +kernel

end ControlInstructions

namespace ArithmeticInstructions

set_option maxRecDepth 100000 in
theorem test_ArithmeticInstructions_can :
  (let s : State := runS .none;
    let t : Fin 8 := 0;
    let f : InsnFields := ins 15 1 2 0 0 0;
    (Ready s t 16 f)) ∧
  (let s : State := runS .none;
    let t : Fin 8 := 0;
    let f : InsnFields := ins 15 1 2 0 0 0;
    (Ready s t 17 f)) ∧
  (let s : State := runS .none;
    let t : Fin 8 := 0;
    let f : InsnFields := ins 15 1 2 0 0 0;
    (Ready s t 18 f)) ∧
  (let s : State := runS .none;
    let t : Fin 8 := 0;
    let f : InsnFields := ins 15 1 2 0 0 0;
    (Ready s t 19 f)) ∧
  (let s : State := runS .none;
    let t : Fin 8 := 0;
    let f : InsnFields := ins 15 1 2 0 0 0;
    (Ready s t 20 f)) ∧
  (let s : State := runS .none;
    let t : Fin 8 := 0;
    let f : InsnFields := ins 15 1 2 0 0 0;
    (Ready s t 24 f)) := by
  unfold Ready Quiet; refine ⟨?_, ?_, ?_, ?_, ?_, ?_⟩ <;> decide +kernel

end ArithmeticInstructions

namespace ShiftsComparesAndMoves

set_option maxRecDepth 100000 in
theorem test_ShiftsComparesAndMoves_can :
  (let s : State := runS .none;
    let t : Fin 8 := 0;
    let f : InsnFields := ins 15 1 2 0 0 0;
    (Ready s t 21 f)) ∧
  (let s : State := runS .none;
    let t : Fin 8 := 0;
    let f : InsnFields := ins 15 1 2 0 0 0;
    (Ready s t 22 f)) ∧
  (let s : State := runS .none;
    let t : Fin 8 := 0;
    let f : InsnFields := ins 15 1 2 0 0 0;
    (Ready s t 23 f)) ∧
  (let s : State := runS .none;
    let t : Fin 8 := 0;
    let f : InsnFields := ins 0 1 2 0 0 0;
    (Ready s t 25 f)) ∧
  (let s : State := runS .none;
    let t : Fin 8 := 0;
    let f : InsnFields := ins 15 0 0 1 0 0xFFFFFFFF;
    (Ready s t 26 f)) ∧
  (let s : State := runS .none;
    let t : Fin 8 := 0;
    let f : InsnFields := ins 15 0 0 0 0 0xFFFFFFFF;
    (Ready s t 27 f)) ∧
  (let s : State := runS .none;
    let t : Fin 8 := 0;
    let f : InsnFields := ins 15 0 0 0 0 0xFFFFFFFF;
    (Ready s t 28 f)) := by
  unfold Ready Quiet; refine ⟨?_, ?_, ?_, ?_, ?_, ?_, ?_⟩ <;> decide +kernel

end ShiftsComparesAndMoves

namespace LoadInstructions

/-- Helper of the states below. -/
def addrS (a : Nat) : State := (runS .none).setGpr 0 1 (BitVec.ofNat 64 a)

set_option maxRecDepth 100000 in
theorem test_LoadInstructions_can :
  (let s : State := addrS 0;
    let t : Fin 8 := 0;
    let f : InsnFields := ins 15 1 0 0 0 0;
    let a : Nat := BitVec.toNat (s.insnAddr t f);
    (Ready s t 32 f) ∧ (a % 8 = 0) ∧ (a < 6291456)) ∧
  (let s : State := addrS 0;
    let t : Fin 8 := 0;
    let f : InsnFields := ins 15 1 0 0 0 0;
    let a : Nat := BitVec.toNat (s.insnAddr t f);
    (Ready s t 34 f) ∧ (a % 4 = 0) ∧ (a < 6291456)) ∧
  (let s : State := addrS 0x7F0000;
    let t : Fin 8 := 0;
    let f : InsnFields := ins 15 1 0 0 0 0;
    let w : Word := 0;
    let a : Nat := BitVec.toNat (s.insnAddr t f);
    (6291456 ≤ a) ∧ (a < 8388608) ∧ (s.tableWord (a / 8 * 8) = some w) ∧ (Ready s t 32 f) ∧ (a % 8 = 0)) ∧
  (let s : State := addrS 0x7F0000;
    let t : Fin 8 := 0;
    let f : InsnFields := ins 15 1 0 0 0 0;
    let w : Word := 0;
    let a : Nat := BitVec.toNat (s.insnAddr t f);
    (6291456 ≤ a) ∧ (a < 8388608) ∧ (s.tableWord (a / 8 * 8) = some w) ∧ (Ready s t 34 f) ∧ (a % 4 = 0)) ∧
  (let s : State := addrS 0x600000;
    let t : Fin 8 := 0;
    let f : InsnFields := ins 15 1 0 0 0 0;
    let a : Nat := BitVec.toNat (s.insnAddr t f);
    (6291456 ≤ a) ∧ (a < 8388608) ∧ (s.tableWord (a / 8 * 8) = none) ∧ (Ready s t 32 f) ∧ (a % 8 = 0)) ∧
  (let s : State := addrS 0x600000;
    let t : Fin 8 := 0;
    let f : InsnFields := ins 15 1 0 0 0 0;
    let a : Nat := BitVec.toNat (s.insnAddr t f);
    (6291456 ≤ a) ∧ (a < 8388608) ∧ (s.tableWord (a / 8 * 8) = none) ∧ (Ready s t 34 f) ∧ (a % 4 = 0)) ∧
  (let s : State := { addrS 0x2000 with eng := { (addrS 0x2000).eng with storedLines := [lineOf 0x2000] } };
    let t : Fin 8 := 0;
    let f : InsnFields := ins 15 1 0 0 0 0;
    let a : Nat := BitVec.toNat (s.insnAddr t f);
    (Ready s t 32 f) ∧ (a % 8 = 0) ∧ (s.regsWf = true) ∧ (s.sourceClass 48 < 5) ∧ (s.sourceClass 63 < 5) ∧ (a < 4194304) ∧ (s.inCode a = false) ∧ (s.eng.storedLines.contains (lineOf a) = true ∨ s.copyLost a = true)) ∧
  (let s : State := addrS 0;
    let t : Fin 8 := 0;
    let f : InsnFields := ins 15 1 0 0 0 0;
    let a : Nat := BitVec.toNat (s.insnAddr t f);
    let i : Instr := Instr.ld t f true;
    (Ready s t 32 f) ∧ (a % 8 = 0) ∧ (s.regsWf = true) ∧ (s.sourceClass 48 < 5) ∧ (s.sourceClass 63 < 5) ∧ (a < 4194304) ∧ (s.copyLost a = false) ∧ (s.inCode a = true ∨ s.eng.storedLines.contains (lineOf a) = false) ∧ (f.d ≠ 0) ∧ (i = Instr.ld t f true)) ∧
  (let s : State := { addrS 0x2000 with eng := { (addrS 0x2000).eng with storedLines := [lineOf 0x2000] } };
    let t : Fin 8 := 0;
    let f : InsnFields := ins 15 1 0 0 0 0;
    let a : Nat := BitVec.toNat (s.insnAddr t f);
    (Ready s t 34 f) ∧ (a % 4 = 0) ∧ (s.regsWf = true) ∧ (s.sourceClass 48 < 5) ∧ (s.sourceClass 63 < 5) ∧ (a < 4194304) ∧ (s.inCode a = false) ∧ (s.eng.storedLines.contains (lineOf a) = true ∨ s.copyLost a = true)) ∧
  (let s : State := addrS 0;
    let t : Fin 8 := 0;
    let f : InsnFields := ins 15 1 0 0 0 0;
    let a : Nat := BitVec.toNat (s.insnAddr t f);
    let i : Instr := Instr.ldw t f true;
    (Ready s t 34 f) ∧ (a % 4 = 0) ∧ (s.regsWf = true) ∧ (s.sourceClass 48 < 5) ∧ (s.sourceClass 63 < 5) ∧ (a < 4194304) ∧ (s.copyLost a = false) ∧ (s.inCode a = true ∨ s.eng.storedLines.contains (lineOf a) = false) ∧ (f.d ≠ 0) ∧ (i = Instr.ldw t f true)) ∧
  (let s : State := addrS 0x7E1000;
    let t : Fin 8 := 0;
    let f : InsnFields := ins 15 1 0 0 0 0;
    let a : Nat := BitVec.toNat (s.insnAddr t f);
    (Ready s t 32 f) ∧ (a % 8 = 0) ∧ (s.regsWf = true) ∧ (0x7E1000 ≤ a) ∧ (a < 0x7F5000)) ∧
  (let s : State := addrS 0x7E1004;
    let t : Fin 8 := 0;
    let f : InsnFields := ins 15 1 0 0 0 0;
    let a : Nat := BitVec.toNat (s.insnAddr t f);
    (Ready s t 34 f) ∧ (a % 4 = 0) ∧ (s.regsWf = true) ∧ (0x7E1000 ≤ a) ∧ (a < 0x7F5000)) := by
  unfold Ready Quiet; refine ⟨?_, ?_, ?_, ?_, ?_, ?_, ?_, ?_, ?_, ?_, ?_, ?_⟩ <;> decide +kernel

end LoadInstructions

namespace StoreInstructions

set_option maxRecDepth 100000 in
theorem test_StoreInstructions_can :
  (let s : State := runS .none;
    let t : Fin 8 := 0;
    let f : InsnFields := ins 0 1 2 0 0 0x1000;
    let a : Nat := BitVec.toNat (s.insnAddr t f);
    (s.pstoreWf = true) ∧ (s.storable a = true) ∧ (Ready s t 33 f) ∧ (a % 8 = 0)) ∧
  (let s : State := runS .none;
    let t : Fin 8 := 0;
    let f : InsnFields := ins 0 1 2 0 0 0x1000;
    let a : Nat := BitVec.toNat (s.insnAddr t f);
    (s.pstoreWf = true) ∧ (s.storable a = true) ∧ (Ready s t 35 f) ∧ (a % 4 = 0)) := by
  unfold Ready Quiet; refine ⟨?_, ?_⟩ <;> decide +kernel

end StoreInstructions

namespace BranchInstructions

set_option maxRecDepth 100000 in
theorem test_BranchInstructions_can :
  (let s : State := runS .none;
    let t : Fin 8 := 0;
    let f : InsnFields := ins 0 0 0 1 0 0xFF8;
    let target : Nat := if f.mode = 1 then BitVec.toNat (s.gpr t f.a + BitVec.signExtend 64 f.imm)
    else (BitVec.ofNat 64 (s.thread t).pc.toNat + 8 * BitVec.signExtend 64 f.imm).toNat;
    (Ready s t 48 f) ∧ (s.fetchable target = true)) ∧
  (let s : State := runS .none;
    let t : Fin 8 := 0;
    let f : InsnFields := ins 0 0 0 0 0 0;
    let rel : Nat := (BitVec.ofNat 64 (s.thread t).pc.toNat + 8 * BitVec.signExtend 64 f.imm).toNat;
    (Ready s t 49 f) ∧ (branchCond f.mode (s.thread t).z (s.thread t).n (s.thread t).c = true) ∧ (s.fetchable rel = true)) ∧
  (let s : State := runS .none;
    let t : Fin 8 := 0;
    let f : InsnFields := ins 0 0 0 1 0 0xFF8;
    (Ready s t 49 f) ∧ (branchCond f.mode (s.thread t).z (s.thread t).n (s.thread t).c = false)) ∧
  (let s : State := runS .none;
    let t : Fin 8 := 0;
    let f : InsnFields := ins 0 0 0 1 0 0xFF8;
    let target : Nat := if f.mode = 1 then BitVec.toNat (s.gpr t f.a + BitVec.signExtend 64 f.imm)
    else (BitVec.ofNat 64 (s.thread t).pc.toNat + 8 * BitVec.signExtend 64 f.imm).toNat;
    (Ready s t 50 f) ∧ (s.fetchable target = true) ∧ ((s.thread t).stack.length < 16)) ∧
  (let s : State := runT (fun t => {t with stack := [16]});
    let t : Fin 8 := 0;
    let f : InsnFields := ins 0 0 0 0 0 0;
    let l : List (BitVec 23) := [];
    let x : BitVec 23 := 16;
    (Ready s t 51 f) ∧ ((s.thread t).stack = l ++ [x]) ∧ (s.fetchable x.toNat = true)) ∧
  (let s : State := runT (fun t => {t with l := true});
    let t : Fin 8 := 0;
    let f : InsnFields := ins 0 0 0 0 0 0;
    let rel : Nat := (BitVec.ofNat 64 (s.thread t).pc.toNat + 8 * BitVec.signExtend 64 f.imm).toNat;
    (Ready s t 52 f) ∧ ((s.thread t).l = true) ∧ (s.fetchable rel = true)) ∧
  (let s : State := runS .none;
    let t : Fin 8 := 0;
    let f : InsnFields := ins 0 0 0 0 0 0;
    (Ready s t 52 f) ∧ ((s.thread t).l = false)) := by
  unfold Ready Quiet; refine ⟨?_, ?_, ?_, ?_, ?_, ?_, ?_⟩ <;> decide +kernel

end BranchInstructions

namespace ThreadViolationsFreeze

set_option maxRecDepth 100000 in
theorem test_ThreadViolationsFreeze_can_1 :
  (let s : State := runT (fun t => {t with pc := 0x1000});
    let t : Fin 8 := 0;
    (Quiet s) ∧ (s.sourceClass 5 = 2) ∧ (s.canIssue t = true) ∧ (s.fetchable (s.pcOf t) = false)) ∧
  (let s : State := runS .none;
    let t : Fin 8 := 0;
    let f : InsnFields := ins 0 0 0 2 0 0;
    (Quiet s) ∧ (s.sourceClass 5 = 2) ∧ (s.canIssue t = true) ∧ (s.fetchable (s.pcOf t) = true) ∧ (insnLegal 16 f = false)) ∧
  (let s : State := runS .none;
    let t : Fin 8 := 0;
    let f : InsnFields := ins 0 0 0 2 0 0;
    let op : BitVec 8 := 0x03;
    (Quiet s) ∧ (s.sourceClass 5 = 2) ∧ (s.canIssue t = true) ∧ (s.fetchable (s.pcOf t) = true) ∧ (insnForm op.toNat f.mode = none)) ∧
  (let s : State := { runS .none with cache := [⟨copyLine + 2, poisonLine, false, 0⟩] };
    let t : Fin 8 := 0;
    (Quiet s) ∧ (s.sourceClass 5 = 2) ∧ (s.canIssue t = true) ∧ (s.fetchable (s.pcOf t) = true) ∧ (s.copyLost (s.pcOf t) = true) ∧ (s.sourceClass 63 < 5)) ∧
  (let s : State := runS .none;
    let t : Fin 8 := 0;
    let f : InsnFields := ins 1 0 0 0 0 4;
    let a : Nat := BitVec.toNat (s.insnAddr t f);
    (Quiet s) ∧ (s.sourceClass 5 = 2) ∧ (s.canIssue t = true) ∧ (Ready s t 32 f) ∧ (a % 8 ≠ 0 ∨ 8388608 ≤ a)) ∧
  (let s : State := runS .none;
    let t : Fin 8 := 0;
    let f : InsnFields := ins 0 0 1 0 0 0xFF8;
    let a : Nat := BitVec.toNat (s.insnAddr t f);
    (Quiet s) ∧ (s.sourceClass 5 = 2) ∧ (s.canIssue t = true) ∧ (Ready s t 33 f) ∧ (a % 8 ≠ 0 ∨ s.storable a = false)) ∧
  (let s : State := runS .none;
    let t : Fin 8 := 0;
    let f : InsnFields := ins 1 0 0 0 0 2;
    let a : Nat := BitVec.toNat (s.insnAddr t f);
    (Quiet s) ∧ (s.sourceClass 5 = 2) ∧ (s.canIssue t = true) ∧ (Ready s t 34 f) ∧ (a % 4 ≠ 0 ∨ 8388608 ≤ a)) ∧
  (let s : State := runS .none;
    let t : Fin 8 := 0;
    let f : InsnFields := ins 0 0 1 0 0 0xFF8;
    let a : Nat := BitVec.toNat (s.insnAddr t f);
    (Quiet s) ∧ (s.sourceClass 5 = 2) ∧ (s.canIssue t = true) ∧ (Ready s t 35 f) ∧ (a % 4 ≠ 0 ∨ s.storable a = false)) ∧
  (let s : State := runT (fun t => {t with stack := List.replicate 16 8});
    let t : Fin 8 := 0;
    let f : InsnFields := ins 0 0 0 0 0 0;
    (Quiet s) ∧ (s.sourceClass 5 = 2) ∧ (s.canIssue t = true) ∧ (Ready s t 50 f) ∧ (16 ≤ (s.thread t).stack.length)) ∧
  (let s : State := runS .none;
    let t : Fin 8 := 0;
    let f : InsnFields := ins 0 0 0 0 0 0;
    (Quiet s) ∧ (s.sourceClass 5 = 2) ∧ (s.canIssue t = true) ∧ (Ready s t 51 f) ∧ ((s.thread t).stack = [])) ∧
  (let s : State := runS .none;
    let t : Fin 8 := 0;
    let f : InsnFields := ins 0 0 0 1 0 0x1000;
    let a : Nat := BitVec.toNat (s.insnAddr t f);
    (Quiet s) ∧ (s.sourceClass 5 = 2) ∧ (s.canIssue t = true) ∧ (Ready s t 48 f) ∧ (f.mode = 1) ∧ (s.fetchable a = false)) := by
  unfold Ready Quiet; refine ⟨?_, ?_, ?_, ?_, ?_, ?_, ?_, ?_, ?_, ?_, ?_⟩ <;> decide +kernel

set_option maxRecDepth 100000 in
theorem test_ThreadViolationsFreeze_can_2 :
  (let s : State := runS .none;
    let t : Fin 8 := 0;
    let f : InsnFields := ins 0 0 0 0 0 0x200;
    (Quiet s) ∧ (s.sourceClass 5 = 2) ∧ (s.canIssue t = true) ∧ (Ready s t 49 f) ∧ (branchCond f.mode (s.thread t).z (s.thread t).n (s.thread t).c = true) ∧ (s.fetchable (BitVec.ofNat 64 (s.thread t).pc.toNat + 8 * BitVec.signExtend 64 f.imm).toNat = false)) ∧
  (let s : State := runT (fun t => {t with l := true});
    let t : Fin 8 := 0;
    let f : InsnFields := ins 0 0 0 0 0 0x200;
    (Quiet s) ∧ (s.sourceClass 5 = 2) ∧ (s.canIssue t = true) ∧ (Ready s t 52 f) ∧ ((s.thread t).l = true) ∧ (s.fetchable (BitVec.ofNat 64 (s.thread t).pc.toNat + 8 * BitVec.signExtend 64 f.imm).toNat = false)) ∧
  (let s : State := runS .none;
    let t : Fin 8 := 0;
    let f : InsnFields := ins 1 0 0 0 0 4;
    let a : Nat := BitVec.toNat (s.insnAddr t f);
    (Quiet s) ∧ (s.sourceClass 5 = 2) ∧ (s.canIssue t = true) ∧ (Ready s t 64 f) ∧ (s.sourceClass 0 < 5) ∧ (busOk a (if f.mode = 1 then 8 else 4) = false)) ∧
  (let s : State := runS .none;
    let t : Fin 8 := 0;
    let f : InsnFields := ins 0 0 1 0 0 0xFF8;
    let a : Nat := BitVec.toNat (s.insnAddr t f);
    (Quiet s) ∧ (s.sourceClass 5 = 2) ∧ (s.canIssue t = true) ∧ (Ready s t 65 f) ∧ (s.sourceClass 0 < 5) ∧ (busOk a (if f.mode = 1 then 8 else 4) = false)) ∧
  (let s : State := runS .none;
    let t : Fin 8 := 0;
    let f : InsnFields := ins 0 0 1 0 0 aTT_HALT;
    let a : Nat := BitVec.toNat (s.insnAddr t f);
    (Quiet s) ∧ (s.sourceClass 5 = 2) ∧ (s.canIssue t = true) ∧ (Ready s t 65 f) ∧ (s.sourceClass 1 < 5) ∧ ((s.countIssue t 2).afterQueue.checkWrite (Path.thread t) a (if f.mode = 1 then 8 else 4)
        (if f.mode = 1 then s.gpr t f.b else s.gpr t f.b &&& 4294967295) =
      WriteCheck.locked)) := by
  unfold Ready Quiet; refine ⟨?_, ?_, ?_, ?_, ?_⟩ <;> decide +kernel

end ThreadViolationsFreeze

namespace ConfigurationInstructions

set_option maxRecDepth 100000 in
theorem test_ConfigurationInstructions_can_1 :
  (let s : State := runS .none;
    let t : Fin 8 := 0;
    let f : InsnFields := ins 15 0 0 1 0 0x40000;
    let a : Nat := BitVec.toNat (s.gpr t f.a + BitVec.signExtend 64 f.imm);
    let w : Nat := if f.mode = 1 then 8 else 4;
    (Ready s t 64 f) ∧ (busOk a w = true)) ∧
  (let s : State := at_ (runS (.crd 0x40000 true 0 15 (some 0))) 0 100;
    let t : Fin 8 := 0;
    let x : Nat := 0x40000;
    let wide : Bool := true;
    let before : Nat := 0;
    let d : BitVec 4 := 15;
    let since : Nat := 0;
    let n : Nat := if wide = true then 8 else 4;
    (Quiet s) ∧ ((s.thread t).wait = WaitCond.crd x wide before d (some since)) ∧ ((since + if 131072 ≤ x ∧ x < 141824 then 60 else 16) ≤ s.ecyc) ∧ (busOk x n = true)) ∧
  (let s : State := runS (.crd 0x40000 true 0 15 (some 0));
    let t : Fin 8 := 0;
    let x : Nat := 0x40000;
    let wide : Bool := true;
    let before : Nat := 0;
    let d : BitVec 4 := 15;
    let since : Nat := 0;
    ((s.thread t).wait = WaitCond.crd x wide before d (some since)) ∧ (s.ecyc < since + crdLatency x)) ∧
  (let s : State := runS .none;
    let t : Fin 8 := 0;
    let f : InsnFields := ins 0 0 1 0 0 0x40018;
    let a : Nat := BitVec.toNat (s.gpr t f.a + BitVec.signExtend 64 f.imm);
    let w : Nat := if f.mode = 1 then 8 else 4;
    let v : Word := if f.mode = 1 then s.gpr t f.b else s.gpr t f.b &&& 4294967295;
    (Ready s t 65 f) ∧ ((s.countIssue t 2).afterQueue.checkWrite (Path.thread t) a w v = WriteCheck.ok) ∧ (s.eng.queue.length < 64) ∧ (s.eng.waiting = [])) ∧
  (let s : State := { runS .none with eng := { (runS .none).eng with queue := List.replicate 64 ⟨0, 0, 0x40018, false, 0⟩, nextSeq := 3 } };
    let t : Fin 8 := 0;
    let f : InsnFields := ins 0 0 1 0 0 0x40018;
    let a : Nat := BitVec.toNat (s.gpr t f.a + BitVec.signExtend 64 f.imm);
    let w : Nat := if f.mode = 1 then 8 else 4;
    let v : Word := if f.mode = 1 then s.gpr t f.b else s.gpr t f.b &&& 4294967295;
    (Ready s t 65 f) ∧ ((s.countIssue t 2).afterQueue.checkWrite (Path.thread t) a w v = WriteCheck.ok) ∧ (64 ≤ s.eng.queue.length ∨ s.eng.waiting ≠ [])) ∧
  (let s : State := { runS .cwr with eng := { (runS .cwr).eng with waiting := [⟨0, 0, 0x40018, false, 0⟩] } };
    let q : QWrite := ⟨0, 0, 0x40018, false, 0⟩;
    let qs : List QWrite := [];
    (s.eng.waiting = q :: qs) ∧ (s.eng.queue.length < 64)) ∧
  (let s : State := { runS .none with eng := { (runS .none).eng with queue := List.replicate 64 ⟨0, 0, 0x40018, false, 0⟩, nextSeq := 3 } };
    (64 ≤ s.eng.queue.length)) ∧
  (let s : State := { runS .none with eng := { (runS .none).eng with queue := [⟨0, 0, 0x40018, false, 5⟩], nextSeq := 3 } };
    let q : QWrite := ⟨0, 0, 0x40018, false, 5⟩;
    let qs : List QWrite := [];
    let s' : State := { s with eng := { s.eng with queue := qs } };
    (s.eng.queue = q :: qs) ∧ (s'.checkWrite (Path.thread q.t) q.addr (if q.wide = true then 8 else 4) q.value = WriteCheck.ok)) ∧
  (let s : State := { runS .none with eng := { (runS .none).eng with queue := [⟨0, 0, aTT_HALT, false, 1⟩], nextSeq := 3 } };
    let q : QWrite := ⟨0, 0, aTT_HALT, false, 1⟩;
    let qs : List QWrite := [];
    let s' : State := { s with eng := { s.eng with queue := qs } };
    (s.eng.queue = q :: qs) ∧ (s'.checkWrite (Path.thread q.t) q.addr (if q.wide = true then 8 else 4) q.value = WriteCheck.locked)) ∧
  (let s : State := (({ runS .none with eng := { (runS .none).eng with queue := [⟨0, 0, aWEAR_BASE 0, false, 1⟩], nextSeq := 3 } } : State).setFlag aWEAR_STATUS 0 true);
    let q : QWrite := ⟨0, 0, aWEAR_BASE 0, false, 1⟩;
    let qs : List QWrite := [];
    let s' : State := { s with eng := { s.eng with queue := qs } };
    (s.eng.queue = q :: qs) ∧ (s'.checkWrite (Path.thread q.t) q.addr (if q.wide = true then 8 else 4) q.value = WriteCheck.again)) := by
  unfold Ready Quiet; refine ⟨?_, ?_, ?_, ?_, ?_, ?_, ?_, ?_, ?_, ?_⟩ <;> decide +kernel

set_option maxRecDepth 100000 in
theorem test_ConfigurationInstructions_can_2 :
  (let s : State := runS .none;
    (s.eng.queue = [])) := by
  decide +kernel

end ConfigurationInstructions

namespace StrobeAndComparatorInstructions

/-- Helper of the states below. -/
def g3 (s : State) (a b c : Word) : State := ((s.setGpr 0 1 a).setGpr 0 2 b).setGpr 0 3 c

/-- Helper of the states below. -/
def allTc (s : State) (o : Word) : State := (List.range 64).foldl (fun s n => s.setReg (aTC_OWNER n) o) s

set_option maxRecDepth 100000 in
theorem test_StrobeAndComparatorInstructions_can_1 :
  (let s : State := runS .none;
    let t : Fin 8 := 0;
    let f : InsnFields := ins 1 0 0 0 0 0xFFFF;
    (s.regsWf = true) ∧ (Ready s t 66 f)) ∧
  (let s : State := at_ (waitS (.upd 0xFFFF 0 1)) 0 4;
    let t : Fin 8 := 0;
    let mask : BitVec 16 := 0xFFFF;
    let before : Nat := 0;
    let d : BitVec 4 := 1;
    (s.regsWf = true) ∧ (Quiet s) ∧ ((s.thread t).wait = WaitCond.upd mask before d) ∧ (s.eng.landed before = true) ∧ (s.waitAged t = true) ∧ (s.tu.cycle % 2 = 0)) ∧
  (let s : State := { waitS (.upd 1 2 1) with eng := { (waitS (.upd 1 2 1)).eng with queue := [⟨1, 0, 0x40018, false, 0⟩], nextSeq := 2 } };
    let t : Fin 8 := 0;
    let mask : BitVec 16 := 1;
    let before : Nat := 2;
    let d : BitVec 4 := 1;
    (s.regsWf = true) ∧ ((s.thread t).wait = WaitCond.upd mask before d) ∧ (s.eng.landed before = false)) ∧
  (let s : State := runS .none;
    let t : Fin 8 := 0;
    let f : InsnFields := ins 1 2 3 0 63 15;
    let n : Fin 64 := 63;
    (s.regsWf = true) ∧ (f.s8 = BitVec.ofNat 8 ↑n ∧ s.tcOwner ↑n < 2 ∧ s.tcHeld ↑n = false ∨ f.s8 = 255 ∧ s.tcAny = some n) ∧ (Ready s t 67 f)) ∧
  (let s : State := runS .none;
    let t : Fin 8 := 0;
    let f : InsnFields := ins 1 2 3 0 0 0x1F20;
    let n : Fin 64 := 0;
    let target : Nat := f.imm.toNat / 16 % 16;
    let index : Nat := f.imm.toNat / 256 % 32;
    (s.regsWf = true) ∧ (f.s8 = BitVec.ofNat 8 ↑n ∧ s.tcOwner ↑n < 2 ∧ s.tcHeld ↑n = false ∨ f.s8 = 255 ∧ s.tcAny = some n) ∧ (Ready s t 82 f) ∧ (targetOk target index = true) ∧ (target = 7 → s.auxOwner index = 1)) ∧
  (let s : State := runS .none;
    let t : Fin 8 := 0;
    let f : InsnFields := ins 1 2 3 0 0 0x150;
    (s.regsWf = true) ∧ (Ready s t 82 f) ∧ (targetOk (f.imm.toNat / 16 % 16) (f.imm.toNat / 256 % 32) = false)) ∧
  (let s : State := runS .none;
    let t : Fin 8 := 0;
    let f : InsnFields := ins 1 2 3 0 0 0x70;
    (s.regsWf = true) ∧ (Ready s t 82 f) ∧ (targetOk (f.imm.toNat / 16 % 16) (f.imm.toNat / 256 % 32) = true) ∧ (f.imm.toNat / 16 % 16 = 7) ∧ (s.auxOwner (f.imm.toNat / 256 % 32) ≠ 1)) ∧
  (let s : State := allTc (runS .none) 2;
    let t : Fin 8 := 0;
    let f : InsnFields := ins 1 2 3 0 63 15;
    let n : Fin 64 := 63;
    (s.regsWf = true) ∧ (Ready s t 67 f) ∧ (f.s8 = BitVec.ofNat 8 ↑n) ∧ (2 ≤ s.tcOwner ↑n ∨ s.tcHeld ↑n = true)) ∧
  (let s : State := allTc (runS .none) 1;
    let t : Fin 8 := 0;
    let f : InsnFields := ins 1 1 2 0 255 3;
    (s.regsWf = true) ∧ (Ready s t 67 f) ∧ (f.s8 = 255) ∧ (s.tcAny = none)) ∧
  (let s : State := allTc (runS .none) 2;
    let t : Fin 8 := 0;
    let f : InsnFields := ins 1 2 3 0 0 0x1F20;
    let n : Fin 64 := 0;
    (s.regsWf = true) ∧ (Ready s t 82 f) ∧ (f.imm.toNat / 16 % 16 < 5) ∧ (targetOk (f.imm.toNat / 16 % 16) (f.imm.toNat / 256 % 32) = true) ∧ (f.s8 = BitVec.ofNat 8 ↑n) ∧ (2 ≤ s.tcOwner ↑n ∨ s.tcHeld ↑n = true)) := by
  unfold Ready Quiet; refine ⟨?_, ?_, ?_, ?_, ?_, ?_, ?_, ?_, ?_, ?_⟩ <;> decide +kernel

set_option maxRecDepth 100000 in
theorem test_StrobeAndComparatorInstructions_can_2 :
  (let s : State := allTc (runS .none) 1;
    let t : Fin 8 := 0;
    let f : InsnFields := ins 0 1 2 1 0xFF 0x1F20;
    (s.regsWf = true) ∧ (Ready s t 82 f) ∧ (f.imm.toNat / 16 % 16 < 5) ∧ (targetOk (f.imm.toNat / 16 % 16) (f.imm.toNat / 256 % 32) = true) ∧ (f.s8 = 255) ∧ (s.tcAny = none)) ∧
  (let s : State := allTc (runS .none) 1;
    let t : Fin 8 := 0;
    let f : InsnFields := ins 1 0 0 0 63 0;
    let n : Fin 64 := 63;
    (s.regsWf = true) ∧ (Ready s t 83 f) ∧ (s.insnIndex t f = ↑n) ∧ (s.tcOwner ↑n = 1) ∧ (s.tcHeld ↑n = false) ∧ (f.mode = 0)) ∧
  (let s : State := allTc (runS .none) 1;
    let t : Fin 8 := 0;
    let f : InsnFields := ins 1 0 0 1 63 0;
    let n : Fin 64 := 63;
    (s.regsWf = true) ∧ (Ready s t 83 f) ∧ (s.insnIndex t f = ↑n) ∧ (s.tcOwner ↑n = 1) ∧ (s.tcHeld ↑n = false) ∧ (f.mode = 1)) ∧
  (let s : State := runS .none;
    let t : Fin 8 := 0;
    let f : InsnFields := ins 1 0 0 0 63 0;
    let n : Fin 64 := 63;
    (s.regsWf = true) ∧ (Ready s t 83 f) ∧ (s.insnIndex t f = ↑n) ∧ (s.tcOwner ↑n ≠ 1 ∨ s.tcHeld ↑n = true)) ∧
  (let s : State := g3 (runS .none) 5 1000 99;
    let t : Fin 8 := 0;
    let f : InsnFields := ins 1 0 3 0 255 0;
    (s.regsWf = true) ∧ (Ready s t 83 f) ∧ (64 ≤ s.insnIndex t f)) := by
  unfold Ready Quiet; refine ⟨?_, ?_, ?_, ?_, ?_⟩ <;> decide +kernel

end StrobeAndComparatorInstructions

namespace TimeInstructions

/-- Helper of the states below. -/
def en (s : State) (n : Nat) : State := { s with tu := { s.tu with engNow := n } }

set_option maxRecDepth 100000 in
theorem test_TimeInstructions_can :
  (let s : State := runS .none;
    let t : Fin 8 := 0;
    let f : InsnFields := ins 1 0 0 1 0 0;
    (Ready s t 80 f)) ∧
  (let s : State := runS .none;
    let t : Fin 8 := 0;
    let f : InsnFields := ins 1 0 0 0 0 0;
    (Ready s t 81 f)) ∧
  (let s : State := en (at_ (waitS (.time 100 1)) 101 200) 100;
    let t : Fin 8 := 0;
    let v : Nat := 100;
    let d : BitVec 4 := 1;
    ((s.thread t).wait = WaitCond.time v d) ∧ ((s.thread t).st = ThreadState.wait) ∧ (v ≤ s.tu.engNow) ∧ (s.waitAged t = true) ∧ (s.regsWf = true)) ∧
  (let s : State := at_ (waitS (.time 100 1)) 100 200;
    let t : Fin 8 := 0;
    let v : Nat := 100;
    let d : BitVec 4 := 1;
    ((s.thread t).wait = WaitCond.time v d) ∧ (s.tu.engNow < v ∨ s.waitAged t = false)) ∧
  (let s : State := runS .none;
    let t : Fin 8 := 0;
    let f : InsnFields := ins 1 0 0 0 0 0;
    (Ready s t 84 f)) := by
  unfold Ready Quiet; refine ⟨?_, ?_, ?_, ?_, ?_⟩ <;> decide +kernel

end TimeInstructions

namespace EventInstructions

/-- Helper of the states below. -/
def ev (w : WaitCond) (e f : BitVec 16) (fa : Nat) : State := codeS.setThread 0 { Thread.reset with st := .wait, wait := w, events := e, fresh := f, freshAt := fa }

set_option maxRecDepth 100000 in
theorem test_EventInstructions_can :
  (let s : State := runS .none;
    let t : Fin 8 := 0;
    let f : InsnFields := ins 1 2 0 0 0 0xFFFF;
    (Ready s t 112 f)) ∧
  (let s : State := at_ (ev (.events 1 none 1) 3 0 0) 0 4;
    let t : Fin 8 := 0;
    let mask : BitVec 16 := 1;
    let dl : Option Nat := none;
    let d : BitVec 4 := 1;
    ((s.thread t).wait = WaitCond.events mask dl d) ∧ ((s.thread t).st = ThreadState.wait) ∧ (s.waitAged t = true) ∧ (s.regsWf = true) ∧ (s.oldEvents t &&& mask ≠ 0 ∨ ∃ v, dl = some v ∧ v ≤ s.tu.engNow)) ∧
  (let s : State := at_ (ev (.events 1 (some 7) 1) 0 0 0) 0 4;
    let t : Fin 8 := 0;
    let mask : BitVec 16 := 1;
    let dl : Option Nat := some 7;
    let d : BitVec 4 := 1;
    ((s.thread t).wait = WaitCond.events mask dl d) ∧ ((s.thread t).st = ThreadState.wait) ∧ (s.waitAged t = true) ∧ (s.regsWf = true) ∧ (s.oldEvents t &&& mask = 0) ∧ (∀ (v : Nat), dl = some v → s.tu.engNow < v)) ∧
  (let s : State := runS .none;
    let t : Fin 8 := 0;
    let f : InsnFields := ins 0 0 0 0 7 0xFF;
    let n : Fin 8 := 7;
    (Ready s t 113 f) ∧ (s.insnIndex t f = ↑n)) ∧
  (let s : State := (runS .none).setGpr 0 2 55;
    let t : Fin 8 := 0;
    let f : InsnFields := ins 0 0 2 0 255 0xFF;
    (Ready s t 113 f) ∧ (8 ≤ s.insnIndex t f)) ∧
  (let s : State := runS .none;
    let t : Fin 8 := 0;
    let f : InsnFields := ins 0 0 0 0 0 2;
    (Ready s t 114 f)) := by
  unfold Ready Quiet; refine ⟨?_, ?_, ?_, ?_, ?_, ?_⟩ <;> decide +kernel

end EventInstructions

namespace CarriageInstructions

/-- Helper of the states below. -/
def c1 (k : Carriage) (g : Word) : State := ((runS .none).setGpr 0 1 g).setCar 1 k

set_option maxRecDepth 100000 in
theorem test_CarriageInstructions_can_1 :
  (let s : State := (runS .none).setGpr 0 1 0x1000;
    let t : Fin 8 := 0;
    let f : InsnFields := ins 2 1 0 0 1 0;
    let c : Fin 32 := 1;
    (s.regsWf = true) ∧ (Ready s t 96 f) ∧ (f.s8 = BitVec.ofNat 8 ↑c ∨ f.s8 = 255 ∧ s.carAny = some c) ∧ (s.chainWord (s.gpr t f.a) (f.s8 == 255) = true) ∧ (s.windowHigh ↑c = false) ∧ (s.groupOn ↑c = true) ∧ (BitVec.getLsbD (s.gpr t f.a) 63 = false) ∧ ((s.car c).st = CarState.idle ∨ (s.car c).st = CarState.stopped)) ∧
  (let s : State := c1 { Carriage.reset with st := .stopped, prog := #v[0x300001000, 128, 9, 5], done := 77, desc := 8 } 0x8000000000000000;
    let t : Fin 8 := 0;
    let f : InsnFields := ins 2 1 0 0 1 0;
    let c : Fin 32 := 1;
    (s.regsWf = true) ∧ (Ready s t 96 f) ∧ (f.s8 = BitVec.ofNat 8 ↑c ∨ f.s8 = 255 ∧ s.carAny = some c) ∧ (s.chainWord (s.gpr t f.a) (f.s8 == 255) = true) ∧ (s.windowHigh ↑c = false) ∧ (s.groupOn ↑c = true) ∧ (BitVec.getLsbD (s.gpr t f.a) 63 = true) ∧ ((s.car c).st = CarState.stopped)) ∧
  (let s : State := runS .none;
    let t : Fin 8 := 0;
    let f : InsnFields := ins 2 1 0 0 1 0;
    (s.regsWf = true) ∧ (Ready s t 96 f) ∧ (s.chainWord (s.gpr t f.a) (f.s8 == 255) = false)) ∧
  (let s : State := c1 { Carriage.reset with st := .running } 0x1000;
    let t : Fin 8 := 0;
    let f : InsnFields := ins 2 1 0 0 1 0;
    let c : Fin 32 := 1;
    (s.regsWf = true) ∧ (Ready s t 96 f) ∧ (f.s8 = BitVec.ofNat 8 ↑c) ∧ (s.chainWord (s.gpr t f.a) false = true) ∧ ((s.car c).st.busy = true)) ∧
  (let s : State := c1 { Carriage.reset with st := .frozen } 0x1000;
    let t : Fin 8 := 0;
    let f : InsnFields := ins 2 1 0 0 1 0;
    let c : Fin 32 := 1;
    (s.regsWf = true) ∧ (Ready s t 96 f) ∧ (f.s8 = BitVec.ofNat 8 ↑c) ∧ (s.chainWord (s.gpr t f.a) false = true) ∧ ((s.car c).st = CarState.frozen)) ∧
  (let s : State := (c1 Carriage.reset 0x1000).setReg (aCR_WIN_LIMIT 1) 0xFFFFFFFFF;
    let t : Fin 8 := 0;
    let f : InsnFields := ins 2 1 0 0 1 0;
    let c : Fin 32 := 1;
    (s.regsWf = true) ∧ (Ready s t 96 f) ∧ (f.s8 = BitVec.ofNat 8 ↑c) ∧ (s.chainWord (s.gpr t f.a) false = true) ∧ ((s.car c).st = CarState.idle ∨ (s.car c).st = CarState.stopped) ∧ (s.windowHigh ↑c = true)) ∧
  (let s : State := ((runS .none).setGpr 0 1 0x1000).setDom 44 { (State.reset.dom 44) with st := .off };
    let t : Fin 8 := 0;
    let f : InsnFields := ins 2 1 0 0 1 0;
    let c : Fin 32 := 1;
    (s.regsWf = true) ∧ (Ready s t 96 f) ∧ (f.s8 = BitVec.ofNat 8 ↑c) ∧ (s.chainWord (s.gpr t f.a) false = true) ∧ ((s.car c).st = CarState.idle ∨ (s.car c).st = CarState.stopped) ∧ (s.windowHigh ↑c = false) ∧ (s.groupOn ↑c = false)) ∧
  (let s : State := (List.finRange 32).foldl (fun s c => s.setCar c { Carriage.reset with st := .running }) ((runS .none).setGpr 0 1 0x1000);
    let t : Fin 8 := 0;
    let f : InsnFields := ins 2 1 0 0 255 0;
    (s.regsWf = true) ∧ (Ready s t 96 f) ∧ (f.s8 = 255) ∧ (s.chainWord (s.gpr t f.a) true = true) ∧ (s.carAny = none)) ∧
  (let s : State := runS .none;
    let t : Fin 8 := 0;
    let f : InsnFields := ins 2 1 0 0 1 0;
    let c : Fin 32 := 1;
    (s.regsWf = true) ∧ (Ready s t 97 f) ∧ (s.insnIndex t f = ↑c)) ∧
  (let s : State := (runS .none).setGpr 0 3 40;
    let t : Fin 8 := 0;
    let f : InsnFields := ins 2 1 3 0 255 0;
    (s.regsWf = true) ∧ (Ready s t 97 f) ∧ (32 ≤ s.insnIndex t f)) := by
  unfold Ready Quiet; refine ⟨?_, ?_, ?_, ?_, ?_, ?_, ?_, ?_, ?_, ?_⟩ <;> decide +kernel

set_option maxRecDepth 100000 in
theorem test_CarriageInstructions_can_2 :
  (let s : State := runS .none;
    let t : Fin 8 := 0;
    let f : InsnFields := ins 2 0 0 0 1 0;
    let c : Fin 32 := 1;
    (s.regsWf = true) ∧ (Ready s t 98 f) ∧ (s.insnIndex t f = ↑c)) ∧
  (let s : State := (runS .none).setGpr 0 3 40;
    let t : Fin 8 := 0;
    let f : InsnFields := ins 2 0 3 0 255 0;
    (s.regsWf = true) ∧ (Ready s t 98 f) ∧ (32 ≤ s.insnIndex t f)) ∧
  (let s : State := c1 { Carriage.reset with st := .running, thread := some 0, desc := 0x1000, done := 64, acc := 3, entry := 2, flight := [⟨0,64,[],[1],[],false,[],[],false⟩] } 0x1000;
    let t : Fin 8 := 0;
    let f : InsnFields := ins 2 0 0 0 1 0;
    let c : Fin 32 := 1;
    (s.regsWf = true) ∧ (Ready s t 99 f) ∧ (s.insnIndex t f = ↑c) ∧ ((s.car c).st = CarState.running) ∧ ((s.car c).inPath = true)) ∧
  (let s : State := c1 { Carriage.reset with st := .running } 0x1000;
    let t : Fin 8 := 0;
    let f : InsnFields := ins 2 0 0 0 1 0;
    let c : Fin 32 := 1;
    (s.regsWf = true) ∧ (Ready s t 99 f) ∧ (s.insnIndex t f = ↑c) ∧ ((s.car c).st = CarState.waitt ∨ (s.car c).st = CarState.running ∧ (s.car c).inPath = false) ∧ (s.pstoreWf = true)) ∧
  (let s : State := c1 { Carriage.reset with st := .reserved } 0x1000;
    let t : Fin 8 := 0;
    let f : InsnFields := ins 2 0 0 0 1 0;
    let c : Fin 32 := 1;
    (s.regsWf = true) ∧ (Ready s t 99 f) ∧ (s.insnIndex t f = ↑c) ∧ ((s.car c).st = CarState.reserved)) ∧
  (let s : State := runS .none;
    let t : Fin 8 := 0;
    let f : InsnFields := ins 2 0 0 0 1 0;
    let c : Fin 32 := 1;
    (s.regsWf = true) ∧ (Ready s t 99 f) ∧ (s.insnIndex t f = ↑c) ∧ ((s.car c).st = CarState.idle ∨ (s.car c).st = CarState.stopped ∨ (s.car c).st = CarState.frozen)) ∧
  (let s : State := (runS .none).setGpr 0 3 40;
    let t : Fin 8 := 0;
    let f : InsnFields := ins 2 0 3 0 255 0;
    (s.regsWf = true) ∧ (Ready s t 99 f) ∧ (32 ≤ s.insnIndex t f)) := by
  unfold Ready Quiet; refine ⟨?_, ?_, ?_, ?_, ?_, ?_, ?_⟩ <;> decide +kernel

end CarriageInstructions

namespace PowerAndSnapshotInstructions

/-- Helper of the states below. -/
def fin : State := { waitS (.power 0 1) with power := { State.reset.power with finished := [(0, 5)], nextId := 1 } }

set_option maxRecDepth 100000 in
theorem test_PowerAndSnapshotInstructions_can :
  (let s : State := runS .none;
    let t : Fin 8 := 0;
    let f : InsnFields := ins 1 1 0 0 0 0;
    (s.regsWf = true) ∧ (Ready s t 128 f) ∧ (s.power.queue = [])) ∧
  (let s : State := fin;
    let t : Fin 8 := 0;
    let id : Nat := 0;
    let d : BitVec 4 := 1;
    let m : BitVec 64 := 5;
    (s.regsWf = true) ∧ ((s.thread t).wait = WaitCond.power id d) ∧ (List.find? (fun p => p.1 == id) s.power.finished = some (id, m))) ∧
  (let s : State := waitS (.power 0 1);
    let t : Fin 8 := 0;
    let id : Nat := 0;
    let d : BitVec 4 := 1;
    (s.regsWf = true) ∧ ((s.thread t).wait = WaitCond.power id d) ∧ (List.find? (fun p => p.1 == id) s.power.finished = none)) ∧
  (let s : State := runS .none;
    let t : Fin 8 := 0;
    let f : InsnFields := ins 1 0 0 0 0 0;
    (s.regsWf = true) ∧ (Ready s t 144 f) ∧ (f.mode = 0) ∧ (s.flag aSNAP_STATUS 0 = false)) ∧
  (let s : State := (runS .none).setFlag aSNAP_STATUS 0 true;
    let t : Fin 8 := 0;
    let f : InsnFields := ins 1 0 0 0 0 0;
    (s.regsWf = true) ∧ (Ready s t 144 f) ∧ (f.mode = 0) ∧ (s.flag aSNAP_STATUS 0 = true)) ∧
  (let s : State := runS .none;
    let t : Fin 8 := 0;
    let f : InsnFields := ins 1 0 0 1 0 0;
    (s.regsWf = true) ∧ (Ready s t 144 f) ∧ (f.mode = 1)) := by
  unfold Ready Quiet; refine ⟨?_, ?_, ?_, ?_, ?_, ?_⟩ <;> decide +kernel

end PowerAndSnapshotInstructions

namespace SealAndOutingInstructions

/-- Helper of the states below. -/
def sealS (f : State → State) : State := (let s := (codeS.setReg (aCR_WIN_LIMIT 3) 0x100000000).setThread 0 { Thread.reset with st := .run, g := (Vector.replicate 16 0).set 1 0x2000 }
         let s := { s with grants := [⟨0, 0, 0⟩] }
         let m := Memory.setN (Memory.setN s.pstore 0x2000 8 0) 0x2008 8 0x1000000
         let m := Memory.setN (Memory.setN m 0x2010 8 0x8000000) 0x2018 8 1000000
         let m := Memory.setN (Memory.setN m 0x2020 4 0) 0x2024 4 0x1
         let m := Memory.setN (Memory.setN m 0x2028 1 1) 0x2029 1 0
         let m := Memory.setN (Memory.setN m 0x400000 1 0xFF) 0x4001FF 2 0xFFFF
         f { (s.setReg (aCR_WIN_LIMIT 4) 0x100000000) with pstore := m })

/-- Helper of the states below. -/
def outS : State := (let s := ((headS 0 .l0 4).setReg aTT_CODE_END 0x1000).setReg aOUT_DEVINDEX 0x1000
         let s := s.setReg (aCR_WIN_HEADS 31) 1
         let s := s.setThread 0 { Thread.reset with st := .run, g := (Vector.replicate 16 0).set 1 0x2000 }
         let m := Memory.setN (Memory.setN s.pstore 0x2000 8 1000000) 0x2008 4 0
         let m := Memory.setN (Memory.setN m 0x200C 2 7) 0x200E 2 1
         let m := Memory.setN (Memory.setN m 0x2010 8 0x100000) 0x2018 1 0
         { s with pstore := Memory.setN (Memory.setN m 0x2019 1 31) 0x201A 1 1 })

/-- Helper of the states below. -/
def allTc (s : State) (o : Word) : State := (List.range 64).foldl (fun s n => s.setReg (aTC_OWNER n) o) s

set_option maxRecDepth 100000 in
theorem test_SealAndOutingInstructions_can_1 :
  (let s : State := sealS id;
    let t : Fin 8 := 0;
    let f : InsnFields := ins 2 1 0 0 0 0;
    let i : Fin 4 := 0;
    let n : Fin 64 := 0;
    let base : Nat := 0;
    let len : Nat := 0x1000000;
    let snap : Nat := 0x8000000;
    let tb : Nat := 1000000;
    let sweep : Nat := 1;
    let hold : Fin 32 := 1;
    let a : Nat := BitVec.toNat (s.gpr t f.a);
    (s.regsWf = true) ∧ (f.s8 = BitVec.ofNat 8 ↑i) ∧ (Ready s t 145 f) ∧ (f.mode = 0) ∧ ((s.seal i).st ≠ SealState.armed) ∧ ((s.seal i).st ≠ SealState.active) ∧ (SealDesc s a base len snap tb sweep hold) ∧ (SealApart s base len snap) ∧ (s.sealQuota = true) ∧ (s.tcAny = some n) ∧ (s.pstoreWf = true)) ∧
  (let s : State := sealS (fun s => allTc s 1);
    let t : Fin 8 := 0;
    let f : InsnFields := ins 2 1 0 0 0 0;
    let i : Fin 4 := 0;
    let base : Nat := 0;
    let len : Nat := 0x1000000;
    let snap : Nat := 0x8000000;
    let tb : Nat := 1000000;
    let sweep : Nat := 1;
    let hold : Fin 32 := 1;
    let a : Nat := BitVec.toNat (s.gpr t f.a);
    (s.regsWf = true) ∧ (f.s8 = BitVec.ofNat 8 ↑i) ∧ (Ready s t 145 f) ∧ (f.mode = 0) ∧ ((s.seal i).st ≠ SealState.armed) ∧ ((s.seal i).st ≠ SealState.active) ∧ (SealDesc s a base len snap tb sweep hold) ∧ (SealApart s base len snap) ∧ (s.sealQuota = true) ∧ (s.tcAny = none)) ∧
  (let s : State := sealS (fun s => s.setSeal 0 { Seal.reset with st := .armed, base := 0x10000000, len := 4096, snap := 0x20000000 });
    let t : Fin 8 := 0;
    let f : InsnFields := ins 2 1 0 0 0 0;
    let i : Fin 4 := 0;
    (s.regsWf = true) ∧ (f.s8 = BitVec.ofNat 8 ↑i) ∧ (Ready s t 145 f) ∧ (f.mode = 0) ∧ ((s.seal i).st = SealState.armed ∨ (s.seal i).st = SealState.active)) ∧
  (let s : State := sealS (fun s => s.setGpr 0 1 0x2004);
    let t : Fin 8 := 0;
    let f : InsnFields := ins 2 1 0 0 0 0;
    let i : Fin 4 := 0;
    let a : Nat := BitVec.toNat (s.gpr t f.a);
    (s.regsWf = true) ∧ (f.s8 = BitVec.ofNat 8 ↑i) ∧ (Ready s t 145 f) ∧ (f.mode = 0) ∧ ((s.seal i).st ≠ SealState.armed) ∧ ((s.seal i).st ≠ SealState.active) ∧ (descAddrOk a = false)) ∧
  (let s : State := sealS (fun s => (List.finRange 4).foldl (fun s i => if i = 0 then s else s.setSeal i { Seal.reset with st := .armed, base := 0x10000000 * i.val, len := 4096, snap := 0x20000000 * i.val, staged := List.replicate 512 ⟨0,false,[],[]⟩ }) s);
    let t : Fin 8 := 0;
    let f : InsnFields := ins 2 1 0 0 0 0;
    let i : Fin 4 := 0;
    let base : Nat := 0;
    let len : Nat := 0x1000000;
    let snap : Nat := 0x8000000;
    let tb : Nat := 1000000;
    let sweep : Nat := 1;
    let hold : Fin 32 := 1;
    let a : Nat := BitVec.toNat (s.gpr t f.a);
    (s.regsWf = true) ∧ (f.s8 = BitVec.ofNat 8 ↑i) ∧ (Ready s t 145 f) ∧ (f.mode = 0) ∧ ((s.seal i).st ≠ SealState.armed) ∧ ((s.seal i).st ≠ SealState.active) ∧ (SealDesc s a base len snap tb sweep hold) ∧ (SealApart s base len snap) ∧ (s.sealQuota = false)) ∧
  (let s : State := sealS (fun s => s.setSeal 0 { Seal.reset with st := .armed, base := 0x10000000, len := 4096, snap := 0x20000000 });
    let t : Fin 8 := 0;
    let f : InsnFields := ins 2 0 0 1 0 0;
    let i : Fin 4 := 0;
    (s.regsWf = true) ∧ (f.s8 = BitVec.ofNat 8 ↑i) ∧ (Ready s t 145 f) ∧ (f.mode = 1) ∧ ((s.seal i).st = SealState.armed)) ∧
  (let s : State := sealS id;
    let t : Fin 8 := 0;
    let f : InsnFields := ins 2 0 0 1 0 0;
    let i : Fin 4 := 0;
    (s.regsWf = true) ∧ (f.s8 = BitVec.ofNat 8 ↑i) ∧ (Ready s t 145 f) ∧ (f.mode = 1) ∧ ((s.seal i).st ≠ SealState.armed)) ∧
  (let s : State := sealS id;
    let t : Fin 8 := 0;
    let f : InsnFields := ins 2 0 0 2 0 0;
    let i : Fin 4 := 0;
    (s.regsWf = true) ∧ (f.s8 = BitVec.ofNat 8 ↑i) ∧ (Ready s t 145 f) ∧ (f.mode = 2)) ∧
  (let s : State := outS;
    let t : Fin 8 := 0;
    let f : InsnFields := ins 2 1 0 0 0 0;
    let n : Fin 64 := 0;
    let slot : Fin 8 := 0;
    let launch : Nat := 1000000;
    let head : Nat := 0;
    let chain : Nat := 0;
    let c : Fin 32 := 31;
    let a : Nat := BitVec.toNat (s.gpr t f.a);
    (s.regsWf = true) ∧ (Ready s t 146 f) ∧ (f.mode = 0) ∧ (OutingDesc s a launch head chain c) ∧ (s.slotFree = some slot) ∧ (s.tcAllocate f.s8.toNat = Except.ok n)) ∧
  (let s : State := sealS (fun s => s.setGpr 0 1 0x2004);
    let t : Fin 8 := 0;
    let f : InsnFields := ins 2 1 0 0 0 0;
    let a : Nat := BitVec.toNat (s.gpr t f.a);
    (s.regsWf = true) ∧ (Ready s t 146 f) ∧ (f.mode = 0) ∧ (descAddrOk a = false ∨ s.slotFree = none)) := by
  unfold Ready SealDesc SealApart OutingDesc Quiet; refine ⟨?_, ?_, ?_, ?_, ?_, ?_, ?_, ?_, ?_, ?_⟩ <;> decide +kernel

set_option maxRecDepth 100000 in
theorem test_SealAndOutingInstructions_can_2 :
  (let s : State := allTc outS 2;
    let t : Fin 8 := 0;
    let f : InsnFields := ins 2 1 0 0 0 0;
    let slot : Fin 8 := 0;
    let launch : Nat := 1000000;
    let head : Nat := 0;
    let chain : Nat := 0;
    let c : Fin 32 := 31;
    let e : Nat := 1;
    let a : Nat := BitVec.toNat (s.gpr t f.a);
    (s.regsWf = true) ∧ (Ready s t 146 f) ∧ (f.mode = 0) ∧ (OutingDesc s a launch head chain c) ∧ (s.slotFree = some slot) ∧ (s.tcAllocate f.s8.toNat = Except.error e)) ∧
  (let s : State := ((runS .none).setOuting 1 { Outing.reset with st := .armed, comp := 1, carriage := 1 }).setCar 1 { Carriage.reset with st := .reserved};
    let t : Fin 8 := 0;
    let f : InsnFields := ins 2 0 0 1 1 0;
    let k : Fin 8 := 1;
    (s.regsWf = true) ∧ (Ready s t 146 f) ∧ (f.mode = 1) ∧ (s.sourceClass 54 ≤ 2) ∧ ((s.outing k).st = OutState.armed) ∧ (↑(s.outing k).comp = f.s8.toNat) ∧ (∀ (m : Fin 8), (s.outing m).st = OutState.armed → ↑(s.outing m).comp = f.s8.toNat → m = k)) ∧
  (let s : State := sealS id;
    let t : Fin 8 := 0;
    let f : InsnFields := ins 2 0 0 1 0 0;
    (s.regsWf = true) ∧ (Ready s t 146 f) ∧ (f.mode = 1) ∧ (∀ (m : Fin 8), (s.outing m).st = OutState.armed → ↑(s.outing m).comp ≠ f.s8.toNat)) := by
  unfold Ready OutingDesc Quiet; refine ⟨?_, ?_, ?_⟩ <;> decide +kernel

end SealAndOutingInstructions

namespace FaultAndThreadControl

set_option maxRecDepth 100000 in
theorem test_FaultAndThreadControl_can :
  (let s : State := runS .none;
    let t : Fin 8 := 0;
    let f : InsnFields := ins 0 1 0 0 0 5;
    (Ready s t 160 f) ∧ (f.mode = 0)) ∧
  (let s : State := runS .none;
    let t : Fin 8 := 0;
    let f : InsnFields := ins 0 1 0 1 0 5;
    (Ready s t 160 f) ∧ (f.mode = 1) ∧ (s.sourceClass 7 ≤ 2)) ∧
  (let s : State := runS .none;
    let t : Fin 8 := 0;
    let f : InsnFields := ins 0 1 0 0 0 5;
    (Ready s t 160 f) ∧ (s.regsWf = true) ∧ (s.sourceClass 7 ≤ 2)) ∧
  (let s : State := runS .none;
    let p : Sys2Proof.Path := .mc;
    let v : BitVec 32 := 0;
    (WriteOk s p aTT_HALT 4 (BitVec.setWidth 64 v))) ∧
  (let s : State := runS .none;
    let p : Sys2Proof.Path := .mc;
    let v : BitVec 32 := 0;
    (WriteOk s p aTT_THAW 4 (BitVec.setWidth 64 v))) := by
  unfold Ready WriteOk Quiet; refine ⟨?_, ?_, ?_, ?_, ?_⟩ <;> decide +kernel

end FaultAndThreadControl

namespace MemoryRequestsArrive

/-- Helper of the states below. -/
def cl (n : Nat) (d : Bool) : CacheLine := { line := n, val := ⟨7, false⟩, dirty := d, owner := 0 }

set_option maxRecDepth 100000 in
theorem test_MemoryRequestsArrive_can :
  (let s : State := memS;
    let k : Fin 16 := 0;
    let addr : Nat := 0x10000040;
    let line : Nat := 1;
    (MemServed s k addr line) ∧ (s.regsWf = true) ∧ (s.sourceClass 63 < 2)) ∧
  (let s : State := path memS (fun m => { m with accept := [req (.head 0) .write 1] });
    let k : Fin 16 := 0;
    let addr : Nat := 0x10000040;
    let line : Nat := 1;
    let tag : Nat := 0x10000040;
    (MemServed s k addr line) ∧ (s.blocked (request s k ReqKind.inv false line noData 0 tag) = true)) ∧
  (let s : State := { memS with cache := [cl 1 true] };
    let k : Fin 16 := 0;
    let addr : Nat := 0x10000040;
    let line : Nat := 1;
    (MemServed s k addr line) ∧ ((s.lookup line).isSome = true)) ∧
  (let s : State := memS.setBucket 0 5000;
    let k : Fin 16 := 0;
    let addr : Nat := 0x10000040;
    let line : Nat := 1;
    let c : Fin 32 := 1;
    let cell : Nat := 1;
    (MemServed s k addr line) ∧ (s.lookup line = none) ∧ (LineFree s k line) ∧ (s.place line = some (↑c, cell)) ∧ (s.poolFree c ↑k = true) ∧ (1024 ≤ s.bucket ↑k) ∧ (s.impossible ↑c = false) ∧ (s.journalOf line = []) ∧ (s.windowOpen = false) ∧ (s.domOn (16 + ↑c / 2) = true) ∧ (s.domOn (↑c / 2) = true) ∧ (s.regsWf = true) ∧ (sparseWf (fun _ => 0) s.regul.buckets = true)) ∧
  (let s : State := memS;
    let k : Fin 16 := 0;
    let addr : Nat := 0x10000040;
    let line : Nat := 1;
    let len : Nat := 1;
    (MemServed s k addr line) ∧ (0 < len) ∧ (∀ l ∈ linesOf addr len, ∃ x, s.lineOf k (l * 64) = some x ∧ s.granted k x = true)) ∧
  (let s : State := memS;
    let k : Fin 16 := 0;
    let addr : Nat := 0x10000040;
    let line : Nat := 1;
    let bytes : List Byte := [1,2,3];
    (MemServed s k addr line) ∧ (bytes ≠ []) ∧ (∀ l ∈ linesOf addr bytes.length, ∃ x, s.lineOf k (l * 64) = some x ∧ s.granted k x = true)) := by
  unfold MemServed LineFree Quiet; refine ⟨?_, ?_, ?_, ?_, ?_, ?_⟩ <;> decide +kernel

end MemoryRequestsArrive

namespace HeadViolations

set_option maxRecDepth 100000 in
theorem test_HeadViolations_can :
  (let s : State := memS;
    let k : Fin 16 := 0;
    let addr : Nat := 0x0;
    (Quiet s) ∧ (s.memOpen k = true) ∧ ((s.head k).mode = HeadMode.normal) ∧ (∀ (l : Nat), s.lineOf k addr = some l → s.granted k l = false) ∧ (s.sourceClass 4 = 2)) ∧
  (let s : State := memS;
    let k : Fin 16 := 0;
    let addr : Nat := 0x0;
    (Quiet s) ∧ (s.memOpen k = true) ∧ ((s.head k).mode = HeadMode.normal) ∧ (addr % 64 = 0) ∧ (∀ (l : Nat), s.lineOf k addr = some l → s.granted k l = false) ∧ (s.sourceClass 4 = 2)) ∧
  (let s : State := memS.setHead 0 { memS.head 0 with mode := .frozen 5 };
    let k : Fin 16 := 0;
    let addr : Nat := 0x10000040;
    let w : Nat := 5;
    (Quiet s) ∧ (s.memOpen k = true) ∧ ((s.head k).mode = HeadMode.frozen w) ∧ (∀ (l : Nat), s.lineOf k addr = some l → s.granted k l = true) ∧ ((s.lineOf k addr).isSome = true)) ∧
  (let s : State := memS.setHead 0 { memS.head 0 with mode := .fenced };
    let k : Fin 16 := 0;
    (Quiet s) ∧ (s.memOpen k = true) ∧ ((s.head k).mode = HeadMode.fenced)) ∧
  (let s : State := memS;
    let k : Fin 16 := 0;
    (Quiet s) ∧ (s.memOpen k = true) ∧ ((s.head k).mode ≠ HeadMode.fenced)) := by
  unfold Quiet; refine ⟨?_, ?_, ?_, ?_, ?_⟩ <;> decide +kernel

end HeadViolations

namespace AdmissionAndAcceptance

/-- Helper of the states below. -/
def cl (n : Nat) (d : Bool) : CacheLine := { line := n, val := ⟨7, false⟩, dirty := d, owner := 0 }

/-- Helper of the states below. -/
def b : State := (memS.setBucket 0 5000).setBucket 16 5000

/-- Helper of the states below. -/
def car (p : Piece) : State := b.setCar 0 { Carriage.reset with st := .running, flight := [p] }

/-- Helper of the states below. -/
def sl (f : Seal → Seal) : State := b.setSeal 0 (f { Seal.reset with st := .active, base := 0, len := 0x100000, snap := 0x1000000 })

/-- Helper of the states below. -/
def lw : LineWrite := ⟨0x40001,⟨7,false⟩,BitVec.allOnes 64⟩

/-- Helper of the states below. -/
def p1 : Piece := ⟨0,64,[1],[],[],false,[],[],false⟩

/-- Helper of the states below. -/
def p2 : Piece := ⟨0,64,[],[],[],true,[lw],[],false⟩

/-- Helper of the states below. -/
def rr : Req := { req (.head 0) .read 1 with tag := 3 }

/-- Helper of the states below. -/
def rw : Req := { req (.head 0) .write 1 with tag := 3, val := ⟨9,false⟩ }

/-- Helper of the states below. -/
def ri : Req := { req (.head 0) .inv 1 with tag := 3 }

/-- Helper of the states below. -/
def rep : Repair := { chan := 0, bank := 0, row := 5, spare := 0, moved := 0 }

/-- Helper of the states below. -/
def st : Staged := ⟨0,true,[lw],[]⟩

set_option maxRecDepth 100000 in
theorem test_AdmissionAndAcceptance_can_1 :
  (let s : State := path b (fun m => { m with ports := [rr] });
    let k : Fin 16 := 0;
    let r : Req := rr;
    (Quiet s) ∧ (s.regsWf = true) ∧ (sparseWf (fun _ => 0) s.regul.buckets = true) ∧ (s.headServes k = true) ∧ (s.pickQuick k = none) ∧ (s.admission ↑k ≠ Admission.no) ∧ (s.pickPort k = some r) ∧ (r.uio = false) ∧ (s.admission ↑k = Admission.token)) ∧
  (let s : State := path b (fun m => { m with ports := [rr] });
    let k : Fin 16 := 0;
    let r : Req := rr;
    let c : Fin 32 := 1;
    let cell : Nat := 1;
    (Quiet s) ∧ (s.regsWf = true) ∧ (sparseWf (fun _ => 0) s.regul.buckets = true) ∧ (s.headServes k = true) ∧ (s.pickQuick k = none) ∧ (s.admission ↑k ≠ Admission.no) ∧ (s.pickPort k = some r) ∧ (r.uio = false) ∧ (r.kind = ReqKind.read) ∧ (s.lookup r.line = none) ∧ (s.place r.line = some (↑c, cell)) ∧ (s.impossible ↑c = false)) ∧
  (let s : State := path b (fun m => { m with ports := [rw] });
    let k : Fin 16 := 0;
    let r : Req := rw;
    (Quiet s) ∧ (s.regsWf = true) ∧ (sparseWf (fun _ => 0) s.regul.buckets = true) ∧ (s.headServes k = true) ∧ (s.pickQuick k = none) ∧ (s.admission ↑k ≠ Admission.no) ∧ (s.pickPort k = some r) ∧ (r.uio = false) ∧ (r.kind = ReqKind.write)) ∧
  (let s : State := path b (fun m => { m with ports := [ri] });
    let k : Fin 16 := 0;
    let r : Req := ri;
    (Quiet s) ∧ (s.regsWf = true) ∧ (sparseWf (fun _ => 0) s.regul.buckets = true) ∧ (s.headServes k = true) ∧ (s.pickQuick k = some r) ∧ (r.kind = ReqKind.inv)) ∧
  (let s : State := car p1;
    let c : Fin 32 := 0;
    let i : Nat := 0;
    let p : Piece := p1;
    let r : Req := b.classRead (.carriage 0) 1 0;
    (Quiet s) ∧ (s.regsWf = true) ∧ (sparseWf (fun _ => 0) s.regul.buckets = true) ∧ ((s.car c).wants = true) ∧ (s.carRequest c = some (i, p, r)) ∧ (s.sliceWaits r.line = false) ∧ (s.admission 16 ≠ Admission.no) ∧ (s.classTurn 4 = true) ∧ (s.carBlocked c r = false) ∧ (s.admission 16 = Admission.token)) ∧
  (let s : State := car p1;
    let c : Fin 32 := 0;
    let i : Nat := 0;
    let p : Piece := p1;
    let r : Req := b.classRead (.carriage 0) 1 0;
    let c1 : Fin 32 := 1;
    let cell : Nat := 1;
    (Quiet s) ∧ (s.regsWf = true) ∧ (sparseWf (fun _ => 0) s.regul.buckets = true) ∧ ((s.car c).wants = true) ∧ (s.carRequest c = some (i, p, r)) ∧ (s.sliceWaits r.line = false) ∧ (s.admission 16 ≠ Admission.no) ∧ (s.classTurn 4 = true) ∧ (s.carBlocked c r = false) ∧ (r.kind = ReqKind.read) ∧ (s.lookup r.line = none) ∧ (s.place r.line = some (↑c1, cell)) ∧ (s.impossible ↑c1 = false)) ∧
  (let s : State := car p2;
    let c : Fin 32 := 0;
    let i : Nat := 0;
    let p : Piece := p2;
    let r : Req := b.classWrite (.carriage 0) lw 0;
    (Quiet s) ∧ (s.regsWf = true) ∧ (sparseWf (fun _ => 0) s.regul.buckets = true) ∧ ((s.car c).wants = true) ∧ (s.carRequest c = some (i, p, r)) ∧ (s.sliceWaits r.line = false) ∧ (s.admission 16 ≠ Admission.no) ∧ (s.classTurn 4 = true) ∧ (s.carBlocked c r = false) ∧ (r.kind = ReqKind.write)) ∧
  (let s : State := sl (fun x => { x with heldWrites := [rw] });
    let i : Fin 4 := 0;
    let r : Req := b.classRead (.seal 0) 0 0;
    let c : Fin 32 := 0;
    let cell : Nat := 0;
    let s' : State := s.holdFill i;
    (Quiet s) ∧ (s.regsWf = true) ∧ (sparseWf (fun _ => 0) s.regul.buckets = true) ∧ (s'.holdRequest i = some r) ∧ (s'.sliceWaits r.line = false) ∧ (s'.admission 16 ≠ Admission.no) ∧ (s'.classTurn 1 = true) ∧ (s'.copyBlocked r.line (s'.seal i).tb = false) ∧ (s.lookup r.line = none) ∧ (s.place r.line = some (↑c, cell)) ∧ (s.impossible ↑c = false)) ∧
  (let s : State := sl (fun x => { x with staged := [st] });
    let i : Fin 4 := 0;
    let g : Staged := st;
    let r : Req := b.classWrite (.seal 0) lw 0;
    (Quiet s) ∧ (s.regsWf = true) ∧ (sparseWf (fun _ => 0) s.regul.buckets = true) ∧ (List.find? (fun g => !g.toWrite.isEmpty) (s.seal i).staged = some g) ∧ (s.stageRequest i = some r) ∧ (s.sliceWaits r.line = false) ∧ (s.admission 16 ≠ Admission.no) ∧ (s.classTurn (if g.hold = true then 1 else 4) = true) ∧ (s.blocked r = false) ∧ (s.admission 16 = Admission.token)) ∧
  (let s : State := sl (fun x => { x with staged := [st] });
    let i : Fin 4 := 0;
    let g : Staged := st;
    let r : Req := b.classWrite (.seal 0) lw 0;
    (Quiet s) ∧ (s.regsWf = true) ∧ (sparseWf (fun _ => 0) s.regul.buckets = true) ∧ (List.find? (fun g => !g.toWrite.isEmpty) (s.seal i).staged = some g) ∧ (s.stageRequest i = some r) ∧ (s.sliceWaits r.line = false) ∧ (s.admission 16 ≠ Admission.no) ∧ (s.classTurn (if g.hold = true then 1 else 4) = true) ∧ (s.blocked r = false) ∧ (r.kind = ReqKind.write)) := by
  unfold Quiet; refine ⟨?_, ?_, ?_, ?_, ?_, ?_, ?_, ?_, ?_, ?_⟩ <;> decide +kernel

set_option maxRecDepth 100000 in
theorem test_AdmissionAndAcceptance_can_2 :
  (let s : State := b.setFld (aXR_SI_STATUS 0) 0 2 2;
    let n : Fin 2 := 0;
    (Quiet s) ∧ (s.regsWf = true) ∧ (sparseWf (fun _ => 0) s.regul.buckets = true) ∧ (s.siFillWants ↑n = true) ∧ (s.admission 16 ≠ Admission.no) ∧ (s.classTurn 2 = true) ∧ (s.admission 16 = Admission.token)) ∧
  (let s : State := { b with filling := [⟨3,5,2⟩] };
    let r : Req := b.classWrite .zeroFill (wholeLine (3 * blockLines + 5) noData) 0;
    (Quiet s) ∧ (s.regsWf = true) ∧ (sparseWf (fun _ => 0) s.regul.buckets = true) ∧ (s.zeroRequest = some r) ∧ (s.sliceWaits r.line = false) ∧ (s.admission 16 ≠ Admission.no) ∧ (s.classTurn 3 = true) ∧ (s.blocked r = false) ∧ (s.admission 16 = Admission.token)) ∧
  (let s : State := { b with integ := { b.integ with repairing := some rep } };
    let q : Repair := rep;
    (Quiet s) ∧ (s.regsWf = true) ∧ (sparseWf (fun _ => 0) s.regul.buckets = true) ∧ (s.integ.repairing = some q) ∧ (q.moved < 64) ∧ (s.admission 16 ≠ Admission.no) ∧ (s.classTurn 4 = true) ∧ (s.admission 16 = Admission.token)) ∧
  (let s : State := path b (fun m => { m with ports := [rr] });
    (Quiet s) ∧ (s.regsWf = true) ∧ (sparseWf (fun _ => 0) s.regul.buckets = true) ∧ (s.admission 16 = Admission.no)) ∧
  (let s : State := path b (fun m => { m with missQ := [rr] });
    let i : Nat := 0;
    let r : Req := rr;
    let c : Fin 32 := 1;
    let cell : Nat := 1;
    (Quiet s) ∧ (s.regsWf = true) ∧ (sparseWf (fun _ => 0) s.regul.buckets = true) ∧ (s.mem.missQ[i]? = some r) ∧ (s.place r.line = some (↑c, cell)) ∧ (s.impossible ↑c = false) ∧ (s.poolFree c r.src.master = true) ∧ (s.mergeAhead r = false) ∧ (((List.take i s.mem.missQ).any fun q => q.line == r.line && q.src == r.src) = false) ∧ (sparseWf (fun _ => 0) s.regul.resume = true)) ∧
  (let s : State := path b (fun m => { m with accept := [rw, rw] });
    let i : Nat := 1;
    let r : Req := rw;
    (Quiet s) ∧ (s.regsWf = true) ∧ (sparseWf (fun _ => 0) s.regul.buckets = true) ∧ (s.mem.accept[i]? = some r) ∧ (s.acceptBlocked i r = true)) ∧
  (let s : State := path { b with cache := [cl 1 true] } (fun m => { m with accept := [rw] });
    let i : Nat := 0;
    let r : Req := rw;
    let k : Fin 16 := 0;
    let l : CacheLine := cl 1 true;
    (Quiet s) ∧ (s.regsWf = true) ∧ (sparseWf (fun _ => 0) s.regul.buckets = true) ∧ (s.mem.accept[i]? = some r) ∧ (s.acceptBlocked i r = false) ∧ (s.sliceWaits r.line = false) ∧ (r.src = Src.head k) ∧ (r.uio = false) ∧ ((s.head k).up = true) ∧ (s.sealHolds r = none) ∧ (s.lookup r.line = some l)) ∧
  (let s : State := path b (fun m => { m with accept := [rw, rw] });
    let i : Nat := 0;
    let r : Req := rw;
    let k : Fin 16 := 0;
    let c : Fin 32 := 1;
    let cell : Nat := 1;
    (Quiet s) ∧ (s.regsWf = true) ∧ (sparseWf (fun _ => 0) s.regul.buckets = true) ∧ (s.mem.accept[i]? = some r) ∧ (s.acceptBlocked i r = false) ∧ (s.sliceWaits r.line = false) ∧ (r.src = Src.head k) ∧ (r.uio = false) ∧ ((s.head k).up = true) ∧ (s.sealHolds r = none) ∧ (s.cached r.line = none) ∧ (fullMask r.mask = true) ∧ (s.place r.line = some (↑c, cell)) ∧ (s.impossible ↑c = false) ∧ (∀ e ∈ s.mem.journal, e.seq < s.mem.nextSeq) ∧ ((s.sliceDom r.line).st = DomState.on) ∧ ((s.sliceDom r.line).moving = none) ∧ ((List.filter (fun x => lineSlice x.line == lineSlice r.line && lineSet x.line == lineSet r.line) s.cache).length < 16)) ∧
  (let s : State := path (sl id) (fun m => { m with accept := [rw] });
    let i : Nat := 0;
    let r : Req := rw;
    let j : Fin 4 := 0;
    (Quiet s) ∧ (s.regsWf = true) ∧ (sparseWf (fun _ => 0) s.regul.buckets = true) ∧ (s.mem.accept[i]? = some r) ∧ (s.acceptBlocked i r = false) ∧ (s.sliceWaits r.line = false) ∧ (s.sealHolds r = some j)) := by
  unfold Quiet; refine ⟨?_, ?_, ?_, ?_, ?_, ?_, ?_, ?_, ?_⟩ <;> decide +kernel

end AdmissionAndAcceptance

namespace ChannelPick

/-- Helper of the states below. -/
def bank (r : Option Nat) : Bank := ⟨r, 0, 0, 0, 0, 0, 0⟩

/-- Helper of the states below. -/
def pe (l : Nat) : PoolEntry := ⟨req (.head 0) .read l, none, false, none, false⟩

/-- Helper of the states below. -/
def c0 (f : Channel → Channel) : State := at_ (State.reset.setChan 0 (f Channel.reset)) 0 100000

/-- Helper of the states below. -/
def je (n l : Nat) : JEntry := ⟨n, some n, l, ⟨1,false⟩, BitVec.allOnes 64, some (.head 0), 0, .buffer⟩

/-- Helper of the states below. -/
def cw (f : Channel → Channel) : State := let s := c0 f; { s with mem := { s.mem with journal := [je 0 0, je 1 64], nextSeq := 2 } }

set_option maxRecDepth 100000 in
theorem test_ChannelPick_can :
  (let s : State := c0 (fun c => { c with slotFree := 1000000 });
    let c : Fin 32 := 0;
    (Quiet s) ∧ (s.picking c = false)) ∧
  (let s : State := c0 (fun c => { c with pool := [pe 0] });
    let c : Fin 32 := 0;
    let b : Nat := 0;
    let row : Nat := 0;
    let s' : State := s.setChan c (s.pickMode c);
    (Quiet s) ∧ (s.picking c = true) ∧ (s'.pick c = Pick.act b row)) ∧
  (let s : State := c0 (fun c => { c with pool := [pe 0], banks := [(0, bank (some 5))] });
    let c : Fin 32 := 0;
    let b : Nat := 0;
    let s' : State := s.setChan c (s.pickMode c);
    (Quiet s) ∧ (s.picking c = true) ∧ (s'.pick c = Pick.pre b)) ∧
  (let s : State := cw (fun c => { c with wbuf := [[0],[1]], banks := [(0, bank (some 0))] });
    let c : Fin 32 := 0;
    let b : Nat := 0;
    let r : PickReq := ⟨0,0,0,true,false⟩;
    let s' : State := s.setChan c (s.pickMode c);
    (Quiet s) ∧ (s.picking c = true) ∧ (s'.pick c = Pick.column b r) ∧ (r.write = true)) ∧
  (let s : State := c0 (fun c => { c with pool := [pe 0], banks := [(0, bank (some 0))] });
    let c : Fin 32 := 0;
    let b : Nat := 0;
    let r : PickReq := ⟨0,0,0,false,false⟩;
    let s' : State := s.setChan c (s.pickMode c);
    (Quiet s) ∧ (s.picking c = true) ∧ (s'.pick c = Pick.column b r) ∧ (r.write = false)) ∧
  (let s : State := c0 (fun c => { c with pool := [pe 0] });
    let c : Fin 32 := 1;
    let s' : State := s.setChan c (s.pickMode c);
    (Quiet s) ∧ (s.picking c = true) ∧ (s'.pick c = Pick.nothing)) := by
  unfold Quiet; refine ⟨?_, ?_, ?_, ?_, ?_, ?_⟩ <;> decide +kernel

end ChannelPick

namespace ChannelData

/-- Helper of the states below. -/
def pe (l : Nat) : PoolEntry := ⟨req (.head 0) .read l, some 0, false, none, false⟩

/-- Helper of the states below. -/
def c0 (f : Channel → Channel) : State := let s := at_ (memS.setChan 0 (f Channel.reset)) 0 100000; s

/-- Helper of the states below. -/
def je (n l : Nat) : JEntry := ⟨n, some n, l, ⟨1,false⟩, BitVec.allOnes 64, some (.head 0), 0, .buffer⟩

/-- Helper of the states below. -/
def cw (f : Channel → Channel) : State := let s := c0 f; { s with mem := { s.mem with journal := [je 0 0, je 1 64], nextSeq := 2 } }

set_option maxRecDepth 100000 in
theorem test_ChannelData_can :
  (let s : State := c0 id;
    let c : Fin 32 := 0;
    (Quiet s) ∧ (s.regsWf = true) ∧ (s.replaying ↑c = false) ∧ (s.arrivedRead c false = none)) ∧
  (let s : State := c0 (fun c => { c with pool := [{ pe 0 with fwd := some ⟨6,false⟩ }] });
    let c : Fin 32 := 0;
    let i : Nat := 0;
    let e : PoolEntry := { pe 0 with fwd := some ⟨6,false⟩ };
    let v : LineVal := ⟨6,false⟩;
    (Quiet s) ∧ (s.regsWf = true) ∧ (s.replaying ↑c = false) ∧ (s.arrivedRead c false = some (i, e)) ∧ (e.fwd = some v) ∧ (e.req.kind = ReqKind.read)) ∧
  (let s : State := c0 (fun c => { c with pool := [pe 0] });
    let c : Fin 32 := 0;
    let errors : List (Nat × Byte) := [];
    let i : Nat := 0;
    let e : PoolEntry := pe 0;
    let v : LineVal := ⟨0,false⟩;
    (Quiet s) ∧ (s.regsWf = true) ∧ (s.replaying ↑c = false) ∧ (s.arrivedRead c false = some (i, e)) ∧ (e.fwd = none) ∧ (e.req.kind = ReqKind.read) ∧ (decode (s.erasures ↑c) (s.burstWord e.req.line errors) = Decoded.line v [])) ∧
  (let s : State := c0 (fun c => { c with pool := [pe 0] });
    let c : Fin 32 := 0;
    let errors : List (Nat × Byte) := [(0,1)];
    let i : Nat := 0;
    let e : PoolEntry := pe 0;
    let v : LineVal := ⟨0,false⟩;
    let x : Nat := 0;
    let xs : List Nat := [];
    (Quiet s) ∧ (s.regsWf = true) ∧ (s.replaying ↑c = false) ∧ (s.arrivedRead c false = some (i, e)) ∧ (e.fwd = none) ∧ (e.req.kind = ReqKind.read) ∧ (decode (s.erasures ↑c) (s.burstWord e.req.line errors) = Decoded.line v (x :: xs))) ∧
  (let s : State := c0 (fun c => { c with pool := [pe 0] });
    let c : Fin 32 := 0;
    let errors : List (Nat × Byte) := [(0, 1), (1, 2), (2, 3), (3, 4), (4, 5), (5, 6)];
    let i : Nat := 0;
    let e : PoolEntry := pe 0;
    (Quiet s) ∧ (s.regsWf = true) ∧ (s.replaying ↑c = false) ∧ (s.arrivedRead c false = some (i, e)) ∧ (e.fwd = none) ∧ (decode (s.erasures ↑c) (s.burstWord e.req.line errors) = Decoded.uncorrectable) ∧ (((s.chan c).decodes.all fun b => !b) = true)) ∧
  (let s : State := c0 (fun c => { c with pool := [{ pe 0 with retry := true }] });
    let c : Fin 32 := 0;
    let errors : List (Nat × Byte) := [];
    let i : Nat := 0;
    let e : PoolEntry := { pe 0 with retry := true };
    let v : LineVal := ⟨0,false⟩;
    (Quiet s) ∧ (s.regsWf = true) ∧ (s.replaying ↑c = false) ∧ (s.arrivedRead c true = some (i, e)) ∧ (e.req.kind = ReqKind.read) ∧ (decode (s.erasures ↑c) (s.burstWord e.req.line errors) = Decoded.line v [])) ∧
  (let s : State := c0 (fun c => { c with pool := [{ pe 0 with retry := true }] });
    let c : Fin 32 := 0;
    let errors : List (Nat × Byte) := [(0, 1), (1, 2), (2, 3), (3, 4), (4, 5), (5, 6)];
    let i : Nat := 0;
    let e : PoolEntry := { pe 0 with retry := true };
    (Quiet s) ∧ (s.regsWf = true) ∧ (s.replaying ↑c = false) ∧ (s.arrivedRead c true = some (i, e)) ∧ (e.req.kind = ReqKind.read) ∧ (e.req.src ≠ Src.scrub) ∧ (decode (s.erasures ↑c) (s.burstWord e.req.line errors) = Decoded.uncorrectable)) ∧
  (let s : State := c0 id;
    let c : Fin 32 := 0;
    (Quiet s) ∧ (s.regsWf = true) ∧ (s.replaying ↑c = false) ∧ (s.arrivedRead c true = none)) ∧
  (let s : State := cw (fun c => { c with writing := [([0],0)] });
    let c : Fin 32 := 0;
    let ns : List Nat := [0];
    let fin : Nat := 0;
    let rest : List (List Nat × Nat) := [];
    let e : JEntry := je 0 0;
    let p : Nat × Nat := (0,0);
    (Quiet s) ∧ (s.regsWf = true) ∧ (s.replaying ↑c = false) ∧ ((s.chan c).writing = (ns, fin) :: rest) ∧ (fin ≤ s.cyc) ∧ (ns.head?.bind s.jEntry = some e) ∧ (s.place e.line = some p) ∧ (s.mem.installs = []) ∧ (∀ j ∈ s.mem.journal, j.place ≠ JPlace.install) ∧ (s.dramWf = true)) ∧
  (let s : State := cw (fun c => { c with writing := [([0],1000000)] });
    let c : Fin 32 := 0;
    let ns : List Nat := [0];
    let fin : Nat := 1000000;
    let rest : List (List Nat × Nat) := [];
    (Quiet s) ∧ (s.regsWf = true) ∧ (s.replaying ↑c = false) ∧ ((s.chan c).writing = (ns, fin) :: rest) ∧ (s.cyc < fin)) := by
  unfold Quiet; refine ⟨?_, ?_, ?_, ?_, ?_, ?_, ?_, ?_, ?_, ?_⟩ <;> decide +kernel

end ChannelData

namespace HeadEvents

/-- Helper of the states below. -/
def h0 (f : Head → Head) : State := memS.setHead 0 (f (memS.head 0))

set_option maxRecDepth 100000 in
theorem test_HeadEvents_can_1 :
  (let s : State := memS;
    let k : Fin 16 := 0;
    ((s.head k).up = true)) ∧
  (let s : State := memS;
    let k : Fin 16 := 0;
    let off : BitVec 6 := 0;
    let a : Nat := off.toNat / 4 * 4;
    (MailOk s k) ∧ (a ≠ 32) ∧ (a ≠ 36) ∧ (a ≠ 40) ∧ (a ≠ 44)) ∧
  (let s : State := memS;
    let k : Fin 16 := 0;
    let off : BitVec 6 := 0x20;
    let a : Nat := off.toNat / 4 * 4;
    (MailOk s k) ∧ (a = 32)) ∧
  (let s : State := memS;
    let k : Fin 16 := 0;
    let off : BitVec 6 := 0x28;
    let a : Nat := off.toNat / 4 * 4;
    (MailOk s k) ∧ (a = 40)) ∧
  (let s : State := memS;
    let k : Fin 16 := 0;
    let off : BitVec 6 := 0x24;
    let a : Nat := off.toNat / 4 * 4;
    (MailOk s k) ∧ (a = 36)) ∧
  (let s : State := memS;
    let k : Fin 16 := 0;
    let off : BitVec 6 := 0x2C;
    let a : Nat := off.toNat / 4 * 4;
    (MailOk s k) ∧ (a = 44)) ∧
  (let s : State := memS;
    let k : Fin 16 := 0;
    let off : BitVec 12 := 0x1c;
    (MailOk s k) ∧ (off.toNat / 4 * 4 ≠ 0) ∧ (off.toNat / 4 * 4 ≠ 24)) ∧
  (let s : State := memS;
    let k : Fin 16 := 0;
    let off : BitVec 12 := 0x18;
    (MailOk s k) ∧ (off.toNat / 4 * 4 = 24)) ∧
  (let s : State := headS 0 .l0 4;
    let k : Fin 16 := 0;
    let base : BitVec 64 := 0;
    let size : BitVec 64 := 0x20000000;
    let dpa : BitVec 64 := 0;
    let a : Nat := 0x10000040;
    (MailOk s k) ∧ ((s.head k).hdm = []) ∧ (base.toNat % 2 ^ 28 = 0) ∧ (size.toNat % 2 ^ 28 = 0) ∧ (dpa.toNat % 2 ^ 28 = 0) ∧ (base.toNat ≤ a) ∧ (a < base.toNat + size.toNat)) ∧
  (let s : State := headS 0 .l0 4;
    let k : Fin 16 := 0;
    let base : BitVec 64 := 0;
    let size : BitVec 64 := 0;
    let dpa : BitVec 64 := 0;
    let a : Nat := 0x10000040;
    (MailOk s k) ∧ ((s.head k).hdm = []) ∧ (base.toNat % 2 ^ 28 = 0) ∧ (size.toNat % 2 ^ 28 = 0) ∧ (dpa.toNat % 2 ^ 28 = 0) ∧ (a < base.toNat ∨ base.toNat + size.toNat ≤ a)) := by
  unfold MailOk Quiet; refine ⟨?_, ?_, ?_, ?_, ?_, ?_, ?_, ?_, ?_, ?_⟩ <;> decide +kernel

set_option maxRecDepth 100000 in
theorem test_HeadEvents_can_2 :
  (let s : State := at_ (h0 (fun h => { h with mode := .frozen 5 })) 0 9;
    let k : Fin 16 := 0;
    let until_ : Nat := 5;
    (Quiet s) ∧ ((s.head k).mode = HeadMode.frozen until_) ∧ (until_ ≤ s.cyc)) ∧
  (let s : State := h0 (fun h => { h with mode := .frozen 5 });
    let k : Fin 16 := 0;
    let until_ : Nat := 5;
    ((s.head k).mode = HeadMode.frozen until_) ∧ (s.cyc < until_)) := by
  unfold Quiet; refine ⟨?_, ?_⟩ <;> decide +kernel

end HeadEvents

namespace FlushAndHoldCopy

/-- Helper of the states below. -/
def hc : HoldCopy := ⟨3, [], [], (List.range' (3*64) 64).map (fun l => (l, ⟨BitVec.ofNat 512 l,false⟩))⟩

set_option maxRecDepth 100000 in
theorem test_FlushAndHoldCopy_can :
  (let s : State := { State.reset with cache := [⟨1, ⟨0, false⟩, true, 0⟩,⟨2, ⟨0, false⟩, false, 0⟩] };
    let p : Sys2Proof.Path := .mc;
    let v : BitVec 32 := 1;
    (WriteOk s p aLC_CTRL 4 (BitVec.setWidth 64 v)) ∧ (v.getLsbD 0 = true) ∧ (s.regsWf = true)) ∧
  (let s : State := { State.reset with cache := [⟨1, ⟨0, false⟩, true, 0⟩,⟨2, ⟨0, false⟩, false, 0⟩] };
    (Quiet s) ∧ (s.regsWf = true) ∧ (s.mem.flush = [])) ∧
  (let s : State := State.reset.setSeal 0 { Seal.reset with st := .active, base := 0x1000, snap := 0x1000000, len := 4096 * 64, tb := 5, heldWrites := [req (.head 0) .write 193], copies := [hc] };
    let i : Fin 4 := 0;
    let g : Nat := 3;
    let h : HoldCopy := hc;
    (Quiet s) ∧ (s.pstoreWf = true) ∧ ((s.seal i).st = SealState.active) ∧ (List.find? (fun h => h.granule == g) (s.seal i).copies = some h) ∧ (h.toRead = []) ∧ (h.asked = [])) ∧
  (let s : State := { State.reset with cache := [⟨1, ⟨0, false⟩, true, 0⟩,⟨2, ⟨0, false⟩, false, 0⟩] };
    let i : Fin 4 := 0;
    let g : Nat := 3;
    (List.find? (fun h => h.granule == g) (s.seal i).copies = none)) := by
  unfold WriteOk Quiet; refine ⟨?_, ?_, ?_, ?_⟩ <;> decide +kernel

end FlushAndHoldCopy

namespace HaltOpens

/-- Helper of the states below. -/
def hs (f : Halts → Halts) (n c : Nat) : State := at_ { (State.reset.setChan 0 { Channel.reset with banks := [(0, ⟨some 1,0,0,0,0,0,0⟩), (3, ⟨some 1,0,0,0,0,0,0⟩)] }) with halt := f Halts.reset } n c

set_option maxRecDepth 100000 in
theorem test_HaltOpens_can :
  (let s : State := hs id 4000 8000;
    let v : Nat := 4000;
    (s.gridDue = some v) ∧ (s.regsWf = true) ∧ (s.windowOpen = false) ∧ (s.pins.held = false)) ∧
  (let s : State := hs (fun h => { h with openAt := some 7900 }) 4000 8000;
    let v : Nat := 4000;
    (s.gridDue = some v) ∧ (s.regsWf = true) ∧ (s.windowOpen = true)) ∧
  (let s : State := { hs id 4000 8000 with pins := { State.reset.pins with held := true } };
    let v : Nat := 4000;
    (s.gridDue = some v) ∧ (s.regsWf = true) ∧ (s.windowOpen = false) ∧ (s.pins.held = true)) := by
  refine ⟨?_, ?_, ?_⟩ <;> decide +kernel

end HaltOpens

namespace HaltEvents

/-- Helper of the states below. -/
def hs (f : Halts → Halts) (n c : Nat) : State := at_ { (State.reset.setChan 0 { Channel.reset with banks := [(0, ⟨some 1,0,0,0,0,0,0⟩), (3, ⟨some 1,0,0,0,0,0,0⟩)], pool := [⟨req (.head 0) .read 64, none, false, none, false⟩] }).setChan 1 { Channel.reset with banks := [(0, ⟨some 1,0,0,0,0,0,0⟩), (3, ⟨some 1,0,0,0,0,0,0⟩)]} with halt := f Halts.reset } n c

set_option maxRecDepth 100000 in
theorem test_HaltEvents_can_1 :
  (let s : State := hs id 3968 7936;
    (Quiet s) ∧ (s.regsWf = true) ∧ (s.halt.preclosed = false) ∧ (0 < s.nextHaltIn) ∧ (s.nextHaltIn ≤ 64)) ∧
  (let s : State := hs (fun h => { h with preclosed := true }) 3968 7936;
    (Quiet s) ∧ (s.regsWf = true) ∧ (s.halt.preclosed = true) ∧ (s.nextHaltIn ≤ 64)) ∧
  (let s : State := hs id 3000 6000;
    (Quiet s) ∧ (s.regsWf = true) ∧ (64 < s.nextHaltIn)) ∧
  (let s : State := hs (fun h => { h with openAt := some 8000 }) 4014 8028;
    let c : Nat := 8000;
    (Quiet s) ∧ (s.regsWf = true) ∧ (s.halt.openAt = some c) ∧ (c + 28 ≤ s.cyc) ∧ (s.halt.refabDone = false)) ∧
  (let s : State := hs (fun h => { h with openAt := some 8000 }) 4400 8800;
    let c : Nat := 8000;
    (Quiet s) ∧ (s.regsWf = true) ∧ (s.halt.openAt = some c) ∧ (c + 800 ≤ s.cyc)) ∧
  (let s : State := hs (fun h => { h with openAt := some 8000 }) 4014 8028;
    let c : Nat := 8000;
    (Quiet s) ∧ (s.regsWf = true) ∧ (s.halt.openAt = some c) ∧ (s.cyc < c + 800)) ∧
  (let s : State := hs (fun h => { h with deferred := 2}) 4400 8800;
    (Quiet s) ∧ (s.regsWf = true) ∧ (s.windowOpen = false) ∧ (0 < s.halt.deferred) ∧ (s.pins.held = false)) ∧
  (let s : State := hs id 3968 7936;
    (Quiet s) ∧ (s.regsWf = true) ∧ (s.windowOpen = true ∨ s.halt.deferred = 0)) ∧
  (let s : State := hs (fun h => { h with lastGrid := some 4000, phase := 1500 }) 4000 8000;
    (Quiet s) ∧ (s.regsWf = true) ∧ (s.halt.commitAt = none) ∧ (s.windowOpen = false) ∧ (s.pins.held = false) ∧ (s.guardLeft ≤ 200) ∧ (s.guardLeft < s.cyclesTo s.gridNext) ∧ (s.halt.deferred = 0)) ∧
  (let s : State := hs (fun h => { h with lastGrid := some 4000, phase := 1500 }) 4100 8200;
    (Quiet s) ∧ (s.regsWf = true) ∧ (s.pins.held = false) ∧ (s.windowOpen = false) ∧ ((∃ c, s.halt.commitAt = some c ∧ c ≤ s.cyc) ∨
      s.halt.commitAt = none ∧ s.guardLeft = 0 ∧ s.gridDue = none ∧ s.halt.deferred = 0) ∧ (s.sourceClass 41 ≤ 2)) := by
  unfold Quiet; refine ⟨?_, ?_, ?_, ?_, ?_, ?_, ?_, ?_, ?_, ?_⟩ <;> decide +kernel

set_option maxRecDepth 100000 in
theorem test_HaltEvents_can_2 :
  (let s : State := { hs id 4000 8000 with pins := { State.reset.pins with held := true } };
    (Quiet s) ∧ (s.regsWf = true) ∧ (s.pins.held = true)) := by
  unfold Quiet; decide +kernel

end HaltEvents

namespace HaltTimetable

/-- Helper of the states below. -/
def hs (f : Halts → Halts) (n c : Nat) : State := at_ { State.reset with halt := f Halts.reset } n c

set_option maxRecDepth 100000 in
theorem test_HaltTimetable_can :
  (let s : State := hs id 4000 8000;
    let v : Nat := 4000;
    (s.gridDue = some v)) := by
  decide +kernel

end HaltTimetable

namespace MovingDescriptorsStart

/-- Helper of the states below. -/
def pk (s : State) : State := (s.setHead 0 { Head.reset with link := .l0 }).setReg (aCR_WIN_HEADS 0) 1

set_option maxRecDepth 100000 in
theorem test_MovingDescriptorsStart_can_1 :
  (let s : State := carS 1 0 0 0 0x1020 100;
    let c : Fin 32 := 0;
    let d : Desc := s.readDesc (s.car c).desc;
    (Quiet s) ∧ (s.mayStart c = true) ∧ (s.chainOk (s.car c).desc = true) ∧ (BitVec.toNat d.op = 1) ∧ ((s.car c).share = none) ∧ ((s.car c).post = none) ∧ ((s.car c).flight = []) ∧ (s.descOk c (s.car c).desc d = true) ∧ (s.offendingAny c d.ranges = none) ∧ ((s.car c).done = 0) ∧ ((s.car c).entry = 0) ∧ (0 < BitVec.toNat d.o2)) ∧
  (let s : State := carS 2 0 0 0x1020 100 0;
    let c : Fin 32 := 0;
    let d : Desc := s.readDesc (s.car c).desc;
    (Quiet s) ∧ (s.mayStart c = true) ∧ (s.chainOk (s.car c).desc = true) ∧ (BitVec.toNat d.op = 2) ∧ ((s.car c).share = none) ∧ ((s.car c).post = none) ∧ ((s.car c).flight = []) ∧ (s.descOk c (s.car c).desc d = true) ∧ (s.offendingAny c d.ranges = none) ∧ ((s.car c).done = 0) ∧ ((s.car c).entry = 0) ∧ (0 < BitVec.toNat d.o1)) ∧
  (let s : State := carS 3 0 0 0x20 0 100;
    let c : Fin 32 := 0;
    let d : Desc := s.readDesc (s.car c).desc;
    (Quiet s) ∧ (s.mayStart c = true) ∧ (s.chainOk (s.car c).desc = true) ∧ (BitVec.toNat d.op = 3) ∧ ((s.car c).share = none) ∧ ((s.car c).post = none) ∧ ((s.car c).flight = []) ∧ (s.descOk c (s.car c).desc d = true) ∧ (s.offendingAny c d.ranges = none) ∧ ((s.car c).done = 0) ∧ ((s.car c).entry = 0) ∧ (0 < BitVec.toNat d.o2)) ∧
  (let s : State := carS 4 0 0 0x20 100 0;
    let c : Fin 32 := 0;
    let d : Desc := s.readDesc (s.car c).desc;
    (Quiet s) ∧ (s.mayStart c = true) ∧ (s.chainOk (s.car c).desc = true) ∧ (BitVec.toNat d.op = 4) ∧ ((s.car c).share = none) ∧ ((s.car c).post = none) ∧ ((s.car c).flight = []) ∧ (s.descOk c (s.car c).desc d = true) ∧ (s.offendingAny c d.ranges = none) ∧ ((s.car c).done = 0) ∧ ((s.car c).entry = 0) ∧ (0 < BitVec.toNat d.o1)) ∧
  (let s : State := pk (carS 7 0 0 0 0x1020 96);
    let c : Fin 32 := 0;
    let d : Desc := s.readDesc (s.car c).desc;
    (Quiet s) ∧ (s.mayStart c = true) ∧ (s.chainOk (s.car c).desc = true) ∧ (BitVec.toNat d.op = 7) ∧ ((s.car c).share = none) ∧ ((s.car c).post = none) ∧ ((s.car c).flight = []) ∧ (s.descOk c (s.car c).desc d = true) ∧ (s.offendingAny c d.ranges = none) ∧ ((s.car c).done = 0) ∧ ((s.car c).entry = 0) ∧ (0 < BitVec.toNat d.o2)) ∧
  (let s : State := pk (carS 8 0 0 0x1020 0 96);
    let c : Fin 32 := 0;
    let k : Fin 16 := 0;
    let d : Desc := s.readDesc (s.car c).desc;
    (Quiet s) ∧ (s.mayStart c = true) ∧ (s.chainOk (s.car c).desc = true) ∧ (BitVec.toNat d.op = 8) ∧ ((s.car c).share = none) ∧ ((s.car c).post = none) ∧ ((s.car c).flight = []) ∧ (s.descOk c (s.car c).desc d = true) ∧ (s.offendingAny c d.ranges = none) ∧ ((s.car c).done = 0) ∧ ((s.car c).entry = 0) ∧ (d.head.toNat = ↑k) ∧ ((s.head k).up = true) ∧ (0 < BitVec.toNat d.o2)) ∧
  (let s : State := carS 1 3 0 0 0x1020 100;
    let c : Fin 32 := 0;
    let op : Nat := 1;
    let d : Desc := s.readDesc (s.car c).desc;
    (Quiet s) ∧ (s.mayStart c = true) ∧ (s.chainOk (s.car c).desc = true) ∧ (BitVec.toNat d.op = op) ∧ ((s.car c).share = none) ∧ ((s.car c).post = none) ∧ ((s.car c).flight = []) ∧ (s.descOk c (s.car c).desc d = false)) ∧
  (let s : State := carS 1 0 0 0 0x10000000 100;
    let c : Fin 32 := 0;
    let op : Nat := 1;
    let d : Desc := s.readDesc (s.car c).desc;
    (Quiet s) ∧ (s.mayStart c = true) ∧ (s.chainOk (s.car c).desc = true) ∧ (BitVec.toNat d.op = op) ∧ ((s.car c).share = none) ∧ ((s.car c).post = none) ∧ ((s.car c).flight = []) ∧ (s.descOk c (s.car c).desc d = true) ∧ ((s.offendingAny c d.ranges).isSome = true) ∧ (s.sourceClass 6 = 2)) ∧
  (let s : State := carS 2 0x40 0 0 0x1020 100;
    let c : Fin 32 := 0;
    let op : Nat := 2;
    let d : Desc := s.readDesc (s.car c).desc;
    (Quiet s) ∧ (s.mayStart c = true) ∧ (s.chainOk (s.car c).desc = true) ∧ (BitVec.toNat d.op = op) ∧ ((s.car c).share = none) ∧ ((s.car c).post = none) ∧ ((s.car c).flight = []) ∧ (s.descOk c (s.car c).desc d = false)) ∧
  (let s : State := carS 2 0 0 0x10000000 100 0;
    let c : Fin 32 := 0;
    let op : Nat := 2;
    let d : Desc := s.readDesc (s.car c).desc;
    (Quiet s) ∧ (s.mayStart c = true) ∧ (s.chainOk (s.car c).desc = true) ∧ (BitVec.toNat d.op = op) ∧ ((s.car c).share = none) ∧ ((s.car c).post = none) ∧ ((s.car c).flight = []) ∧ (s.descOk c (s.car c).desc d = true) ∧ ((s.offendingAny c d.ranges).isSome = true) ∧ (s.sourceClass 6 = 2)) := by
  unfold Quiet; refine ⟨?_, ?_, ?_, ?_, ?_, ?_, ?_, ?_, ?_, ?_⟩ <;> decide +kernel

set_option maxRecDepth 100000 in
theorem test_MovingDescriptorsStart_can_2 :
  (let s : State := carS 3 0x40 0 0 0x1020 100;
    let c : Fin 32 := 0;
    let op : Nat := 3;
    let d : Desc := s.readDesc (s.car c).desc;
    (Quiet s) ∧ (s.mayStart c = true) ∧ (s.chainOk (s.car c).desc = true) ∧ (BitVec.toNat d.op = op) ∧ ((s.car c).share = none) ∧ ((s.car c).post = none) ∧ ((s.car c).flight = []) ∧ (s.descOk c (s.car c).desc d = false)) ∧
  (let s : State := carS 3 0 0 0x10000000 0 100;
    let c : Fin 32 := 0;
    let op : Nat := 3;
    let d : Desc := s.readDesc (s.car c).desc;
    (Quiet s) ∧ (s.mayStart c = true) ∧ (s.chainOk (s.car c).desc = true) ∧ (BitVec.toNat d.op = op) ∧ ((s.car c).share = none) ∧ ((s.car c).post = none) ∧ ((s.car c).flight = []) ∧ (s.descOk c (s.car c).desc d = true) ∧ ((s.offendingAny c d.ranges).isSome = true) ∧ (s.sourceClass 6 = 2)) ∧
  (let s : State := carS 4 0x40 0 0 0x1020 100;
    let c : Fin 32 := 0;
    let op : Nat := 4;
    let d : Desc := s.readDesc (s.car c).desc;
    (Quiet s) ∧ (s.mayStart c = true) ∧ (s.chainOk (s.car c).desc = true) ∧ (BitVec.toNat d.op = op) ∧ ((s.car c).share = none) ∧ ((s.car c).post = none) ∧ ((s.car c).flight = []) ∧ (s.descOk c (s.car c).desc d = false)) ∧
  (let s : State := carS 4 0 0 0x10000000 100 0;
    let c : Fin 32 := 0;
    let op : Nat := 4;
    let d : Desc := s.readDesc (s.car c).desc;
    (Quiet s) ∧ (s.mayStart c = true) ∧ (s.chainOk (s.car c).desc = true) ∧ (BitVec.toNat d.op = op) ∧ ((s.car c).share = none) ∧ ((s.car c).post = none) ∧ ((s.car c).flight = []) ∧ (s.descOk c (s.car c).desc d = true) ∧ ((s.offendingAny c d.ranges).isSome = true) ∧ (s.sourceClass 6 = 2)) ∧
  (let s : State := carS 5 0x40 0 0 0x1020 100;
    let c : Fin 32 := 0;
    let op : Nat := 5;
    let d : Desc := s.readDesc (s.car c).desc;
    (Quiet s) ∧ (s.mayStart c = true) ∧ (s.chainOk (s.car c).desc = true) ∧ (BitVec.toNat d.op = op) ∧ ((s.car c).share = none) ∧ ((s.car c).post = none) ∧ ((s.car c).flight = []) ∧ (s.descOk c (s.car c).desc d = false)) ∧
  (let s : State := carS 6 0x40 0 0 0x1020 100;
    let c : Fin 32 := 0;
    let op : Nat := 6;
    let d : Desc := s.readDesc (s.car c).desc;
    (Quiet s) ∧ (s.mayStart c = true) ∧ (s.chainOk (s.car c).desc = true) ∧ (BitVec.toNat d.op = op) ∧ ((s.car c).share = none) ∧ ((s.car c).post = none) ∧ ((s.car c).flight = []) ∧ (s.descOk c (s.car c).desc d = false)) ∧
  (let s : State := carS 7 0x40 0 0 0x1020 100;
    let c : Fin 32 := 0;
    let op : Nat := 7;
    let d : Desc := s.readDesc (s.car c).desc;
    (Quiet s) ∧ (s.mayStart c = true) ∧ (s.chainOk (s.car c).desc = true) ∧ (BitVec.toNat d.op = op) ∧ ((s.car c).share = none) ∧ ((s.car c).post = none) ∧ ((s.car c).flight = []) ∧ (s.descOk c (s.car c).desc d = false)) ∧
  (let s : State := pk (carS 7 0 0 0x10000000 0x1020 96);
    let c : Fin 32 := 0;
    let op : Nat := 7;
    let d : Desc := s.readDesc (s.car c).desc;
    (Quiet s) ∧ (s.mayStart c = true) ∧ (s.chainOk (s.car c).desc = true) ∧ (BitVec.toNat d.op = op) ∧ ((s.car c).share = none) ∧ ((s.car c).post = none) ∧ ((s.car c).flight = []) ∧ (s.descOk c (s.car c).desc d = true) ∧ ((s.offendingAny c d.ranges).isSome = true) ∧ (s.sourceClass 6 = 2)) ∧
  (let s : State := carS 8 0x40 0 0 0x1020 100;
    let c : Fin 32 := 0;
    let op : Nat := 8;
    let d : Desc := s.readDesc (s.car c).desc;
    (Quiet s) ∧ (s.mayStart c = true) ∧ (s.chainOk (s.car c).desc = true) ∧ (BitVec.toNat d.op = op) ∧ ((s.car c).share = none) ∧ ((s.car c).post = none) ∧ ((s.car c).flight = []) ∧ (s.descOk c (s.car c).desc d = false)) ∧
  (let s : State := pk (carS 8 0 0 0x1020 0x10000000 96);
    let c : Fin 32 := 0;
    let op : Nat := 8;
    let d : Desc := s.readDesc (s.car c).desc;
    (Quiet s) ∧ (s.mayStart c = true) ∧ (s.chainOk (s.car c).desc = true) ∧ (BitVec.toNat d.op = op) ∧ ((s.car c).share = none) ∧ ((s.car c).post = none) ∧ ((s.car c).flight = []) ∧ (s.descOk c (s.car c).desc d = true) ∧ ((s.offendingAny c d.ranges).isSome = true) ∧ (s.sourceClass 6 = 2)) := by
  unfold Quiet; refine ⟨?_, ?_, ?_, ?_, ?_, ?_, ?_, ?_, ?_, ?_⟩ <;> decide +kernel

set_option maxRecDepth 100000 in
theorem test_MovingDescriptorsStart_can_3 :
  (let s : State := carS 10 0x40 0 0 0x1020 100;
    let c : Fin 32 := 0;
    let op : Nat := 10;
    let d : Desc := s.readDesc (s.car c).desc;
    (Quiet s) ∧ (s.mayStart c = true) ∧ (s.chainOk (s.car c).desc = true) ∧ (BitVec.toNat d.op = op) ∧ ((s.car c).share = none) ∧ ((s.car c).post = none) ∧ ((s.car c).flight = []) ∧ (s.descOk c (s.car c).desc d = false)) ∧
  (let s : State := carS 11 0x40 0 0 0x1020 100;
    let c : Fin 32 := 0;
    let op : Nat := 11;
    let d : Desc := s.readDesc (s.car c).desc;
    (Quiet s) ∧ (s.mayStart c = true) ∧ (s.chainOk (s.car c).desc = true) ∧ (BitVec.toNat d.op = op) ∧ ((s.car c).share = none) ∧ ((s.car c).post = none) ∧ ((s.car c).flight = []) ∧ (s.descOk c (s.car c).desc d = false)) ∧
  (let s : State := carS 12 0x40 0 0 0x1020 100;
    let c : Fin 32 := 0;
    let op : Nat := 12;
    let d : Desc := s.readDesc (s.car c).desc;
    (Quiet s) ∧ (s.mayStart c = true) ∧ (s.chainOk (s.car c).desc = true) ∧ (BitVec.toNat d.op = op) ∧ ((s.car c).share = none) ∧ ((s.car c).post = none) ∧ ((s.car c).flight = []) ∧ (s.descOk c (s.car c).desc d = false)) ∧
  (let s : State := carS 15 0x40 0 0 0x1020 100;
    let c : Fin 32 := 0;
    let op : Nat := 15;
    let d : Desc := s.readDesc (s.car c).desc;
    (Quiet s) ∧ (s.mayStart c = true) ∧ (s.chainOk (s.car c).desc = true) ∧ (BitVec.toNat d.op = op) ∧ ((s.car c).share = none) ∧ ((s.car c).post = none) ∧ ((s.car c).flight = []) ∧ (s.descOk c (s.car c).desc d = false)) := by
  unfold Quiet; refine ⟨?_, ?_, ?_, ?_⟩ <;> decide +kernel

end MovingDescriptorsStart

namespace ListAndSealDescriptorsStart

/-- Helper of the states below. -/
def ls (op : Nat) : State := let s := carS op 0 0 0x3000 1 0x2010
         { s with pstore := Memory.setN (Memory.setN s.pstore 0x3000 8 0x48) 0x3008 4 100 }

/-- Helper of the states below. -/
def sw (f : Carriage → Carriage) : State := (State.reset.setSeal 1 { Seal.reset with st := .active, len := 0x10000, base := 0x4000 }).setCar 0 (f { Carriage.reset with st := .reserved, share := some (1, 5, 3) })

set_option maxRecDepth 100000 in
theorem test_ListAndSealDescriptorsStart_can :
  (let s : State := ls 5;
    let c : Fin 32 := 0;
    let d : Desc := s.readDesc (s.car c).desc;
    let dpa : Nat := s.descField (BitVec.toNat (s.readDesc (s.car c).desc).o0) 0 8;
    let len : Nat := s.descField (BitVec.toNat (s.readDesc (s.car c).desc).o0) 8 4;
    (Quiet s) ∧ (s.mayStart c = true) ∧ (s.chainOk (s.car c).desc = true) ∧ (BitVec.toNat d.op = 5) ∧ ((s.car c).share = none) ∧ ((s.car c).post = none) ∧ ((s.car c).flight = []) ∧ (s.descOk c (s.car c).desc d = true) ∧ (s.offendingAny c d.ranges = none) ∧ ((s.car c).done = 0) ∧ ((s.car c).entry = 0) ∧ (s.descField (BitVec.toNat d.o0) 12 4 = 0) ∧ (0 < len) ∧ (dpa + len ≤ 2 ^ 36) ∧ (BitVec.toNat d.o2 + len ≤ 2 ^ 36) ∧ (s.offending c (dpa, len) = none) ∧ (s.offending c (BitVec.toNat d.o2, len) = none)) ∧
  (let s : State := ls 6;
    let c : Fin 32 := 0;
    let d : Desc := s.readDesc (s.car c).desc;
    let dpa : Nat := s.descField (BitVec.toNat (s.readDesc (s.car c).desc).o0) 0 8;
    let len : Nat := s.descField (BitVec.toNat (s.readDesc (s.car c).desc).o0) 8 4;
    (Quiet s) ∧ (s.mayStart c = true) ∧ (s.chainOk (s.car c).desc = true) ∧ (BitVec.toNat d.op = 6) ∧ ((s.car c).share = none) ∧ ((s.car c).post = none) ∧ ((s.car c).flight = []) ∧ (s.descOk c (s.car c).desc d = true) ∧ (s.offendingAny c d.ranges = none) ∧ ((s.car c).done = 0) ∧ ((s.car c).entry = 0) ∧ (s.descField (BitVec.toNat d.o0) 12 4 = 0) ∧ (0 < len) ∧ (dpa + len ≤ 2 ^ 36) ∧ (BitVec.toNat d.o2 + len ≤ 2 ^ 36) ∧ (s.offending c (dpa, len) = none) ∧ (s.offending c (BitVec.toNat d.o2, len) = none)) ∧
  (let s : State := (carS 9 0 0 1 0 0x1000).setSeal 1 { Seal.reset with st := .active, len := 0x10000, base := 0x4000 };
    let c : Fin 32 := 0;
    let i : Fin 4 := 1;
    let d : Desc := s.readDesc (s.car c).desc;
    let g : Nat := (s.seal i).base / 4096 + BitVec.toNat (s.readDesc (s.car c).desc).o1 / 4096;
    (Quiet s) ∧ (s.mayStart c = true) ∧ (s.chainOk (s.car c).desc = true) ∧ (BitVec.toNat d.op = 9) ∧ ((s.car c).share = none) ∧ ((s.car c).post = none) ∧ ((s.car c).flight = []) ∧ (s.descOk c (s.car c).desc d = true) ∧ (s.offendingAny c d.ranges = none) ∧ ((s.car c).done = 0) ∧ ((s.car c).entry = 0) ∧ (BitVec.toNat d.o0 = ↑i) ∧ ((s.seal i).st = SealState.active) ∧ (BitVec.toNat d.o1 + BitVec.toNat d.o2 ≤ (s.seal i).len) ∧ (4096 ≤ BitVec.toNat d.o2) ∧ (s.granuleSaved i g = false) ∧ (s.holding i g = false) ∧ (s.sweeping i g = false) ∧ (s.sealRoom i = true)) ∧
  (let s : State := sw id;
    let c : Fin 32 := 0;
    let i : Fin 4 := 1;
    let first : Nat := 5;
    let n : Nat := 3;
    let g : Nat := first + (s.car c).done / 4096;
    (Quiet s) ∧ ((s.car c).share = some (i, first, n)) ∧ ((s.car c).st = CarState.reserved) ∧ ((s.car c).post = none) ∧ ((s.car c).flight = []) ∧ ((s.car c).abort = none) ∧ ((s.car c).done / 4096 < n) ∧ ((s.seal i).st = SealState.active) ∧ (s.granuleSaved i g = false) ∧ (s.holding i g = false) ∧ (s.sweeping i g = false) ∧ (s.sealRoom i = true)) := by
  unfold Quiet; refine ⟨?_, ?_, ?_, ?_⟩ <;> decide +kernel

end ListAndSealDescriptorsStart

namespace WaittDescriptors

/-- Helper of the states below. -/
def allTc (s : State) (o : Word) : State := (List.range 64).foldl (fun s n => s.setReg (aTC_OWNER n) o) s

set_option maxRecDepth 100000 in
theorem test_WaittDescriptors_can :
  (let s : State := carS 10 0 0 5000 0 0;
    let c : Fin 32 := 0;
    let n : Fin 64 := 0;
    let d : Desc := s.readDesc (s.car c).desc;
    (s.regsWf = true) ∧ (Quiet s) ∧ (s.mayStart c = true) ∧ (s.chainOk (s.car c).desc = true) ∧ (BitVec.toNat d.op = 10) ∧ ((s.car c).share = none) ∧ ((s.car c).post = none) ∧ ((s.car c).flight = []) ∧ (s.descOk c (s.car c).desc d = true) ∧ (s.offendingAny c d.ranges = none) ∧ ((s.car c).done = 0) ∧ ((s.car c).entry = 0) ∧ (BitVec.getLsbD d.flags 0 = false) ∧ (s.tcAny = some n)) ∧
  (let s : State := allTc (carS 10 0 0 5000 0 0) 1;
    let c : Fin 32 := 0;
    let d : Desc := s.readDesc (s.car c).desc;
    (s.regsWf = true) ∧ (Quiet s) ∧ (s.mayStart c = true) ∧ (s.chainOk (s.car c).desc = true) ∧ (BitVec.toNat d.op = 10) ∧ ((s.car c).share = none) ∧ ((s.car c).post = none) ∧ ((s.car c).flight = []) ∧ (s.descOk c (s.car c).desc d = true) ∧ (s.offendingAny c d.ranges = none) ∧ ((s.car c).done = 0) ∧ ((s.car c).entry = 0) ∧ (BitVec.getLsbD d.flags 0 = false) ∧ (s.tcAny = none)) ∧
  (let s : State := (carS 10 1 0 0 0 7).setCar 0 { ((carS 10 1 0 0 0 7).car 0) with release := true };
    let c : Fin 32 := 0;
    let d : Desc := s.readDesc (s.car c).desc;
    (s.regsWf = true) ∧ (Quiet s) ∧ (s.mayStart c = true) ∧ (s.chainOk (s.car c).desc = true) ∧ (BitVec.toNat d.op = 10) ∧ ((s.car c).share = none) ∧ ((s.car c).post = none) ∧ ((s.car c).flight = []) ∧ (s.descOk c (s.car c).desc d = true) ∧ (s.offendingAny c d.ranges = none) ∧ ((s.car c).done = 0) ∧ ((s.car c).entry = 0) ∧ (BitVec.getLsbD d.flags 0 = true) ∧ ((s.car c).release = true)) ∧
  (let s : State := carS 10 1 0 0 0 7;
    let c : Fin 32 := 0;
    let d : Desc := s.readDesc (s.car c).desc;
    (s.regsWf = true) ∧ (Quiet s) ∧ (s.mayStart c = true) ∧ (s.chainOk (s.car c).desc = true) ∧ (BitVec.toNat d.op = 10) ∧ ((s.car c).share = none) ∧ ((s.car c).post = none) ∧ ((s.car c).flight = []) ∧ (s.descOk c (s.car c).desc d = true) ∧ (s.offendingAny c d.ranges = none) ∧ ((s.car c).done = 0) ∧ ((s.car c).entry = 0) ∧ (BitVec.getLsbD d.flags 0 = true) ∧ ((s.car c).release = false)) ∧
  (let s : State := at_ (State.reset.setCar 0 { Carriage.reset with st := .waitt, deadline := some 7 }) 7 14;
    let c : Fin 32 := 0;
    let v : Nat := 7;
    (s.regsWf = true) ∧ (Quiet s) ∧ ((s.car c).deadline = some v) ∧ ((s.car c).st = CarState.waitt) ∧ (v ≤ s.now)) ∧
  (let s : State := at_ (State.reset.setCar 0 { Carriage.reset with st := .waitt, deadline := some 7 }) 6 12;
    let c : Fin 32 := 0;
    let v : Nat := 7;
    (s.regsWf = true) ∧ ((s.car c).deadline = some v) ∧ (s.now < v)) ∧
  (let s : State := at_ ((State.reset.setReg (aCR_CTRL 0) 1).setCar 0 { Carriage.reset with st := .running }) 1000 2000;
    let c : Fin 32 := 0;
    let us : Nat := s.fld (aCR_CTRL ↑c) 0 24;
    (s.regsWf = true) ∧ (Quiet s) ∧ (us ≠ 0) ∧ ((s.car c).st = CarState.running) ∧ ((s.car c).progressAt + 2000 * us ≤ s.cyc)) ∧
  (let s : State := carS 10 0 0 5000 0 0;
    let c : Fin 32 := 1;
    (s.regsWf = true) ∧ (s.fld (aCR_CTRL ↑c) 0 24 = 0 ∨ s.timed c = false)) := by
  unfold Quiet; refine ⟨?_, ?_, ?_, ?_, ?_, ?_, ?_, ?_⟩ <;> decide +kernel

end WaittDescriptors

namespace ControlDescriptors

/-- Helper of the states below. -/
def oS (up : Bool) : State := ((((carS 11 4 0 0x100000000 0 0).setOuting 1 { Outing.reset with st := .launched, head := 0, rollcall := 0x4000 }).setReg aOUT_DEVINDEX 0x1003).setReg (aCR_WIN_HEADS 0) 1).setHead 0 { Head.reset with link := if up then .l0 else .detect }

set_option maxRecDepth 100000 in
theorem test_ControlDescriptors_can :
  (let s : State := carS 11 1 0 0xFF07 0 0;
    let c : Fin 32 := 0;
    let t : Fin 8 := 7;
    let d : Desc := s.readDesc (s.car c).desc;
    (Quiet s) ∧ (s.mayStart c = true) ∧ (s.chainOk (s.car c).desc = true) ∧ (BitVec.toNat d.op = 11) ∧ ((s.car c).share = none) ∧ ((s.car c).post = none) ∧ ((s.car c).flight = []) ∧ (s.descOk c (s.car c).desc d = true) ∧ (s.offendingAny c d.ranges = none) ∧ ((s.car c).done = 0) ∧ ((s.car c).entry = 0) ∧ (d.flags = 1) ∧ (getBits d.o0 0 8 = ↑t)) ∧
  (let s : State := oS true;
    let c : Fin 32 := 0;
    let j : Fin 8 := 1;
    let k : Fin 16 := 0;
    let d : Desc := s.readDesc (s.car c).desc;
    (Quiet s) ∧ (s.mayStart c = true) ∧ (s.chainOk (s.car c).desc = true) ∧ (BitVec.toNat d.op = 11) ∧ ((s.car c).share = none) ∧ ((s.car c).post = none) ∧ ((s.car c).flight = []) ∧ (s.descOk c (s.car c).desc d = true) ∧ (s.offendingAny c d.ranges = none) ∧ ((s.car c).done = 0) ∧ ((s.car c).entry = 0) ∧ (d.flags = 4) ∧ (getBits d.o0 32 8 = ↑j) ∧ ((s.outing j).st = OutState.launched) ∧ ((s.outing j).head = ↑k) ∧ ((s.head k).up = true)) ∧
  (let s : State := carS 12 0 0 0x2000 0 0;
    let c : Fin 32 := 0;
    let d : Desc := s.readDesc (s.car c).desc;
    (Quiet s) ∧ (s.mayStart c = true) ∧ (s.chainOk (s.car c).desc = true) ∧ (BitVec.toNat d.op = 12) ∧ ((s.car c).share = none) ∧ ((s.car c).post = none) ∧ ((s.car c).flight = []) ∧ (s.descOk c (s.car c).desc d = true) ∧ (s.offendingAny c d.ranges = none) ∧ ((s.car c).done = 0) ∧ ((s.car c).entry = 0)) ∧
  (let s : State := (carS 15 0 0 0 0 0).setCar 0 { ((carS 15 0 0 0 0 0).car 0) with thread := some 7 };
    let c : Fin 32 := 0;
    let d : Desc := s.readDesc (s.car c).desc;
    (Quiet s) ∧ (s.mayStart c = true) ∧ (s.chainOk (s.car c).desc = true) ∧ (BitVec.toNat d.op = 15) ∧ ((s.car c).share = none) ∧ ((s.car c).post = none) ∧ ((s.car c).flight = []) ∧ (s.descOk c (s.car c).desc d = true) ∧ (s.offendingAny c d.ranges = none) ∧ ((s.car c).done = 0) ∧ ((s.car c).entry = 0)) := by
  unfold Quiet; refine ⟨?_, ?_, ?_, ?_⟩ <;> decide +kernel

end ControlDescriptors

namespace CompletionsOfCarriages

/-- Helper of the states below. -/
def fin (p : Nat) : State := (carS 1 0 0 0 64 64).setCar 0 { ((carS 1 0 0 0 64 64).car 0) with cur := some (desc 1 0 0 0 64 64), done := 64, poisoned := p }

/-- Helper of the states below. -/
def x : Piece := ⟨0,64,[],[],[],true,[],[],true⟩

/-- Helper of the states below. -/
def pr (op : Nat) (f : Carriage → Carriage) : State := (carS op 0 0 0 0x1020 100).setCar 0 (f { ((carS op 0 0 0 0x1020 100).car 0) with cur := some (desc op 0 0 0 0x1020 100), flight := [x], ahead := 64 })

/-- Helper of the states below. -/
def po : Post := ⟨0, Outing.reset, 1, 0, 5, true⟩

set_option maxRecDepth 100000 in
theorem test_CompletionsOfCarriages_can :
  (let s : State := fin 0;
    let c : Fin 32 := 0;
    let d : Desc := desc 1 0 0 0 64 64;
    (Quiet s) ∧ (s.pstoreWf = true) ∧ ((s.car c).cur = some d) ∧ (BitVec.toNat d.op = 1) ∧ (s.descFinished c = true) ∧ ((s.car c).desc + 64 ≤ 4194304)) ∧
  (let s : State := fin 0;
    let c : Fin 32 := 1;
    (s.descFinished c = false) ∧ (Quiet s)) ∧
  (let s : State := pr 7 id;
    let c : Fin 32 := 0;
    let d : Desc := desc 7 0 0 0 0x1020 100;
    let x : Piece := x;
    (Quiet s) ∧ ((s.car c).cur = some d) ∧ ((s.car c).st = CarState.running) ∧ ((s.car c).post = none) ∧ ((s.car c).share = none) ∧ ((s.car c).abort = none) ∧ ((s.car c).flight = [x]) ∧ (x.peer = true) ∧ (x.formed = true) ∧ (x.toRead = []) ∧ (x.asked = []) ∧ (x.toWrite = []) ∧ (x.sent = []) ∧ (0 < x.bytes) ∧ (BitVec.toNat d.op = 7)) ∧
  (let s : State := pr 8 id;
    let c : Fin 32 := 0;
    let d : Desc := desc 8 0 0 0 0x1020 100;
    let x : Piece := x;
    (Quiet s) ∧ ((s.car c).cur = some d) ∧ ((s.car c).st = CarState.running) ∧ ((s.car c).post = none) ∧ ((s.car c).share = none) ∧ ((s.car c).abort = none) ∧ ((s.car c).flight = [x]) ∧ (x.peer = true) ∧ (x.formed = true) ∧ (x.toRead = []) ∧ (x.asked = []) ∧ (x.toWrite = []) ∧ (x.sent = []) ∧ (0 < x.bytes) ∧ (BitVec.toNat d.op = 8)) ∧
  (let s : State := State.reset.setCar 0 { Carriage.reset with st := .running, post := some po };
    let c : Fin 32 := 0;
    let x : Post := po;
    (Quiet s) ∧ ((s.car c).post = some x) ∧ (x.sent = true) ∧ ((s.car c).st = CarState.running) ∧ ((s.car c).abort = none)) ∧
  (let s : State := State.reset.setCar 0 { Carriage.reset with st := .reserved, before := .stopped, post := some po };
    let c : Fin 32 := 0;
    let x : Post := po;
    (Quiet s) ∧ ((s.car c).post = some x) ∧ (x.sent = true) ∧ ((s.car c).st = CarState.reserved)) ∧
  (let s : State := State.reset.setCar 0 { Carriage.reset with st := .frozen };
    let c : Fin 32 := 0;
    let p : Sys2Proof.Path := .mc;
    let v : BitVec 32 := 1;
    (WriteOk s p aCAR_THAW 4 (BitVec.setWidth 64 v)) ∧ ((s.car c).st = CarState.frozen)) := by
  unfold WriteOk Quiet; refine ⟨?_, ?_, ?_, ?_, ?_, ?_, ?_⟩ <;> decide +kernel

end CompletionsOfCarriages

namespace TimelineSignals

/-- Helper of the states below. -/
def u0 (f : TimeUnit → TimeUnit) : State := { State.reset with tu := f State.reset.tu }

/-- Helper of the states below. -/
def tl (f : TimeUnit → TimeUnit) : State := at_ (u0 (fun t => f { t with lastMark := some (32000*256), markSeq := 2, lastFrame := some ⟨64000, 1, some 0, 1⟩, setDone := true })) 64000 128000

/-- Helper of the states below. -/
def crc (d f : BitVec 16) : BitVec 16 := crc16 0x1021 0xFFFF (frameBytes 96000 d f)

set_option maxRecDepth 100000 in
theorem test_TimelineSignals_can_1 :
  (let s : State := State.reset;
    let sync : BitVec 16 := 0xB38E;
    let domain : BitVec 16 := 0xB38E;
    let flags : BitVec 16 := 0xB38E;
    let crc : BitVec 16 := 0xB38E;
    let rt : Word := 96000;
    (Quiet s) ∧ (s.regsWf = true) ∧ (sync ≠ 45966 ∨ crc ≠ crc16 4129 65535 (frameBytes rt domain flags) ∨ BitVec.toNat rt % 32000 ≠ 0) ∧ (s.tlineUsed = true)) ∧
  (let s : State := State.reset.setReg aTU_CTRL 2;
    let sync : BitVec 16 := 0xB38E;
    let domain : BitVec 16 := 0xB38E;
    let flags : BitVec 16 := 0xB38E;
    let crc : BitVec 16 := 0xB38E;
    let rt : Word := 96000;
    (Quiet s) ∧ (s.regsWf = true) ∧ (sync ≠ 45966 ∨ crc ≠ crc16 4129 65535 (frameBytes rt domain flags) ∨ BitVec.toNat rt % 32000 ≠ 0) ∧ (s.tlineUsed = false)) ∧
  (let s : State := State.reset;
    let sync : BitVec 16 := 0xB38E;
    let flags : BitVec 16 := 0;
    let crc : BitVec 16 := crc 0xFFFF 0;
    let rt : Word := 96000;
    let domain : BitVec 16 := 65535;
    (Quiet s) ∧ (s.regsWf = true) ∧ (¬(sync ≠ 45966 ∨ crc ≠ crc16 4129 65535 (frameBytes rt domain flags) ∨ BitVec.toNat rt % 32000 ≠ 0)) ∧ (s.tlineUsed = true)) ∧
  (let s : State := State.reset.setReg aTU_CTRL 2;
    let sync : BitVec 16 := 0xB38E;
    let flags : BitVec 16 := 0;
    let crc : BitVec 16 := crc 0xFFFF 0;
    let rt : Word := 96000;
    let domain : BitVec 16 := 65535;
    (Quiet s) ∧ (s.regsWf = true) ∧ (¬(sync ≠ 45966 ∨ crc ≠ crc16 4129 65535 (frameBytes rt domain flags) ∨ BitVec.toNat rt % 32000 ≠ 0)) ∧ (s.tlineUsed = false)) ∧
  (let s : State := State.reset.setReg aTU_DOMAIN 1;
    let sync : BitVec 16 := 0xB38E;
    let domain : BitVec 16 := 0;
    let flags : BitVec 16 := 0;
    let crc : BitVec 16 := crc 0 0;
    let rt : Word := 96000;
    (Quiet s) ∧ (s.regsWf = true) ∧ (¬(sync ≠ 45966 ∨ crc ≠ crc16 4129 65535 (frameBytes rt domain flags) ∨ BitVec.toNat rt % 32000 ≠ 0)) ∧ (s.fld aTU_DOMAIN 0 16 ≠ 65535) ∧ (s.fld aTU_DOMAIN 0 16 ≠ domain.toNat) ∧ (s.tlineUsed = true)) ∧
  (let s : State := (State.reset.setReg aTU_DOMAIN 1).setReg aTU_CTRL 2;
    let sync : BitVec 16 := 0xB38E;
    let domain : BitVec 16 := 0;
    let flags : BitVec 16 := 0;
    let crc : BitVec 16 := crc 0 0;
    let rt : Word := 96000;
    (Quiet s) ∧ (s.regsWf = true) ∧ (¬(sync ≠ 45966 ∨ crc ≠ crc16 4129 65535 (frameBytes rt domain flags) ∨ BitVec.toNat rt % 32000 ≠ 0)) ∧ (s.fld aTU_DOMAIN 0 16 ≠ 65535) ∧ (s.fld aTU_DOMAIN 0 16 ≠ domain.toNat) ∧ (s.tlineUsed = false)) ∧
  (let s : State := State.reset.setReg aTU_CTRL 2;
    let sync : BitVec 16 := 0xB38E;
    let domain : BitVec 16 := 0;
    let flags : BitVec 16 := 0;
    let crc : BitVec 16 := crc 0 0;
    let rt : Word := 96000;
    (Quiet s) ∧ (s.regsWf = true) ∧ (¬(sync ≠ 45966 ∨ crc ≠ crc16 4129 65535 (frameBytes rt domain flags) ∨ BitVec.toNat rt % 32000 ≠ 0)) ∧ (¬(domain = 65535 ∨ s.fld aTU_DOMAIN 0 16 ≠ 65535 ∧ s.fld aTU_DOMAIN 0 16 ≠ domain.toNat)) ∧ (s.tlineUsed = false)) ∧
  (let s : State := State.reset;
    let sync : BitVec 16 := 0xB38E;
    let domain : BitVec 16 := 0;
    let flags : BitVec 16 := 0;
    let crc : BitVec 16 := crc 0 0;
    let rt : Word := 96000;
    (Quiet s) ∧ (s.regsWf = true) ∧ (¬(sync ≠ 45966 ∨ crc ≠ crc16 4129 65535 (frameBytes rt domain flags) ∨ BitVec.toNat rt % 32000 ≠ 0)) ∧ (¬(domain = 65535 ∨ s.fld aTU_DOMAIN 0 16 ≠ 65535 ∧ s.fld aTU_DOMAIN 0 16 ≠ domain.toNat)) ∧ (s.tlineUsed = true)) ∧
  (let s : State := State.reset.setReg aTU_CTRL 2;
    (Quiet s) ∧ (s.regsWf = true) ∧ (s.tlineUsed = false)) ∧
  (let s : State := tl (fun t => { t with trust := .locked, source := .tline, tracking := true, ok := true });
    let sub : BitVec 7 := 127;
    let delay : BitVec 16 := 0xB38E;
    let stamp : Int := s.markStamp sub.toNat delay.toNat;
    (Quiet s) ∧ (s.regsWf = true) ∧ (s.tlineUsed = true) ∧ (s.tu.trust = Trust.locked) ∧ (s.tu.markInWindow stamp = false)) := by
  unfold Quiet; refine ⟨?_, ?_, ?_, ?_, ?_, ?_, ?_, ?_, ?_, ?_⟩ <;> decide +kernel

set_option maxRecDepth 100000 in
theorem test_TimelineSignals_can_2 :
  (let s : State := State.reset;
    let sub : BitVec 7 := 127;
    let delay : BitVec 16 := 0xB38E;
    let stamp : Int := s.markStamp sub.toNat delay.toNat;
    (Quiet s) ∧ (s.regsWf = true) ∧ (s.tlineUsed = true) ∧ (¬(s.tu.trust = Trust.locked ∧ s.tu.markInWindow stamp = false)) ∧ (s.tu.announce = none ∨ s.tu.measOk = false)) ∧
  (let s : State := tl (fun t => { t with announce := some 64000, measOk := true, stepHold := true, pendingCorr := some (.steer, 5) });
    let sub : BitVec 7 := 127;
    let delay : BitVec 16 := 0xB38E;
    let ann : Nat := 64000;
    let stamp : Int := s.markStamp sub.toNat delay.toNat;
    (Quiet s) ∧ (s.regsWf = true) ∧ (s.tlineUsed = true) ∧ (¬(s.tu.trust = Trust.locked ∧ s.tu.markInWindow stamp = false)) ∧ (s.tu.announce = some ann) ∧ (s.tu.measOk = true) ∧ (s.tu.stepHold = true)) ∧
  (let s : State := (tl (fun t => { t with announce := some 64000, measOk := true, needSet := true })).setReg aTU_CABLE_DELAY 5;
    let sub : BitVec 7 := 127;
    let delay : BitVec 16 := 0xB38E;
    let ann : Nat := 64000;
    let stamp : Int := s.markStamp sub.toNat delay.toNat;
    (Quiet s) ∧ (s.regsWf = true) ∧ (s.tlineUsed = true) ∧ (¬(s.tu.trust = Trust.locked ∧ s.tu.markInWindow stamp = false)) ∧ (s.tu.announce = some ann) ∧ (s.tu.measOk = true) ∧ (s.tu.stepHold = false) ∧ (s.tu.needSet = true)) ∧
  (let s : State := tl (fun t => { t with announce := some 64000, measOk := true, source := .tline, tracking := true, needSet := false });
    let sub : BitVec 7 := 127;
    let delay : BitVec 16 := 0xB38E;
    let ann : Nat := 64000;
    let stamp : Int := s.markStamp sub.toNat delay.toNat;
    (Quiet s) ∧ (s.regsWf = true) ∧ (s.tlineUsed = true) ∧ (¬(s.tu.trust = Trust.locked ∧ s.tu.markInWindow stamp = false)) ∧ (s.tu.announce = some ann) ∧ (s.tu.measOk = true) ∧ (s.tu.stepHold = false) ∧ (s.tu.needSet = false) ∧ (s.tu.stepPending = false)) ∧
  (let s : State := at_ (tl (fun t => { t with announce := some 64000, measOk := true, source := .tline, tracking := true, needSet := false })) 99000 198000;
    let m : Int := 32000*256;
    (Quiet s) ∧ (s.regsWf = true) ∧ (s.tu.lastMark = some m) ∧ (s.tu.tracking = true ∨ s.tu.lastFrame.isSome = true) ∧ (m + 32016 * 256 ≤ s.rtAt 0) ∧ (s.tu.source = TimeSource.tline)) ∧
  (let s : State := tl id;
    let m : Int := 32000*256;
    (Quiet s) ∧ (s.regsWf = true) ∧ (s.tu.lastMark = some m) ∧ (s.tu.tracking = true ∨ s.tu.lastFrame.isSome = true) ∧ (s.rtAt 0 < m + 32016 * 256)) := by
  unfold Quiet; refine ⟨?_, ?_, ?_, ?_, ?_, ?_⟩ <;> decide +kernel

end TimelineSignals

namespace PtmAndCorrections

/-- Helper of the states below. -/
def u0 (f : TimeUnit → TimeUnit) : State := at_ { (headS 0 .l0 4).setReg aTU_CTRL 2 with tu := f State.reset.tu } 64000 128000

set_option maxRecDepth 100000 in
theorem test_PtmAndCorrections_can_1 :
  (let s : State := u0 id;
    (Quiet s) ∧ (s.ptmUsed = true) ∧ (s.ptmHeadUp = true) ∧ (s.tu.ptmRunning = false) ∧ (s.tu.ptmLastCycle + max 1 (s.fld aTU_CTRL 8 8) ≤ s.now / 32000)) ∧
  (let s : State := u0 (fun t => { t with ptmLastCycle := 2 });
    (Quiet s) ∧ (¬(s.ptmUsed = true ∧
        s.ptmHeadUp = true ∧ s.tu.ptmRunning = false ∧ s.tu.ptmLastCycle + max 1 (s.fld aTU_CTRL 8 8) ≤ s.now / 32000))) ∧
  (let s : State := (u0 (fun t => { t with ptmRunning := true })).setHead 0 Head.reset;
    (Quiet s) ∧ (s.tu.ptmRunning = true) ∧ (s.ptmHeadUp = false)) ∧
  (let s : State := u0 (fun t => { t with ptmRunning := true });
    (Quiet s) ∧ (s.tu.ptmRunning = true) ∧ (s.ptmHeadUp = true) ∧ (s.tu.ptmFails = 0)) ∧
  (let s : State := u0 (fun t => { t with ptmRunning := true, ptmFails := 1, source := .ptm, ptmTracking := true });
    (Quiet s) ∧ (s.tu.ptmRunning = true) ∧ (s.ptmHeadUp = true) ∧ (1 ≤ s.tu.ptmFails) ∧ (s.tu.source = TimeSource.ptm)) ∧
  (let s : State := u0 (fun t => { t with ptmRunning := true });
    (Quiet s) ∧ (s.tu.ptmRunning = true) ∧ (s.ptmHeadUp = true) ∧ (s.tu.ptmLastErr = none)) ∧
  (let s : State := u0 (fun t => { t with ptmRunning := true, ptmLastErr := some (63000*256), source := .ptm, setDone := true });
    let master : Word := 64000;
    let frac : BitVec 8 := 0;
    let p : Int := 63000*256;
    let e : Int := s.rtAt 0 - ↑(s.ptmTime master frac);
    (Quiet s) ∧ (s.tu.ptmRunning = true) ∧ (s.ptmHeadUp = true) ∧ (s.tu.ptmLastErr = some p) ∧ (20 * 256 < (e - p).natAbs)) ∧
  (let s : State := u0 (fun t => { t with ptmRunning := true, ptmLastErr := some (0), source := .tline, setDone := true });
    let master : Word := 64000;
    let frac : BitVec 8 := 0;
    let p : Int := 0;
    let e : Int := s.rtAt 0 - ↑(s.ptmTime master frac);
    (Quiet s) ∧ (s.tu.ptmRunning = true) ∧ (s.ptmHeadUp = true) ∧ (s.tu.ptmLastErr = some p) ∧ ((e - p).natAbs ≤ 20 * 256) ∧ (s.tu.source = TimeSource.tline)) ∧
  (let s : State := u0 (fun t => { t with ptmRunning := true, ptmLastErr := some (5), source := .none, needSet := false, setDone := true });
    let master : Word := 64000;
    let frac : BitVec 8 := 0;
    let p : Int := 5;
    let e : Int := s.rtAt 0 - ↑(s.ptmTime master frac);
    (Quiet s) ∧ (s.tu.ptmRunning = true) ∧ (s.ptmHeadUp = true) ∧ (s.tu.ptmLastErr = some p) ∧ ((e - p).natAbs ≤ 20 * 256) ∧ (s.tu.source ≠ TimeSource.tline) ∧ (s.tu.needSet = false) ∧ (s.tu.stepPending = false) ∧ (s.tu.pendingCorr = none)) ∧
  (let s : State := u0 (fun t => { t with ptmRunning := true, ptmLastErr := some (63000*256), source := .ptm, setDone := true });
    let master : Word := 1000;
    let frac : BitVec 8 := 0;
    let p : Int := 63000*256;
    let e : Int := s.rtAt 0 - ↑(s.ptmTime master frac);
    (Quiet s) ∧ (s.tu.ptmRunning = true) ∧ (s.ptmHeadUp = true) ∧ (s.tu.ptmLastErr = some p) ∧ ((e - p).natAbs ≤ 20 * 256) ∧ (s.tu.source ≠ TimeSource.tline) ∧ (s.tu.stepHold = false) ∧ (s.tu.needSet = true)) := by
  unfold Quiet; refine ⟨?_, ?_, ?_, ?_, ?_, ?_, ?_, ?_, ?_, ?_⟩ <;> decide +kernel

set_option maxRecDepth 100000 in
theorem test_PtmAndCorrections_can_2 :
  (let s : State := u0 (fun t => { t with corr := .steer, corrLeft := 0, setDone := true });
    (Quiet s) ∧ (s.tu.corr ≠ Correction.none) ∧ (s.tu.corrLeft = 0)) ∧
  (let s : State := u0 id;
    (Quiet s) ∧ (s.tu.corr = Correction.none ∨ s.tu.corrLeft ≠ 0)) ∧
  (let s : State := u0 id;
    (Quiet s) ∧ (s.trustNow = Trust.untrusted)) ∧
  (let s : State := u0 (fun t => { t with ptmRunning := true, ptmLastErr := some (63000*256), source := .ptm, setDone := true });
    (Quiet s) ∧ (s.trustNow ≠ Trust.untrusted)) ∧
  (let s : State := u0 (fun t => { t with stepHold := true });
    let p : Sys2Proof.Path := .mc;
    let v : BitVec 32 := 1;
    (Quiet s) ∧ (WriteOk s p aTU_ACK 4 (BitVec.setWidth 64 v)) ∧ (v.getLsbD 0 = true) ∧ (s.tu.stepHold = true)) ∧
  (let s : State := u0 id;
    let p : Sys2Proof.Path := .mc;
    let v : BitVec 32 := 0;
    (Quiet s) ∧ (WriteOk s p aTU_ACK 4 (BitVec.setWidth 64 v)) ∧ (v.getLsbD 0 = false ∨ s.tu.stepHold = false)) := by
  unfold WriteOk Quiet; refine ⟨?_, ?_, ?_, ?_, ?_, ?_⟩ <;> decide +kernel

end PtmAndCorrections

namespace Comparators

/-- Helper of the states below. -/
def tc (ctl val per tol own : Nat) (s : State) : State := ((((s.setReg (aTC_CTRL 1) (BitVec.ofNat 64 ctl)).setReg (aTC_VALUE 1) (BitVec.ofNat 64 val)).setReg (aTC_PERIOD 1) (BitVec.ofNat 64 per)).setReg (aTC_TOL 1) (BitVec.ofNat 64 tol)).setReg (aTC_OWNER 1) (BitVec.ofNat 64 own)

/-- Helper of the states below. -/
def r : State := at_ State.reset 1000 2000

set_option maxRecDepth 100000 in
theorem test_Comparators_can_1 :
  (let s : State := r;
    let p : Sys2Proof.Path := .thread 0;
    (Quiet s) ∧ (s.regsWf = true) ∧ (s.pathOpen p = true)) ∧
  (let s : State := tc 1 999 0 0 1 r;
    let n : Fin 64 := 1;
    let p : Sys2Proof.Path := .thread 0;
    let v : Word := 5;
    (Quiet s) ∧ (s.regsWf = true) ∧ (WriteOk s p (aTC_VALUE ↑n) 8 v) ∧ (s.tcArmed ↑n = true)) ∧
  (let s : State := tc 1 999 0 0 1 r;
    let n : Fin 64 := 1;
    let p : Sys2Proof.Path := .thread 0;
    let v : BitVec 32 := 1;
    let target : Nat := v.toNat / 16 % 16;
    let index : Nat := v.toNat / 256 % 32;
    (Quiet s) ∧ (s.regsWf = true) ∧ (WriteOk s p (aTC_CTRL ↑n) 4 (BitVec.setWidth 64 v)) ∧ (targetOk target index = true) ∧ (target ≠ 7 ∨ s.auxOwner index = s.tcOwner ↑n)) ∧
  (let s : State := tc 1 999 0 0 1 r;
    let n : Fin 64 := 1;
    let p : Sys2Proof.Path := .thread 0;
    let v : BitVec 32 := 0x811;
    let target : Nat := v.toNat / 16 % 16;
    let index : Nat := v.toNat / 256 % 32;
    (Quiet s) ∧ (s.regsWf = true) ∧ (WriteOk s p (aTC_CTRL ↑n) 4 (BitVec.setWidth 64 v)) ∧ (targetOk target index = false)) ∧
  (let s : State := tc 1 999 0 0 1 r;
    let n : Fin 64 := 1;
    (Quiet s) ∧ (s.regsWf = true) ∧ (s.tcDue ↑n = true) ∧ (s.fld (aTC_TOL ↑n) 0 32 = 0 ∨ s.boundNow ≤ s.fld (aTC_TOL ↑n) 0 32) ∧ (s.tcTarget ↑n = 0) ∧ (s.fld (aTC_PERIOD ↑n) 0 32 = 0)) ∧
  (let s : State := tc 1 1000 300 0 1 r;
    let n : Fin 64 := 1;
    (Quiet s) ∧ (s.regsWf = true) ∧ (s.tcDue ↑n = true) ∧ (s.fld (aTC_TOL ↑n) 0 32 = 0 ∨ s.boundNow ≤ s.fld (aTC_TOL ↑n) 0 32) ∧ (s.tcTarget ↑n = 0) ∧ (0 < s.fld (aTC_PERIOD ↑n) 0 32)) ∧
  (let s : State := tc 0x11 900 0 0 1 r;
    let n : Fin 64 := 1;
    let t : Fin 8 := 0;
    (Quiet s) ∧ (s.regsWf = true) ∧ (s.tcDue ↑n = true) ∧ (s.fld (aTC_TOL ↑n) 0 32 = 0 ∨ s.boundNow ≤ s.fld (aTC_TOL ↑n) 0 32) ∧ (s.tcTarget ↑n = 1) ∧ (s.tcIndex ↑n = ↑t) ∧ (s.fld (aTC_PERIOD ↑n) 0 32 = 0)) ∧
  (let s : State := tc 0x111 900 7 0 1 r;
    let n : Fin 64 := 1;
    let t : Fin 8 := 1;
    (Quiet s) ∧ (s.regsWf = true) ∧ (s.tcDue ↑n = true) ∧ (s.fld (aTC_TOL ↑n) 0 32 = 0 ∨ s.boundNow ≤ s.fld (aTC_TOL ↑n) 0 32) ∧ (s.tcTarget ↑n = 1) ∧ (s.tcIndex ↑n = ↑t) ∧ (0 < s.fld (aTC_PERIOD ↑n) 0 32)) ∧
  (let s : State := tc 1 100 0 5 1 r;
    let n : Fin 64 := 1;
    (Quiet s) ∧ (s.regsWf = true) ∧ (s.tcDue ↑n = true) ∧ (¬(s.fld (aTC_TOL ↑n) 0 32 = 0 ∨ s.boundNow ≤ s.fld (aTC_TOL ↑n) 0 32)) ∧ (s.tcTarget ↑n = 0) ∧ (s.sourceClass 26 ≤ 2) ∧ (s.fld (aTC_PERIOD ↑n) 0 32 = 0)) ∧
  (let s : State := tc 1 100 300 5 1 r;
    let n : Fin 64 := 1;
    (Quiet s) ∧ (s.regsWf = true) ∧ (s.tcDue ↑n = true) ∧ (¬(s.fld (aTC_TOL ↑n) 0 32 = 0 ∨ s.boundNow ≤ s.fld (aTC_TOL ↑n) 0 32)) ∧ (s.tcTarget ↑n = 0) ∧ (s.sourceClass 26 ≤ 2) ∧ (0 < s.fld (aTC_PERIOD ↑n) 0 32)) := by
  unfold WriteOk Quiet; refine ⟨?_, ?_, ?_, ?_, ?_, ?_, ?_, ?_, ?_, ?_⟩ <;> decide +kernel

set_option maxRecDepth 100000 in
theorem test_Comparators_can_2 :
  (let s : State := r;
    let n : Fin 64 := 0;
    (Quiet s) ∧ (s.regsWf = true) ∧ (s.tcDue ↑n = false)) := by
  unfold Quiet; decide +kernel

end Comparators

namespace AliveAndPins

/-- Helper of the states below. -/
def r : State := at_ State.reset 512000 1024000

set_option maxRecDepth 100000 in
theorem test_AliveAndPins_can_1 :
  (let s : State := r;
    (Quiet s) ∧ (s.regsWf = true) ∧ (s.tu.aliveCycle < s.now / 512000) ∧ (s.flag aALIVE_STATUS 1 = false)) ∧
  (let s : State := r.setFlag aALIVE_STATUS 1 true;
    (Quiet s) ∧ (s.regsWf = true) ∧ (s.flag aALIVE_STATUS 1 = true)) ∧
  (let s : State := at_ State.reset 5 10;
    (Quiet s) ∧ (s.regsWf = true) ∧ (s.now / 512000 ≤ s.tu.aliveCycle)) ∧
  (let s : State := r.setAux 0 1 2;
    (Quiet s) ∧ (s.regsWf = true) ∧ (s.tu.pulseCycle < s.now / 32000) ∧ (s.auxFunc 0 = 2) ∧ (s.auxFunc 1 ≠ 2) ∧ (s.pins.auxEndA = none)) ∧
  (let s : State := r.setAux 1 2 2;
    (Quiet s) ∧ (s.regsWf = true) ∧ (s.tu.pulseCycle < s.now / 32000) ∧ (s.auxFunc 0 ≠ 2) ∧ (s.auxFunc 1 = 2) ∧ (s.pins.auxEndB = none)) ∧
  (let s : State := at_ State.reset 5 10;
    (Quiet s) ∧ (s.regsWf = true) ∧ (s.now / 32000 ≤ s.tu.pulseCycle)) ∧
  (let s : State := { r with pins := { r.pins with auxEndA := some 5, auxEndB := some 7 } };
    let c : Nat := 5;
    (Quiet s) ∧ (s.regsWf = true) ∧ (s.pins.auxEndA = some c) ∧ (c ≤ s.cyc)) ∧
  (let s : State := { r with pins := { r.pins with auxEndA := some 5, auxEndB := some 7 } };
    let c : Nat := 7;
    (Quiet s) ∧ (s.regsWf = true) ∧ (s.pins.auxEndB = some c) ∧ (c ≤ s.cyc)) ∧
  (let s : State := r.setAux 0 1 1;
    (Quiet s) ∧ (s.regsWf = true) ∧ (s.auxFunc 0 = 1) ∧ (s.pins.auxTrigger = none)) ∧
  (let s : State := r;
    (Quiet s) ∧ (s.regsWf = true) ∧ (s.auxFunc 0 ≠ 1)) := by
  unfold Quiet; refine ⟨?_, ?_, ?_, ?_, ?_, ?_, ?_, ?_, ?_, ?_⟩ <;> decide +kernel

set_option maxRecDepth 100000 in
theorem test_AliveAndPins_can_2 :
  (let s : State := r;
    let t : Fin 8 := 0;
    (Quiet s) ∧ (s.regsWf = true) ∧ (s.fld aTT_EVROUTE 3 3 = ↑t)) := by
  unfold Quiet; decide +kernel

end AliveAndPins

namespace LinkTraining

/-- Helper of the states below. -/
def ready : State := ((List.range 16).foldl (fun s m => s.setFlag aMOD_PERST m true) State.reset).setFld aSU_STATUS 0 4 8

/-- Helper of the states below. -/
def hk (s : State) (k : Fin 16) (f : Head → Head) : State := s.setHead k (f Head.reset)

/-- Helper of the states below. -/
def tr (l : LinkState) (f : Head → Head) : State := hk ready 0 (fun h => f { h with link := l, lanes := [0,1,2,3] })

set_option maxRecDepth 100000 in
theorem test_LinkTraining_can_1 :
  (let s : State := ready;
    let k : Fin 16 := 0;
    let undetected : List (Fin 64) := [];
    let rev : Bool := false;
    let lanes : List (Fin 64) := trainedLanes (if rev = true then (s.lanesOf ↑k).reverse else s.lanesOf ↑k)
      (List.filter (fun l => [].contains l) (s.lanesOf ↑k) ++
        List.filter (fun l => undetected.contains l || s.laneExcluded ↑l) (s.lanesOf ↑k));
    (Quiet s) ∧ (s.regsWf = true) ∧ (s.mayTrain k = true) ∧ (lanes ≠ []) ∧ (2 ≤ s.advertised ↑k)) ∧
  (let s : State := ready;
    let k : Fin 16 := 0;
    let undetected : List (Fin 64) := [0];
    let rev : Bool := false;
    let lanes : List (Fin 64) := trainedLanes (if rev = true then (s.lanesOf ↑k).reverse else s.lanesOf ↑k)
      (List.filter (fun l => [].contains l) (s.lanesOf ↑k) ++
        List.filter (fun l => undetected.contains l || s.laneExcluded ↑l) (s.lanesOf ↑k));
    (Quiet s) ∧ (s.regsWf = true) ∧ (s.mayTrain k = true) ∧ (lanes = [])) ∧
  (let s : State := ready;
    let k : Fin 16 := 15;
    (Quiet s) ∧ (s.regsWf = true) ∧ (s.mayTrain k = false)) ∧
  (let s : State := tr .training id;
    let k : Fin 16 := 0;
    (Quiet s) ∧ (s.regsWf = true) ∧ ((s.head k).link = LinkState.training) ∧ (s.laneDomains k (s.head k).lanes = true)) ∧
  (let s : State := tr .l0 (fun h => { h with rate := 3 });
    let k : Fin 16 := 0;
    (Quiet s) ∧ (s.regsWf = true) ∧ ((s.head k).link = LinkState.l0) ∧ ((s.head k).rate.toNat ≠ s.advertised ↑k) ∧ (2 ≤ s.advertised ↑k) ∧ (s.advertised ↑k < 7)) ∧
  (let s : State := ready;
    let k : Fin 16 := 0;
    (Quiet s) ∧ (s.regsWf = true) ∧ ((s.head k).link ≠ LinkState.l0 ∨ (s.head k).rate.toNat = s.advertised ↑k)) ∧
  (let s : State := tr .speedChange (fun h => { h with rate := 2 });
    let k : Fin 16 := 0;
    (Quiet s) ∧ (s.regsWf = true) ∧ ((s.head k).link = LinkState.speedChange)) ∧
  (let s : State := tr .recovery id;
    let k : Fin 16 := 0;
    (Quiet s) ∧ (s.regsWf = true) ∧ ((s.head k).link = LinkState.recovery)) ∧
  (let s : State := tr .l0 (fun h => { h with rate := 3 });
    let l : Fin 64 := 0;
    let k : Fin 16 := s.headOf ↑l;
    (Quiet s) ∧ (s.regsWf = true) ∧ ((s.head k).link = LinkState.l0) ∧ ((s.head k).lanes.contains l = true)) ∧
  (let s : State := ((List.range 8).foldl (fun s l => s.setFld (aLN_STATUS l) 11 2 3) (tr .training id)).setFld aLANE_CTRL 0 3 6;
    let k : Fin 16 := 0;
    (Quiet s) ∧ (s.regsWf = true) ∧ ((s.head k).link = LinkState.training) ∧ (5 ≤ s.advertised ↑k) ∧ (s.advertised ↑k < 7)) := by
  unfold Quiet; refine ⟨?_, ?_, ?_, ?_, ?_, ?_, ?_, ?_, ?_, ?_⟩ <;> decide +kernel

set_option maxRecDepth 100000 in
theorem test_LinkTraining_can_2 :
  (let s : State := tr .l0 (fun h => { h with rate := 3 });
    let l : Fin 64 := 0;
    let r : Fin 5 := 1;
    let k : Fin 16 := s.headOf ↑l;
    (Quiet s) ∧ (s.regsWf = true) ∧ ((s.head k).up = true) ∧ ((s.head k).lanes.contains l = true) ∧ ((s.head k).rate.toNat = ↑r + 2)) ∧
  (let s : State := ready;
    (Quiet s) ∧ (s.regsWf = true)) := by
  unfold Quiet; refine ⟨?_, ?_⟩ <;> decide +kernel

end LinkTraining

namespace LinkLossAndDetectors

/-- Helper of the states below. -/
def ready : State := ((List.range 16).foldl (fun s m => s.setFlag aMOD_PERST m true) State.reset).setFld aSU_STATUS 0 4 8

/-- Helper of the states below. -/
def hk (s : State) (k : Fin 16) (f : Head → Head) : State := s.setHead k (f Head.reset)

/-- Helper of the states below. -/
def tr (l : LinkState) (f : Head → Head) : State := hk ready 0 (fun h => f { h with link := l, lanes := [0,1,2,3], rate := 3 })

set_option maxRecDepth 100000 in
theorem test_LinkLossAndDetectors_can :
  (let s : State := tr .speedChange id;
    let k : Fin 16 := 0;
    (Quiet s) ∧ (s.regsWf = true) ∧ ((s.head k).link = LinkState.recovery ∨ (s.head k).link = LinkState.speedChange)) ∧
  (let s : State := tr .training id;
    let k : Fin 16 := 0;
    (Quiet s) ∧ (s.regsWf = true) ∧ ((s.head k).link = LinkState.training)) ∧
  (let s : State := tr .l0 id;
    let k : Fin 16 := 0;
    let m : Fin 16 := 0;
    (Quiet s) ∧ (s.regsWf = true) ∧ (s.present ↑k = true) ∧ (s.perstPin ↑k = ↑m) ∧ ((s.head k).up = true)) := by
  unfold Quiet; refine ⟨?_, ?_, ?_⟩ <;> decide +kernel

end LinkLossAndDetectors

namespace LaneTests

/-- Helper of the states below. -/
def ready : State := ((List.range 16).foldl (fun s m => s.setFlag aMOD_PERST m true) State.reset).setFld aSU_STATUS 0 4 8

/-- Helper of the states below. -/
def own (s : State) (t : Nat) : State := ((s.setReg (aLN_TEST 0) (BitVec.ofNat 64 t)).setFlag (aLN_STATUS 0) 14 true)

/-- Helper of the states below. -/
def l0 (s : State) : State := s.setHead 0 { Head.reset with link := .l0, lanes := [0,1,2,3], rate := 3 }

set_option maxRecDepth 100000 in
theorem test_LaneTests_can_1 :
  (let s : State := l0 ready;
    let p : Sys2Proof.Path := .mc;
    let l : Fin 64 := 0;
    let v : BitVec 32 := 0xC1;
    let w : Word := BitVec.setWidth 64 v;
    (s.regsWf = true) ∧ (WriteOk s p (aLN_TEST ↑l) 4 w) ∧ (s.flag (aLN_TEST ↑l) 0 = false) ∧ (BitVec.getLsbD w 0 = true) ∧ (s.testBad (↑l) w = false) ∧ (s.testRefused (↑l) w = false) ∧ (getBits w 6 3 = 3)) ∧
  (let s : State := ready;
    let p : Sys2Proof.Path := .mc;
    let l : Fin 64 := 0;
    let v : BitVec 32 := 1;
    let w : Word := BitVec.setWidth 64 v;
    (s.regsWf = true) ∧ (WriteOk s p (aLN_TEST ↑l) 4 w) ∧ (s.flag (aLN_TEST ↑l) 0 = false) ∧ (BitVec.getLsbD w 0 = true) ∧ (s.testBad (↑l) w = false) ∧ (s.testRefused (↑l) w = false) ∧ (getBits w 6 3 ≠ 3)) ∧
  (let s : State := ready;
    let p : Sys2Proof.Path := .mc;
    let l : Fin 64 := 0;
    let v : BitVec 32 := 0xC1;
    let w : Word := BitVec.setWidth 64 v;
    (s.regsWf = true) ∧ (WriteOk s p (aLN_TEST ↑l) 4 w) ∧ (s.flag (aLN_TEST ↑l) 0 = false) ∧ (BitVec.getLsbD w 0 = true) ∧ (s.testRefused (↑l) w = true ∨ s.testBad (↑l) w = true) ∧ (s.testRefused (↑l) w = true)) ∧
  (let s : State := ready;
    let p : Sys2Proof.Path := .mc;
    let l : Fin 64 := 0;
    let v : BitVec 32 := 0x29;
    let w : Word := BitVec.setWidth 64 v;
    (s.regsWf = true) ∧ (WriteOk s p (aLN_TEST ↑l) 4 w) ∧ (s.flag (aLN_TEST ↑l) 0 = false) ∧ (BitVec.getLsbD w 0 = true) ∧ (s.testRefused (↑l) w = true ∨ s.testBad (↑l) w = true) ∧ (s.testBad (↑l) w = true)) ∧
  (let s : State := own ready 3;
    let p : Sys2Proof.Path := .mc;
    let l : Fin 64 := 0;
    let v : BitVec 32 := 0;
    let w : Word := BitVec.setWidth 64 v;
    (s.regsWf = true) ∧ (WriteOk s p (aLN_TEST ↑l) 4 w) ∧ (s.flag (aLN_TEST ↑l) 0 = true) ∧ (BitVec.getLsbD w 0 = false) ∧ (s.fld (aLN_TEST ↑l) 6 3 ≠ 3)) ∧
  (let s : State := own ready 0xC1;
    let p : Sys2Proof.Path := .mc;
    let l : Fin 64 := 0;
    let v : BitVec 32 := 0;
    let w : Word := BitVec.setWidth 64 v;
    (s.regsWf = true) ∧ (WriteOk s p (aLN_TEST ↑l) 4 w) ∧ (s.flag (aLN_TEST ↑l) 0 = true) ∧ (BitVec.getLsbD w 0 = false) ∧ (s.fld (aLN_TEST ↑l) 6 3 = 3)) ∧
  (let s : State := own ready 3;
    let p : Sys2Proof.Path := .mc;
    let l : Fin 64 := 0;
    let v : BitVec 32 := 0x29;
    let w : Word := BitVec.setWidth 64 v;
    (s.regsWf = true) ∧ (getBits w 0 2 = 1) ∧ (WriteOk s p (aLN_INJECT ↑l) 4 w) ∧ (BitVec.getLsbD w 2 = false) ∧ (BitVec.getLsbD w 3 = true) ∧ (s.injectable (↑l) false = true) ∧ (s.checking ↑l = false)) ∧
  (let s : State := own ready 0x4007;
    let p : Sys2Proof.Path := .mc;
    let l : Fin 64 := 0;
    let v : BitVec 32 := 0x29;
    let w : Word := BitVec.setWidth 64 v;
    let n : Nat := 1;
    (s.regsWf = true) ∧ (getBits w 0 2 = 1) ∧ (WriteOk s p (aLN_INJECT ↑l) 4 w) ∧ (BitVec.getLsbD w 2 = false) ∧ (BitVec.getLsbD w 3 = true) ∧ (s.injectable (↑l) false = true) ∧ (s.checking ↑l = true) ∧ ((List.filter (fun q => decide (BitVec.toNat (s.reg (aLN_BITCNT ↑l)) < q + 1024)) (s.errsOf ↑l)).length + n < 32)) ∧
  (let s : State := { own ready 0x4007 with laneErrs := [(0, List.replicate 31 0)] };
    let p : Sys2Proof.Path := .mc;
    let l : Fin 64 := 0;
    let v : BitVec 32 := 0x29;
    let w : Word := BitVec.setWidth 64 v;
    let n : Nat := 1;
    (s.regsWf = true) ∧ (getBits w 0 2 = 1) ∧ (WriteOk s p (aLN_INJECT ↑l) 4 w) ∧ (BitVec.getLsbD w 2 = false) ∧ (BitVec.getLsbD w 3 = true) ∧ (s.injectable (↑l) false = true) ∧ (s.checking ↑l = true) ∧ (32 ≤ (List.filter (fun q => decide (BitVec.toNat (s.reg (aLN_BITCNT ↑l)) < q + 1024)) (s.errsOf ↑l)).length + n)) ∧
  (let s : State := ready;
    let p : Sys2Proof.Path := .mc;
    let l : Fin 64 := 0;
    let v : BitVec 32 := 0x29;
    let w : Word := BitVec.setWidth 64 v;
    (s.regsWf = true) ∧ (getBits w 0 2 = 1) ∧ (WriteOk s p (aLN_INJECT ↑l) 4 w) ∧ (BitVec.getLsbD w 2 = false) ∧ (BitVec.getLsbD w 3 = true) ∧ (s.injectable (↑l) false = false)) := by
  unfold WriteOk Quiet; refine ⟨?_, ?_, ?_, ?_, ?_, ?_, ?_, ?_, ?_, ?_⟩ <;> decide +kernel

set_option maxRecDepth 100000 in
theorem test_LaneTests_can_2 :
  (let s : State := own ready 3;
    let p : Sys2Proof.Path := .mc;
    let l : Fin 64 := 0;
    let v : BitVec 32 := 0xA;
    let w : Word := BitVec.setWidth 64 v;
    (s.regsWf = true) ∧ (getBits w 0 2 = 2) ∧ (WriteOk s p (aLN_INJECT ↑l) 4 w) ∧ (BitVec.getLsbD w 2 = false) ∧ (BitVec.getLsbD w 3 = true) ∧ (s.injectable (↑l) false = true) ∧ (s.checking ↑l = false)) ∧
  (let s : State := own ready 0x4007;
    let p : Sys2Proof.Path := .mc;
    let l : Fin 64 := 0;
    let v : BitVec 32 := 0xA;
    let w : Word := BitVec.setWidth 64 v;
    let n : Nat := max 1 (getBits (BitVec.setWidth 64 v) 4 8);
    (s.regsWf = true) ∧ (getBits w 0 2 = 2) ∧ (WriteOk s p (aLN_INJECT ↑l) 4 w) ∧ (BitVec.getLsbD w 2 = false) ∧ (BitVec.getLsbD w 3 = true) ∧ (s.injectable (↑l) false = true) ∧ (s.checking ↑l = true) ∧ ((List.filter (fun q => decide (BitVec.toNat (s.reg (aLN_BITCNT ↑l)) < q + 1024)) (s.errsOf ↑l)).length + n < 32)) ∧
  (let s : State := own ready 0x4007;
    let p : Sys2Proof.Path := .mc;
    let l : Fin 64 := 0;
    let v : BitVec 32 := 0x1F0A;
    let w : Word := BitVec.setWidth 64 v;
    let n : Nat := max 1 (getBits (BitVec.setWidth 64 v) 4 8);
    (s.regsWf = true) ∧ (getBits w 0 2 = 2) ∧ (WriteOk s p (aLN_INJECT ↑l) 4 w) ∧ (BitVec.getLsbD w 2 = false) ∧ (BitVec.getLsbD w 3 = true) ∧ (s.injectable (↑l) false = true) ∧ (s.checking ↑l = true) ∧ (32 ≤ (List.filter (fun q => decide (BitVec.toNat (s.reg (aLN_BITCNT ↑l)) < q + 1024)) (s.errsOf ↑l)).length + n)) ∧
  (let s : State := ready;
    let p : Sys2Proof.Path := .mc;
    let l : Fin 64 := 0;
    let v : BitVec 32 := 0xA;
    let w : Word := BitVec.setWidth 64 v;
    (s.regsWf = true) ∧ (getBits w 0 2 = 2) ∧ (WriteOk s p (aLN_INJECT ↑l) 4 w) ∧ (BitVec.getLsbD w 2 = false) ∧ (BitVec.getLsbD w 3 = true) ∧ (s.injectable (↑l) false = false)) ∧
  (let s : State := ready;
    let p : Sys2Proof.Path := .mc;
    let l : Fin 64 := 0;
    let v : BitVec 32 := 0xB;
    let w : Word := BitVec.setWidth 64 v;
    (s.regsWf = true) ∧ (getBits w 0 2 = 3) ∧ (WriteOk s p (aLN_INJECT ↑l) 4 w) ∧ (BitVec.getLsbD w 2 = false) ∧ (BitVec.getLsbD w 3 = true)) ∧
  (let s : State := ready;
    let p : Sys2Proof.Path := .mc;
    let l : Fin 64 := 0;
    let v : BitVec 32 := 0;
    let w : Word := BitVec.setWidth 64 v;
    (s.regsWf = true) ∧ (WriteOk s p (aLN_INJECT ↑l) 4 w) ∧ (BitVec.getLsbD w 3 = false)) ∧
  (let s : State := (own ready 3).setReg (aLN_INJECT 0) 9;
    let l : Fin 64 := 0;
    (s.regsWf = true) ∧ (s.flag (aLN_INJECT ↑l) 3 = true) ∧ (s.fld (aLN_INJECT ↑l) 0 2 = 1 ∨ s.fld (aLN_INJECT ↑l) 0 2 = 2)) ∧
  (let s : State := own ready 5;
    let l : Fin 64 := 0;
    (s.regsWf = true) ∧ (s.flag (aLN_STATUS ↑l) 14 = true) ∧ (s.flag (aLN_TEST ↑l) 2 = true) ∧ (s.checking ↑l = false)) ∧
  (let s : State := own ready 0x4007;
    let l : Fin 64 := 0;
    let errors : Nat := 0;
    (s.regsWf = true) ∧ (s.flag (aLN_STATUS ↑l) 14 = true) ∧ (s.flag (aLN_TEST ↑l) 2 = true) ∧ (s.checking ↑l = true) ∧ ((List.filter (fun q => decide (BitVec.toNat (s.reg (aLN_BITCNT ↑l)) < q + 1024)) (s.errsOf ↑l)).length + errors < 32)) ∧
  (let s : State := ready;
    (s.regsWf = true) ∧ (s.eqDigestBusy = true)) := by
  unfold WriteOk Quiet; refine ⟨?_, ?_, ?_, ?_, ?_, ?_, ?_, ?_, ?_, ?_⟩ <;> decide +kernel

end LaneTests

namespace MailboxReports

set_option maxRecDepth 100000 in
theorem test_MailboxReports_can :
  (let s : State := headS 1 .l0 4;
    let k : Fin 16 := 1;
    (MailOk s k) ∧ (s.mgmtHead ≠ ↑k)) ∧
  (let s : State := fmS;
    let k : Fin 16 := 0;
    (MailOk s k) ∧ (s.mgmtHead = ↑k)) ∧
  (let s : State := fmS;
    let k : Fin 16 := 0;
    (MailOk s k) ∧ (s.storeReady = true)) ∧
  (let s : State := headS 1 .l0 4;
    let k : Fin 16 := 1;
    (MailOk s k) ∧ (s.storeReady = false)) ∧
  (let s : State := fmS;
    let k : Fin 16 := 0;
    let x : BitVec 8 := 0;
    let j : Fin 16 := 0;
    (MailOk s k) ∧ (s.headArg x = some j)) ∧
  (let s : State := fmS;
    let k : Fin 16 := 0;
    let x : BitVec 8 := 20;
    (MailOk s k) ∧ (s.headArg x = none)) := by
  unfold MailOk Quiet; refine ⟨?_, ?_, ?_, ?_, ?_, ?_⟩ <;> decide +kernel

end MailboxReports

namespace PoisonAndCapacity

/-- Helper of the states below. -/
def g : State := { fmS with grants := [⟨0,0,0⟩] }

/-- Helper of the states below. -/
def cch (l : Nat) : CacheLine := { line := l, val := ⟨5, false⟩, dirty := false, owner := 0 }

set_option maxRecDepth 100000 in
theorem test_PoisonAndCapacity_can_1 :
  (let s : State := (headS 1 .l0 4).setFld aSU_STATUS 0 4 8;
    let k : Fin 16 := 1;
    (MailOk s k) ∧ (s.mgmtHead ≠ ↑k)) ∧
  (let s : State := { g with cache := [cch 0] };
    let k : Fin 16 := 0;
    let dpa : Nat := 0;
    let line : Nat := dpa / 64;
    (MailOk s k) ∧ (s.mgmtHead = ↑k) ∧ (s.storeReady = true) ∧ (dpa % 64 = 0) ∧ (s.granted k line = true) ∧ (s.journalRoom = true) ∧ (s.lineBusy line = false) ∧ (s.sliceWaits line = false) ∧ (s.integ.ue.length < 31) ∧ ((s.lookup line).isSome = true)) ∧
  (let s : State := g;
    let k : Fin 16 := 0;
    let dpa : Nat := 0;
    let line : Nat := dpa / 64;
    (MailOk s k) ∧ (s.mgmtHead = ↑k) ∧ (s.storeReady = true) ∧ (dpa % 64 = 0) ∧ (s.granted k line = true) ∧ (s.journalRoom = true) ∧ (s.lineBusy line = false) ∧ (s.sliceWaits line = false) ∧ (s.integ.ue.length < 31) ∧ (s.lookup line = none)) ∧
  (let s : State := g;
    let k : Fin 16 := 0;
    let dpa : Nat := 3;
    let line : Nat := dpa / 64;
    (MailOk s k) ∧ (s.mgmtHead = ↑k) ∧ (s.storeReady = true) ∧ (dpa % 64 ≠ 0 ∨ s.granted k line = false)) ∧
  (let s : State := g;
    let k : Fin 16 := 0;
    let p : Sys2Proof.Path := .i3c;
    let x : BitVec 8 := 0;
    let dpa : Nat := 2^28;
    let len : Nat := 2^28;
    let tag : Nat := 0;
    let bs : List Nat := [1];
    (FmOk s p) ∧ (s.flag aSU_CTRL 0 = true) ∧ (s.storeReady = true) ∧ (s.headArg x = some k) ∧ (extentBlocks dpa len = some bs) ∧ (bs.any (s.addBreaks (↑k) tag) = false) ∧ (bs.any s.isFilling = false)) ∧
  (let s : State := g;
    let k : Fin 16 := 0;
    let p : Sys2Proof.Path := .i3c;
    let x : BitVec 8 := 0;
    let dpa : Nat := 0;
    let len : Nat := 2^28;
    let tag : Nat := 0;
    let bs : List Nat := [0];
    (FmOk s p) ∧ (s.flag aSU_CTRL 0 = true) ∧ (s.storeReady = true) ∧ (s.headArg x = some k) ∧ (extentBlocks dpa len = some bs) ∧ (bs.any (s.addBreaks (↑k) tag) = true)) ∧
  (let s : State := { fmS with filling := [⟨0, 5, 5⟩] };
    let k : Fin 16 := 0;
    let p : Sys2Proof.Path := .i3c;
    let x : BitVec 8 := 0;
    let dpa : Nat := 0;
    let len : Nat := 2^28;
    let tag : Nat := 0;
    let bs : List Nat := [0];
    (FmOk s p) ∧ (s.flag aSU_CTRL 0 = true) ∧ (s.storeReady = true) ∧ (s.headArg x = some k) ∧ (extentBlocks dpa len = some bs) ∧ (bs.any (s.addBreaks (↑k) tag) = false) ∧ (bs.any s.isFilling = true)) ∧
  (let s : State := fmS.setReg aSU_CTRL 0;
    let p : Sys2Proof.Path := .i3c;
    (FmOk s p) ∧ (s.flag aSU_CTRL 0 = false)) ∧
  (let s : State := g;
    let k : Fin 16 := 0;
    let dpa : Nat := 0;
    let len : Nat := 2^28;
    let bs : List Nat := [0];
    (s.storeReady = true) ∧ (extentBlocks dpa len = some bs) ∧ ((bs.all fun b => s.grants.any fun g => g.head == ↑k && g.block == b) = true) ∧ (MailOk s k) ∧ (s.siState 0 ≠ 1) ∧ (s.siState 1 ≠ 1)) ∧
  (let s : State := g;
    let k : Fin 16 := 0;
    let p : Sys2Proof.Path := .i3c;
    let x : BitVec 8 := 0;
    let dpa : Nat := 0;
    let len : Nat := 2^28;
    let bs : List Nat := [0];
    (s.storeReady = true) ∧ (extentBlocks dpa len = some bs) ∧ ((bs.all fun b => s.grants.any fun g => g.head == ↑k && g.block == b) = true) ∧ (FmOk s p) ∧ (s.headArg x = some k) ∧ (s.siState 0 ≠ 1) ∧ (s.siState 1 ≠ 1)) := by
  unfold MailOk FmOk Quiet; refine ⟨?_, ?_, ?_, ?_, ?_, ?_, ?_, ?_, ?_, ?_⟩ <;> decide +kernel

set_option maxRecDepth 100000 in
theorem test_PoisonAndCapacity_can_2 :
  (let s : State := g;
    let k : Fin 16 := 0;
    let dpa : Nat := 0;
    let len : Nat := 0;
    (MailOk s k) ∧ (s.storeReady = true) ∧ (extentBlocks dpa len = none)) ∧
  (let s : State := { g with filling := [⟨0, blockLines, blockLines⟩] };
    let b : Nat := 0;
    ((s.filling.any fun f => f.block == b && f.done == blockLines) = true)) ∧
  (let s : State := g;
    let b : Nat := 0;
    ((s.filling.any fun f => f.block == b && f.done == blockLines) = false)) := by
  unfold MailOk Quiet; refine ⟨?_, ?_, ?_⟩ <;> decide +kernel

end PoisonAndCapacity

namespace FabricManager

set_option maxRecDepth 100000 in
theorem test_FabricManager_can :
  (let s : State := fmS.setHead 0 {fmS.head 0 with mode := .fenced};
    let p : Sys2Proof.Path := .i3c;
    let x : BitVec 8 := 0;
    let k : Fin 16 := 0;
    (FmOk s p) ∧ (s.headArg x = some k) ∧ ((s.head k).mode ≠ HeadMode.normal)) ∧
  (let s : State := fmS.setReg aHEAD_GCTRL 0x30;
    let p : Sys2Proof.Path := .i3c;
    let x : BitVec 8 := 0;
    let k : Fin 16 := 0;
    (FmOk s p) ∧ (s.headArg x = some k) ∧ ((s.head k).mode = HeadMode.normal)) ∧
  (let s : State := fmS.setReg aHEAD_GCTRL 0x30;
    let p : Sys2Proof.Path := .i3c;
    let x : BitVec 8 := 20;
    (FmOk s p) ∧ (s.headArg x = none)) ∧
  (let s : State := fmS.setReg aHEAD_GCTRL 0x30;
    let p : Sys2Proof.Path := .i3c;
    let a : Nat := aTU_LIMIT;
    let w : Nat := 4;
    (FmOk s p) ∧ (busOk a w = true)) ∧
  (let s : State := fmS.setReg aHEAD_GCTRL 0x30;
    let p : Sys2Proof.Path := .i3c;
    let a : Nat := 0;
    let w : Nat := 0;
    (FmOk s p) ∧ (busOk a w = false)) ∧
  (let s : State := fmS.setReg aHEAD_GCTRL 0x30;
    let p : Sys2Proof.Path := .i3c;
    let a : Nat := aTU_LIMIT;
    let w : Nat := 4;
    let v : Word := 0;
    (FmOk s p) ∧ (s.checkWrite p a w v = WriteCheck.ok) ∧ (s.namesAbsent a v = false)) ∧
  (let s : State := fmS.setReg aHEAD_GCTRL 0x30;
    let p : Sys2Proof.Path := .i3c;
    let a : Nat := aTU_CTRL;
    let w : Nat := 4;
    let v : Word := 0xFFFFFFFF;
    (FmOk s p) ∧ (s.checkWrite p a w v = WriteCheck.ok) ∧ (s.namesAbsent a v = true)) ∧
  (let s : State := fmS.setReg aHEAD_GCTRL 0x30;
    let p : Sys2Proof.Path := .i3c;
    let a : Nat := 0;
    let w : Nat := 0;
    let v : Word := 0;
    (FmOk s p) ∧ (s.checkWrite p a w v ≠ WriteCheck.ok)) ∧
  (let s : State := fmS.setReg aHEAD_GCTRL 0x30;
    let p : Sys2Proof.Path := Path.i3c;
    (FmOk s p)) ∧
  (let s : State := fmS.setReg aHEAD_GCTRL 0x30;
    let p : Sys2Proof.Path := Path.vdm;
    (FmOk s p)) := by
  unfold FmOk Quiet; refine ⟨?_, ?_, ?_, ?_, ?_, ?_, ?_, ?_, ?_, ?_⟩ <;> decide +kernel

end FabricManager

namespace Images

/-- Helper of the states below. -/
def ph (s : State) (f : Image → Image) : State := { s with img := f s.img }

set_option maxRecDepth 100000 in
theorem test_Images_can_1 :
  (let s : State := fmS;
    let p : Sys2Proof.Path := .i3c;
    let data : List Byte := [];
    let off : Nat := 0;
    (ImageOk s p) ∧ (off + data.length ≤ 5242880)) ∧
  (let s : State := fmS;
    let p : Sys2Proof.Path := .i3c;
    let data : List Byte := [];
    let off : Nat := s.img.staged;
    (ImageOk s p) ∧ (s.img.complete = false) ∧ (off + data.length ≤ 5242880)) ∧
  (let s : State := fmS;
    let p : Sys2Proof.Path := .i3c;
    let off : Nat := 1;
    (ImageOk s p) ∧ (off ≠ 0) ∧ (off ≠ s.img.staged)) ∧
  (let s : State := fmS;
    let p : Sys2Proof.Path := .i3c;
    let slot : Byte := 0;
    (ImageOk s p) ∧ (slot ≠ 1)) ∧
  (let s : State := (headS 1 .l0 4).setFld aSU_STATUS 0 4 8;
    let p : Sys2Proof.Path := .head 1;
    (Quiet s) ∧ (s.imagePath p = true) ∧ (s.imageUnsupported p = true)) ∧
  (let s : State := headS 0 .l0 4;
    let p : Sys2Proof.Path := .head 0;
    (Quiet s) ∧ (s.imagePath p = true) ∧ (s.imageUnsupported p = false) ∧ (s.storeReady = false ∨ s.activating = true)) ∧
  (let s : State := fmS;
    let p : Sys2Proof.Path := .i3c;
    let action : Byte := 1;
    (ImageOk s p) ∧ (action ≠ 0)) ∧
  (let s : State := ph fmS (fun i => { i with phase := .checking .i3c });
    let p : Sys2Proof.Path := .i3c;
    let reason : Nat := 1;
    let slot : Nat := 0;
    (Quiet s) ∧ (s.regsWf = true) ∧ (s.img.phase = ActPhase.checking p) ∧ (s.imgCheck = (reason, slot)) ∧ (reason ≠ 0) ∧ (s.sourceClass 102 ≠ 5)) ∧
  (let s : State := ph State.reset (fun i => { i with phase := .waiting .i3c 5 });
    let p : Sys2Proof.Path := .i3c;
    let d : Nat := 5;
    (s.img.phase = ActPhase.waiting p d) ∧ (∀ (t : Fin 8), (s.thread t).st = ThreadState.stopped ∨ (s.thread t).st = ThreadState.idle)) ∧
  (let s : State := ph (runS .none) (fun i => { i with phase := .waiting .i3c 0 });
    let p : Sys2Proof.Path := .i3c;
    let d : Nat := 0;
    let t : Fin 8 := 0;
    (s.img.phase = ActPhase.waiting p d) ∧ ((s.thread t).st ≠ ThreadState.stopped) ∧ ((s.thread t).st ≠ ThreadState.idle)) := by
  unfold ImageOk Quiet; refine ⟨?_, ?_, ?_, ?_, ?_, ?_, ?_, ?_, ?_, ?_⟩ <;> decide +kernel

set_option maxRecDepth 100000 in
theorem test_Images_can_2 :
  (let s : State := ph (runS .none) (fun i => { i with phase := .waiting .i3c 0 });
    let p : Sys2Proof.Path := .i3c;
    let d : Nat := 0;
    let t : Fin 8 := 0;
    (s.img.phase = ActPhase.waiting p d) ∧ (d ≤ s.cyc) ∧ ((s.thread t).st = ThreadState.run) ∧ ((s.thread t).wait = WaitCond.none)) ∧
  (let s : State := ph (runS .none) (fun i => { i with phase := .waiting .i3c 5 });
    let p : Sys2Proof.Path := .i3c;
    let d : Nat := 5;
    (s.img.phase = ActPhase.waiting p d) ∧ (s.cyc < d)) ∧
  (let s : State := ph (runS .none) (fun i => { i with phase := .loading .i3c });
    let p : Sys2Proof.Path := .i3c;
    (Quiet s) ∧ (s.regsWf = true) ∧ (s.img.phase = ActPhase.loading p) ∧ (∀ (t : Fin 8), (s.thread t).haltReq = false)) := by
  unfold Quiet; refine ⟨?_, ?_, ?_⟩ <;> decide +kernel

end Images

namespace Attestation

set_option maxRecDepth 100000 in
theorem test_Attestation_can :
  (let s : State := fmS;
    let ch : Sys2Proof.Path := .i3c;
    let sel : SpdmSelection := ⟨true,true,true⟩;
    (Quiet s) ∧ (s.spdmOpen ch = true) ∧ ((sel.falconExtAsym && sel.sha3_384 && sel.dmtfMeasurements) = true)) ∧
  (let s : State := fmS;
    let ch : Sys2Proof.Path := .i3c;
    let sel : SpdmSelection := ⟨true,false,true⟩;
    (Quiet s) ∧ (s.spdmOpen ch = true) ∧ ((sel.falconExtAsym && sel.sha3_384 && sel.dmtfMeasurements) = false)) ∧
  (let s : State := fmS.setReg aID_STATUS 2;
    let ch : Sys2Proof.Path := .i3c;
    (Quiet s) ∧ (s.spdmOpen ch = true) ∧ (s.fld aID_STATUS 0 2 = 2)) ∧
  (let s : State := fmS;
    let ch : Sys2Proof.Path := .i3c;
    (Quiet s) ∧ (s.spdmOpen ch = true) ∧ (s.fld aID_STATUS 0 2 = 0)) ∧
  (let s : State := fmS.setReg aID_STATUS 2;
    let ch : Sys2Proof.Path := .i3c;
    let m : Byte := 0;
    (Quiet s) ∧ (s.spdmOpen ch = true) ∧ ((measurementIndices (BitVec.toNat m)).isSome = true) ∧ (s.fld aID_STATUS 0 2 = 2)) ∧
  (let s : State := fmS;
    let ch : Sys2Proof.Path := .i3c;
    let m : Byte := 0;
    (Quiet s) ∧ (s.spdmOpen ch = true) ∧ ((measurementIndices (BitVec.toNat m)).isSome = true) ∧ (s.fld aID_STATUS 0 2 = 0)) ∧
  (let s : State := fmS.setReg aID_STATUS 1;
    let ch : Sys2Proof.Path := .i3c;
    let i : Byte := 0;
    let is : List Nat := [];
    (Quiet s) ∧ (s.spdmOpen ch = true) ∧ (measurementIndices (BitVec.toNat i) = some is) ∧ (s.fld aID_STATUS 0 2 = 1)) ∧
  (let s : State := fmS;
    let ch : Sys2Proof.Path := .i3c;
    let i : Byte := 1;
    (Quiet s) ∧ (s.spdmOpen ch = true) ∧ (1 ≤ BitVec.toNat i) ∧ (BitVec.toNat i ≤ 5)) ∧
  (let s : State := fmS;
    let ch : Sys2Proof.Path := .i3c;
    let i : Byte := 6;
    (Quiet s) ∧ (s.spdmOpen ch = true) ∧ (5 < BitVec.toNat i) ∧ (BitVec.toNat i ≠ 255)) := by
  unfold Quiet; refine ⟨?_, ?_, ?_, ?_, ?_, ?_, ?_, ?_, ?_⟩ <;> decide +kernel

end Attestation

namespace ScrubAndRepair

/-- Helper of the states below. -/
def b : State := (dom (dom (fmS.setFlag aXR_GSTATUS 0 true) 0 .on) 16 .on)

/-- Helper of the states below. -/
def r : State := at_ b 5000000000000 10000000000000

/-- Helper of the states below. -/
def rp (s : State) (m : Nat) : State := { s with integ := { s.integ with repairing := some ⟨0, 3, 7, 1, m⟩ } }

set_option maxRecDepth 100000 in
theorem test_ScrubAndRepair_can_1 :
  (let s : State := r.setReg aSCRUB_CTRL 0x100;
    (Quiet s) ∧ (s.regsWf = true) ∧ (s.scrubWaits = false)) ∧
  (let s : State := r.setChan 0 { Channel.reset with mode := .lost };
    (Quiet s) ∧ (s.regsWf = true) ∧ (s.scrubWaits = true) ∧ (s.scrubSkips s.scrubLine = true)) ∧
  (let s : State := b;
    let c : Fin 32 := 0;
    (Quiet s) ∧ (s.regsWf = true) ∧ (s.scrubReady = true) ∧ (s.scrubSkips s.scrubLine = false) ∧ (s.admission 16 ≠ Admission.no) ∧ (↑c = lineChannel s.scrubLine) ∧ (s.poolFree c 16 = true) ∧ (s.impossible ↑c = false)) ∧
  (let s : State := r.setChan 0 { Channel.reset with pool := List.replicate 128 ⟨req (.head 0) .read 32 , none, false, none, false⟩ };
    let c : Fin 32 := 0;
    (Quiet s) ∧ (s.regsWf = true) ∧ (s.scrubReady = true) ∧ (s.scrubSkips s.scrubLine = false) ∧ (s.admission 16 ≠ Admission.no) ∧ (↑c = lineChannel s.scrubLine) ∧ (s.poolFree c 16 = false)) ∧
  (let s : State := { r with regul := { r.regul with inCycle := 16 } };
    (Quiet s) ∧ (s.regsWf = true) ∧ (s.scrubReady = true) ∧ (s.scrubSkips s.scrubLine = false) ∧ (s.admission 16 = Admission.no)) ∧
  (let s : State := r;
    (Quiet s) ∧ (s.regsWf = true) ∧ (s.scrubBehind = true) ∧ (s.flag aSCRUB_STATUS 0 = false) ∧ (s.flag aXR_GSTATUS 0 = true)) ∧
  (let s : State := b;
    (Quiet s) ∧ (s.regsWf = true) ∧ (s.scrubBehind = false)) ∧
  (let s : State := b;
    let p : Sys2Proof.Path := .i3c;
    let v : BitVec 32 := 0x80000000;
    let c : Fin 32 := 0;
    let w : Word := BitVec.setWidth 64 v;
    (Quiet s) ∧ (s.regsWf = true) ∧ (WriteOk s p aRPR_CMD 4 w) ∧ (BitVec.getLsbD w 31 = true) ∧ (getBits w 0 5 = ↑c) ∧ (s.integ.repairing = none) ∧ ((s.chan c).mode ≠ ChanMode.lost) ∧ (s.replaying ↑c = false) ∧ (s.sparesUsed (↑c) (getBits w 5 6) < 2)) ∧
  (let s : State := { b with integ := { b.integ with repairs := [(0,0,0,5),(0,0,1,6)] } };
    let p : Sys2Proof.Path := .i3c;
    let v : BitVec 32 := 0x80000000;
    let c : Fin 32 := 0;
    let w : Word := BitVec.setWidth 64 v;
    (Quiet s) ∧ (s.regsWf = true) ∧ (WriteOk s p aRPR_CMD 4 w) ∧ (BitVec.getLsbD w 31 = true) ∧ (getBits w 0 5 = ↑c) ∧ (s.integ.repairing = none) ∧ ((s.chan c).mode ≠ ChanMode.lost) ∧ (s.replaying ↑c = false) ∧ (2 ≤ s.sparesUsed (↑c) (getBits w 5 6))) ∧
  (let s : State := rp b 0;
    let p : Sys2Proof.Path := .i3c;
    let v : BitVec 32 := 0x80000000;
    let w : Word := BitVec.setWidth 64 v;
    (Quiet s) ∧ (s.regsWf = true) ∧ (WriteOk s p aRPR_CMD 4 w) ∧ (BitVec.getLsbD w 31 = true) ∧ (s.integ.repairing.isSome = true)) := by
  unfold WriteOk Quiet; refine ⟨?_, ?_, ?_, ?_, ?_, ?_, ?_, ?_, ?_, ?_⟩ <;> decide +kernel

set_option maxRecDepth 100000 in
theorem test_ScrubAndRepair_can_2 :
  (let s : State := rp b repairMoves;
    let r : Repair := ⟨0, 3, 7, 1, repairMoves⟩;
    (Quiet s) ∧ (s.regsWf = true) ∧ (s.integ.repairing = some r) ∧ (r.chan < 32) ∧ (s.windowOpen = false) ∧ (s.replaying r.chan = false) ∧ (repairMoves ≤ r.moved)) ∧
  (let s : State := rp b 0;
    let r : Repair := ⟨0, 3, 7, 1, 0⟩;
    (Quiet s) ∧ (s.regsWf = true) ∧ (s.integ.repairing = some r) ∧ (r.chan < 32) ∧ (s.windowOpen = true ∨ s.replaying r.chan = true ∨ r.moved < repairMoves)) ∧
  (let s : State := b;
    let p : Sys2Proof.Path := .i3c;
    let x : Word := 1;
    (Quiet s) ∧ (s.regsWf = true) ∧ (WriteOk s p aRET_ADD 8 x) ∧ (BitVec.getLsbD x 0 = true) ∧ (s.integ.retired.contains (getBits x 12 24) = false) ∧ (s.integ.retired.length < 1024)) ∧
  (let s : State := { r with integ := { r.integ with retired := [0] } };
    let p : Sys2Proof.Path := .i3c;
    let x : Word := 1;
    (Quiet s) ∧ (s.regsWf = true) ∧ (WriteOk s p aRET_ADD 8 x) ∧ (BitVec.getLsbD x 0 = true) ∧ (s.integ.retired.contains (getBits x 12 24) = true)) := by
  unfold WriteOk Quiet; refine ⟨?_, ?_, ?_, ?_⟩ <;> decide +kernel

end ScrubAndRepair

namespace ChannelFaults

/-- Helper of the states below. -/
def jr (s : State) : State := { s with mem := { s.mem with journal := [⟨4,some 0,0,⟨0,false⟩,BitVec.allOnes 64,none,0,.hamper⟩, ⟨5,some 1,64,⟨1,false⟩,BitVec.allOnes 64,none,0,.buffer⟩], nextSeq := 9 } }

/-- Helper of the states below. -/
def rep (back : Bool) (s : State) : State := (s.setFlag (aINT_CH_STATUS 0) 0 true).setChan 0 { Channel.reset with inService := back }

set_option maxRecDepth 100000 in
theorem test_ChannelFaults_can_1 :
  (let s : State := rep false (at_ State.reset 500000000000 1000000000000);
    let c : Fin 32 := 0;
    (Quiet s) ∧ (s.regsWf = true) ∧ ((s.chan c).mode ≠ ChanMode.lost) ∧ ((s.chan c).selfRefresh = false)) ∧
  (let s : State := State.reset.setChan 0 { Channel.reset with mode := .lost };
    let c : Fin 32 := 0;
    (Quiet s) ∧ (s.regsWf = true) ∧ ((s.chan c).mode = ChanMode.lost ∨ (s.chan c).selfRefresh = true)) ∧
  (let s : State := rep false (at_ State.reset 500000000000 1000000000000);
    let c : Fin 32 := 0;
    let sweep : List (Nat × BitVec 32) := [];
    let ca : State × Bool := if s.fld (aINT_CH_STATUS ↑c) 1 2 = 1 then (s, false) else s.trainCa c sweep (s.flag aXR_GCTRL 1);
    let dq : State × Bool := if s.fld (aINT_CH_STATUS ↑c) 1 2 = 0 then
      ((if s.fld (aINT_CH_STATUS ↑c) 1 2 = 1 then (s, false) else s.trainCa c sweep (s.flag aXR_GCTRL 1)).1, false)
    else
      (if s.fld (aINT_CH_STATUS ↑c) 1 2 = 1 then (s, false) else s.trainCa c sweep (s.flag aXR_GCTRL 1)).1.trainDq c sweep
        (s.flag aXR_GCTRL 1);
    (Quiet s) ∧ (s.regsWf = true) ∧ (s.replaying ↑c = true) ∧ ((s.chan c).inService = false) ∧ ((s.chan c).mode ≠ ChanMode.lost) ∧ (s.windowOpen = false) ∧ (ca.2 = false) ∧ (dq.2 = false)) ∧
  (let s : State := rep false (at_ State.reset 500000000000 1000000000000);
    let c : Fin 32 := 0;
    let sweep : List (Nat × BitVec 32) := (List.range 80).map (fun i => (i, (0 : BitVec 32)));
    let ca : State × Bool := if s.fld (aINT_CH_STATUS ↑c) 1 2 = 1 then (s, false) else s.trainCa c sweep (s.flag aXR_GCTRL 1);
    let dq : State × Bool := if s.fld (aINT_CH_STATUS ↑c) 1 2 = 0 then
      ((if s.fld (aINT_CH_STATUS ↑c) 1 2 = 1 then (s, false) else s.trainCa c sweep (s.flag aXR_GCTRL 1)).1, false)
    else
      (if s.fld (aINT_CH_STATUS ↑c) 1 2 = 1 then (s, false) else s.trainCa c sweep (s.flag aXR_GCTRL 1)).1.trainDq c sweep
        (s.flag aXR_GCTRL 1);
    (Quiet s) ∧ (s.regsWf = true) ∧ (s.replaying ↑c = true) ∧ ((s.chan c).inService = false) ∧ ((s.chan c).mode ≠ ChanMode.lost) ∧ (s.windowOpen = false) ∧ (ca.2 = true ∨ dq.2 = true)) ∧
  (let s : State := rep false (at_ State.reset 500000000000 1000000000000);
    let c : Fin 32 := 1;
    (Quiet s) ∧ (s.regsWf = true) ∧ (s.windowOpen = true ∨ s.replaying ↑c = false ∨ (s.chan c).inService = true)) ∧
  (let s : State := jr (rep true State.reset);
    let c : Fin 32 := 0;
    (Quiet s) ∧ (s.regsWf = true) ∧ (s.replaying ↑c = true) ∧ ((s.chan c).inService = true) ∧ (s.windowOpen = false) ∧ ((s.chan c).mode ≠ ChanMode.lost) ∧ (∀ e ∈ s.mem.journal, e.seq < s.mem.nextSeq)) ∧
  (let s : State := rep false (at_ State.reset 500000000000 1000000000000);
    let c : Fin 32 := 0;
    (Quiet s) ∧ (s.regsWf = true) ∧ (s.replaying ↑c = false ∨ (s.chan c).inService = false ∨ s.windowOpen = true)) ∧
  (let s : State := rep false (at_ State.reset 500000000000 1000000000000);
    let c : Fin 32 := 0;
    (Quiet s) ∧ (s.regsWf = true) ∧ (s.replaying ↑c = true) ∧ ((s.chan c).inService = false) ∧ ((s.chan c).spilling = false) ∧ ((s.chan c).faultAt + cycMs 1 ≤ s.cyc) ∧ ((List.map (fun e => e.seq) s.mem.journal).Nodup) ∧ (∀ e ∈ s.mem.journal, e.seq < s.mem.nextSeq)) ∧
  (let s : State := State.reset;
    let c : Fin 32 := 0;
    (Quiet s) ∧ (s.regsWf = true) ∧ (s.cyc < (s.chan c).faultAt + cycMs 1)) ∧
  (let s : State := rep false (at_ State.reset 500000000000 1000000000000);
    let c : Fin 32 := 0;
    (Quiet s) ∧ (s.regsWf = true) ∧ (s.replaying ↑c = true) ∧ ((s.chan c).inService = false) ∧ ((s.chan c).impossible = false) ∧ ((s.chan c).faultAt + cycMs s.replayLimit ≤ s.cyc)) := by
  unfold Quiet; refine ⟨?_, ?_, ?_, ?_, ?_, ?_, ?_, ?_, ?_, ?_⟩ <;> decide +kernel

set_option maxRecDepth 100000 in
theorem test_ChannelFaults_can_2 :
  (let s : State := State.reset;
    let c : Fin 32 := 0;
    (Quiet s) ∧ (s.regsWf = true) ∧ (s.cyc < (s.chan c).faultAt + cycMs s.replayLimit)) := by
  unfold Quiet; decide +kernel

end ChannelFaults

namespace StackLinks

/-- Helper of the states below. -/
def b : State := (List.finRange 64).foldl (fun s n => dom s n .on) (State.reset.setFlag aXR_GSTATUS 0 true)

/-- Helper of the states below. -/
def op (s : State) : State := { at_ s 1000 2000 with halt := { s.halt with openAt := some 1900 } }

set_option maxRecDepth 100000 in
theorem test_StackLinks_can :
  (let s : State := State.reset;
    (Quiet s) ∧ (s.regsWf = true) ∧ (s.halt.openAt = none)) ∧
  (let s : State := op b;
    let c : Fin 32 := 0;
    let o : Nat := 1900;
    (Quiet s) ∧ (s.regsWf = true) ∧ (s.halt.openAt = some o) ∧ (o + 40 ≤ s.cyc) ∧ ((s.chan c).mode ≠ ChanMode.lost) ∧ ((s.chan c).selfRefresh = false) ∧ (s.replaying ↑c = false) ∧ (s.links.changedAt.contains (↑c, o) = false) ∧ (s.flag aXR_GSTATUS 0 = true) ∧ (s.domStays (↑c / 2) = true)) ∧
  (let s : State := { b with links := { b.links with measuring := [(0,0,76)] } };
    let c : Fin 32 := 0;
    let w : Fin 76 := 0;
    let m : Nat × Nat × Nat := (0,0,76);
    let x : BitVec 32 := 0xFFFF;
    let t : Nat := 7;
    (Quiet s) ∧ (s.regsWf = true) ∧ (List.find? (fun q => q.1 == ↑c && q.2.1 == ↑w) s.links.measuring = some m) ∧ ((s.links.pendingTaps.any fun q => q.1 == ↑c && q.2.1 == ↑w) = false) ∧ (bestTap x 8 true = some t)) ∧
  (let s : State := State.reset;
    let wire : Nat := 5376;
    (Quiet s) ∧ (s.regsWf = true) ∧ (5376 ≤ wire)) ∧
  (let s : State := b;
    let d : Fin 2 := 0;
    let l : Fin 64 := 0;
    let w : Nat := 0;
    let key : Nat := 64 + 64 * ↑d + ↑l;
    let t : State := s.applyTaps (64 + 64 * ↑d + ↑l) (expressBase ↑d ↑l);
    (Quiet s) ∧ (s.regsWf = true) ∧ (s.flag aXR_GSTATUS 0 = true) ∧ (t.flag aXR_GCTRL 0 = true) ∧ ((t.links.measuring.any fun q => q.1 == key) = false) ∧ (t.flag (aXR_XG ↑d ↑l) 5 = false) ∧ (t.xgDead (↑d) (↑l) 16 = false) ∧ (t.nextWire key (List.filter (fun i => !t.xgDead (↑d) (↑l) i) (List.range 16)) = some w)) ∧
  (let s : State := State.reset;
    (Quiet s) ∧ (s.regsWf = true) ∧ (s.flag aXR_GSTATUS 0 = false)) ∧
  (let s : State := b;
    let n : Fin 17 := 0;
    let k : Nat := 1;
    let sel : Nat := s.fld (aXR_CLK ↑n) 0 2;
    (Quiet s) ∧ (s.regsWf = true) ∧ (s.flag aXR_GSTATUS 0 = true) ∧ (s.flag (aXR_CLK ↑n) 8 = false) ∧ (↑n = 0 ∨ s.domStays (↑n - 1) = true) ∧ (List.find? (fun j => !(s.setFlag (aXR_CLK ↑n) (4 + sel) true).clkDead (↑n) j) (rotate 4 sel) = some k)) ∧
  (let s : State := { (State.reset.setFld (aXR_SI_STATUS 0) 0 2 2) with links := { State.reset.links with siSent := [(0,standinLines)] } };
    let n : Fin 2 := 0;
    (Quiet s) ∧ (s.regsWf = true) ∧ (s.siState ↑n = 2) ∧ (s.siSent ↑n = standinLines)) ∧
  (let s : State := State.reset;
    let n : Fin 2 := 0;
    (Quiet s) ∧ (s.regsWf = true) ∧ (s.siState ↑n ≠ 2 ∨ s.siSent ↑n ≠ standinLines)) ∧
  (let s : State := State.reset;
    (Quiet s) ∧ (s.regsWf = true) ∧ (s.links.serviceFailed < 8)) := by
  unfold Quiet; refine ⟨?_, ?_, ?_, ?_, ?_, ?_, ?_, ?_, ?_, ?_⟩ <;> decide +kernel

end StackLinks

namespace HeatAndShutdown

/-- Helper of the states below. -/
def p : State := { fmS with pins := { fmS.pins with pwrGood := true, converter := true } }

/-- Helper of the states below. -/
def ph (f : Thermal → Thermal) (s : State) : State := { s with therm := f s.therm }

/-- Helper of the states below. -/
def st3 (s : State) : State := s.setFld (aTH_LAYER 5) 12 3 3

set_option maxRecDepth 100000 in
theorem test_HeatAndShutdown_can :
  (let s : State := p;
    let n : Fin 18 := 0;
    let x : BitVec 10 := 0;
    (Quiet s) ∧ (s.regsWf = true) ∧ (s.pins.pwrGood = true) ∧ (x.toNat ≤ 600) ∧ (∀ i ∈ layerSensors ↑n, s.flag (aTH_SENSOR i) 10 = false) ∧ (isDram ↑n = false)) ∧
  (let s : State := { p with pins := { p.pins with pwrGood := false } };
    (Quiet s) ∧ (s.regsWf = true) ∧ (s.pins.pwrGood = false)) ∧
  (let s : State := p;
    let n : Fin 18 := 1;
    (Quiet s) ∧ (s.regsWf = true) ∧ (isDram ↑n = true) ∧ (s.pins.pwrGood = true)) ∧
  (let s : State := (at_ (st3 p) 1000 2000 |> ph (fun t => { t with graceEnd := some 5 }));
    let e : Nat := 5;
    (Quiet s) ∧ (s.regsWf = true) ∧ (s.therm.graceEnd = some e) ∧ (e ≤ s.cyc) ∧ (s.anyStage 3 (List.range 18) = true)) ∧
  (let s : State := (at_ p 1000 2000 |> ph (fun t => { t with graceEnd := some 5 }));
    let e : Nat := 5;
    (Quiet s) ∧ (s.regsWf = true) ∧ (s.therm.graceEnd = some e) ∧ (e ≤ s.cyc) ∧ (s.anyStage 3 (List.range 18) = false)) ∧
  (let s : State := ph (fun t => { t with graceEnd := some 5000 }) p;
    let e : Nat := 5000;
    (Quiet s) ∧ (s.regsWf = true) ∧ (s.therm.graceEnd = some e) ∧ (s.cyc < e)) ∧
  (let s : State := (p.setFld aTH_STATUS 4 2 1);
    (Quiet s) ∧ (s.regsWf = true) ∧ (s.fld aTH_STATUS 4 2 = 1) ∧ (s.therm.drainedAt = none) ∧ (s.drained = true)) ∧
  (let s : State := { (p.setFld aTH_STATUS 4 2 1) with cache := [⟨0, ⟨0,false⟩, true, 0⟩] };
    (Quiet s) ∧ (s.regsWf = true) ∧ (s.drained = false)) ∧
  (let s : State := (at_ (p.setFld aTH_STATUS 4 2 1) 1000000 2000000 |> ph (fun t => { t with shutAt := some (5,6), drainedAt := some 7 }));
    let d : Nat := 7;
    let a : Nat × Nat := (5,6);
    (Quiet s) ∧ (s.regsWf = true) ∧ (s.therm.drainedAt = some d) ∧ (s.therm.shutAt = some a) ∧ (s.fld aTH_STATUS 4 2 = 1) ∧ (d + cycUs 20 ≤ s.cyc)) ∧
  (let s : State := (at_ (p.setFld aTH_STATUS 4 2 1) 1000000000 2000000000 |> ph (fun t => { t with shutAt := some (5,6) }));
    let a : Nat × Nat := (5,6);
    (Quiet s) ∧ (s.regsWf = true) ∧ (s.therm.drainedAt = none) ∧ (s.therm.shutAt = some a) ∧ (s.fld aTH_STATUS 4 2 = 1) ∧ (a.1 + cycMs 10 ≤ s.cyc)) := by
  unfold Quiet; refine ⟨?_, ?_, ?_, ?_, ?_, ?_, ?_, ?_, ?_, ?_⟩ <;> decide +kernel

end HeatAndShutdown

namespace PowerDomains

/-- Helper of the states below. -/
def mv (n : Fin 64) (st t : DomState) (s : State) : State := s.setDom n { s.dom n with st := st, moving := some (t, 5, 7) }

set_option maxRecDepth 100000 in
theorem test_PowerDomains_can :
  (let s : State := fmS;
    let p : Sys2Proof.Path := .i3c;
    let v : BitVec 32 := 0;
    let w : Word := BitVec.setWidth 64 v;
    (Quiet s) ∧ (s.regsWf = true) ∧ (WriteOk s p aPWR_MREQ_CTRL 4 w) ∧ (getBits w 0 2 < 3) ∧ (BitVec.getLsbD w 2 = false)) ∧
  (let s : State := fmS;
    let p : Sys2Proof.Path := .i3c;
    let v : BitVec 32 := 4;
    let w : Word := BitVec.setWidth 64 v;
    (Quiet s) ∧ (s.regsWf = true) ∧ (WriteOk s p aPWR_MREQ_CTRL 4 w) ∧ (getBits w 0 2 < 3) ∧ (BitVec.getLsbD w 2 = true)) ∧
  (let s : State := fmS;
    let p : Sys2Proof.Path := .i3c;
    let v : BitVec 32 := 3;
    let w : Word := BitVec.setWidth 64 v;
    (Quiet s) ∧ (s.regsWf = true) ∧ (WriteOk s p aPWR_MREQ_CTRL 4 w) ∧ (getBits w 0 2 = 3)) ∧
  (let s : State := mv 0 .on .off fmS;
    let n : Fin 64 := 0;
    let target : DomState := .off;
    let c0 : Nat := 5;
    let src : Nat := 7;
    (Quiet s) ∧ (s.regsWf = true) ∧ ((s.dom n).moving = some (target, c0, src)) ∧ (target ≠ DomState.on) ∧ ((s.entryWork ↑n).entryDone ↑n = true)) ∧
  (let s : State := mv 16 .on .off (fmS.setChan 0 { Channel.reset with writing := [([0],5)] });
    let n : Fin 64 := 16;
    let target : DomState := .off;
    let c0 : Nat := 5;
    let src : Nat := 7;
    (Quiet s) ∧ (s.regsWf = true) ∧ ((s.dom n).moving = some (target, c0, src)) ∧ (target ≠ DomState.on) ∧ ((s.entryWork ↑n).entryDone ↑n = false)) ∧
  (let s : State := mv 40 .retention .on fmS;
    let n : Fin 64 := 40;
    let c0 : Nat := 5;
    let src : Nat := 7;
    (Quiet s) ∧ (s.regsWf = true) ∧ ((s.dom n).moving = some (DomState.on, c0, src)) ∧ (↑n < 16 → (s.dom n).st ≠ DomState.off) ∧ (s.wakeReady ↑n = true) ∧ ((s.dom n).st = DomState.retention) ∧ (32 ≤ ↑n) ∧ (↑n < 42)) ∧
  (let s : State := mv 0 .off .on (dom fmS 16 .on);
    let n : Fin 64 := 0;
    let l : Fin 16 := 0;
    let c0 : Nat := 5;
    let src : Nat := 7;
    (Quiet s) ∧ (s.regsWf = true) ∧ (n.val = l.val) ∧ ((s.dom n).moving = some (DomState.on, c0, src)) ∧ ((s.dom n).st = DomState.off) ∧ (s.wakeReady ↑n = true)) ∧
  (let s : State := fmS;
    let n : Fin 64 := 0;
    let l : Fin 16 := 0;
    (Quiet s) ∧ (s.regsWf = true) ∧ (n.val = l.val) ∧ ((s.dom n).moving = none)) := by
  unfold WriteOk Quiet; refine ⟨?_, ?_, ?_, ?_, ?_, ?_, ?_, ?_⟩ <;> decide +kernel

end PowerDomains

namespace FuseCommandsStart

/-- Helper of the states below. -/
def b0 : State := { (at_ State.reset 1000000000 2000000000) with pins := { State.reset.pins with pwrGood := true } }

/-- Helper of the states below. -/
def b : State := b0.setFlag aOTP_STATUS 0 true

set_option maxRecDepth 100000 in
theorem test_FuseCommandsStart_can_1 :
  (let s : State := b;
    let p : Sys2Proof.Path := .mc;
    let w : BitVec 9 := 5;
    let op : Nat := 0;
    (s.regsWf = true) ∧ (WriteOk s p aOTP_CMD 4 (otpWord op w)) ∧ (s.otpBusy = false) ∧ (¬(160 ≤ w.toNat ∧ w.toNat ≤ 167))) ∧
  (let s : State := b;
    let p : Sys2Proof.Path := .mc;
    let w : BitVec 9 := 160;
    let op : Nat := 0;
    (s.regsWf = true) ∧ (WriteOk s p aOTP_CMD 4 (otpWord op w)) ∧ (s.otpBusy = false) ∧ (160 ≤ w.toNat) ∧ (w.toNat ≤ 167)) ∧
  (let s : State := b;
    let p : Sys2Proof.Path := .mc;
    let w : BitVec 9 := 5;
    let op : Nat := 1;
    (s.regsWf = true) ∧ (WriteOk s p aOTP_CMD 4 (otpWord op w)) ∧ (s.otpBusy = false) ∧ (¬(160 ≤ w.toNat ∧ w.toNat ≤ 167))) ∧
  (let s : State := b;
    let p : Sys2Proof.Path := .mc;
    let w : BitVec 9 := 160;
    let op : Nat := 1;
    (s.regsWf = true) ∧ (WriteOk s p aOTP_CMD 4 (otpWord op w)) ∧ (s.otpBusy = false) ∧ (160 ≤ w.toNat) ∧ (w.toNat ≤ 167)) ∧
  (let s : State := b;
    let p : Sys2Proof.Path := .mc;
    let w : BitVec 9 := 5;
    let op : Nat := 2;
    (s.regsWf = true) ∧ (WriteOk s p aOTP_CMD 4 (otpWord op w)) ∧ (s.otpBusy = false) ∧ (¬(160 ≤ w.toNat ∧ w.toNat ≤ 167))) ∧
  (let s : State := b;
    let p : Sys2Proof.Path := .mc;
    let w : BitVec 9 := 160;
    let op : Nat := 2;
    (s.regsWf = true) ∧ (WriteOk s p aOTP_CMD 4 (otpWord op w)) ∧ (s.otpBusy = false) ∧ (160 ≤ w.toNat) ∧ (w.toNat ≤ 167)) ∧
  (let s : State := (b.setReg aOTP_DATA 5).setReg aOTP_CTRL 0;
    let p : Sys2Proof.Path := .mc;
    let w : BitVec 9 := 300;
    (s.regsWf = true) ∧ (WriteOk s p aOTP_CMD 4 (otpWord 3 w)) ∧ (s.otpBusy = false) ∧ (s.programRefusal w.toNat = none)) ∧
  (let s : State := b;
    let p : Sys2Proof.Path := .mc;
    let w : BitVec 9 := 5;
    let st : Nat := 5;
    (s.regsWf = true) ∧ (WriteOk s p aOTP_CMD 4 (otpWord 3 w)) ∧ (s.otpBusy = false) ∧ (s.programRefusal w.toNat = some st)) ∧
  (let s : State := (((b.setReg aOTP_DATA 5).setReg aOTP_CTRL 0).setReg aTT_IMAGE 1).setFld aIMG_STATUS 0 7 9;
    let p : Sys2Proof.Path := .mc;
    let w : BitVec 9 := 5;
    (s.regsWf = true) ∧ (WriteOk s p aOTP_CMD 4 (otpWord 4 w)) ∧ (s.otpBusy = false) ∧ (s.raiseRefusal = none)) ∧
  (let s : State := b;
    let p : Sys2Proof.Path := .mc;
    let w : BitVec 9 := 5;
    let st : Nat := 11;
    (s.regsWf = true) ∧ (WriteOk s p aOTP_CMD 4 (otpWord 4 w)) ∧ (s.otpBusy = false) ∧ (s.raiseRefusal = some st)) := by
  unfold WriteOk Quiet; refine ⟨?_, ?_, ?_, ?_, ?_, ?_, ?_, ?_, ?_, ?_⟩ <;> decide +kernel

set_option maxRecDepth 100000 in
theorem test_FuseCommandsStart_can_2 :
  (let s : State := { b with otp := { b.otp with cmd := some ⟨0,5,0,[],false,0⟩ } };
    let p : Sys2Proof.Path := .mc;
    let w : BitVec 9 := 5;
    let op : Nat := 0;
    (s.regsWf = true) ∧ (WriteOk s p aOTP_CMD 4 (otpWord op w)) ∧ (s.otpBusy = true)) ∧
  (let s : State := { b with otp := { b.otp with cmd := some ⟨0,5,0,[],false,0⟩ } };
    let p : Sys2Proof.Path := .mc;
    let w : BitVec 9 := 5;
    let op : Nat := 1;
    (s.regsWf = true) ∧ (WriteOk s p aOTP_CMD 4 (otpWord op w)) ∧ (s.otpBusy = true)) ∧
  (let s : State := { b with otp := { b.otp with cmd := some ⟨0,5,0,[],false,0⟩ } };
    let p : Sys2Proof.Path := .mc;
    let w : BitVec 9 := 5;
    let op : Nat := 2;
    (s.regsWf = true) ∧ (WriteOk s p aOTP_CMD 4 (otpWord op w)) ∧ (s.otpBusy = true)) ∧
  (let s : State := { b with otp := { b.otp with cmd := some ⟨0,5,0,[],false,0⟩ } };
    let p : Sys2Proof.Path := .mc;
    let w : BitVec 9 := 5;
    let op : Nat := 3;
    (s.regsWf = true) ∧ (WriteOk s p aOTP_CMD 4 (otpWord op w)) ∧ (s.otpBusy = true)) ∧
  (let s : State := { b with otp := { b.otp with cmd := some ⟨0,5,0,[],false,0⟩ } };
    let p : Sys2Proof.Path := .mc;
    let w : BitVec 9 := 5;
    let op : Nat := 4;
    (s.regsWf = true) ∧ (WriteOk s p aOTP_CMD 4 (otpWord op w)) ∧ (s.otpBusy = true)) := by
  unfold WriteOk Quiet; refine ⟨?_, ?_, ?_, ?_, ?_⟩ <;> decide +kernel

end FuseCommandsStart

namespace FuseCommandsEnd

/-- Helper of the states below. -/
def b : State := { (at_ State.reset 1000000000 2000000000) with pins := { State.reset.pins with pwrGood := true } }

/-- Helper of the states below. -/
def c (op w : Nat) (d : Word) (left : Bool) : OtpCmd := ⟨op, w, d, [], left, 0⟩

set_option maxRecDepth 100000 in
theorem test_FuseCommandsEnd_can :
  (let s : State := b;
    (Quiet s) ∧ (s.regsWf = true) ∧ (s.otp.cmd = none)) ∧
  (let s : State := { b.setReg aOTP_CTRL 0 with otp := { b.otp with cmd := some (c 2 5 9 false) } };
    let c : OtpCmd := c 2 5 9 false;
    (Quiet s) ∧ (s.regsWf = true) ∧ (s.otp.cmd = some c) ∧ (c.op < 3) ∧ (c.op = 2)) ∧
  (let s : State := { b.setReg aOTP_CTRL 0 with otp := { b.otp with cmd := some (c 0 5 9 false) } };
    let c : OtpCmd := c 0 5 9 false;
    (Quiet s) ∧ (s.regsWf = true) ∧ (s.otp.cmd = some c) ∧ (c.op < 3) ∧ (c.op = 0)) ∧
  (let s : State := { b.setReg aOTP_CTRL 0 with otp := { b.otp with cmd := some (c 1 5 9 false) } };
    let c : OtpCmd := c 1 5 9 false;
    (Quiet s) ∧ (s.regsWf = true) ∧ (s.otp.cmd = some c) ∧ (c.op < 3) ∧ (c.op = 1)) ∧
  (let s : State := { b.setReg aOTP_CTRL 0 with otp := { b.otp with cmd := some (c 3 5 9 false) } };
    let c : OtpCmd := c 3 5 9 false;
    let x : OtpSense := ⟨.word 9 none, .word 9 none⟩;
    (Quiet s) ∧ (s.regsWf = true) ∧ (s.otp.cmd = some c) ∧ (c.op = 3) ∧ (x.strict = OtpMargin.word c.data none) ∧ (c.supplyLeft = false) ∧ (s.supplyOk = true)) ∧
  (let s : State := { b.setReg aOTP_CTRL 0 with otp := { b.otp with cmd := some (c 3 5 9 false) } };
    let c : OtpCmd := c 3 5 9 false;
    let x : OtpSense := ⟨.blank,.blank⟩;
    (Quiet s) ∧ (s.regsWf = true) ∧ (s.otp.cmd = some c) ∧ (c.op = 3) ∧ (x.strict ≠ OtpMargin.word c.data none)) ∧
  (let s : State := b.setFld aSU_STATUS 0 4 2;
    (Quiet s) ∧ (s.regsWf = true) ∧ (s.fld aSU_STATUS 0 4 = 2) ∧ (s.flag aOTP_STATUS 0 = false)) ∧
  (let s : State := b;
    (Quiet s) ∧ (s.regsWf = true) ∧ (s.fld aSU_STATUS 0 4 ≠ 2)) ∧
  (let s : State := b.setFlag aOTP_STATUS 0 true;
    (Quiet s) ∧ (s.regsWf = true) ∧ (s.flag aOTP_STATUS 0 = true) ∧ (s.seedUntil ≤ s.cyc) ∧ (s.fld aID_STATUS 0 2 = 0)) ∧
  (let s : State := { b with seedUntil := 5000000000 };
    (Quiet s) ∧ (s.regsWf = true) ∧ (s.cyc < s.seedUntil)) := by
  unfold Quiet; refine ⟨?_, ?_, ?_, ?_, ?_, ?_, ?_, ?_, ?_, ?_⟩ <;> decide +kernel

end FuseCommandsEnd

namespace RegisterCommands

/-- Helper of the states below. -/
def ow (s : State) (o : Word) : State := s.setReg (aTC_OWNER 5) o

set_option maxRecDepth 100000 in
theorem test_RegisterCommands_can_1 :
  (let s : State := fmS;
    let p : Sys2Proof.Path := .head 1;
    (s.regsWf = true) ∧ (s.pathOpen p = false)) ∧
  (let s : State := fmS;
    let p : Sys2Proof.Path := .i3c;
    let a : Nat := aTU_LIMIT;
    let b : Nat := 4;
    let x : Word := 1;
    (s.regsWf = true) ∧ (WriteOk s p a b x)) ∧
  (let s : State := fmS;
    let p : Sys2Proof.Path := .i3c;
    let a : Nat := 4;
    let b : Nat := 4;
    let x : Word := 1;
    (s.regsWf = true) ∧ (s.pathOpen p = true) ∧ (s.checkWrite p a b x = WriteCheck.bus)) ∧
  (let s : State := headS 1 .l0 4;
    let p : Sys2Proof.Path := .head 1;
    let a : Nat := aTU_LIMIT;
    let b : Nat := 4;
    let x : Word := 1;
    (s.regsWf = true) ∧ (s.pathOpen p = true) ∧ (s.checkWrite p a b x = WriteCheck.locked ∨ s.checkWrite p a b x = WriteCheck.again)) ∧
  (let s : State := fmS;
    let p : Sys2Proof.Path := .i3c;
    let v : BitVec 32 := 1;
    let w : Word := BitVec.setWidth 64 v;
    (s.regsWf = true) ∧ (WriteOk s p aTU_LIMIT 4 w)) ∧
  (let s : State := fmS;
    let k : Fin 16 := 0;
    (s.regsWf = true) ∧ (Quiet s) ∧ (s.pathOpen (Path.head k) = true)) ∧
  (let s : State := fmS;
    let p : Sys2Proof.Path := .i3c;
    let v : BitVec 32 := 1;
    let w : Word := BitVec.setWidth 64 v;
    (s.regsWf = true) ∧ (WriteOk s p aCTL_UPD_NOW 4 w)) ∧
  (let s : State := fmS;
    let p : Sys2Proof.Path := .i3c;
    let v : BitVec 32 := 1;
    let w : Word := BitVec.setWidth 64 v;
    (s.regsWf = true) ∧ (WriteOk s p aCTL_UPD_DISCARD 4 w) ∧ (v.toNat % 2 ^ 16 ≠ 0)) ∧
  (let s : State := fmS;
    (s.regsWf = true) ∧ (s.cfgPass = none)) ∧
  (let s : State := fmS;
    let p : Sys2Proof.Path := .i3c;
    let v : BitVec 32 := 0x100;
    let m : Fin 128 := 7;
    let w : Word := BitVec.setWidth 64 v;
    (s.regsWf = true) ∧ (WriteOk s p (aFC_SRC_STAT ↑m) 4 w) ∧ ((faultClass ↑m).isSome = true) ∧ (BitVec.getLsbD w 8 = true)) := by
  unfold WriteOk Quiet; refine ⟨?_, ?_, ?_, ?_, ?_, ?_, ?_, ?_, ?_, ?_⟩ <;> decide +kernel

set_option maxRecDepth 100000 in
theorem test_RegisterCommands_can_2 :
  (let s : State := fmS;
    let p : Sys2Proof.Path := .i3c;
    let v : BitVec 32 := 0x100;
    let w : Word := BitVec.setWidth 64 v;
    (s.regsWf = true) ∧ (WriteOk s p aFC_FIRST 4 w) ∧ (BitVec.getLsbD w 8 = true)) ∧
  (let s : State := fmS;
    let p : Sys2Proof.Path := .i3c;
    let v : BitVec 32 := 0x11;
    let w : Word := BitVec.setWidth 64 v;
    (s.regsWf = true) ∧ (WriteOk s p aSNAP_CTRL 4 w) ∧ (BitVec.getLsbD w 0 = true) ∧ (BitVec.getLsbD w 1 = false) ∧ (BitVec.getLsbD w 4 = true) ∧ (s.flag aSNAP_STATUS 0 = false)) ∧
  (let s : State := fmS;
    let p : Sys2Proof.Path := .i3c;
    let v : BitVec 32 := 2;
    let w : Word := BitVec.setWidth 64 v;
    (s.regsWf = true) ∧ (WriteOk s p aSNAP_CTRL 4 w) ∧ (BitVec.getLsbD w 1 = true)) ∧
  (let s : State := fmS;
    let p : Sys2Proof.Path := .thread 0;
    let v : BitVec 32 := 0x80000005;
    let n : Fin 64 := 5;
    let w : Word := BitVec.setWidth 64 v;
    let req : Nat := aOWN_REQ_IMG;
    (s.regsWf = true) ∧ (WriteOk s p req 4 w) ∧ (BitVec.getLsbD w 31 = true) ∧ (getBits w 8 2 = 0) ∧ (BitVec.getLsbD w 13 = false) ∧ (getBits w 0 8 = ↑n) ∧ (s.tcOwner ↑n = 0)) ∧
  (let s : State := ow fmS 2;
    let p : Sys2Proof.Path := .thread 0;
    let v : BitVec 32 := 0x80000005;
    let n : Fin 64 := 5;
    let w : Word := BitVec.setWidth 64 v;
    let req : Nat := aOWN_REQ_IMG;
    let owner : Nat := 1;
    (s.regsWf = true) ∧ (WriteOk s p req 4 w) ∧ (BitVec.getLsbD w 31 = true) ∧ (getBits w 8 2 = 0) ∧ (BitVec.getLsbD w 13 = false) ∧ (getBits w 0 8 = ↑n) ∧ (s.tcOwner ↑n ≠ 0) ∧ (s.tcOwner ↑n ≠ owner)) ∧
  (let s : State := fmS;
    let p : Sys2Proof.Path := .i3c;
    let v : BitVec 32 := 0x80000005;
    let n : Fin 64 := 5;
    let w : Word := BitVec.setWidth 64 v;
    let req : Nat := aOWN_REQ_FM;
    (s.regsWf = true) ∧ (WriteOk s p req 4 w) ∧ (BitVec.getLsbD w 31 = true) ∧ (getBits w 8 2 = 0) ∧ (BitVec.getLsbD w 13 = false) ∧ (getBits w 0 8 = ↑n) ∧ (s.tcOwner ↑n = 0)) ∧
  (let s : State := ow fmS 1;
    let p : Sys2Proof.Path := .i3c;
    let v : BitVec 32 := 0x80000005;
    let n : Fin 64 := 5;
    let w : Word := BitVec.setWidth 64 v;
    let req : Nat := aOWN_REQ_FM;
    let owner : Nat := 2;
    (s.regsWf = true) ∧ (WriteOk s p req 4 w) ∧ (BitVec.getLsbD w 31 = true) ∧ (getBits w 8 2 = 0) ∧ (BitVec.getLsbD w 13 = false) ∧ (getBits w 0 8 = ↑n) ∧ (s.tcOwner ↑n ≠ 0) ∧ (s.tcOwner ↑n ≠ owner)) ∧
  (let s : State := ow fmS 1;
    let p : Sys2Proof.Path := .thread 0;
    let v : BitVec 32 := 0x80002005;
    let n : Fin 64 := 5;
    let w : Word := BitVec.setWidth 64 v;
    let req : Nat := aOWN_REQ_IMG;
    let owner : Nat := 1;
    (s.regsWf = true) ∧ (WriteOk s p req 4 w) ∧ (BitVec.getLsbD w 31 = true) ∧ (getBits w 8 2 = 0) ∧ (BitVec.getLsbD w 13 = true) ∧ (getBits w 0 8 = ↑n) ∧ (s.tcOwner ↑n = owner) ∧ (s.tcHeld ↑n = false)) ∧
  (let s : State := ow fmS 2;
    let p : Sys2Proof.Path := .i3c;
    let v : BitVec 32 := 0x80002005;
    let n : Fin 64 := 5;
    let w : Word := BitVec.setWidth 64 v;
    let req : Nat := aOWN_REQ_FM;
    let owner : Nat := 2;
    (s.regsWf = true) ∧ (WriteOk s p req 4 w) ∧ (BitVec.getLsbD w 31 = true) ∧ (getBits w 8 2 = 0) ∧ (BitVec.getLsbD w 13 = true) ∧ (getBits w 0 8 = ↑n) ∧ (s.tcOwner ↑n = owner) ∧ (s.tcHeld ↑n = false)) ∧
  (let s : State := (((fmS.setReg aSU_CTRL 0).setReg aWEAR_STATUS 0x3FFFF).setFlag aSU_STATUS 11 true);
    let p : Sys2Proof.Path := .thread 0;
    let v : BitVec 32 := 1;
    let w : Word := BitVec.setWidth 64 v;
    (s.regsWf = true) ∧ (WriteOk s p aSU_CTRL 4 w) ∧ (BitVec.getLsbD w 0 = true) ∧ (s.flag aSU_CTRL 0 = false)) := by
  unfold WriteOk Quiet; refine ⟨?_, ?_, ?_, ?_, ?_, ?_, ?_, ?_, ?_, ?_⟩ <;> decide +kernel

end RegisterCommands

namespace StartUp

/-- Helper of the states below. -/
def rd (a b c d : Nat) (e : Bool) : SupplyReading := ⟨BitVec.ofNat 16 a, BitVec.ofNat 16 b, BitVec.ofNat 16 c, BitVec.ofNat 8 d, e⟩

/-- Helper of the states below. -/
def off : State := { State.reset with pins := { State.reset.pins with pwrGood := false } }

/-- Helper of the states below. -/
def held (s : State) : State := { s with pins := { s.pins with held := true } }

/-- Helper of the states below. -/
def aon (s : State) : State := { s with pins := { s.pins with aonReady := true } }

/-- Helper of the states below. -/
def step_ (n : Nat) : State := (at_ State.reset 10000 20000).setFld aSU_STATUS 0 4 n

/-- Helper of the states below. -/
def used : State := ((((headS 0 .l0 4).setReg aTU_CTRL 5).setChan 0 { Channel.reset with mode := .limp }).setThread 1 { Thread.reset with st := .run })

set_option maxRecDepth 100000 in
theorem test_StartUp_can_1 :
  (let s : State := off;
    (Quiet s) ∧ (s.regsWf = true) ∧ (s.pins.converter = true) ∧ (s.pins.pwrGood = false) ∧ (s.otp.cmd = none)) ∧
  (let s : State := State.reset;
    (Quiet s) ∧ (s.regsWf = true) ∧ (s.pins.pwrGood = true)) ∧
  (let s : State := State.reset;
    (Quiet s) ∧ (s.regsWf = true) ∧ (s.pins.pwrGood = true) ∧ (s.fld aSU_STATUS 0 4 = 1) ∧ (s.pins.aonReady = false) ∧ (s.pins.held = false)) ∧
  (let s : State := held State.reset;
    (Quiet s) ∧ (s.regsWf = true) ∧ (s.pins.pwrGood = true) ∧ (s.fld aSU_STATUS 0 4 = 1) ∧ (s.pins.aonReady = false) ∧ (s.pins.held = true)) ∧
  (let s : State := { used with grants := [⟨0,0,0⟩], pstore := [⟨0,5⟩], dram := [⟨7,9⟩], tu := { used.tu with source := .ptm, trust := .locked } };
    (Quiet s) ∧ (s.regsWf = true) ∧ (s.pins.pwrGood = true) ∧ (s.pins.held = false) ∧ (s.tu.source = TimeSource.ptm)) ∧
  (let s : State := aon (held (step_ 1));
    (Quiet s) ∧ (s.regsWf = true) ∧ (s.pins.held = true) ∧ (s.pins.aonReady = true)) ∧
  (let s : State := step_ 1;
    (Quiet s) ∧ (s.regsWf = true) ∧ (s.pins.pwrGood = true) ∧ (s.pins.held = false) ∧ (s.pins.strapsSampled = false) ∧ (s.pins.releasedAt + cycUs 5 ≤ s.cyc)) ∧
  (let s : State := { step_ 5 with pins := { (step_ 5).pins with strapsSampled := true } };
    (Quiet s) ∧ (s.regsWf = true) ∧ (s.pins.strapsSampled = true)) ∧
  (let s : State := step_ 3;
    (Quiet s) ∧ (s.regsWf = true) ∧ (s.fld aSU_STATUS 0 4 = 3) ∧ (s.pins.held = false)) ∧
  (let s : State := State.reset;
    (Quiet s) ∧ (s.regsWf = true) ∧ (s.fld aSU_STATUS 0 4 ≠ 3)) := by
  unfold Quiet; refine ⟨?_, ?_, ?_, ?_, ?_, ?_, ?_, ?_, ?_, ?_⟩ <;> decide +kernel

set_option maxRecDepth 100000 in
theorem test_StartUp_can_2 :
  (let s : State := step_ 4;
    (Quiet s) ∧ (s.regsWf = true) ∧ (s.fld aSU_STATUS 0 4 = 4) ∧ (s.pins.held = false)) ∧
  (let s : State := State.reset;
    (Quiet s) ∧ (s.regsWf = true) ∧ (s.fld aSU_STATUS 0 4 ≠ 4)) := by
  unfold Quiet; refine ⟨?_, ?_⟩ <;> decide +kernel

end StartUp


/-! Single steps: what the spec says the command leaves. -/

set_option maxRecDepth 100000 in
theorem test_ControlInstructions_does :
    (let s := runS .none;
      match exec (.nop 0 (ins 0 0 0 0 0 0) none) s with
      | .next u => decide ((u.thread 0).pc = 8)
      | _ => false) = true ∧
    (let s := runS .none;
      match exec (.stop 0 (ins 0 0 0 0 0 0)) s with
      | .next u => decide ((u.thread 0).pc = 8)
      | _ => false) = true ∧
    (let s := runS .none;
      match exec (.yield 0 (ins 0 0 0 0 0 0xFFFFFFFF)) s with
      | .next u => decide ((u.thread 0).pc = 8)
      | _ => false) = true ∧
    (let s := runS (.yield 0);
      match exec (.yieldEnd 0) s with
      | .next u => decide ((u.thread 0).wait = .none)
      | _ => false) = true := by
  refine ⟨?_, ?_, ?_, ?_⟩ <;> decide +kernel

set_option maxRecDepth 100000 in
theorem test_ArithmeticInstructions_does :
    (let s := runS .none;
      match exec (.add 0 (ins 15 1 0 1 0 0xFFFFFFFF)) s with
      | .next u => decide ((u.thread 0).pc = 8)
      | _ => false) = true ∧
    (let s := runS .none;
      match exec (.sub 0 (ins 15 1 0 1 0 0xFFFFFFFF)) s with
      | .next u => decide ((u.thread 0).pc = 8)
      | _ => false) = true ∧
    (let s := runS .none;
      match exec (.and 0 (ins 15 1 0 1 0 0xFFFFFFFF)) s with
      | .next u => decide ((u.thread 0).pc = 8)
      | _ => false) = true ∧
    (let s := runS .none;
      match exec (.or 0 (ins 15 1 0 1 0 0xFFFFFFFF)) s with
      | .next u => decide ((u.thread 0).pc = 8)
      | _ => false) = true ∧
    (let s := runS .none;
      match exec (.xor 0 (ins 15 1 0 1 0 0xFFFFFFFF)) s with
      | .next u => decide ((u.thread 0).pc = 8)
      | _ => false) = true ∧
    (let s := runS .none;
      match exec (.mul 0 (ins 15 1 0 1 0 0xFFFFFFFF)) s with
      | .next u => decide ((u.thread 0).pc = 8)
      | _ => false) = true := by
  refine ⟨?_, ?_, ?_, ?_, ?_, ?_⟩ <;> decide +kernel

set_option maxRecDepth 100000 in
theorem test_ShiftsComparesAndMoves_does :
    (let s := runS .none;
      match exec (.shl 0 (ins 15 1 0 1 0 0xFFFFFFFF)) s with
      | .next u => decide ((u.thread 0).pc = 8)
      | _ => false) = true ∧
    (let s := runS .none;
      match exec (.shr 0 (ins 15 1 0 1 0 0xFFFFFFFF)) s with
      | .next u => decide ((u.thread 0).pc = 8)
      | _ => false) = true ∧
    (let s := runS .none;
      match exec (.sar 0 (ins 15 1 0 1 0 0xFFFFFFFF)) s with
      | .next u => decide ((u.thread 0).pc = 8)
      | _ => false) = true ∧
    (let s := runS .none;
      match exec (.cmp 0 (ins 0 1 0 1 0 0xFFFFFFFF)) s with
      | .next u => decide ((u.thread 0).c = true)
      | _ => false) = true ∧
    (let s := runS .none;
      match exec (.movi 0 (ins 15 0 0 1 0 0xFFFFFFFF)) s with
      | .next u => decide (u.gpr 0 15 = 0xFFFFFFFF)
      | _ => false) = true ∧
    (let s := runS .none;
      match exec (.movhi 0 (ins 15 0 0 0 0 0xFFFFFFFF)) s with
      | .next u => decide (u.gpr 0 15 = 0xFFFFFFFF00000000)
      | _ => false) = true ∧
    (let s := runS .none;
      match exec (.addi 0 (ins 15 1 0 0 0 0xFFFFFFFF)) s with
      | .next u => decide (u.gpr 0 15 = 0xFFFFFFFFFFFFFFFF)
      | _ => false) = true := by
  refine ⟨?_, ?_, ?_, ?_, ?_, ?_, ?_⟩ <;> decide +kernel

set_option maxRecDepth 100000 in
theorem test_LoadInstructions_does :
    (let s := runS .none;
      match exec (.ld 0 (ins 15 0 0 0 0 0x5FFFF8) false) s with
      | .next u => decide ((u.thread 0).pc = 8)
      | _ => false) = true ∧
    (let s := runS .none;
      match exec (.ldw 0 (ins 15 0 0 1 0 0x5FFFFC) false) s with
      | .next u => decide ((u.thread 0).pc = 8)
      | _ => false) = true := by
  refine ⟨?_, ?_⟩ <;> decide +kernel

set_option maxRecDepth 100000 in
theorem test_StoreInstructions_does :
    (let s := runS .none;
      match exec (.st 0 (ins 0 0 1 0 0 0x3FFFF8)) s with
      | .next u => decide ((u.thread 0).pc = 8)
      | _ => false) = true ∧
    (let s := runS .none;
      match exec (.stw 0 (ins 0 0 1 0 0 0x3FFFFC)) s with
      | .next u => decide ((u.thread 0).pc = 8)
      | _ => false) = true := by
  refine ⟨?_, ?_⟩ <;> decide +kernel

set_option maxRecDepth 100000 in
theorem test_BranchInstructions_does :
    (let s := runS .none;
      match exec (.br 0 (ins 0 0 0 1 0 0xFF8)) s with
      | .next u => decide ((u.thread 0).pc = 0xFF8)
      | _ => false) = true ∧
    (let s := (runS .none).setThread 0 { Thread.reset with st := .run, z := true };
      match exec (.bc 0 (ins 0 0 0 1 0 1)) s with
      | .next u => decide ((u.thread 0).pc = 8)
      | _ => false) = true ∧
    (let s := runS .none;
      match exec (.bc 0 (ins 0 0 0 1 0 2)) s with
      | .next u => decide ((u.thread 0).pc = 8)
      | _ => false) = true ∧
    (let s := runS .none;
      match exec (.call 0 (ins 0 0 0 1 0 0xFF8)) s with
      | .next u => decide ((u.thread 0).stack = [8])
      | _ => false) = true ∧
    (let s := (runS .none).setThread 0 { Thread.reset with st := .run, stack := [16] };
      match exec (.ret 0 (ins 0 0 0 0 0 0)) s with
      | .next u => decide ((u.thread 0).pc = 16)
      | _ => false) = true ∧
    (let s := (runS .none).setThread 0 { Thread.reset with st := .run, l := true };
      match exec (.brl 0 (ins 0 0 0 0 0 2)) s with
      | .next u => decide ((u.thread 0).pc = 16)
      | _ => false) = true ∧
    (let s := runS .none;
      match exec (.brl 0 (ins 0 0 0 0 0 2)) s with
      | .next u => decide ((u.thread 0).pc = 8)
      | _ => false) = true := by
  refine ⟨?_, ?_, ?_, ?_, ?_, ?_, ?_⟩ <;> decide +kernel

set_option maxRecDepth 100000 in
theorem test_ThreadViolationsFreeze_does :
    (let s := (runS .none).setThread 0 { Thread.reset with st := .run, pc := 0x1000 };
      match exec (.nop 0 (ins 0 0 0 0 0 0) none) s with
      | .next u => decide ((u.thread 0).st = .frozen ∧ (u.thread 0).pc = (s.thread 0).pc)
      | _ => false) = true ∧
    (let s := runS .none;
      match exec (.add 0 (ins 0 0 0 2 0 0)) s with
      | .next u => decide ((u.thread 0).st = .frozen ∧ (u.thread 0).pc = (s.thread 0).pc)
      | _ => false) = true ∧
    (let s := runS .none;
      match exec (.ld 0 (ins 1 0 0 0 0 4) false) s with
      | .next u => decide ((u.thread 0).st = .frozen ∧ (u.thread 0).pc = (s.thread 0).pc)
      | _ => false) = true ∧
    (let s := runS .none;
      match exec (.st 0 (ins 0 0 1 0 0 0xFF8)) s with
      | .next u => decide ((u.thread 0).st = .frozen ∧ (u.thread 0).pc = (s.thread 0).pc)
      | _ => false) = true ∧
    (let s := runS .none;
      match exec (.ldw 0 (ins 1 0 0 0 0 2) false) s with
      | .next u => decide ((u.thread 0).st = .frozen ∧ (u.thread 0).pc = (s.thread 0).pc)
      | _ => false) = true ∧
    (let s := runS .none;
      match exec (.stw 0 (ins 0 0 1 0 0 0x400000)) s with
      | .next u => decide ((u.thread 0).st = .frozen ∧ (u.thread 0).pc = (s.thread 0).pc)
      | _ => false) = true ∧
    (let s := (runS .none).setThread 0 { Thread.reset with st := .run, stack := List.replicate 16 8 };
      match exec (.call 0 (ins 0 0 0 1 0 0xFF8)) s with
      | .next u => decide ((u.thread 0).st = .frozen ∧ (u.thread 0).pc = (s.thread 0).pc)
      | _ => false) = true ∧
    (let s := runS .none;
      match exec (.ret 0 (ins 0 0 0 0 0 0)) s with
      | .next u => decide ((u.thread 0).st = .frozen ∧ (u.thread 0).pc = (s.thread 0).pc)
      | _ => false) = true ∧
    (let s := runS .none;
      match exec (.br 0 (ins 0 0 0 1 0 0x1000)) s with
      | .next u => decide ((u.thread 0).st = .frozen ∧ (u.thread 0).pc = (s.thread 0).pc)
      | _ => false) = true ∧
    (let s := runS .none;
      match exec (.bc 0 (ins 0 0 0 0 0 0x200)) s with
      | .next u => decide ((u.thread 0).st = .frozen ∧ (u.thread 0).pc = (s.thread 0).pc)
      | _ => false) = true := by
  refine ⟨?_, ?_, ?_, ?_, ?_, ?_, ?_, ?_, ?_, ?_⟩ <;> decide +kernel

set_option maxRecDepth 100000 in
theorem test_ConfigurationInstructions_does :
    (let s := runS .none;
      match exec (.crd 0 (ins 15 0 0 1 0 0x40000)) s with
      | .next u => decide ((u.thread 0).wait = .crd 0x40000 true 0 15 (some 0))
      | _ => false) = true ∧
    (let s := at_ (runS (.crd 0x40000 true 0 15 (some 0))) 16 32;
      match exec (.crdReturn 0) s with
      | .next u => decide ((u.thread 0).wait = .none ∧ (u.thread 0).pc = 8)
      | _ => false) = true ∧
    (let s := runS .none;
      match exec (.cwr 0 (ins 0 0 1 0 0 0x40018)) s with
      | .next u => decide (u.eng.queue = [⟨0, 0, 0x40018, false, 0⟩])
      | _ => false) = true ∧
    (let s := { runS .none with eng := { (runS .none).eng with queue := List.replicate 64 ⟨0, 0, 0x40018, false, 0⟩ } };
      match exec (.cwr 0 (ins 0 0 1 0 0 0x40018)) s with
      | .next u => decide ((u.thread 0).wait = .cwr ∧ u.eng.waiting.length = 1)
      | _ => false) = true ∧
    (let s := { runS .cwr with eng := { (runS .cwr).eng with waiting := [⟨0, 0, 0x40018, false, 0⟩] } };
      match exec (.cwrQueueEntryFree) s with
      | .next u => decide ((u.thread 0).wait = .none ∧ u.eng.waiting = [])
      | _ => false) = true ∧
    (let s := { runS .none with eng := { (runS .none).eng with queue := [⟨0, 0, 0x40018, false, 7⟩] } };
      match exec (.cwrDelivery) s with
      | .next u => decide (u.pendValue 0x40018 = some 7)
      | _ => false) = true := by
  refine ⟨?_, ?_, ?_, ?_, ?_, ?_⟩ <;> decide +kernel

set_option maxRecDepth 100000 in
theorem test_StrobeAndComparatorInstructions_does :
    (let s := runS .none;
      match exec (.upd 0 (ins 1 0 0 0 0 0xFFFF)) s with
      | .next u => decide ((u.thread 0).st = .wait)
      | _ => false) = true ∧
    (let s := waitS (.upd 1 0 1);
      match exec (.updExecute 0) s with
      | .next u => decide ((u.thread 0).st = .run ∧ (u.thread 0).z = true)
      | _ => false) = true ∧
    (let s := runS .none;
      match exec (.updt 0 (ins 1 2 3 0 63 15)) s with
      | .next u => decide (u.tcArmed 63 = true ∧ u.tcTarget 63 = 3 ∧ u.tcIndex 63 = 15 ∧ (u.thread 0).l = true)
      | _ => false) = true ∧
    (let s := runS .none;
      match exec (.tarm 0 (ins 1 2 3 0 0 0x1F20)) s with
      | .next u => decide (u.tcArmed 0 = true ∧ u.tcTarget 0 = 2 ∧ u.tcIndex 0 = 31 ∧ u.tcOwner 0 = 1)
      | _ => false) = true ∧
    (let s := ((runS .none).setReg (aTC_OWNER 63) 1).setReg (aTC_CTRL 63) 1;
      match exec (.tdisarm 0 (ins 1 0 0 0 63 0)) s with
      | .next u => decide (u.tcArmed 63 = false ∧ u.tcOwner 63 = 1)
      | _ => false) = true ∧
    (let s := ((runS .none).setReg (aTC_OWNER 63) 1).setReg (aTC_CTRL 63) 1;
      match exec (.tdisarm 0 (ins 1 0 0 1 63 0)) s with
      | .next u => decide (u.tcArmed 63 = false ∧ u.tcOwner 63 = 0)
      | _ => false) = true := by
  refine ⟨?_, ?_, ?_, ?_, ?_, ?_⟩ <;> decide +kernel

set_option maxRecDepth 100000 in
theorem test_TimeInstructions_does :
    (let s := runS .none;
      match exec (.tnow 0 (ins 1 0 0 1 0 0)) s with
      | .next u => decide ((u.thread 0).pc = 8)
      | _ => false) = true ∧
    (let s := runS .none;
      match exec (.twait 0 (ins 1 0 0 0 0 100)) s with
      | .next u => decide ((u.thread 0).wait = .time 100 1)
      | _ => false) = true ∧
    (let s := at_ (waitS (.time 100 1)) 100 200;
      match exec (.twaitEnd 0) { s with tu := { s.tu with engNow := 100 } } with
      | .next u => decide (u.gpr 0 1 = 100 ∧ (u.thread 0).pc = 8)
      | _ => false) = true ∧
    (let s := runS .none;
      match exec (.ttrust 0 (ins 1 0 0 0 0 0)) s with
      | .next u => decide ((u.thread 0).z = false ∧ getBits (u.gpr 0 1) 0 2 = 0 ∧
        getBits (u.gpr 0 1) 32 32 = s.boundNow % 2^32)
      | _ => false) = true := by
  refine ⟨?_, ?_, ?_, ?_⟩ <;> decide +kernel

set_option maxRecDepth 100000 in
theorem test_EventInstructions_does :
    (let s := runS .none;
      match exec (.ewait 0 (ins 1 2 0 0 0 0xFFFF)) s with
      | .next u => decide ((u.thread 0).st = .wait)
      | _ => false) = true ∧
    (let s := (codeS.setThread 0 { Thread.reset with st := .wait, wait := .events 1 none 1, events := 3 });
      match exec (.ewaitEnd 0) s with
      | .next u => decide (u.gpr 0 1 = 1 ∧ (u.thread 0).events = 3)
      | _ => false) = true ∧
    (let s := runS .none;
      match exec (.esig 0 (ins 0 0 0 0 7 0xFF)) s with
      | .next u => decide ((u.thread 7).events = 0xFF ∧ (u.thread 0).events = 0)
      | _ => false) = true ∧
    (let s := (runS .none).setThread 0 { Thread.reset with st := .run, events := 7, freshAt := 5 };
      match exec (.eclr 0 (ins 0 0 0 0 0 2)) s with
      | .next u => decide ((u.thread 0).events = 5)
      | _ => false) = true ∧
    (let s := (runS .none).setThread 0 { Thread.reset with st := .run, events := 7, fresh := 2 };
      match exec (.eclr 0 (ins 0 0 0 0 0 3)) s with
      | .next u => decide ((u.thread 0).events = 6)
      | _ => false) = true := by
  refine ⟨?_, ?_, ?_, ?_, ?_⟩ <;> decide +kernel

set_option maxRecDepth 100000 in
theorem test_CarriageInstructions_does :
    (let s := ((runS .none).setThread 0 { Thread.reset with st := .run, g := (Vector.replicate 16 0).set 1 0x1000 });
      match exec (.claunch 0 (ins 2 1 0 0 31 0)) s with
      | .next u => decide ((u.car 31).st = .running ∧ (u.car 31).desc = 0x1000 ∧ (u.thread 0).z = true ∧
        u.gpr 0 2 = resultWord 31 0 0)
      | _ => false) = true ∧
    (let s := runS .none;
      match exec (.cwait 0 (ins 2 1 0 0 31 0)) s with
      | .next u => decide ((u.thread 0).wait = .carriage 31 (some 0) 2)
      | _ => false) = true ∧
    (let s := at_ (waitS (.carriage 31 none 2)) 1 2;
      match exec (.cwaitEnd 31) s with
      | .next u => decide ((u.thread 0).st = .run ∧ (u.thread 0).z = true)
      | _ => false) = true ∧
    (let s := runS .none;
      match exec (.cstat 0 (ins 2 0 0 0 31 0)) s with
      | .next u => decide ((u.thread 0).z = true)
      | _ => false) = true ∧
    (let s := (runS .none).setCar 31 { Carriage.reset with st := .running };
      match exec (.cabort 0 (ins 2 0 0 0 31 0)) s with
      | .next u => decide ((u.car 31).st = .stopped ∧ (u.car 31).code = 1)
      | _ => false) = true ∧
    (let s := (runS .none).setCar 31 { Carriage.reset with st := .reserved };
      match exec (.cabort 0 (ins 2 0 0 0 31 0)) s with
      | .next u => decide ((u.car 31).st = .reserved ∧ u.gpr 0 2 = resultWord 31 1 0)
      | _ => false) = true := by
  refine ⟨?_, ?_, ?_, ?_, ?_, ?_⟩ <;> decide +kernel

set_option maxRecDepth 100000 in
theorem test_PowerAndSnapshotInstructions_does :
    (let s := runS .none;
      match exec (.preq 0 (ins 2 1 0 0 0 0)) s with
      | .next u => decide ((u.thread 0).st = .wait ∧ u.power.nextId = 1)
      | _ => false) = true ∧
    (let s := { waitS (.power 0 2) with power := { State.reset.power with finished := [(0, 5)] } };
      match exec (.preqComplete 0) s with
      | .next u => decide (u.gpr 0 2 = 5 ∧ u.power.finished = [])
      | _ => false) = true ∧
    (let s := runS .none;
      match exec (.snap 0 (ins 0 0 0 0 0 0)) s with
      | .next u => decide (u.flag aSNAP_STATUS 1 = true ∧ u.flag aSNAP_STATUS 0 = true ∧ u.snapDue = false)
      | _ => false) = true ∧
    (let s := runS .none;
      match exec (.snapRe 0 (ins 0 0 0 1 0 0)) s with
      | .next u => decide (u.flag aSNAP_STATUS 0 = false)
      | _ => false) = true := by
  refine ⟨?_, ?_, ?_, ?_⟩ <;> decide +kernel

set_option maxRecDepth 100000 in
theorem test_SealAndOutingInstructions_does :
    (let s := (let s := (codeS.setReg (aCR_WIN_LIMIT 3) 0x100000000).setThread 0 { Thread.reset with st := .run, g := (Vector.replicate 16 0).set 1 0x2000 }
         let s := { s with grants := [⟨0, 0, 0⟩] }
         let m := Memory.setN (Memory.setN s.pstore 0x2000 8 0) 0x2008 8 0x1000000
         let m := Memory.setN (Memory.setN m 0x2010 8 0x8000000) 0x2018 8 1000000
         let m := Memory.setN (Memory.setN m 0x2020 4 0) 0x2024 4 0x10
         let m := Memory.setN (Memory.setN m 0x2028 1 3) 0x2029 1 0
         { (s.setReg (aCR_WIN_LIMIT 4) 0x100000000) with pstore := m });
      match exec (.sealArm 0 (ins 2 1 0 0 3 0)) s with
      | .next u => decide ((u.seal 3).st = .armed)
      | _ => false) = true ∧
    (let s := (runS .none).setSeal 3 { Seal.reset with st := .armed };
      match exec (.sealArm 0 (ins 2 0 0 0 3 0)) s with
      | .next u => decide (u.gpr 0 2 = resultWord 3 8 0)
      | _ => false) = true ∧
    (let s := ((runS .none).setSeal 3 { Seal.reset with st := .armed, comp := 63 }).setReg (aTC_OWNER 63) 1;
      match exec (.sealCancel 0 (ins 2 0 0 1 3 0)) s with
      | .next u => decide ((u.seal 3).st = .idle ∧ u.tcOwner 63 = 0)
      | _ => false) = true ∧
    (let s := runS .none;
      match exec (.sealRead 0 (ins 2 0 0 2 3 0)) s with
      | .next u => decide ((u.seal 3).st = .idle)
      | _ => false) = true ∧
    (let s := (let s := ((headS 0 .l0 4).setReg aTT_CODE_END 0x1000).setReg aOUT_DEVINDEX 0x1000
         let s := s.setReg (aCR_WIN_HEADS 31) 1
         let s := s.setThread 0 { Thread.reset with st := .run, g := (Vector.replicate 16 0).set 1 0x2000 }
         let m := Memory.setN (Memory.setN s.pstore 0x2000 8 1000000) 0x2008 4 0
         let m := Memory.setN (Memory.setN m 0x200C 2 7) 0x200E 2 1
         let m := Memory.setN (Memory.setN m 0x2010 8 0x100000) 0x2018 1 0
         { s with pstore := Memory.setN (Memory.setN m 0x2019 1 31) 0x201A 1 1 });
      match exec (.outingArm 0 (ins 2 1 0 0 0 0)) s with
      | .next u => decide ((u.outing 0).st = .armed)
      | _ => false) = true ∧
    (let s := (runS .none).setOuting 7 { Outing.reset with st := .armed, comp := 3 };
      match exec (.outingCancel 0 (ins 2 0 0 1 3 0)) s with
      | .next u => decide ((u.outing 7).st = .absent ∧ (u.outing 7).reason = 3)
      | _ => false) = true := by
  refine ⟨?_, ?_, ?_, ?_, ?_, ?_⟩ <;> decide +kernel

set_option maxRecDepth 100000 in
theorem test_FaultAndThreadControl_does :
    (let s := runS .none;
      match exec (.fault 0 (ins 0 1 0 0 0 0xFFFF)) s with
      | .next u => decide ((u.thread 0).st = .run ∧ (u.fld (aFC_SRC_STAT 7) 16 16) = 1)
      | _ => false) = true ∧
    (let s := runS .none;
      match exec (.faultWithStop 0 (ins 0 1 0 1 0 0xFFFF)) s with
      | .next u => decide ((u.thread 0).st = .stopped ∧ (u.thread 0).pc = 8)
      | _ => false) = true ∧
    (let s := runS .none;
      match exec (.ttHaltWrite .mc 1) s with
      | .next u => decide ((u.thread 0).st = .halted)
      | _ => false) = true ∧
    (let s := codeS.setThread 7 { Thread.reset with st := .frozen };
      match exec (.ttThawWrite .mc 0x80) s with
      | .next u => decide ((u.thread 7).st = .run)
      | _ => false) = true := by
  refine ⟨?_, ?_, ?_, ?_⟩ <;> decide +kernel

set_option maxRecDepth 100000 in
theorem test_MemoryRequestsArrive_does :
    (let s := memS;
      match exec (.memRd 0 0x1FFFFFC0 5 .good) s with
      | .next u => decide (u.mem.ports.length = 1)
      | _ => false) = true ∧
    (let s := memS;
      match exec (.memRdData 0 0x10000040 5 .good) s with
      | .next u => decide (u.mem.ports.length = 1)
      | _ => false) = true ∧
    (let s := memS;
      match exec (.memWr 0 0x10000040 0 5 .good) s with
      | .next u => decide (u.mem.ports.length = 1)
      | _ => false) = true ∧
    (let s := memS;
      match exec (.memWrPtl 0 0x10000040 0 1 5 .good) s with
      | .next u => decide (u.mem.ports.length = 1)
      | _ => false) = true ∧
    (let s := memS;
      match exec (.uioMemoryRead 0 0x10000040 5 64 .good) s with
      | .next u => decide (u.mem.ports.length = 1)
      | _ => false) = true ∧
    (let s := memS;
      match exec (.uioMemoryWrite 0 0x10000040 (List.replicate 64 0) (2 ^ 64 - 1) 5 false .good) s with
      | .next u => decide (u.mem.ports.length = 1)
      | _ => false) = true ∧
    (let s := memS;
      match exec (.memInv 0 0x10000040 5 .good) s with
      | .next u => decide (u.outputs = [.credit 0, .memCmp 0 5 1])
      | _ => false) = true ∧
    (let s := { memS with cache := [⟨1, ⟨0, false⟩, false, 0⟩] };
      match exec (.memSpecRd 0 0x10000040 5 .good) s with
      | .next u => decide (u.outputs = [.credit 0])
      | _ => false) = true := by
  refine ⟨?_, ?_, ?_, ?_, ?_, ?_, ?_, ?_⟩ <;> decide +kernel

set_option maxRecDepth 100000 in
theorem test_HeadViolations_does :
    (let s := memS;
      match exec (.memRd 0 0 5 .good) s with
      | .next u => decide ((u.head 0).mode = .frozen (s.cyc + cycMs s.freezeWindow) ∧
        .memData 0 5 poisonLine (s.head 0).load ∈ u.outputs)
      | _ => false) = true ∧
    (let s := memS.setHead 0 { (memS.head 0) with mode := .fenced };
      match exec (.memRd 0 0x10000040 5 .good) s with
      | .next u => decide (u.outputs = [.memData 0 5 poisonLine 1])
      | _ => false) = true := by
  refine ⟨?_, ?_⟩ <;> decide +kernel

set_option maxRecDepth 100000 in
theorem test_AdmissionAndAcceptance_does :
    (let s := { memS with mem := { memS.mem with ports := [req (.head 0) .read 1] }, regul := { memS.regul with buckets := [(0, 1000000)], deviceBucket := 1000000 } };
      match exec (.regulationAdmit (.head 0) false false) s with
      | .next u => decide (u.mem.ports = [])
      | _ => false) = true ∧
    (let s := (let s := (carS 1 0 0 0 64 64).setCar 0 { ((carS 1 0 0 0 64 64).car 0) with cur := some (desc 1 0 0 0 64 64), flight := [⟨0, 64, [0], [], [], false, [], [], false⟩] }
         { s with regul := { s.regul with buckets := [(16, 1000000)], deviceBucket := 1000000 } });
      match exec (.regulationAdmit (.carriage 0) false false) s with
      | .next u => decide ((u.car 0).flight.map (fun x => x.asked) = [[0]] ∧ u.bucket 16 = 998976)
      | _ => false) = true ∧
    (let s := { memS with mem := { memS.mem with missQ := [req (.head 0) .read 1] } };
      match exec (.poolEntryGrant 0) s with
      | .next u => decide (u.mem.missQ = [] ∧ (u.chan 1).pool.length = 1)
      | _ => false) = true ∧
    (let s := { memS with mem := { memS.mem with accept := [req (.head 0) .write 1] } };
      match exec (.writeAccept 0 false) s with
      | .next u => decide (u.mem.accept = [] ∧ (u.cached 1).isSome = true)
      | _ => false) = true ∧
    (let s := ({ memS with mem := { memS.mem with accept := [req (.head 0) .write 1] } }).setSeal 3 { Seal.reset with st := .active, len := 4096 };
      match exec (.writeAccept 0 false) s with
      | .next u => decide ((u.seal 3).heldWrites.length = 1)
      | _ => false) = true := by
  refine ⟨?_, ?_, ?_, ?_, ?_⟩ <;> decide +kernel

set_option maxRecDepth 100000 in
theorem test_ChannelPick_does :
    (let s := at_ (State.reset.setChan 0 { Channel.reset with pool := [⟨req (.head 0) .read 0, none, false, none, false⟩], banks := [], writeMode := false, wbuf := [] }) 0 100000;
      match exec (.channelCommandPick 0 .good .good) s with
      | .next u => decide ((u.chan 0).slotFree = s.cyc + 1 ∧ ((u.chan 0).bank 0).row = some 0)
      | _ => false) = true ∧
    (let s := at_ (State.reset.setChan 0 { Channel.reset with pool := [⟨req (.head 0) .read 0, none, false, none, false⟩], banks := [(0, ⟨some 0, 0, 0, 0, 0, 0, 0⟩)], writeMode := false, wbuf := [] }) 0 100000;
      match exec (.channelCommandPick 0 .good .good) s with
      | .next u => decide ((u.chan 0).slotFree = s.cyc + 1 ∧ (u.chan 0).pool.map (fun e => e.issued) = [some s.cyc])
      | _ => false) = true ∧
    (let s := at_ (State.reset.setChan 0 { Channel.reset with pool := [⟨req (.head 0) .read 0, none, false, none, false⟩], banks := [(0, ⟨some 5, 0, 0, 0, 0, 0, 0⟩)], writeMode := false, wbuf := [] }) 0 100000;
      match exec (.channelCommandPick 0 .good .good) s with
      | .next u => decide ((u.chan 0).slotFree = s.cyc + 1 ∧ ((u.chan 0).bank 0).row = none)
      | _ => false) = true ∧
    (let s := at_ State.reset 0 100000;
      match exec (.channelCommandPick 0 .good .good) s with
      | .next u => decide ((u.chan 0).slotFree = 0)
      | _ => false) = true := by
  refine ⟨?_, ?_, ?_, ?_⟩ <;> decide +kernel

set_option maxRecDepth 100000 in
theorem test_ChannelData_does :
    (let s := at_ ({ State.reset with mem := { State.reset.mem with journal := [⟨0, some 0, 0, ⟨1, false⟩, BitVec.allOnes 64, none, 0, .buffer⟩], nextSeq := 1 } }.setChan 0 { Channel.reset with writing := [([0], 0)] }) 0 1000;
      match exec (.dramWriteDone 0) s with
      | .next u => decide ((u.chan 0).writing = [] ∧ u.mem.journal = [] ∧ u.dram ≠ [])
      | _ => false) = true := by
  decide +kernel

set_option maxRecDepth 100000 in
theorem test_HeadEvents_does :
    (let s := headS 0 .l0 4;
      match exec (.flitCrcFail 0) s with
      | .next u => decide (u.fld (aHD_DOWN_CNT 0) 16 16 = 1)
      | _ => false) = true ∧
    (let s := headS 0 .l0 4;
      match exec (.cxlIoConfigAccess 0 (.otherWrite 7 9)) s with
      | .next u => decide ((u.head 0).cfgWord 4 = 9)
      | _ => false) = true ∧
    (let s := (headS 0 .l0 4).setHead 0 { Head.reset with mode := .frozen 0 };
      match exec (.freezeWindowEnd 0) s with
      | .next u => decide ((u.head 0).mode = .fenced)
      | _ => false) = true := by
  refine ⟨?_, ?_, ?_⟩ <;> decide +kernel

set_option maxRecDepth 100000 in
theorem test_FlushAndHoldCopy_does :
    (let s := { State.reset with cache := [⟨1, ⟨0, false⟩, true, 0⟩] };
      match exec (.lcFlush .mc 1) s with
      | .next u => decide (u.mem.flush = [1] ∧ u.flag aLC_CTRL 0 = true)
      | _ => false) = true ∧
    (let s := State.reset.setFlag aLC_CTRL 0 true;
      match exec (.lcFlushDone) s with
      | .next u => decide (u.flag aLC_CTRL 0 = false)
      | _ => false) = true := by
  refine ⟨?_, ?_⟩ <;> decide +kernel

set_option maxRecDepth 100000 in
theorem test_HaltOpens_does :
    (let s := at_ State.reset 4000 8000;
      match exec (.haltOpen) s with
      | .next u => decide (u.halt.openAt = some 8000 ∧ u.reg aHALT_LAST = 4000 ∧ u.halt.lastGrid = some 4000)
      | _ => false) = true ∧
    (let s := at_ { State.reset with halt := { Halts.reset with openAt := some 7900 } } 4000 8000;
      match exec (.haltOpen) s with
      | .next u => decide (u.halt.deferred = 1 ∧ u.halt.openAt = some 7900)
      | _ => false) = true := by
  refine ⟨?_, ?_⟩ <;> decide +kernel

set_option maxRecDepth 100000 in
theorem test_HaltEvents_does :
    (let s := at_ State.reset 3968 7936;
      match exec (.haltPreclose) s with
      | .next u => decide (u.halt.preclosed = true)
      | _ => false) = true ∧
    (let s := at_ State.reset 3986 7972;
      match exec (.haltActStop) s with
      | .next u => decide (u.halt.actStopped = true)
      | _ => false) = true ∧
    (let s := at_ { State.reset with halt := { Halts.reset with openAt := some 8000 } } 4014 8028;
      match exec (.haltRefab) s with
      | .next u => decide (u.halt.refabDone = true)
      | _ => false) = true ∧
    (let s := at_ { State.reset with halt := { Halts.reset with openAt := some 8000 } } 4400 8800;
      match exec (.haltWindowEnd) s with
      | .next u => decide (u.halt.openAt = none)
      | _ => false) = true ∧
    (let s := at_ { State.reset with halt := { Halts.reset with deferred := 2 } } 4400 8800;
      match exec (.deferredHaltOpen) s with
      | .next u => decide (u.halt.openAt = some 8800 ∧ u.halt.deferred = 0)
      | _ => false) = true ∧
    (let s := at_ { State.reset with halt := { Halts.reset with lastGrid := some 4000, phase := 1500 } } 4000 8000;
      match exec (.fallbackCommit) s with
      | .next u => decide (u.halt.commitAt = some 8200)
      | _ => false) = true ∧
    (let s := at_ { State.reset with halt := { Halts.reset with lastGrid := some 4000, phase := 1500 } } 4100 8200;
      match exec (.fallbackHalt) s with
      | .next u => decide (u.halt.openAt = some 8200)
      | _ => false) = true := by
  refine ⟨?_, ?_, ?_, ?_, ?_, ?_, ?_⟩ <;> decide +kernel

set_option maxRecDepth 100000 in
theorem test_MovingDescriptorsStart_does :
    (let s := carS 1 0 0 0 0x1020 100;
      match exec (.descCopy 0) s with
      | .next u => decide ((u.car 0).cur.isSome = true ∧ (u.car 0).st = .running ∧
        (u.car 0).flight.map (fun x => x.bytes) = [32])
      | _ => false) = true ∧
    (let s := carS 2 0 0 0x1020 100 0;
      match exec (.descFill 0) s with
      | .next u => decide ((u.car 0).cur.isSome = true ∧ (u.car 0).st = .running ∧
        (u.car 0).flight.map (fun x => x.bytes) = [32])
      | _ => false) = true ∧
    (let s := carS 3 0 0 0x20 0 100;
      match exec (.descCmp 0) s with
      | .next u => decide ((u.car 0).cur.isSome = true ∧ (u.car 0).st = .running ∧
        (u.car 0).flight.map (fun x => x.bytes) = [32])
      | _ => false) = true ∧
    (let s := carS 4 0 0 0x20 100 0;
      match exec (.descCrc 0) s with
      | .next u => decide ((u.car 0).cur.isSome = true ∧ (u.car 0).st = .running ∧
        (u.car 0).flight.map (fun x => x.bytes) = [32])
      | _ => false) = true ∧
    (let s := (carS 7 0 0 0 0x1020 96).setHead 0 { Head.reset with link := .l0 } |>.setReg (aCR_WIN_HEADS 0) 1;
      match exec (.peerwr 0) s with
      | .next u => decide ((u.car 0).cur.isSome = true ∧ (u.car 0).st = .running ∧
        (u.car 0).flight.map (fun x => x.bytes) = [96])
      | _ => false) = true ∧
    (let s := (carS 8 0 0 0x1020 0 96).setHead 0 { Head.reset with link := .l0 } |>.setReg (aCR_WIN_HEADS 0) 1;
      match exec (.peerrd 0) s with
      | .next u => decide (u.outputs = [.peerRead 0 0x1020 96] ∧ (u.car 0).peers = 1)
      | _ => false) = true := by
  refine ⟨?_, ?_, ?_, ?_, ?_, ?_⟩ <;> decide +kernel

set_option maxRecDepth 100000 in
theorem test_ListAndSealDescriptorsStart_does :
    (let s := (let s := carS 5 0 0 0x3000 1 0x2000
         { s with pstore := Memory.setN (Memory.setN s.pstore 0x3000 8 0x40) 0x3008 4 100 });
      match exec (.descGather 0) s with
      | .next u => decide ((u.car 0).elem = some (0x40, 100))
      | _ => false) = true ∧
    (let s := (let s := carS 6 0 0 0x3000 1 0x2000
         { s with pstore := Memory.setN (Memory.setN s.pstore 0x3000 8 0x40) 0x3008 4 100 });
      match exec (.descScatter 0) s with
      | .next u => decide ((u.car 0).elem = some (0x40, 100))
      | _ => false) = true ∧
    (let s := (carS 9 0 0 3 0 0x1000).setSeal 3 { Seal.reset with st := .active, len := 0x1000 };
      match exec (.sealcopy 0 false) s with
      | .next u => decide ((u.car 0).elem = some (0, 3))
      | _ => false) = true := by
  refine ⟨?_, ?_, ?_⟩ <;> decide +kernel

set_option maxRecDepth 100000 in
theorem test_WaittDescriptors_does :
    (let s := carS 10 0 0 5000 0 0;
      match exec (.waitt 0) s with
      | .next u => decide ((u.car 0).st = .waitt ∧ (u.car 0).comp = some 0 ∧ u.tcArmed 0 = true)
      | _ => false) = true ∧
    (let s := (carS 10 1 0 0 0 7).setCar 0 { ((carS 10 1 0 0 0 7).car 0) with release := true };
      match exec (.waittExternal 0) s with
      | .next u => decide ((u.car 0).st = .running ∧ (u.car 0).release = false)
      | _ => false) = true ∧
    (let s := carS 10 1 0 0 0 7;
      match exec (.waittExternal 0) s with
      | .next u => decide ((u.car 0).st = .waitt ∧ (u.car 0).deadline = some 7)
      | _ => false) = true ∧
    (let s := at_ (State.reset.setCar 0 { Carriage.reset with st := .waitt, deadline := some 7 }) 7 14;
      match exec (.waittDeadline 0) s with
      | .next u => decide ((u.car 0).st = .stopped ∧ (u.car 0).code = 2)
      | _ => false) = true ∧
    (let s := at_ ((State.reset.setReg (aCR_CTRL 0) 1).setCar 0 { Carriage.reset with st := .running }) 1000 2000;
      match exec (.carriageTimeout 0) s with
      | .next u => decide ((u.car 0).st = .stopped ∧ (u.car 0).code = 2)
      | _ => false) = true := by
  refine ⟨?_, ?_, ?_, ?_, ?_⟩ <;> decide +kernel

set_option maxRecDepth 100000 in
theorem test_ControlDescriptors_does :
    (let s := carS 11 1 0 0xFF07 0 0;
      match exec (.notify 0) s with
      | .next u => decide ((u.thread 7).events = 0xFF)
      | _ => false) = true ∧
    (let s := carS 12 0 0 0x2000 0 0;
      match exec (.descLink 0) s with
      | .next u => decide ((u.car 0).desc = 0x2000 ∧ (u.car 0).cur = none)
      | _ => false) = true ∧
    (let s := (carS 15 0 0 0 0 0).setCar 0 { ((carS 15 0 0 0 0 0).car 0) with thread := some 7 };
      match exec (.descEnd 0) s with
      | .next u => decide ((u.car 0).st = .idle ∧ (u.thread 7).events.getLsbD 9 = true)
      | _ => false) = true := by
  refine ⟨?_, ?_, ?_⟩ <;> decide +kernel

set_option maxRecDepth 100000 in
theorem test_CompletionsOfCarriages_does :
    (let s := (carS 1 0 0 0 64 64).setCar 0 { ((carS 1 0 0 0 64 64).car 0) with cur := some (desc 1 0 0 0 64 64), done := 64 };
      match exec (.descriptorComplete 0) s with
      | .next u => decide ((u.car 0).cur = none ∧ (u.car 0).desc = 0x1040 ∧ Memory.getN u.pstore 0x1030 8 = 0)
      | _ => false) = true ∧
    (let s := State.reset.setCar 31 { Carriage.reset with st := .frozen };
      match exec (.carThaw .mc 0x80000000) s with
      | .next u => decide ((u.car 31).st = .stopped)
      | _ => false) = true := by
  refine ⟨?_, ?_⟩ <;> decide +kernel

set_option maxRecDepth 100000 in
theorem test_TimelineSignals_does :
    (let s := State.reset;
      match exec (.thifinFrame 0 0 0 0 0) s with
      | .next u => decide (u.fld aTU_CNT_A 0 16 = 1)
      | _ => false) = true ∧
    (let s := State.reset;
      match exec (.thifinFrame 0xB38E 32000 1 0 (crc16 0x1021 0xFFFF (frameBytes 32000 1 0))) s with
      | .next u => decide (u.tu.announce = some 32000)
      | _ => false) = true ∧
    (let s := State.reset;
      match exec (.cycleMark 127 0xA00) s with
      | .next u => decide (u.tu.lastMark = some 127)
      | _ => false) = true := by
  refine ⟨?_, ?_, ?_⟩ <;> decide +kernel

set_option maxRecDepth 100000 in
theorem test_PtmAndCorrections_does :
    (let s := at_ ((headS 0 .l0 4).setFld aTU_CTRL 8 8 1) 32000 64000;
      match exec (.ptmDialogueStart) s with
      | .next u => decide (u.tu.ptmRunning = true ∧ u.tu.ptmLastCycle = 1)
      | _ => false) = true ∧
    (let s := { State.reset with tu := { State.reset.tu with corr := .steer } };
      match exec (.correctionComplete) s with
      | .next u => decide (u.tu.corr = .none ∧ u.tu.ok = true)
      | _ => false) = true ∧
    (let s := State.reset;
      match exec (.boundOverLimit) s with
      | .next u => decide (u.tu.trust = .untrusted)
      | _ => false) = true ∧
    (let s := { State.reset with tu := { State.reset.tu with stepHold := true } };
      match exec (.tuAckWrite .mc 1) s with
      | .next u => decide (u.tu.stepHold = false ∧ u.tu.needSet = true)
      | _ => false) = true := by
  refine ⟨?_, ?_, ?_, ?_⟩ <;> decide +kernel

set_option maxRecDepth 100000 in
theorem test_Comparators_does :
    (let s := State.reset;
      match exec (.tuRtRead .mc) s with
      | .next u => decide (u.outputs = [.regValue .mc 0])
      | _ => false) = true ∧
    (let s := State.reset.setReg (aTC_OWNER 63) 2;
      match exec (.tcValueWrite .mc 63 5) s with
      | .next u => decide (u.reg (aTC_VALUE 63) = 5)
      | _ => false) = true ∧
    (let s := State.reset.setReg (aTC_OWNER 63) 2;
      match exec (.tcCtrlWrite .mc 63 0x711) s with
      | .next u => decide (u.tcArmed 63 = true ∧ u.tcTarget 63 = 1 ∧ u.tcIndex 63 = 7)
      | _ => false) = true ∧
    (let s := at_ (((State.reset.setReg (aTC_VALUE 63) 100).setReg (aTC_CTRL 63) 0x1).setReg (aTC_PERIOD 63) 0) 350 700;
      match exec (.comparatorFire 63) s with
      | .next u => decide (u.flag (aTC_STATUS 63) 0 = true ∧ u.tcArmed 63 = false)
      | _ => false) = true ∧
    (let s := at_ (((State.reset.setReg (aTC_VALUE 63) 100).setReg (aTC_CTRL 63) 0x1).setReg (aTC_PERIOD 63) 100) 350 700;
      match exec (.comparatorFire 63) s with
      | .next u => decide (u.flag (aTC_STATUS 63) 0 = true ∧ u.tcArmed 63 = true ∧ u.reg (aTC_VALUE 63) = 400)
      | _ => false) = true ∧
    (let s := at_ (((State.reset.setReg (aTC_VALUE 63) 100).setReg (aTC_CTRL 63) 0x711).setReg (aTC_PERIOD 63) 0) 350 700;
      match exec (.comparatorFire 63) s with
      | .next u => decide ((u.thread 7).events = 0x100)
      | _ => false) = true ∧
    (let s := (at_ (((State.reset.setReg (aTC_VALUE 63) 100).setReg (aTC_CTRL 63) 0x1).setReg (aTC_PERIOD 63) 0) 350 700).setReg (aTC_TOL 63) 1;
      match exec (.comparatorFire 63) s with
      | .next u => decide (u.flag (aTC_STATUS 63) 2 = true)
      | _ => false) = true := by
  refine ⟨?_, ?_, ?_, ?_, ?_, ?_, ?_⟩ <;> decide +kernel

set_option maxRecDepth 100000 in
theorem test_AliveAndPins_does :
    (let s := at_ State.reset 512000 1024000;
      match exec (.aliveToggle) s with
      | .next u => decide (u.flag aALIVE_STATUS 0 = !s.flag aALIVE_STATUS 0)
      | _ => false) = true ∧
    (let s := State.reset;
      match exec (.watchdogExpiry) s with
      | .next u => decide (u.flag aALIVE_STATUS 1 = true)
      | _ => false) = true ∧
    (let s := at_ (State.reset.setReg aAUX_STATUS 2) 32000 64000;
      match exec (.rackCyclePulse) s with
      | .next u => decide (u.pins.auxEndA = some 64032)
      | _ => false) = true ∧
    (let s := at_ { State.reset with pins := { State.reset.pins with auxEndA := some 32 } } 16 32;
      match exec (.auxPulseEnd 0) s with
      | .next u => decide (u.pins.auxEndA = none)
      | _ => false) = true ∧
    (let s := at_ { State.reset with pins := { State.reset.pins with auxEndB := some 32 } } 16 32;
      match exec (.auxPulseEnd 1) s with
      | .next u => decide (u.pins.auxEndB = none)
      | _ => false) = true ∧
    (let s := at_ (State.reset.setReg aAUX_STATUS 1) 5 10;
      match exec (.auxARisingEdge true) s with
      | .next u => decide (u.pins.auxTrigger = some 30)
      | _ => false) = true ∧
    (let s := State.reset.setReg aTT_EVROUTE 0x38;
      match exec (.mgmtVendorMessage) s with
      | .next u => decide ((u.thread 7).events = 0x800)
      | _ => false) = true := by
  refine ⟨?_, ?_, ?_, ?_, ?_, ?_, ?_⟩ <;> decide +kernel

set_option maxRecDepth 100000 in
theorem test_LinkTraining_does_1 :
    (let s := (((State.reset.setReg aMOD_PERST 0xFFFF).setFld aSU_STATUS 0 4 6));
      match exec (.linkTrainingStart 0 [] [] false [] false) s with
      | .next u => decide ((u.head 0).link = .training ∧ (u.head 0).lanes = s.lanesOf 0)
      | _ => false) = true ∧
    (let s := (((State.reset.setReg aMOD_PERST 0xFFFF).setFld aSU_STATUS 0 4 6));
      match exec (.linkTrainingStart 0 [] [] true [] false) s with
      | .next u => decide ((u.head 0).link = .training ∧ (u.head 0).lanes = (s.lanesOf 0).reverse ∧
        (u.head 0).reversed = true)
      | _ => false) = true ∧
    (let s := headS 3 .training 0;
      match exec (.linkUp 3 4 []) s with
      | .next u => decide ((u.head 3).link = .l0 ∧
        (u.head 3).rate.toNat = min 4 (if (s.head 3).bypass then s.advertised 3 else min 4 (s.advertised 3)) ∧
        u.reg (aHD_LAST_UP 3) = s.nowW)
      | _ => false) = true ∧
    (let s := State.reset.setHead 3 { Head.reset with link := .training, bypass := true };
      match exec (.linkUp 3 6 []) s with
      | .next u => decide ((u.head 3).rate.toNat = min 6 (s.advertised 3))
      | _ => false) = true ∧
    (let s := (headS 3 .l0 1).setHead 3 { Head.reset with link := .l0, rate := 1 };
      match exec (.directedSpeedChange 3) s with
      | .next u => decide ((u.head 3).link = .speedChange)
      | _ => false) = true ∧
    (let s := headS 3 .speedChange 1;
      match exec (.speedChangeComplete 3 4 []) s with
      | .next u => decide ((u.head 3).link = .l0 ∧ (u.head 3).rate.toNat = min 4 (s.advertised 3))
      | _ => false) = true ∧
    (let s := headS 3 .l0 4;
      match exec (.linkRecoveryEntry 3) s with
      | .next u => decide ((u.head 3).link = .recovery)
      | _ => false) = true ∧
    (let s := headS 3 .recovery 4;
      match exec (.linkRecoveryExit 3) s with
      | .next u => decide ((u.head 3).link = .l0)
      | _ => false) = true ∧
    (let s := State.reset.setHead 7 { Head.reset with link := .l0, lanes := [63] };
      match exec (.deskewDriftOverflow 63) s with
      | .next u => decide ((u.head 7).link = .recovery ∧ u.flag (aLN_STATUS 63) 13 = true)
      | _ => false) = true ∧
    (let s := headS 3 .training 0;
      match exec (.eqBypassRequest 3) s with
      | .next u => decide ((u.head 3).bypass = true)
      | _ => false) = true := by
  refine ⟨?_, ?_, ?_, ?_, ?_, ?_, ?_, ?_, ?_, ?_⟩ <;> decide +kernel

set_option maxRecDepth 100000 in
theorem test_LinkTraining_does_2 :
    (let s := State.reset;
      match exec (.eqPhase3Request 63 4 (.preset 0)) s with
      | .next u => decide (u.outputs = [.eqAnswer 63 (eqMatches (s.eqEntry 63 4) (.preset 0))])
      | _ => false) = true := by
  decide +kernel

set_option maxRecDepth 100000 in
theorem test_LinkLossAndDetectors_does :
    (let s := headS 3 .recovery 4;
      match exec (.recoveryFailure 3) s with
      | .next u => decide ((u.head 3).link = .detect ∧ (u.head 3).lanes = [] ∧ (u.head 3).rate = 0 ∧
        (u.head 3).held = true ∧ u.reg (aHD_LAST_DOWN 3) = s.nowW)
      | _ => false) = true ∧
    (let s := headS 3 .l0 4;
      match exec (.hotReset 3) s with
      | .next u => decide ((u.head 3).link = .detect ∧ (u.head 3).lanes = [] ∧ (u.head 3).rate = 0 ∧
        (u.head 3).held = true ∧ u.reg (aHD_LAST_DOWN 3) = s.nowW)
      | _ => false) = true ∧
    (let s := headS 3 .l0 4;
      match exec (.linkDisable 3) s with
      | .next u => decide ((u.head 3).link = .disabled ∧ (u.head 3).lanes = [] ∧ (u.head 3).rate = 0 ∧
        (u.head 3).held = true ∧ u.reg (aHD_LAST_DOWN 3) = s.nowW)
      | _ => false) = true ∧
    (let s := headS 3 .l0 4;
      match exec (.loopbackFollowerEntry 3) s with
      | .next u => decide ((u.head 3).link = .loopback ∧ (u.head 3).lanes = [] ∧ (u.head 3).rate = 0 ∧
        (u.head 3).held = true ∧ u.reg (aHD_LAST_DOWN 3) = s.nowW)
      | _ => false) = true ∧
    (let s := (headS 3 .l0 4).setReg aMOD_PERST 0xFFFF;
      match exec (.perstNAssert 6) s with
      | .next u => decide ((u.head 3).link = .detect ∧ u.flag aMOD_PERST 6 = false)
      | _ => false) = true ∧
    (let s := State.reset.setReg (aLN_STATUS 63) 0x20;
      match exec (.losAssert 63 false) s with
      | .next u => decide (u.flag (aLN_STATUS 63) 0 = true ∧ u.fld (aLN_CNT 63) 0 16 = 1)
      | _ => false) = true ∧
    (let s := State.reset.setReg (aLN_STATUS 63) 0x20;
      match exec (.losAssert 63 true) s with
      | .next u => decide (u.flag (aLN_STATUS 63) 0 = true ∧ u.fld (aLN_CNT 63) 0 16 = 0)
      | _ => false) = true ∧
    (let s := State.reset.setReg (aLN_STATUS 63) 0x20;
      match exec (.lolAssert 63 false) s with
      | .next u => decide (u.flag (aLN_STATUS 63) 1 = true ∧ u.fld (aLN_CNT 63) 16 16 = 1)
      | _ => false) = true ∧
    (let s := State.reset.setReg (aLN_STATUS 63) 3;
      match exec (.losDeassert 63) s with
      | .next u => decide (u.flag (aLN_STATUS 63) 0 = false ∧ u.flag (aLN_STATUS 63) 1 = true)
      | _ => false) = true := by
  refine ⟨?_, ?_, ?_, ?_, ?_, ?_, ?_, ?_, ?_⟩ <;> decide +kernel

set_option maxRecDepth 100000 in
theorem test_LaneTests_does :
    (let s := State.reset;
      match exec (.lnTestEnable .mc 63 1) s with
      | .next u => decide (u.flag (aLN_TEST 63) 0 = true ∧ u.flag (aLN_STATUS 63) 14 = true)
      | _ => false) = true ∧
    (let s := (headS 7 .l0 4).setReg aMOD_PERST 0xFFFF;
      match exec (.lnTestEnable .mc 63 1) s with
      | .next u => decide (u.flag (aLN_TEST 63) 12 = true ∧ u.flag (aLN_TEST 63) 0 = false)
      | _ => false) = true ∧
    (let s := (State.reset.setReg (aLN_TEST 63) 0x1).setReg (aLN_STATUS 63) 0x4000;
      match exec (.lnTestDisable .mc 63 0) s with
      | .next u => decide (u.flag (aLN_TEST 63) 0 = false ∧ u.flag (aLN_STATUS 63) 14 = false)
      | _ => false) = true ∧
    (let s := (State.reset.setReg (aLN_TEST 63) 0x4007).setReg (aLN_STATUS 63) 0x4000;
      match exec (.injectSingle .mc 63 9) s with
      | .next u => decide (u.outputs = [.injected 63 false 1] ∧ u.reg (aLN_ERRCNT 63) = 1)
      | _ => false) = true ∧
    (let s := (State.reset.setReg (aLN_TEST 63) 0x4007).setReg (aLN_STATUS 63) 0x4000;
      match exec (.injectBurst .mc 63 0xFFA) s with
      | .next u => decide (u.outputs = [.injected 63 false 255] ∧ u.reg (aLN_ERRCNT 63) = 32 ∧ u.flag (aLN_TEST 63) 14 = false)
      | _ => false) = true ∧
    (let s := (State.reset.setReg (aLN_TEST 63) 0x4007).setReg (aLN_STATUS 63) 0x4000;
      match exec (.injectRate .mc 63 0xB) s with
      | .next u => decide (u.outputs = [] ∧ u.reg (aLN_ERRCNT 63) = 0 ∧
        u.flag (aLN_INJECT 63) 3 = true)
      | _ => false) = true ∧
    (let s := ((State.reset.setReg (aLN_TEST 63) 0x4001).setReg (aLN_STATUS 63) 0x4000).setReg (aLN_INJECT 63) 0xB;
      match exec (.injectStop .mc 63 3) s with
      | .next u => decide (u.flag (aLN_INJECT 63) 3 = false ∧ u.outputs = [])
      | _ => false) = true ∧
    (let s := ((State.reset.setReg (aLN_TEST 63) 0x4001).setReg (aLN_STATUS 63) 0x4000).setReg (aLN_INJECT 63) 0x9;
      match exec (.injectDone 63) s with
      | .next u => decide (u.flag (aLN_INJECT 63) 3 = false)
      | _ => false) = true ∧
    (let s := (State.reset.setReg (aLN_TEST 63) 0x5).setReg (aLN_STATUS 63) 0x4000;
      match exec (.checkerSync 63 0) s with
      | .next u => decide (u.flag (aLN_TEST 63) 14 = true)
      | _ => false) = true ∧
    (let s := (State.reset.setReg (aLN_TEST 63) 0x4005).setReg (aLN_STATUS 63) 0x4000;
      match exec (.checkerSyncLoss 63) s with
      | .next u => decide (u.flag (aLN_TEST 63) 14 = false ∧ u.reg (aLN_ERRCNT 63) = 32)
      | _ => false) = true := by
  refine ⟨?_, ?_, ?_, ?_, ?_, ?_, ?_, ?_, ?_, ?_⟩ <;> decide +kernel

set_option maxRecDepth 100000 in
theorem test_MailboxReports_does :
    (let s := headS 7 .l0 4;
      match exec (.getFwInfo 7) s with
      | .next u => decide (u.outputs.getLast? = some (.reply (.head 7) "Unsupported" []))
      | _ => false) = true ∧
    (let s := State.reset.setHead 0 { Head.reset with link := .l0, logs := { Logs.empty with warn := ⟨List.replicate 3 ⟨0, 0, [], false⟩, false⟩ } };
      match exec (.clearEventRecords 0 .warning 2) s with
      | .next u => decide (((u.head 0).logs.get .warning).records.length = 1)
      | _ => false) = true := by
  refine ⟨?_, ?_⟩ <;> decide +kernel

set_option maxRecDepth 100000 in
theorem test_PoisonAndCapacity_does :
    (let s := { ((headS 0 .l0 4).setFld aSU_STATUS 0 4 6) with grants := [⟨0, 254, 0⟩], cache := [⟨254 * 2 ^ 22, ⟨0, false⟩, false, 0⟩] };
      match exec (.injectPoison 0 (254 * 2 ^ 22 * 64)) s with
      | .next u => decide (u.outputs.getLast? = some (.reply (.head 0) "Success" []) ∧
        (u.lineNow (254 * 2 ^ 22)).poison = true ∧
        u.integ.ue.map (fun e => (e.line, e.source, e.cleared)) = [(254 * 2 ^ 22, 7, false)])
      | _ => false) = true ∧
    (let s := { { ((headS 0 .l0 4).setFld aSU_STATUS 0 4 6) with grants := [⟨0, 254, 0⟩], cache := [⟨254 * 2 ^ 22, ⟨0, false⟩, false, 0⟩] } with integ := { State.reset.integ with ue := [⟨254 * 2 ^ 22, 0, 7, 0, true, false, false, 0⟩] } };
      match exec (.clearPoison 0 (254 * 2 ^ 22 * 64) 5) s with
      | .next u => decide (u.outputs.getLast? = some (.reply (.head 0) "Success" []) ∧
        u.lineNow (254 * 2 ^ 22) = { data := 5, poison := false } ∧ u.integ.ue.all (fun e => e.cleared) = true)
      | _ => false) = true ∧
    (let s := headS 7 .l0 4;
      match exec (.injectPoison 7 0) s with
      | .next u => decide (u.outputs.getLast? = some (.reply (.head 7) "Unsupported" []))
      | _ => false) = true ∧
    (let s := ((fmS.setFld aSU_STATUS 0 4 9));
      match exec (.initiateDynamicCapacityAdd .i3c 0 (254 * 2 ^ 28) (2 ^ 28) 0) s with
      | .next u => decide (u.grants = [⟨0, 254, 0⟩])
      | _ => false) = true ∧
    (let s := ((fmS.setFld aSU_STATUS 0 4 9)).setReg aSU_CTRL 0;
      match exec (.initiateDynamicCapacityAdd .i3c 0 0 (2 ^ 28) 0) s with
      | .next u => decide (u.outputs.getLast? = some (.reply .i3c "Busy" []))
      | _ => false) = true ∧
    (let s := { ((headS 0 .l0 4).setFld aSU_STATUS 0 4 6) with grants := [⟨0, 254, 0⟩], cache := [⟨254 * 2 ^ 22, ⟨0, false⟩, false, 0⟩] };
      match exec (.releaseDynamicCapacity 0 (254 * 2 ^ 28) (2 ^ 28)) s with
      | .next u => decide (u.grants = [])
      | _ => false) = true ∧
    (let s := { ((fmS.setFld aSU_STATUS 0 4 9)) with grants := [⟨0, 254, 0⟩] };
      match exec (.initiateDynamicCapacityRelease .i3c 0 (254 * 2 ^ 28) (2 ^ 28)) s with
      | .next u => decide (u.grants = [])
      | _ => false) = true ∧
    (let s := { ((headS 0 .l0 4).setFld aSU_STATUS 0 4 6) with grants := [⟨0, 254, 0⟩], cache := [⟨254 * 2 ^ 22, ⟨0, false⟩, false, 0⟩] };
      match exec (.releaseDynamicCapacity 0 (254 * 2 ^ 28) 64) s with
      | .next u => decide (u.grants = s.grants ∧ u.outputs = [.reply (.head 0) "Invalid Input" []])
      | _ => false) = true ∧
    (let s := { State.reset with filling := [⟨254, blockLines, blockLines⟩], cache := [⟨254 * 2 ^ 22, ⟨0, false⟩, true, 0⟩, ⟨1, ⟨0, false⟩, false, 0⟩] };
      match exec (.zeroFillDone 254) s with
      | .next u => decide (u.isFilling 254 = false ∧ u.cached (254 * 2 ^ 22) = none ∧ u.cached 1 = s.cached 1)
      | _ => false) = true := by
  refine ⟨?_, ?_, ?_, ?_, ?_, ?_, ?_, ?_, ?_⟩ <;> decide +kernel

set_option maxRecDepth 100000 in
theorem test_FabricManager_does :
    (let s := fmS;
      match exec (.setEndpointId .i3c 5) s with
      | .next u => decide (u.mgmt.eidI3c = some 5)
      | _ => false) = true ∧
    (let s := (headS 0 .l0 4).setReg aHEAD_GCTRL 0x20;
      match exec (.setEndpointId .vdm 5) s with
      | .next u => decide (u.mgmt.eidVdm = some 5)
      | _ => false) = true ∧
    (let s := fmS.setHead 7 { Head.reset with mode := .fenced };
      match exec (.thawHead .i3c 7) s with
      | .next u => decide ((u.head 7).mode = .normal)
      | _ => false) = true ∧
    (let s := fmS;
      match exec (.setDcRegionConfiguration .i3c 7 (2 ^ 28)) s with
      | .next u => decide (u.outputs.getLast? = some (.reply .i3c "Success" []))
      | _ => false) = true ∧
    (let s := fmS;
      match exec (.setDcRegionConfiguration .i3c 7 (2 ^ 27)) s with
      | .next u => decide (u.outputs.getLast? = some (.reply .i3c "Invalid Input" []))
      | _ => false) = true ∧
    (let s := fmS;
      match exec (.readRegister .i3c aTU_RT 8) s with
      | .next u => decide (u.outputs.getLast? = some (.reply .i3c "Success" (toBytes 8 0)))
      | _ => false) = true ∧
    (let s := fmS;
      match exec (.readRegister .i3c 0xFFFFC 4) s with
      | .next u => decide (u.outputs.getLast? = some (.reply .i3c "Invalid Input" []))
      | _ => false) = true ∧
    (let s := fmS;
      match exec (.writeRegister .i3c aTU_CABLE_DELAY 4 5) s with
      | .next u => decide (u.outputs.getLast? = some (.reply .i3c "Success" []) ∧
        u.pendValue aTU_CABLE_DELAY = some 5)
      | _ => false) = true ∧
    (let s := { fmS with mgmt := { fmS.mgmt with fmLogs := { Logs.empty with fatal := ⟨List.replicate 3 ⟨0, 0, [], false⟩, false⟩ } } };
      match exec (.fmEvents .i3c .fatal true 2) s with
      | .next u => decide ((u.mgmt.fmLogs.get .fatal).records.length = 1)
      | _ => false) = true := by
  refine ⟨?_, ?_, ?_, ?_, ?_, ?_, ?_, ?_, ?_⟩ <;> decide +kernel

set_option maxRecDepth 100000 in
theorem test_Images_does :
    (let s := ((headS 0 .l0 4).setFld aSU_STATUS 0 4 6);
      match exec (.transferFw (.head 0) 1 0 [1,2] false) s with
      | .next u => decide (u.img.staged = 2 ∧ u.img.complete = false)
      | _ => false) = true ∧
    (let s := { ((headS 0 .l0 4).setFld aSU_STATUS 0 4 6) with img := { State.reset.img with staged := 0x4FFFFF } };
      match exec (.transferFw (.head 0) 1 0x4FFFFF [1] true) s with
      | .next u => decide (u.img.staged = 0x500000 ∧ u.img.complete = true)
      | _ => false) = true ∧
    (let s := { ((headS 0 .l0 4).setFld aSU_STATUS 0 4 6) with img := { State.reset.img with staged := 64 } };
      match exec (.transferFw (.head 0) 1 65 [1] true) s with
      | .next u => decide (u.img.staged = 0 ∧ u.outputs.getLast? = some (.reply (.head 0) "Invalid Input" []))
      | _ => false) = true ∧
    (let s := { State.reset with img := { State.reset.img with phase := .checking (.head 0) } };
      match exec (.imageChecksDone) s with
      | .next u => decide (u.img.phase = .idle ∧ u.fld aIMG_STATUS 9 3 = 1)
      | _ => false) = true ∧
    (let s := { State.reset with img := { State.reset.img with phase := .waiting (.head 0) 9 } };
      match exec (.activationThreadsQuiesced) s with
      | .next u => decide (u.img.phase = .loading (.head 0))
      | _ => false) = true := by
  refine ⟨?_, ?_, ?_, ?_, ?_⟩ <;> decide +kernel

set_option maxRecDepth 100000 in
theorem test_Attestation_does :
    (let s := (headS 0 .l0 4).setReg aID_STATUS 1;
      match exec (.getVersion (.head 0)) s with
      | .next u => decide (u.outputs.length = 1)
      | _ => false) = true ∧
    (let s := (headS 0 .l0 4).setReg aID_STATUS 2;
      match exec (.challenge (.head 0) []) s with
      | .next u => decide (u.outputs = [.spdm (.head 0) 0x7F [5, 0]])
      | _ => false) = true ∧
    (let s := (headS 0 .l0 4).setReg aID_STATUS 0;
      match exec (.challenge (.head 0) []) s with
      | .next u => decide (u.outputs = [.spdm (.head 0) 0x7F [3, 0]])
      | _ => false) = true := by
  refine ⟨?_, ?_, ?_⟩ <;> decide +kernel

set_option maxRecDepth 100000 in
theorem test_ScrubAndRepair_does :
    (let s := (State.reset.setFlag aXR_GSTATUS 0 true);
      match exec (.rowRepair .mc 0x8000081F) s with
      | .next u => decide (u.integ.repairing = some ⟨31, 0, 1, 0, 0⟩ ∧ u.flag aRPR_STATUS 0 = true)
      | _ => false) = true ∧
    (let s := { (State.reset.setFlag aXR_GSTATUS 0 true) with integ := { State.reset.integ with repairing := some ⟨0, 0, 0, 0, 0⟩ } };
      match exec (.rowRepair .mc 0x8000081F) s with
      | .next u => decide (u.fld aRPR_STATUS 1 3 = 4)
      | _ => false) = true ∧
    (let s := { (State.reset.setFlag aXR_GSTATUS 0 true) with integ := { State.reset.integ with repairing := some ⟨31, 63, 16383, 1, repairMoves - 1⟩ } };
      match exec (.rowRepairDone []) s with
      | .next u => decide (u.integ.repairs = [] ∧ u.integ.repairing.isSome = true)
      | _ => false) = true ∧
    (let s := (State.reset.setFlag aXR_GSTATUS 0 true);
      match exec (.retirePage .mc 0xFFFFFF001) s with
      | .next u => decide (u.integ.retired = [0xFFFFFF])
      | _ => false) = true ∧
    (let s := { (State.reset.setFlag aXR_GSTATUS 0 true) with integ := { State.reset.integ with retired := [0xFFFFFF] } };
      match exec (.retirePage .mc 0xFFFFFF001) s with
      | .next u => decide (u.flag aRET_STATUS 12 = true ∧ u.integ.retired = [0xFFFFFF])
      | _ => false) = true := by
  refine ⟨?_, ?_, ?_, ?_, ?_⟩ <;> decide +kernel

set_option maxRecDepth 100000 in
theorem test_ChannelFaults_does :
    (let s := State.reset;
      match exec (.caParityAlert 31) s with
      | .next u => decide (u.replaying 31 = true ∧ (u.chan 31).inService = false)
      | _ => false) = true ∧
    (let s := { (faultS false) with tu := { State.reset.tu with cycle := 2000000 }, mem := { State.reset.mem with journal := [⟨0, some 0, 0, ⟨1, false⟩, BitVec.allOnes 64, none, 0, .hamper⟩], nextSeq := 1 } };
      match exec (.replaySpill 0) s with
      | .next u => decide ((u.chan 0).spilling = true ∧ (u.chan 0).spilled = 1)
      | _ => false) = true ∧
    (let s := { (faultS false) with tu := { State.reset.tu with cycle := 1000000000000 } };
      match exec (.replayLimitExpiry 0) s with
      | .next u => decide ((u.chan 0).impossible = true)
      | _ => false) = true := by
  refine ⟨?_, ?_, ?_⟩ <;> decide +kernel

set_option maxRecDepth 100000 in
theorem test_StackLinks_does :
    (let s := { (State.reset.setFlag aXR_GSTATUS 0 true) with tu := { State.reset.tu with cycle := 8040 }, halt := { Halts.reset with openAt := some 8000 }, links := { State.reset.links with pendingTaps := [(31, 0, 5), (63, 0, 6), (30, 0, 7)] } };
      match exec (.recalChangeInstant 31) s with
      | .next u => decide (u.links.pendingTaps = [(30, 0, 7)] ∧ u.links.changedAt.contains (31, 8000) = true)
      | _ => false) = true ∧
    (let s := { (State.reset.setFlag aXR_GSTATUS 0 true) with links := { State.reset.links with measuring := [(31, 75, 0)] } };
      match exec (.sweepDone (100 * 31 + 75) 0xFF) s with
      | .next u => decide (u.links.pendingTaps = [(31, 75, 23)])
      | _ => false) = true ∧
    (let s := (State.reset.setFlag aXR_GSTATUS 0 true).setFlag aXR_GCTRL 0 true;
      match exec (.expressRecalTick 1 63) s with
      | .next u => decide (u.links.measuring = [(191, 0, 16)])
      | _ => false) = true ∧
    (let s := (State.reset.setFlag aXR_GSTATUS 0 true);
      match exec (.missingClock 16) s with
      | .next u => decide (u.fld (aXR_CLK 16) 0 2 = 1 ∧ u.clkDead 16 0 = true)
      | _ => false) = true ∧
    (let s := (State.reset.setFlag aXR_GSTATUS 0 true);
      match exec (.clockColumnWatch 16 0b1111) s with
      | .next u => decide (u.clkDead 16 0 = false ∧ u.clkDead 16 1 = true ∧ u.clkDead 16 3 = true)
      | _ => false) = true ∧
    (let s := State.reset;
      match exec (.serviceColumnFail) s with
      | .next u => decide (u.links.serviceFailed = 1 ∧ u.regs = s.regs)
      | _ => false) = true := by
  refine ⟨?_, ?_, ?_, ?_, ?_, ?_⟩ <;> decide +kernel

set_option maxRecDepth 100000 in
theorem test_HeatAndShutdown_does :
    (let s := { State.reset with pins := { State.reset.pins with pwrGood := true, converter := true } };
      match exec (.thermalEvaluation 17 (some 600) (List.replicate 15 (some 600))) s with
      | .next u => decide (u.fld (aTH_SENSOR 55) 0 10 = 600 ∧ u.gov 17 = 600 ∧
        u.stage 17 = nextStage 17 (s.stage 17) 600 false)
      | _ => false) = true ∧
    (let s := { State.reset with pins := { State.reset.pins with pwrGood := true, converter := true } };
      match exec (.thermalEvaluation 0 (some 100) (List.replicate 15 (some 100))) s with
      | .next u => decide (u.fld (aTH_SENSOR 7) 0 10 = 100 ∧ u.fld (aTH_SENSOR 8) 0 10 = 0)
      | _ => false) = true ∧
    (let s := { State.reset with pins := { State.reset.pins with pwrGood := true, converter := true } };
      match exec (.canaryInterval 16 5000) s with
      | .next u => decide (u.canaryCounts 16 = [4096] ∧ u.regs = s.regs)
      | _ => false) = true ∧
    (let s := at_ { (State.reset.setReg (aTH_LAYER 17) 0x3000) with therm := { State.reset.therm with graceEnd := some 100 } } 50 100;
      match exec (.graceExpiry) s with
      | .next u => decide (u.flag aTH_STATUS 3 = true ∧ u.flag aTH_STATUS 2 = false ∧ u.reg aTH_ENF_RT = 50)
      | _ => false) = true ∧
    (let s := at_ { (State.reset.setFld aTH_STATUS 4 2 1) with therm := { State.reset.therm with shutAt := some (100, 50), drainedAt := none } } 1000 2000;
      match exec (.shutdownDrainDone) s with
      | .next u => decide (u.therm.drainedAt = some 2000 ∧ (u.chan 31).selfRefresh = true ∧
        (u.dom 15).st = .retention)
      | _ => false) = true ∧
    (let s := at_ { (State.reset.setFld aTH_STATUS 4 2 1) with therm := { State.reset.therm with shutAt := some (100, 50), drainedAt := some 2000 } } 21000 42000;
      match exec (.shutdownPowerDown) s with
      | .next u => decide (u.fld aTH_STATUS 4 2 = 2 ∧ u.reg aTH_SHUT_RT = 50 ∧ (u.dom 63).st = .off ∧
        (u.dom 42).st = .on)
      | _ => false) = true ∧
    (let s := at_ { (State.reset.setFld aTH_STATUS 4 2 1) with therm := { State.reset.therm with shutAt := some (100, 50), drainedAt := none } } 10000050 20000100;
      match exec (.shutdownTimeout) s with
      | .next u => decide (u.fld aTH_STATUS 4 2 = 3)
      | _ => false) = true := by
  refine ⟨?_, ?_, ?_, ?_, ?_, ?_, ?_⟩ <;> decide +kernel

set_option maxRecDepth 100000 in
theorem test_PowerDomains_does :
    (let s := State.reset;
      match exec (.mgmtPowerRequest .mc 2) s with
      | .next u => decide (u.fld aPWR_MREQ_CTRL 0 2 = 2 ∧ u.power.nextId = 0)
      | _ => false) = true ∧
    (let s := State.reset;
      match exec (.mgmtPowerRequest .mc 6) s with
      | .next u => decide (u.fld aPWR_MREQ_CTRL 0 2 = 2 ∧ u.power.nextId = 1)
      | _ => false) = true ∧
    (let s := { State.reset with power := { State.reset.power with doms := State.reset.power.doms.set 32 ⟨.on, some (.retention, 0, 0), none, 3⟩ } };
      match exec (.domainTransitionDone 32) s with
      | .next u => decide ((u.dom 32).st = .retention)
      | _ => false) = true ∧
    (let s := { State.reset with power := { State.reset.power with doms := State.reset.power.doms.set 41 ⟨.retention, some (.on, 0, 0), none, 3⟩ } };
      match exec (.domainWakeDone 41 6) s with
      | .next u => decide ((u.dom 41).st = .on ∧ u.reg (aPWR_DOM_FAIL 41) = 2 ∧ u.reg aPWR_LASTWAKE_RT = s.nowW)
      | _ => false) = true ∧
    (let s := { State.reset with power := { State.reset.power with doms := State.reset.power.doms.set 15 ⟨.off, some (.on, 0, 0), none, 0⟩ } };
      match exec (.layerWakeFillDone 15) s with
      | .next u => decide ((u.dom 15).st = .on)
      | _ => false) = true := by
  refine ⟨?_, ?_, ?_, ?_, ?_⟩ <;> decide +kernel

set_option maxRecDepth 100000 in
theorem test_FuseCommandsStart_does_1 :
    (let s := (State.reset.setFlag aOTP_STATUS 0 true);
      match exec (.otpNormalRead .mc 511) s with
      | .next u => decide ((u.otp.cmd.map (fun c => (c.op, c.word))) = some (0, 511))
      | _ => false) = true ∧
    (let s := (State.reset.setFlag aOTP_STATUS 0 true);
      match exec (.otpNormalRead .mc 167) s with
      | .next u => decide (u.otp.cmd = none ∧ u.reg aOTP_DATA = 0 ∧ u.fld aOTP_RESULT 0 4 = 4)
      | _ => false) = true ∧
    (let s := State.reset;
      match exec (.otpNormalRead .mc 7) s with
      | .next u => decide (u.otp.cmd = none ∧ u.fld aOTP_RESULT 0 4 = 1)
      | _ => false) = true ∧
    (let s := (State.reset.setFlag aOTP_STATUS 0 true);
      match exec (.otpStrictRead .mc 159) s with
      | .next u => decide ((u.otp.cmd.map (fun c => (c.op, c.word))) = some (1, 159))
      | _ => false) = true ∧
    (let s := (State.reset.setFlag aOTP_STATUS 0 true);
      match exec (.otpStrictRead .mc 167) s with
      | .next u => decide (u.otp.cmd = none ∧ u.reg aOTP_DATA = 0 ∧ u.fld aOTP_RESULT 0 4 = 4)
      | _ => false) = true ∧
    (let s := State.reset;
      match exec (.otpStrictRead .mc 7) s with
      | .next u => decide (u.otp.cmd = none ∧ u.fld aOTP_RESULT 0 4 = 1)
      | _ => false) = true ∧
    (let s := (State.reset.setFlag aOTP_STATUS 0 true);
      match exec (.otpDualRead .mc 168) s with
      | .next u => decide ((u.otp.cmd.map (fun c => (c.op, c.word))) = some (2, 168))
      | _ => false) = true ∧
    (let s := (State.reset.setFlag aOTP_STATUS 0 true);
      match exec (.otpDualRead .mc 167) s with
      | .next u => decide (u.otp.cmd = none ∧ u.reg aOTP_DATA = 0 ∧ u.fld aOTP_RESULT 0 4 = 4)
      | _ => false) = true ∧
    (let s := State.reset;
      match exec (.otpDualRead .mc 7) s with
      | .next u => decide (u.otp.cmd = none ∧ u.fld aOTP_RESULT 0 4 = 1)
      | _ => false) = true ∧
    (let s := at_ ((((State.reset.setFlag aOTP_STATUS 0 true).setReg aOTP_DATA 5).setReg aMOD_SUPPLY 12000).setFlag aMOD_POWER 24 true) 100000000 200000000;
      match exec (.otpProgram .mc 145) s with
      | .next u => decide ((u.otp.cmd.map (fun c => (c.op, c.word, c.data))) = some (3, 145, 5))
      | _ => false) = true := by
  refine ⟨?_, ?_, ?_, ?_, ?_, ?_, ?_, ?_, ?_, ?_⟩ <;> decide +kernel

set_option maxRecDepth 100000 in
theorem test_FuseCommandsStart_does_2 :
    (let s := at_ ((((State.reset.setFlag aOTP_STATUS 0 true).setReg aOTP_DATA 5).setReg aMOD_SUPPLY 12000).setFlag aMOD_POWER 24 true) 100000000 200000000;
      match exec (.otpProgram .mc 200) s with
      | .next u => decide (u.otp.cmd = none ∧ u.fld aOTP_RESULT 0 4 = 9)
      | _ => false) = true ∧
    (let s := ((at_ ((((State.reset.setFlag aOTP_STATUS 0 true).setReg aOTP_DATA 5).setReg aMOD_SUPPLY 12000).setFlag aMOD_POWER 24 true) 100000000 200000000).setFlag aTT_IMAGE 0 true).setReg aIMG_STATUS 9;
      match exec (.otpRaiseCounter .mc 0) s with
      | .next u => decide ((u.otp.cmd.map (fun c => (c.op, c.raise))) = some (4, [192, 193, 194, 195, 196]))
      | _ => false) = true ∧
    (let s := at_ ((((State.reset.setFlag aOTP_STATUS 0 true).setReg aOTP_DATA 5).setReg aMOD_SUPPLY 12000).setFlag aMOD_POWER 24 true) 100000000 200000000;
      match exec (.otpRaiseCounter .mc 0) s with
      | .next u => decide (u.otp.cmd = none ∧ u.fld aOTP_RESULT 0 4 = 11)
      | _ => false) = true := by
  refine ⟨?_, ?_, ?_⟩ <;> decide +kernel

set_option maxRecDepth 100000 in
theorem test_FuseCommandsEnd_does :
    (let s := { (at_ ((((State.reset.setFlag aOTP_STATUS 0 true).setReg aOTP_DATA 5).setReg aMOD_SUPPLY 12000).setFlag aMOD_POWER 24 true) 100000000 200000000) with otp := { (at_ ((((State.reset.setFlag aOTP_STATUS 0 true).setReg aOTP_DATA 5).setReg aMOD_SUPPLY 12000).setFlag aMOD_POWER 24 true) 100000000 200000000).otp with cmd := some ⟨0, 511, 5, [], false, 0⟩ } };
      match exec (.otpCommandDone [⟨.word 77 none, .word 77 none⟩]) s with
      | .next u => decide (u.otp.cmd = none ∧ u.fld aOTP_RESULT 0 4 = 0 ∧ u.reg aOTP_DATA = 77)
      | _ => false) = true ∧
    (let s := { (at_ ((((State.reset.setFlag aOTP_STATUS 0 true).setReg aOTP_DATA 5).setReg aMOD_SUPPLY 12000).setFlag aMOD_POWER 24 true) 100000000 200000000) with otp := { (at_ ((((State.reset.setFlag aOTP_STATUS 0 true).setReg aOTP_DATA 5).setReg aMOD_SUPPLY 12000).setFlag aMOD_POWER 24 true) 100000000 200000000).otp with cmd := some ⟨1, 511, 5, [], false, 0⟩ } };
      match exec (.otpCommandDone [⟨.word 77 none, .word 77 none⟩]) s with
      | .next u => decide (u.otp.cmd = none ∧ u.fld aOTP_RESULT 0 4 = 0 ∧ u.reg aOTP_DATA = 77)
      | _ => false) = true ∧
    (let s := { (at_ ((((State.reset.setFlag aOTP_STATUS 0 true).setReg aOTP_DATA 5).setReg aMOD_SUPPLY 12000).setFlag aMOD_POWER 24 true) 100000000 200000000) with otp := { (at_ ((((State.reset.setFlag aOTP_STATUS 0 true).setReg aOTP_DATA 5).setReg aMOD_SUPPLY 12000).setFlag aMOD_POWER 24 true) 100000000 200000000).otp with cmd := some ⟨2, 511, 5, [], false, 0⟩ } };
      match exec (.otpCommandDone [⟨.word 77 none, .word 77 none⟩]) s with
      | .next u => decide (u.otp.cmd = none ∧ u.fld aOTP_RESULT 0 4 = 0 ∧ u.reg aOTP_DATA = 77)
      | _ => false) = true ∧
    (let s := { (at_ ((((State.reset.setFlag aOTP_STATUS 0 true).setReg aOTP_DATA 5).setReg aMOD_SUPPLY 12000).setFlag aMOD_POWER 24 true) 100000000 200000000) with otp := { (at_ ((((State.reset.setFlag aOTP_STATUS 0 true).setReg aOTP_DATA 5).setReg aMOD_SUPPLY 12000).setFlag aMOD_POWER 24 true) 100000000 200000000).otp with cmd := some ⟨3, 145, 5, [], false, 0⟩ } };
      match exec (.otpCommandDone [⟨.word 5 none, .word 5 none⟩]) s with
      | .next u => decide (u.fld aOTP_RESULT 0 4 = 0 ∧ u.otpState 145 = 1 ∧ u.otpValue 145 = 5)
      | _ => false) = true ∧
    (let s := { (at_ ((((State.reset.setFlag aOTP_STATUS 0 true).setReg aOTP_DATA 5).setReg aMOD_SUPPLY 12000).setFlag aMOD_POWER 24 true) 100000000 200000000) with otp := { (at_ ((((State.reset.setFlag aOTP_STATUS 0 true).setReg aOTP_DATA 5).setReg aMOD_SUPPLY 12000).setFlag aMOD_POWER 24 true) 100000000 200000000).otp with cmd := some ⟨3, 145, 5, [], false, 0⟩ } };
      match exec (.otpCommandDone [⟨.word 5 none, .double⟩]) s with
      | .next u => decide (u.fld aOTP_RESULT 0 4 = 13 ∧ u.otp.word 145 = classify ⟨.word 5 none, .double⟩)
      | _ => false) = true := by
  refine ⟨?_, ?_, ?_, ?_, ?_⟩ <;> decide +kernel

set_option maxRecDepth 100000 in
theorem test_RegisterCommands_does_1 :
    (let s := headS 3 .l0 4;
      match exec (.registerWrite (.head 3) aTU_CTRL 4 5) s with
      | .next u => decide (u.flag aCTL_STICKY (aTU_CTRL / 0x10000 % 16) = true)
      | _ => false) = true ∧
    (let s := State.reset;
      match exec (.registerWrite .mc aTU_LIMIT 4 5) s with
      | .next u => decide (u.reg aTU_LIMIT = s.reg aTU_LIMIT ∧ u.pendValue aTU_LIMIT = some 5)
      | _ => false) = true ∧
    (let s := headS 7 .l0 4;
      match exec (.registerRead 7 aTU_RT 8) s with
      | .next u => decide (u.outputs = [.regValue (.head 7) 0])
      | _ => false) = true ∧
    (let s := headS 7 .l0 4;
      match exec (.registerRead 7 3 4) s with
      | .next u => decide (u.outputs = [.completerAbort (.head 7)])
      | _ => false) = true ∧
    (let s := { State.reset with pend := [(aTU_LIMIT, 5)] };
      match exec (.ctlUpdNow .mc 0xFFFF) s with
      | .next u => decide (u.fld aTU_LIMIT 0 32 = 5 ∧ u.pend = [])
      | _ => false) = true ∧
    (let s := { State.reset with pend := [(aTU_LIMIT, 5)] };
      match exec (.ctlUpdDiscard .mc 0xFFFF) s with
      | .next u => decide (u.regs = s.regs ∧ u.pend = [])
      | _ => false) = true ∧
    (let s := State.reset;
      match exec (.cfgCheckStart) s with
      | .next u => decide (u.cfgPass = some 0)
      | _ => false) = true ∧
    (let s := State.reset.setReg (aFC_SRC_STAT 103) 0x1FF;
      match exec (.severeClear .mc 103 0x100) s with
      | .next u => decide (u.flag (aFC_SRC_STAT 103) 8 = false ∧ u.fld (aFC_SRC_STAT 103) 0 8 = 0)
      | _ => false) = true ∧
    (let s := State.reset.setReg aFC_FIRST 0x3FF;
      match exec (.fcFirstClear .mc 0x100) s with
      | .next u => decide (u.flag aFC_FIRST 8 = false ∧ u.flag aFC_FIRST 9 = false)
      | _ => false) = true ∧
    (let s := State.reset;
      match exec (.snapCtrlFire .mc 0x11) s with
      | .next u => decide (u.flag aSNAP_STATUS 0 = true ∧ u.flag aSNAP_STATUS 4 = true ∧ u.snapDue = false)
      | _ => false) = true := by
  refine ⟨?_, ?_, ?_, ?_, ?_, ?_, ?_, ?_, ?_, ?_⟩ <;> decide +kernel

set_option maxRecDepth 100000 in
theorem test_RegisterCommands_does_2 :
    (let s := State.reset.setFlag aSNAP_STATUS 0 true;
      match exec (.snapCtrlRearm .mc 2) s with
      | .next u => decide (u.flag aSNAP_STATUS 0 = false)
      | _ => false) = true ∧
    (let s := State.reset;
      match exec (.ownClaimImg (.thread 7) 0x8000003F) s with
      | .next u => decide (u.tcOwner 63 = 1 ∧
        u.reg (aOWN_REQ_IMG + 4) = packBits [(0, 8, 63), (8, 8, stOK), (16, 1, 1)])
      | _ => false) = true ∧
    (let s := State.reset.setReg (aTC_OWNER 63) 2;
      match exec (.ownClaimImg (.thread 7) 0x8000003F) s with
      | .next u => decide (u.tcOwner 63 = 2 ∧
        u.reg (aOWN_REQ_IMG + 4) = packBits [(0, 8, 63), (8, 8, stBUSY), (16, 1, 1)])
      | _ => false) = true ∧
    (let s := State.reset.setReg (aTC_OWNER 63) 1;
      match exec (.ownReleaseImg (.thread 7) 0x8000203F) s with
      | .next u => decide (u.tcOwner 63 = 0 ∧
        u.reg (aOWN_REQ_IMG + 4) = packBits [(0, 8, 63), (8, 8, stOK), (16, 1, 1)])
      | _ => false) = true ∧
    (let s := State.reset;
      match exec (.ownClaimFm .mc 0x8000003F) s with
      | .next u => decide (u.tcOwner 63 = 2 ∧
        u.reg (aOWN_REQ_FM + 4) = packBits [(0, 8, 63), (8, 8, stOK), (16, 1, 1)])
      | _ => false) = true ∧
    (let s := State.reset.setReg (aTC_OWNER 63) 1;
      match exec (.ownClaimFm .mc 0x8000003F) s with
      | .next u => decide (u.tcOwner 63 = 1 ∧
        u.reg (aOWN_REQ_FM + 4) = packBits [(0, 8, 63), (8, 8, stBUSY), (16, 1, 1)])
      | _ => false) = true ∧
    (let s := State.reset.setReg (aTC_OWNER 63) 2;
      match exec (.ownReleaseFm .mc 0x8000203F) s with
      | .next u => decide (u.tcOwner 63 = 0 ∧
        u.reg (aOWN_REQ_FM + 4) = packBits [(0, 8, 63), (8, 8, stOK), (16, 1, 1)])
      | _ => false) = true ∧
    (let s := { (State.reset.setReg aWEAR_STATUS 0x3FFFF).setReg aSU_STATUS 0x800 with halt := { Halts.reset with program := true } };
      match exec (.suOpen (.thread 0) 1) s with
      | .next u => decide (u.flag aSU_CTRL 0 = true ∧ u.fld aSU_STATUS 0 4 = 9)
      | _ => false) = true ∧
    (let s := State.reset;
      match exec (.suOpen (.thread 0) 1) s with
      | .next u => decide (u.flag aSU_CTRL 0 = false ∧ u.flag aSU_STATUS 15 = true)
      | _ => false) = true := by
  refine ⟨?_, ?_, ?_, ?_, ?_, ?_, ?_, ?_, ?_⟩ <;> decide +kernel

set_option maxRecDepth 100000 in
theorem test_StartUp_does :
    (let s := { State.reset with pins := { State.reset.pins with converter := false, pwrGood := false } };
      match exec (.powerUp) s with
      | .next u => decide (u.pins.converter = true)
      | _ => false) = true ∧
    (let s := { State.reset with pins := { State.reset.pins with pwrGood := true, converter := true } };
      match exec (.vinLow ⟨10799, 2000, 24000, 100, true⟩) s with
      | .next u => decide (u.flag aMOD_POWER 25 = true ∧ u.fld aMOD_SUPPLY 0 16 = 10799)
      | _ => false) = true ∧
    (let s := { State.reset with pins := { State.reset.pins with pwrGood := true, converter := true } };
      match exec (.vinHigh ⟨13201, 2000, 24000, 100, true⟩) s with
      | .next u => decide (u.flag aMOD_POWER 26 = true ∧ u.fld aMOD_SUPPLY 0 16 = 13201)
      | _ => false) = true ∧
    (let s := { State.reset with pins := { State.reset.pins with pwrGood := true, held := true, aonReady := true } };
      match exec (.moduleRelease) s with
      | .next u => decide (u.pins.held = false ∧ u.fld aSU_STATUS 0 4 = 2)
      | _ => false) = true ∧
    (let s := at_ ({ State.reset with pins := { State.reset.pins with pwrGood := true } }) 5000 10000;
      match exec (.strapSample 0) s with
      | .next u => decide (u.layout = 0 ∧ u.pins.strapsSampled = true ∧ u.flag aMOD_STRAP 4 = false)
      | _ => false) = true ∧
    (let s := at_ ({ State.reset with pins := { State.reset.pins with pwrGood := true } }) 5000 10000;
      match exec (.strapSample 3) s with
      | .next u => decide (u.layout = 0 ∧ u.pins.strapsSampled = true ∧ u.flag aMOD_STRAP 4 = true)
      | _ => false) = true ∧
    (let s := State.reset.setFld aSU_STATUS 0 4 3;
      match exec (.stackClockReady) s with
      | .next u => decide (u.fld aSU_STATUS 0 4 = 4)
      | _ => false) = true := by
  refine ⟨?_, ?_, ?_, ?_, ?_, ?_, ?_⟩ <;> decide +kernel

/-! A configuration check that fails: the CRC leaves CFG_REF out (R580). -/

theorem coveredRegs_skip_ref : coveredRegs.all (fun r => r.1 != aCFG_REF) = true := by decide +kernel

theorem cfgCrc_ref (s : State) (v : Word) : (s.setReg aCFG_REF v).cfgCrc = s.cfgCrc := by
  unfold State.cfgCrc
  rw [List.flatMap_congr]
  intro r hr
  have h := List.all_eq_true.1 coveredRegs_skip_ref r hr
  rw [State.reg_setReg_ne _ _ _ _ (by simpa using h)]

def checkedS : State := { (State.reset.setFlag aCFG_CTRL 0 true) with cfgPass := some 0 }

theorem test_RegisterCommands_check_fails : ∃ s : State, s.cfgPass.isSome = true ∧ Quiet s ∧ s.regsWf = true ∧
    s.flag aCFG_CTRL 0 = true ∧ s.cfgCrc ≠ s.fld aCFG_REF 0 32 := by
  by_cases h : checkedS.cfgCrc = checkedS.fld aCFG_REF 0 32
  · refine ⟨checkedS.setReg aCFG_REF 1, by decide +kernel, by unfold Quiet; decide +kernel, by decide +kernel,
      by decide +kernel, ?_⟩
    rw [cfgCrc_ref, h]
    decide +kernel
  · exact ⟨checkedS, by decide +kernel, by unfold Quiet; decide +kernel, by decide +kernel, by decide +kernel, h⟩

/-! Commands that are no commands of the block (WellFormed). -/

theorem test_ill_formed_addresses :
    (Instr.memRd 0 (2 ^ 64) 0 .good).wellFormed = false ∧ (Instr.memRdData 0 0 (2 ^ 16) .good).wellFormed = false ∧
    (Instr.memWr 0 (2 ^ 64) 0 0 .good).wellFormed = false ∧ (Instr.memWrPtl 0 (2 ^ 64) 0 0 0 .good).wellFormed = false ∧
    (Instr.memInv 0 (2 ^ 64) 0 .good).wellFormed = false ∧ (Instr.memSpecRd 0 (2 ^ 64) 0 .good).wellFormed = false ∧
    (Instr.uioMemoryRead 0 0 0 257 .good).wellFormed = false ∧ (Instr.uioMemoryRead 0 192 0 128 .good).wellFormed = false ∧
    (Instr.uioMemoryWrite 0 0 [] 0 0 false .good).wellFormed = false ∧
    (Instr.injectPoison 0 (2 ^ 64)).wellFormed = false ∧ (Instr.clearPoison 0 (2 ^ 64) 0).wellFormed = false ∧
    (Instr.addDynamicCapacityResponse 0 0 (2 ^ 64)).wellFormed = false ∧
    (Instr.releaseDynamicCapacity 0 0 (2 ^ 64)).wellFormed = false := by decide

theorem test_ill_formed_counts :
    (Instr.getEventRecords 0 .warning (2 ^ 16)).wellFormed = false ∧
    (Instr.clearEventRecords 0 .warning (2 ^ 16)).wellFormed = false ∧
    (Instr.fmEvents .i3c .fatal true (2 ^ 16)).wellFormed = false ∧
    (Instr.initiateDynamicCapacityAdd .i3c 0 0 0 (2 ^ 16)).wellFormed = false := by decide

theorem test_ill_formed_accesses :
    (Instr.registerRead 0 (2 ^ 20) 4).wellFormed = false ∧ (Instr.registerRead 0 0 2).wellFormed = false ∧
    (Instr.registerWrite .mc 0 16 0).wellFormed = false ∧ (Instr.readRegister .i3c 0 2).wellFormed = false ∧
    (Instr.writeRegister .i3c (2 ^ 20) 4 0).wellFormed = false := by decide

theorem test_ill_formed_errors :
    (Instr.dramReadData 0 [(72, 1)]).wellFormed = false ∧ (Instr.dramReadData 0 [(3, 1), (3, 2)]).wellFormed = false ∧
    (Instr.ueRetry 0 [(72, 1)]).wellFormed = false ∧ (Instr.rowRepairDone [(32, [])]).wellFormed = false ∧
    (Instr.rowRepairDone [(0, [(72, 1)])]).wellFormed = false := by decide

theorem test_ill_formed_paths :
    (Instr.getDcdInfo .mc).wellFormed = false ∧ (Instr.activateFw (.thread 0) 1 0).wellFormed = false ∧
    (Instr.setEndpointId .mc 0).wellFormed = false ∧ (Instr.getVersion .mc).wellFormed = false ∧
    (Instr.thawHead (.head 0) 0).wellFormed = false := by decide

theorem test_ill_formed_opcodes :
    (Instr.nop 0 (ins 0 0 0 0 0 0) (some 0x10)).wellFormed = false ∧
    (Instr.ld 0 (ins 1 0 0 0 0 0) false true).wellFormed = false ∧ (Instr.ldw 0 (ins 1 0 0 0 0 0) false true).wellFormed = false ∧
    (Instr.nop 0 (ins 0 0 0 0 0 0) (some 0x0F)).wellFormed = true ∧
    (Instr.setTimestamp 0 0 (some 0x0300)).wellFormed = false ∧ (Instr.setTimestamp 0 0 (some 0x0500)).wellFormed = true := by
  decide

theorem test_well_formed :
    (Instr.memRd 0 (2 ^ 64 - 1) (2 ^ 16 - 1) .good).wellFormed = true ∧
    (Instr.uioMemoryRead 0 192 0 64 .good).wellFormed = true ∧ (Instr.registerRead 0 (2 ^ 20 - 1) 8).wellFormed = true ∧
    (Instr.dramReadData 0 [(71, 1), (0, 2)]).wellFormed = true ∧ (Instr.activateFw (.head 0) 1 0).wellFormed = true := by
  decide

set_option maxRecDepth 100000 in
theorem test_ill_formed_numbers :
    (Instr.sealHoldCopyDone 0 (2 ^ 24) false).wellFormed = false ∧ (Instr.zeroFillDone 256).wellFormed = false ∧
    (Instr.sweepDone 5376 0).wellFormed = false ∧ (Instr.transferFw .i3c 1 (2 ^ 32) [] true).wellFormed = false ∧
    (Instr.uioCompletion 0 0 .ok false (List.replicate 257 0)).wellFormed = false := by decide

end Sys2Proof.Tests
end

namespace Sys2Proof.Machine

/-! A step, and the clocks of a cycle -/

/-- The nominal increment of a cycle, with no frequency steered in, is half a nanosecond (Table 2.1). -/
theorem State.increment_none (s : State) (hc : s.tu.corr = .none) (hf : s.fld aTU_FREQ 0 32 = 0) :
    s.increment = 2 ^ 31 := by
  simp [State.increment, hc, hf]

theorem State.increment_fwd (s : State) (hc : s.tu.corr = .fwd) : s.increment = 3 * 2 ^ 30 := by
  simp [State.increment, hc]

theorem State.increment_back (s : State) (hc : s.tu.corr = .back) : s.increment = 2 ^ 30 := by
  simp [State.increment, hc]

theorem State.increment_steer (s : State) (hc : s.tu.corr = .steer) (hf : s.fld aTU_FREQ 0 32 = 0) :
    s.increment = if 0 < s.tu.corrLeft then 2 ^ 31 - 2 ^ 31 / 10000 else 2 ^ 31 + 2 ^ 31 / 10000 := by
  simp [State.increment, hc, hf]

/-- A forward slew gains a quarter of a nanosecond in a cycle on the nominal clock (Table 2.1, R60). -/
theorem State.corrAfter_fwd (s : State) (hc : s.tu.corr = .fwd) (hf : s.fld aTU_FREQ 0 32 = 0)
    (hl : s.tu.corrLeft ≤ 0) : s.corrAfter = min 0 (s.tu.corrLeft + 2 ^ 30) := by
  have hn := State.increment_none { s with tu := { s.tu with corr := .none } } rfl hf
  rw [State.corrAfter, hn, s.increment_fwd hc, if_neg (by simp [hc]), if_neg (by omega)]
  norm_num

/-- A backward slew loses a quarter of a nanosecond in a cycle on the nominal clock (Table 2.1, R60). -/
theorem State.corrAfter_back (s : State) (hc : s.tu.corr = .back) (hf : s.fld aTU_FREQ 0 32 = 0)
    (hl : 0 < s.tu.corrLeft) : s.corrAfter = max 0 (s.tu.corrLeft - 2 ^ 30) := by
  have hn := State.increment_none { s with tu := { s.tu with corr := .none } } rfl hf
  rw [State.corrAfter, hn, s.increment_back hc, if_neg (by simp [hc]), if_pos hl]
  norm_num

/-- Without a correction nothing is left to remove but what was. -/
theorem State.corrAfter_none (s : State) (hc : s.tu.corr = .none) : s.corrAfter = s.tu.corrLeft := by
  rw [State.corrAfter, if_pos hc]

/-- Without power no cycle passes (R24, R610). -/
theorem State.tick_unpowered (s : State) (h : s.pins.pwrGood = false) : s.tick = s := by
  simp [State.tick, h]

theorem step_cons (s : State) (c : Instr) (rest : List Instr) (h : s.pending = c :: rest) :
    step s = exec c { s with pending := rest } := by
  simp only [step, h]

theorem step_nil (s : State) (h : s.pending = []) : step s = .next s.tick := by
  simp only [step, h]

/-- Settles O1: one equation of `step` for each form of the queue, and a word that decodes to nothing. -/
theorem stepRunsFrontCommand : Obligations.StepRunsFrontCommand :=
  ⟨step_cons, fun s h => ⟨step_nil s h, s.tick_unpowered⟩, fun _ _ _ => ⟨rfl, rfl⟩⟩

/-- Settles O2: the increment and the outstanding amount, row by row of Table 2.1. -/
theorem cycleAddsIncrement : Obligations.CycleAddsIncrement := fun s =>
  ⟨rfl, rfl, s.increment_fwd, s.increment_back, s.increment_none, s.increment_steer, s.corrAfter_none, s.corrAfter_fwd,
    s.corrAfter_back, rfl⟩

end Sys2Proof.Machine

namespace Sys2Proof.Machine

/-! What no reaction and no line of a request changes of regulation -/

/-- The part of the state that regulation alone writes: its working state and the registers of group 7 (R281), by
offset. -/
def State.regulPart (s : State) : Regulation × (Nat → Word) := (s.regul, fun i => s.reg (0x70000 + i % 0x10000))

theorem State.regul_of_regulPart {s u : State} (h : u.regulPart = s.regulPart) : u.regul = s.regul :=
  congrArg Prod.fst h

/-- REG_M_ADM of a master is in the part. -/
theorem State.regAdm_of_regulPart {s u : State} (h : u.regulPart = s.regulPart) (m : Nat) (hm : m < 17) :
    u.reg (aREG_M_ADM m) = s.reg (aREG_M_ADM m) := by
  have h2 := congrFun (congrArg Prod.snd h) (0x18 + m * 0x20)
  have e : 0x70000 + (0x18 + m * 0x20) % 0x10000 = aREG_M_ADM m := by simp only [aREG_M_ADM]; omega
  simpa only [State.regulPart, e] using h2

theorem State.regulPart_congr {s u : State} (h1 : u.regul = s.regul) (h2 : u.regs = s.regs) :
    u.regulPart = s.regulPart := by
  simp only [State.regulPart, State.reg, h1, h2]

variable (s : State)

/-- A register outside group 7 is not in the part. -/
theorem State.regulPart_setReg (a : Nat) (v : Word) (h : a < 0x70000 ∨ 0x80000 ≤ a) :
    (s.setReg a v).regulPart = s.regulPart := by
  simp only [State.regulPart, State.setReg_regul, Prod.mk.injEq, true_and]
  funext i
  exact s.reg_setReg_ne _ _ _ (by omega)

theorem State.regulPart_setFld (a lo n x : Nat) (h : a < 0x70000 ∨ 0x80000 ≤ a) :
    (s.setFld a lo n x).regulPart = s.regulPart := s.regulPart_setReg _ _ h
theorem State.regulPart_setFlag (a i : Nat) (b : Bool) (h : a < 0x70000 ∨ 0x80000 ≤ a) :
    (s.setFlag a i b).regulPart = s.regulPart := s.regulPart_setReg _ _ h
theorem State.regulPart_bump (a lo n k : Nat) (h : a < 0x70000 ∨ 0x80000 ≤ a) :
    (s.bump a lo n k).regulPart = s.regulPart := s.regulPart_setReg _ _ h

@[simp] theorem State.regulPart_setThread (t : Fin 8) (x : Thread) : (s.setThread t x).regulPart = s.regulPart := rfl
@[simp] theorem State.regulPart_setCar (c : Fin 32) (x : Carriage) : (s.setCar c x).regulPart = s.regulPart := rfl
@[simp] theorem State.regulPart_setSeal (i : Fin 4) (x : Seal) : (s.setSeal i x).regulPart = s.regulPart := rfl
@[simp] theorem State.regulPart_setOuting (i : Fin 8) (x : Outing) : (s.setOuting i x).regulPart = s.regulPart := rfl
@[simp] theorem State.regulPart_setHead (k : Fin 16) (x : Head) : (s.setHead k x).regulPart = s.regulPart := rfl
@[simp] theorem State.regulPart_setChan (c : Fin 32) (x : Channel) : (s.setChan c x).regulPart = s.regulPart := rfl
@[simp] theorem State.regulPart_emit (o : Output) : (s.emit o).regulPart = s.regulPart := rfl

theorem State.regulPart_foldl {α : Type} (f : State → α → State) (l : List α) (s : State)
    (hf : ∀ s a, (f s a).regulPart = s.regulPart) : (l.foldl f s).regulPart = s.regulPart := by
  induction l generalizing s with
  | nil => rfl
  | cons a l ih => exact (ih (f s a)).trans (hf s a)

theorem State.regulPart_foldl_pair {α β : Type} (f : State × β → α → State × β) (l : List α) (p : State × β)
    (hf : ∀ p a, (f p a).1.regulPart = p.1.regulPart) : (l.foldl f p).1.regulPart = p.1.regulPart := by
  induction l generalizing p with
  | nil => rfl
  | cons a l ih => exact (ih (f p a)).trans (hf p a)

theorem State.regulPart_setPstore (m : List Host.Cell) : State.regulPart { s with pstore := m } = s.regulPart := rfl
theorem State.regulPart_setMem (m : MemPath) : State.regulPart { s with mem := m } = s.regulPart := rfl

/-! Records, threads, comparators -/

@[simp] theorem State.regulPart_toFm (log : EventLog) (r : Record) : (s.toFm log r).regulPart = s.regulPart := by
  unfold State.toFm
  dsimp only
  split <;> rfl

@[simp] theorem State.regulPart_toHeads (ks : List (Fin 16)) (log : EventLog) (r : Record) :
    (s.toHeads ks log r).regulPart = s.regulPart := State.regulPart_foldl _ _ _ fun _ _ => rfl

@[simp] theorem State.regulPart_toHeadAndFm (k : Fin 16) (log : EventLog) (r : Record) :
    (s.toHeadAndFm k log r).regulPart = s.regulPart := (State.regulPart_toFm _ log r).trans rfl

@[simp] theorem State.regulPart_toAll (log : EventLog) (r : Record) : (s.toAll log r).regulPart = s.regulPart := by
  simp [State.toAll]

@[simp] theorem State.regulPart_setEvents (t : Fin 8) (m : BitVec 16) : (s.setEvents t m).regulPart = s.regulPart := rfl

@[simp] theorem State.regulPart_tcDisarm (n : Fin 64) : (s.tcDisarm n).regulPart = s.regulPart :=
  s.regulPart_setFlag _ _ _ (.inl (by simp only [aTC_CTRL]; omega))

@[simp] theorem State.regulPart_tcRelease (n : Fin 64) : ((s.tcDisarm n).setReg (aTC_OWNER n) 0).regulPart = s.regulPart :=
  (State.regulPart_setReg _ _ _ (.inl (by simp only [aTC_OWNER]; omega))).trans (s.regulPart_tcDisarm n)

@[simp] theorem State.regulPart_tcFree (n : Fin 64) : (s.tcFree n).regulPart = s.regulPart := by
  unfold State.tcFree
  rw [State.regulPart_setReg _ _ _ (.inl (by simp only [aTC_OWNER]; omega)),
    State.regulPart_setReg _ _ _ (.inl (by simp only [aTC_STATUS]; omega)), State.regulPart_tcDisarm]

@[simp] theorem State.regulPart_haltThread (t : Fin 8) : (s.haltThread t).regulPart = s.regulPart := by
  have hd : ∀ w, (s.dropRequest w).regulPart = s.regulPart := fun w => by unfold State.dropRequest; split <;> rfl
  unfold State.haltThread
  dsimp only
  split
  · split <;> rfl
  · exact hd _
  · rfl

@[simp] theorem State.regulPart_haltAll : s.haltAll.regulPart = s.regulPart :=
  State.regulPart_foldl _ _ _ fun s t => s.regulPart_haltThread t

/-! Snapshots and ALIVE -/

@[simp] theorem State.regulPart_snapTrigger (b comp severe : Nat) :
    (s.snapTrigger b comp severe).regulPart = s.regulPart := by
  have h1 : ∀ (s : State) lo n x, (s.setFld aSNAP_STATUS lo n x).regulPart = s.regulPart := fun s lo n x =>
    s.regulPart_setFld _ _ _ _ (by decide)
  have h2 : ∀ (s : State) i b, (s.setFlag aSNAP_STATUS i b).regulPart = s.regulPart := fun s i b => h1 s _ _ _
  unfold State.snapTrigger
  dsimp only
  split
  · split
    · simp only [apply_ite State.regulPart, h1, h2, ite_self]
    · exact h1 s _ _ _
  · exact (State.regulPart_setReg _ aSNAP_RT _ (by decide)).trans (s.regulPart_setReg aSNAP_STATUS _ (by decide))

@[simp] theorem State.regulPart_aliveStop (cause : Nat) : (s.aliveStop cause).regulPart = s.regulPart := by
  unfold State.aliveStop
  split
  · rfl
  · rw [State.regulPart_setReg _ _ _ (by decide), State.regulPart_setFld _ _ _ _ _ (by decide),
      State.regulPart_setFlag _ _ _ _ (by decide)]

/-- The end of a command writes the snapshot copies at most, which stand above group 7 (R602). -/
@[simp] theorem State.regulPart_settle (b : State) : (State.settle b s).regulPart = s.regulPart := by
  have hfold : ∀ (l : List (Nat × Nat)) (t : State), (∀ p ∈ l, 0x80000 ≤ p.1) →
      (l.foldl (fun s p => s.setReg p.1 (b.copyOf p)) t).regulPart = t.regulPart := by
    intro l
    induction l with
    | nil => exact fun _ _ => rfl
    | cons p l ih =>
      intro t h
      exact (ih _ fun q hq => h q (List.mem_cons_of_mem _ hq)).trans
        (t.regulPart_setReg _ _ (.inr (h p List.mem_cons_self)))
  unfold State.settle
  split
  · exact hfold snapTable _ (by decide +kernel)
  · rfl

/-! Carriages, seals and outings -/

@[simp] theorem State.regulPart_writeProgress (c : Fin 32) (desc entry done : Nat) (acc : Word) :
    (s.writeProgress c desc entry done acc).regulPart = s.regulPart := by
  unfold State.writeProgress
  dsimp only
  exact State.regulPart_setPstore _ _

@[simp] theorem State.regulPart_carEvent (c : Fin 32) : (s.carEvent c).regulPart = s.regulPart := by
  unfold State.carEvent
  dsimp only
  split <;> rfl

@[simp] theorem State.regulPart_carStopBy (c : Fin 32) (code src : Nat) : (s.carStopBy c code src).regulPart = s.regulPart := by
  unfold State.carStopBy
  simp only [apply_ite State.regulPart, State.regulPart_toFm, State.regulPart_carEvent, State.regulPart_writeProgress,
    State.regulPart_setCar, ite_self]
  split
  · simp only [apply_ite State.regulPart, State.regulPart_tcFree, State.regulPart_tcRelease, ite_self]
  · rfl

@[simp] theorem State.regulPart_carStop (c : Fin 32) (code : Nat) : (s.carStop c code).regulPart = s.regulPart :=
  s.regulPart_carStopBy c code _

@[simp] theorem State.regulPart_carStopAtLine (c : Fin 32) (code src : Nat) :
    (s.carStopAtLine c code src).regulPart = s.regulPart := by
  unfold State.carStopAtLine
  dsimp only
  split <;> simp [apply_ite State.regulPart]

@[simp] theorem State.regulPart_carUnreserve (c : Fin 32) : (s.carUnreserve c).regulPart = s.regulPart := by
  simp [State.carUnreserve, apply_ite State.regulPart]

@[simp] theorem State.regulPart_sealRecord (i : Fin 4) (outcome : Nat) : (s.sealRecord i outcome).regulPart = s.regulPart := by
  simp [State.sealRecord]

@[simp] theorem State.regulPart_sealFail (i : Fin 4) (reason : Nat) : (s.sealFail i reason).1.regulPart = s.regulPart := by
  unfold State.sealFail
  dsimp only
  rw [State.regulPart_sealRecord, State.regulPart_setSeal]
  exact State.regulPart_foldl _ _ _ fun s c => s.regulPart_carUnreserve c

@[simp] theorem State.regulPart_carPost (c : Fin 32) : (s.carPost c).regulPart = s.regulPart := by
  unfold State.carPost
  dsimp only
  split
  · rfl
  · simp only [apply_ite State.regulPart, State.regulPart_setOuting, State.regulPart_setCar, State.regulPart_emit, ite_self]

@[simp] theorem State.regulPart_outingAbsent (i : Fin 8) (reason bound : Nat) (post : Bool) :
    (s.outingAbsent i reason bound post).1.regulPart = s.regulPart := by
  simp [State.outingAbsent, apply_ite State.regulPart]

/-! Shutdown and reactions -/

@[simp] theorem State.regulPart_thermalRecord (src layer stage frac : Nat) :
    (s.thermalRecord src layer stage frac).regulPart = s.regulPart := by
  simp [State.thermalRecord]

/-- The first records and registers of a shutdown. -/
theorem State.regulPart_shutdownMark (src layer : Nat) (thermal : Bool) (v : Word) :
    (if thermal = true then (((s.setFld aTH_STATUS 4 2 1).setReg aTH_SHUT v).setFlag aTH_STATUS 6 true).thermalRecord src layer 4 0
      else (s.setFld aTH_STATUS 4 2 1).setReg aTH_SHUT v).regulPart = s.regulPart := by
  have h : ((s.setFld aTH_STATUS 4 2 1).setReg aTH_SHUT v).regulPart = s.regulPart := by
    rw [State.regulPart_setReg _ _ _ (by decide), State.regulPart_setFld _ _ _ _ _ (by decide)]
  split
  · rw [State.regulPart_thermalRecord, State.regulPart_setFlag _ _ _ _ (by decide), h]
  · exact h

@[simp] theorem State.regulPart_beginShutdown (src layer : Nat) : (s.beginShutdown src layer).1.regulPart = s.regulPart := by
  unfold State.beginShutdown
  split
  · rfl
  · dsimp only
    rw [State.regulPart_setMem, State.regulPart_foldl_pair]
    · dsimp only
      rw [State.regulPart_foldl_pair]
      · dsimp only
        rw [State.regulPart_foldl _ _ _ fun s c => s.regulPart_carStopAtLine c 1 0xFFFF, State.regulPart_haltAll]
        exact s.regulPart_shutdownMark _ _ _ _
      · intro p i
        split <;> simp
    · intro p i
      split <;> simp

@[simp] theorem State.regulPart_headFreeze (k : Fin 16) (reason addr stamp windowMs until_ : Nat) :
    (s.headFreeze k reason addr stamp windowMs until_).regulPart = s.regulPart := by
  simp [State.headFreeze]

@[simp] theorem State.regulPart_freezeMaster (src : Nat) (m : Master) : (s.freezeMaster src m).regulPart = s.regulPart := by
  cases m with
  | head k reason addr stamp =>
    simp only [State.freezeMaster]
    split <;> simp
  | thread t reason word addr bus =>
    simp only [State.freezeMaster]
    rw [State.regulPart_toFm, State.regulPart_setReg _ _ _ (.inr (by simp only [aTT_FAULT_ADDR]; omega)),
      State.regulPart_setReg _ _ _ (.inr (by simp only [aTT_FAULT_INSN]; omega)),
      State.regulPart_setReg _ _ _ (.inr (by simp only [aTT_FAULT]; omega)), State.regulPart_setThread]
  | carriage c addr => simp [State.freezeMaster]

@[simp] theorem State.regulPart_fenceUnit (src : Nat) (noFreeze : Bool) (m : Master) :
    (s.fenceUnit src noFreeze m).regulPart = s.regulPart := by
  cases m with
  | head k reason addr stamp =>
    simp only [State.fenceUnit]
    split <;> simp
  | thread t reason word addr bus => simp [State.fenceUnit, apply_ite State.regulPart]
  | carriage c addr =>
    simp only [State.fenceUnit]
    rw [State.regulPart_foldl _ _ _ fun s d => s.regulPart_carStopAtLine d 10 src, State.regulPart_freezeMaster]

@[simp] theorem State.regulPart_notifyFault (src : Nat) : (s.notifyFault src).regulPart = s.regulPart := by
  unfold State.notifyFault State.notify
  rw [State.regulPart_setEvents, State.regulPart_setFlag _ _ _ _ (.inr (by simp only [aFC_ALERT]; omega))]

@[simp] theorem State.regulPart_latchFirst (e : FaultEvent) : (s.latchFirst e).regulPart = s.regulPart := by
  have h : ∀ (s : State) (a b c : Word) (n : Nat),
      State.regulPart { ((s.setReg aFC_FIRST a).setReg aFC_FIRST_RT b).setReg aFC_FIRST_DETAIL c with fcFirstCycle := n }
        = s.regulPart := fun s a b c n => by
    refine (State.regulPart_congr (s := ((s.setReg aFC_FIRST a).setReg aFC_FIRST_RT b).setReg aFC_FIRST_DETAIL c) rfl rfl).trans ?_
    rw [State.regulPart_setReg _ _ _ (by decide), State.regulPart_setReg _ _ _ (by decide), State.regulPart_setReg _ _ _ (by decide)]
  unfold State.latchFirst
  dsimp only
  split
  · split
    · exact h _ _ _ _ _
    · exact s.regulPart_setFlag _ _ _ (by decide)
  · exact h _ _ _ _ _

@[simp] theorem State.regulPart_countEvent (src : Nat) : (s.countEvent src).1.regulPart = s.regulPart := by
  have hst : aFC_SRC_STAT src < 0x70000 ∨ 0x80000 ≤ aFC_SRC_STAT src := .inr (by simp only [aFC_SRC_STAT]; omega)
  unfold State.countEvent
  dsimp only
  split
  · rw [State.regulPart_bump _ _ _ _ _ hst, State.regulPart_bump _ _ _ _ _ hst]
  · have hw : ∀ (t : State) (w : List (Nat × Nat)), State.regulPart { t with fcWindow := w } = t.regulPart := fun _ _ => rfl
    simp only [apply_ite State.regulPart, State.regulPart_setFlag _ _ _ _ hst, State.regulPart_setFld _ _ _ _ _ hst, hw,
      State.regulPart_bump _ _ _ _ _ hst, ite_self]

@[simp] theorem State.regulPart_raiseOne (e : FaultEvent) : (s.raiseOne e).1.regulPart = s.regulPart := by
  unfold State.raiseOne
  split
  · rfl
  · dsimp only
    cases e.master <;> simp [apply_ite State.regulPart, apply_ite Prod.fst]

theorem State.regulPart_raiseAll (n : Nat) (es : List FaultEvent) : (s.raiseAll n es).regulPart = s.regulPart := by
  induction n generalizing s es with
  | zero => rfl
  | succ n ih =>
    cases es with
    | nil => rfl
    | cons e es => exact (ih _ _).trans (s.regulPart_raiseOne e)

@[simp] theorem State.regulPart_carriageViolation (c : Fin 32) (addr : Nat) :
    (s.carriageViolation c addr).regulPart = s.regulPart := s.regulPart_raiseAll _ _

end Sys2Proof.Machine

namespace Sys2Proof.Machine

variable (s : State)

/-! The lines of carriages and seals -/

@[simp] theorem State.regulPart_carAdvance (c : Fin 32) (n : Nat) : (s.carAdvance c n).regulPart = s.regulPart := by
  simp [State.carAdvance, apply_ite State.regulPart]

@[simp] theorem State.regulPart_releaseHeld (i : Fin 4) : (s.releaseHeld i).regulPart = s.regulPart := rfl

/-- Events signalled to a thread where the number names one. -/
theorem State.regulPart_setEventsIf (n : Nat) (m : BitVec 16) :
    (if h : n < 8 then s.setEvents ⟨n, h⟩ m else s).regulPart = s.regulPart := by
  split <;> rfl

@[simp] theorem State.regulPart_sealCheck (i : Fin 4) : (s.sealCheck i).regulPart = s.regulPart := by
  unfold State.sealCheck
  dsimp only
  split
  · rfl
  · rw [State.regulPart_sealRecord, State.regulPart_setEventsIf, State.regulPart_setSeal, State.regulPart_setMem,
      State.regulPart_tcFree]
    refine State.regulPart_foldl _ _ _ fun s c => ?_
    split
    · exact State.regulPart_carEvent _ c
    · rfl

/-- The hold carriage of a seal takes up granules: nothing but the copies of that seal changes. -/
theorem State.holdFill_eq (i : Fin 4) :
    ∃ cs, s.holdFill i = s.setSeal i { s.seal i with copies := cs } := by
  have hself : ∀ t : State, t.setSeal i { t.seal i with copies := (t.seal i).copies } = t := fun t => by
    show t.setSeal i (t.seal i) = t
    simp [State.setSeal, State.seal]
  have hset : ∀ (t : State) (x y : Seal), (t.setSeal i x).setSeal i y = t.setSeal i y := fun t x y => by
    simp [State.setSeal]
  have hfold : ∀ (f : State → Nat → State) (l : List Nat) (t : State),
      (∀ t g, ∃ cs, f t g = t.setSeal i { t.seal i with copies := cs }) →
      ∃ cs, l.foldl f t = t.setSeal i { t.seal i with copies := cs } := by
    intro f l
    induction l with
    | nil => exact fun t _ => ⟨_, (hself t).symm⟩
    | cons g l ih =>
      intro t hf
      obtain ⟨cs, h1⟩ := hf t g
      obtain ⟨ds, h2⟩ := ih (f t g) hf
      exact ⟨ds, by rw [List.foldl_cons, h2, h1, State.seal_setSeal_same, hset]⟩
  refine hfold _ _ s fun t g => ?_
  dsimp only
  split
  · exact ⟨_, rfl⟩
  · exact ⟨_, (hself t).symm⟩

@[simp] theorem State.regulPart_holdFill (i : Fin 4) : (s.holdFill i).regulPart = s.regulPart := by
  obtain ⟨cs, h⟩ := s.holdFill_eq i
  rw [h, State.regulPart_setSeal]

@[simp] theorem State.regulPart_granuleDone (i : Fin 4) (g : Nat) (hold : Bool) (got : List (Nat × LineVal)) :
    (s.granuleDone i g hold got).regulPart = s.regulPart := by
  unfold State.granuleDone
  dsimp only
  rw [State.regulPart_holdFill, State.regulPart_sealCheck, State.regulPart_releaseHeld, State.regulPart_setSeal]
  exact s.regulPart_setPstore _

@[simp] theorem State.regulPart_sweepMove (c : Fin 32) (i : Fin 4) (first n fuel : Nat) :
    (s.sweepMove c i first n fuel).regulPart = s.regulPart := by
  induction fuel generalizing s with
  | zero => rfl
  | succ fuel ih =>
    unfold State.sweepMove
    simp only [apply_ite State.regulPart, ih, State.regulPart_setCar, State.regulPart_carAdvance, ite_self]

@[simp] theorem State.regulPart_listMove (c : Fin 32) (d : Desc) (fuel : Nat) :
    (s.listMove c d fuel).regulPart = s.regulPart := by
  induction fuel generalizing s with
  | zero => rfl
  | succ fuel ih =>
    unfold State.listMove
    dsimp only
    split
    · simp only [apply_ite State.regulPart, ih, State.regulPart_setCar, ite_self]
    · split
      · rfl
      · split <;> simp only [ih, State.regulPart_setCar, State.regulPart_carStop, State.regulPart_carriageViolation,
          State.regulPart_writeProgress]

@[simp] theorem State.regulPart_carSend (c : Fin 32) : (s.carSend c).regulPart = s.regulPart := by
  unfold State.carSend
  dsimp only
  split
  · rfl
  · simp only [apply_ite State.regulPart]
    rw [State.regulPart_foldl _ _ _ ?_, ite_self]
    exact fun _ _ => rfl

@[simp] theorem State.regulPart_carRetire (c : Fin 32) (fuel : Nat) : (s.carRetire c fuel).regulPart = s.regulPart := by
  induction fuel generalizing s with
  | zero => rfl
  | succ fuel ih =>
    unfold State.carRetire
    dsimp only
    split
    · simp only [apply_ite State.regulPart, ih, State.regulPart_carAdvance, State.regulPart_setCar, ite_self]
    · rfl

@[simp] theorem State.regulPart_carAhead (c : Fin 32) (d : Desc) (fuel : Nat) :
    (s.carAhead c d fuel).regulPart = s.regulPart := by
  induction fuel generalizing s with
  | zero => rfl
  | succ fuel ih =>
    unfold State.carAhead
    simp only [apply_ite State.regulPart, ih, State.regulPart_carSend, State.regulPart_setCar, ite_self]

@[simp] theorem State.regulPart_carRun (c : Fin 32) (fuel : Nat) : (s.carRun c fuel).regulPart = s.regulPart := by
  induction fuel generalizing s with
  | zero => rfl
  | succ fuel ih =>
    unfold State.carRun
    split
    · rfl
    · simp only [apply_ite State.regulPart, ih, State.regulPart_carAhead, State.regulPart_carSend,
        State.regulPart_listMove, State.regulPart_carRetire, ite_self]

@[simp] theorem State.regulPart_carGo (c : Fin 32) : (s.carGo c).regulPart = s.regulPart := by
  unfold State.carGo
  dsimp only
  split
  · exact s.regulPart_carPost c
  · split <;> simp only [apply_ite State.regulPart, State.regulPart_sweepMove, State.regulPart_carRun, ite_self]

@[simp] theorem State.regulPart_sweepStaged (c : Fin 32) (got : List (Nat × LineVal)) :
    (s.sweepStaged c got).regulPart = s.regulPart := by
  unfold State.sweepStaged
  split
  · simp only [apply_ite State.regulPart, State.regulPart_carGo, State.regulPart_carAdvance,
      State.regulPart_granuleDone, State.regulPart_setCar, ite_self]
  · rfl

@[simp] theorem State.regulPart_carGot (c : Fin 32) (run line : Nat) (v : LineVal) :
    (s.carGot c run line v).regulPart = s.regulPart := by
  unfold State.carGot
  dsimp only
  split
  · rfl
  · split
    · rfl
    · split <;> simp only [apply_ite State.regulPart, State.regulPart_carStopBy, State.regulPart_carRetire,
        State.regulPart_carGo, State.regulPart_sweepStaged, State.regulPart_setCar, ite_self]

@[simp] theorem State.regulPart_carPut (c : Fin 32) (run line : Nat) :
    (s.carPut c run line).regulPart = s.regulPart := by
  unfold State.carPut
  dsimp only
  split
  · rfl
  · split
    · rfl
    · split <;> simp only [State.regulPart_carStopBy, State.regulPart_carRetire, State.regulPart_carGo,
        State.regulPart_setCar]

@[simp] theorem State.regulPart_stagedPut (i : Fin 4) (line : Nat) : (s.stagedPut i line).regulPart = s.regulPart := by
  simp [State.stagedPut]

/-! The request path -/

theorem State.regulPart_bump_readCount (k : Fin 16) (n x : Nat) : (s.bump (aHD_RD_CNT k) 0 n x).regulPart = s.regulPart :=
  s.regulPart_bump _ _ _ _ (.inl (by simp only [aHD_RD_CNT]; omega))

theorem State.regulPart_bump_writeCount (k : Fin 16) (n x : Nat) : (s.bump (aHD_WR_CNT k) 0 n x).regulPart = s.regulPart :=
  s.regulPart_bump _ _ _ _ (.inl (by simp only [aHD_WR_CNT]; omega))

theorem State.regulPart_respondRead (r : Req) (v : LineVal) : (s.respondRead r v).regulPart = s.regulPart := by
  unfold State.respondRead
  match r.src with
  | .head k => simp only [apply_ite State.regulPart, State.regulPart_emit, State.regulPart_bump_readCount, ite_self]
  | .carriage c => exact s.regulPart_carGot c _ _ _
  | .scrub => rfl
  | .seal i => rfl
  | .zeroFill => rfl

theorem State.regulPart_uioLine (k : Fin 16) (tag : Nat) : (s.uioLine k tag).regulPart = s.regulPart := by
  unfold State.uioLine
  split
  · rfl
  · split <;> rfl

theorem State.regulPart_respondWrite (r : Req) : (s.respondWrite r).regulPart = s.regulPart := by
  unfold State.respondWrite
  match r.src with
  | .head k =>
    simp only [apply_ite State.regulPart, State.regulPart_emit, State.regulPart_uioLine, State.regulPart_bump_writeCount,
      ite_self]
  | .carriage c => exact s.regulPart_carPut c _ _
  | .scrub => rfl
  | .seal i => exact s.regulPart_stagedPut i _
  | .zeroFill => rfl

end Sys2Proof.Machine

namespace Sys2Proof.Machine

variable (s : State)

/-! What the operations of the path change at most -/

theorem State.wake_changes (n src : Nat) : ∃ p, s.wake n src = { s with power := p } := by
  unfold State.wake
  split
  · dsimp only
    split
    · exact ⟨_, rfl⟩
    · exact ⟨_, rfl⟩
    · split <;> exact ⟨_, rfl⟩
  · exact ⟨_, rfl⟩

theorem State.wakeFor_changes (line : Nat) (src : Src) : ∃ p, s.wakeFor line src = { s with power := p } := by
  have hif : ∀ (c : Prop) [Decidable c] (t u : State), (∃ p, t = { s with power := p }) → (∃ p, u = { s with power := p }) →
      ∃ p, (if c then t else u) = { s with power := p } := fun c _ t u ht hu => by split <;> assumption
  have hwake : ∀ (t : State) (n code : Nat), (∃ p, t = { s with power := p }) → ∃ p, t.wake n code = { s with power := p } := by
    rintro t n code ⟨p, rfl⟩
    exact State.wake_changes _ n code
  unfold State.wakeFor
  dsimp only
  split
  · exact ⟨_, rfl⟩
  · have hchan : ∀ code, ∃ p, (if s.placeChan line < 32 then
        (s.wake (16 + s.placeChan line / 2) code).wake (s.placeChan line / 2) code else s) = { s with power := p } := fun code =>
      hif _ _ _ (hwake _ _ code (s.wake_changes _ code)) ⟨_, rfl⟩
    exact hif _ _ _ (hwake _ _ _ (hchan _)) (hchan _)

theorem State.countHeld_changes (c : Fin 32) (src : Src) : ∃ rs, s.countHeld c src = { s with regs := rs } := by
  unfold State.countHeld
  cases src <;> exact ⟨_, rfl⟩

theorem State.countLookup_changes (hit : Bool) : ∃ rs, s.countLookup hit = { s with regs := rs } := by
  unfold State.countLookup
  dsimp only
  split
  · split <;> exact ⟨_, rfl⟩
  · exact ⟨_, rfl⟩

theorem State.touch_changes (line : Nat) : ∃ ls, s.touch line = { s with cache := ls } := by
  unfold State.touch
  split <;> exact ⟨_, rfl⟩

theorem State.chargeLine_changes (m : Nat) (a : Admission) :
    ∃ g, s.chargeLine m a = { s with regs := (s.bump (aREG_M_ADM m) 0 64 1).regs, regul := g }
      ∧ g.inCycle = s.regul.inCycle + 1
      ∧ (a = .token → g.buckets = sparsePut (fun _ => 0) s.regul.buckets m (s.bucket m - 1024)) := by
  unfold State.chargeLine State.bump State.setFld State.setReg State.fld State.reg
  cases a with
  | token => exact ⟨_, rfl, rfl, fun _ => rfl⟩
  | weight => exact ⟨_, rfl, rfl, nofun⟩
  | no => exact ⟨_, rfl, rfl, nofun⟩

theorem State.reg_congr {s u : State} (h : u.regs = s.regs) (a : Nat) : u.reg a = s.reg a := by
  simp only [State.reg, h]

theorem State.settle_changes (b : State) :
    ∃ rs d, State.settle b s = { s with regs := rs, snapDue := d } := by
  have hfold : ∀ (l : List (Nat × Nat)) (t : State),
      ∃ rs, l.foldl (fun s p => s.setReg p.1 (b.copyOf p)) t = { t with regs := rs } := by
    intro l
    induction l with
    | nil => exact fun t => ⟨_, rfl⟩
    | cons p l ih => exact fun t => ih (t.setReg p.1 (b.copyOf p))
  unfold State.settle State.takeSnapshot
  generalize snapTable = l
  split
  · obtain ⟨rs, h⟩ := hfold l { s with snapDue := false }
    exact ⟨rs, false, h⟩
  · exact ⟨_, _, rfl⟩

/-- A command's end leaves every part but the registers as the command left it. -/
@[simp] theorem State.settle_mem (b : State) : (State.settle b s).mem = s.mem := by
  obtain ⟨rs, d, h⟩ := s.settle_changes b
  rw [h]
@[simp] theorem State.settle_outputs (b : State) : (State.settle b s).outputs = s.outputs := by
  obtain ⟨rs, d, h⟩ := s.settle_changes b
  rw [h]
@[simp] theorem State.settle_chan (b : State) (c : Fin 32) : (State.settle b s).chan c = s.chan c := by
  obtain ⟨rs, d, h⟩ := s.settle_changes b
  rw [h]
  rfl
@[simp] theorem State.settle_head (b : State) (k : Fin 16) : (State.settle b s).head k = s.head k := by
  obtain ⟨rs, d, h⟩ := s.settle_changes b
  rw [h]
  rfl
@[simp] theorem State.settle_car (b : State) (c : Fin 32) : (State.settle b s).car c = s.car c := by
  obtain ⟨rs, d, h⟩ := s.settle_changes b
  rw [h]
  rfl

/-! The home of a line -/

/-- Where a line lives rests on the channels, the stand-ins and their registers (R474 to R482). -/
theorem State.place_congr {s u : State} (hr : ∀ a, 0xB0000 ≤ a → u.reg a = s.reg a) (hl : u.links = s.links)
    (hc : u.chans = s.chans) (line : Nat) : u.place line = s.place line := by
  have hst : ∀ n, u.siState n = s.siState n := fun n => by
    rw [State.siState, State.fld, hr _ (by simp only [aXR_SI_STATUS]; omega)]; rfl
  have hch : ∀ n, u.siChannel n = s.siChannel n := fun n => by
    rw [State.siChannel, State.fld, hr _ (by simp only [aXR_SI_STATUS]; omega)]; rfl
  have hof : u.siOf = s.siOf := by
    funext c
    simp only [State.siOf, hst, hch]
  have hsv : u.siSurvivors = s.siSurvivors := by
    funext n
    simp only [State.siSurvivors, hl]
  have hb : u.siBlocks = s.siBlocks := by
    funext n
    have h : ∀ q, u.reg (aXR_SI_BLK n q) = s.reg (aXR_SI_BLK n q) := fun q => hr _ (by simp only [aXR_SI_BLK]; omega)
    simp only [State.siBlocks, State.fld, h]
  have hsl : u.slotLine = s.slotLine := by
    funext n slot l
    simp only [State.slotLine, hsv, hb]
  have hlost : u.isLost = s.isLost := by
    funext c
    simp only [State.isLost, State.chan, hc]
  simp only [State.place, hst, hof, hsv, hsl, hlost]

end Sys2Proof.Machine

namespace Sys2Proof.Machine

variable (s : State)

theorem State.place_setReg (a : Nat) (v : Word) (h : a < 0xB0000) (line : Nat) : (s.setReg a v).place line = s.place line :=
  State.place_congr (fun _ hb => s.reg_setReg_ne _ _ _ (by omega)) rfl rfl line

theorem State.place_chargeLine (m : Nat) (a : Admission) (hm : m < 17) (line : Nat) :
    (s.chargeLine m a).place line = s.place line := by
  obtain ⟨g, h, -, -⟩ := s.chargeLine_changes m a
  refine State.place_congr (fun b hb => ?_) (by rw [h]) (by rw [h]) line
  have hne : b ≠ aREG_M_ADM m := by simp only [aREG_M_ADM]; omega
  rw [State.reg_congr (s := s.bump (aREG_M_ADM m) 0 64 1) (by rw [h]) b, s.reg_bump_ne _ _ _ _ _ hne]

/-- The request's line has a home in service (R444, R482). -/
def State.AtHome (s : State) (r : Req) : Prop :=
  ∃ (c : Fin 32) (cell : Nat), s.place r.line = some (c.val, cell) ∧ s.impossible c = false

/-- The request waits for a pool entry or has one (R229, R272). -/
def State.Queued (u : State) (r : Req) : Prop := r ∈ u.mem.missQ ∨ ∃ c, ∃ e ∈ (u.chan c).pool, e.req = r

theorem State.atHome_congr {s u : State} {r : Req} (hp : u.place r.line = s.place r.line) (hc : u.chans = s.chans)
    (h : s.AtHome r) : u.AtHome r := by
  obtain ⟨c, cell, h1, h2⟩ := h
  refine ⟨c, cell, hp.trans h1, ?_⟩
  simpa only [State.impossible, State.chan, hc] using h2

/-! The pools -/

theorem State.regulPart_countHeld (c : Fin 32) (src : Src) : (s.countHeld c src).regulPart = s.regulPart := by
  have hc : (s.bump (aCH_HELD c) 0 32 1).regulPart = s.regulPart :=
    s.regulPart_bump _ _ _ _ (.inl (by simp only [aCH_HELD]; omega))
  unfold State.countHeld
  cases src with
  | head k => exact (State.regulPart_bump _ _ _ _ _ (.inl (by simp only [aHD_HALT_HELD]; omega))).trans hc
  | _ => exact hc

/-- A read that a halt holds is counted; another one is not. -/
theorem State.countHeldIf_changes (b : Bool) (c : Fin 32) (src : Src) :
    ∃ rs, (if b = true then s.countHeld c src else s) = { s with regs := rs }
      ∧ State.regulPart { s with regs := rs } = s.regulPart := by
  split
  · obtain ⟨rs, h⟩ := s.countHeld_changes c src
    exact ⟨rs, h, h ▸ s.regulPart_countHeld c src⟩
  · exact ⟨_, rfl, rfl⟩

/-- A line that the journal forwards is counted; for another one the domains of its channel wake. -/
theorem State.forwardOrWake_changes (b : Bool) (c : Nat) (hc : c < 32) (line : Nat) (src : Src) :
    ∃ rs p, (if b = true then s.bump (aCH_FWD c) 0 32 1 else s.wakeFor line src) = { s with regs := rs, power := p }
      ∧ State.regulPart { s with regs := rs, power := p } = s.regulPart := by
  split
  · exact ⟨_, _, rfl, s.regulPart_bump _ _ _ _ (.inl (by simp only [aCH_FWD]; omega))⟩
  · obtain ⟨p, h⟩ := s.wakeFor_changes line src
    exact ⟨_, p, h, rfl⟩

/-- A partial write is counted as a merge of its channel. -/
theorem State.countMergeIf_changes (k : ReqKind) (c : Nat) (hc : c < 32) :
    ∃ rs, (if k = .partialWrite then s.bump (aCH_RMW c) 0 32 1 else s) = { s with regs := rs }
      ∧ State.regulPart { s with regs := rs } = s.regulPart := by
  split
  · exact ⟨_, rfl, s.regulPart_bump _ _ _ _ (.inl (by simp only [aCH_RMW]; omega))⟩
  · exact ⟨_, rfl, rfl⟩

/-- A request with a home takes an entry of its channel's pool. -/
theorem State.toPool_home (r : Req) (c : Fin 32) (cell : Nat) (hp : s.place r.line = some (c.val, cell))
    (himp : s.impossible c = false) :
    ∃ rs p e, State.regulPart { s with regs := rs, power := p } = s.regulPart ∧ e.req = r
      ∧ s.toPool r = State.setChan { s with regs := rs, power := p } c { s.chan c with pool := (s.chan c).pool ++ [e] } := by
  obtain ⟨rs, hrs, hpart⟩ := s.countMergeIf_changes r.kind c c.isLt
  rw [State.toPool, hp]
  dsimp only
  rw [dif_pos c.isLt, hrs, if_neg (by exact ne_true_of_eq_false himp)]
  generalize (if r.src = .scrub then none else State.journalLine { s with regs := rs } r.line) = fwd
  obtain ⟨rs', p, hgo, hpart'⟩ := State.forwardOrWake_changes { s with regs := rs } fwd.isSome c c.isLt r.line r.src
  rw [hgo]
  obtain ⟨rs'', hheld, hpart''⟩ := State.countHeldIf_changes { s with regs := rs', power := p } _ c r.src
  rw [hheld]
  exact ⟨rs'', p, _, (hpart''.trans hpart').trans hpart, rfl, rfl⟩

/-- A request without a home is answered with poison, or comes to nothing. -/
theorem State.toPool_homeless (r : Req) (h : ¬ s.AtHome r) :
    ∃ rs, State.regulPart { s with regs := rs } = s.regulPart
      ∧ (s.toPool r = { s with regs := rs } ∨ s.toPool r = State.deliverPoison { s with regs := rs } r) := by
  cases hp : s.place r.line with
  | none =>
    rw [State.toPool, hp]
    exact ⟨s.regs, rfl, .inr rfl⟩
  | some p =>
    obtain ⟨c, cell⟩ := p
    rw [State.toPool, hp]
    dsimp only
    by_cases hlt : c < 32
    · have himp : s.impossible c = true := by
        cases himp : s.impossible c with
        | true => rfl
        | false => exact absurd ⟨⟨c, hlt⟩, cell, hp, himp⟩ h
      obtain ⟨rs, hrs, hpart⟩ := s.countMergeIf_changes r.kind c hlt
      rw [dif_pos hlt, hrs, if_pos (by exact himp)]
      exact ⟨rs, hpart, .inr rfl⟩
    · rw [dif_neg hlt]
      exact ⟨s.regs, rfl, .inl rfl⟩

/-- What a request does that reaches its channel controller: without a home it is answered with poison, or comes to
nothing; with one it takes an entry of the pool. -/
theorem State.toPool_cases (r : Req) : ∃ (rs : List (Nat × Word)) (p : Power),
    State.regulPart { s with regs := rs, power := p } = s.regulPart ∧
    ((¬ s.AtHome r ∧ (s.toPool r = { s with regs := rs, power := p }
        ∨ s.toPool r = State.deliverPoison { s with regs := rs, power := p } r))
      ∨ ∃ (c : Fin 32) (cell : Nat) (e : PoolEntry), s.place r.line = some (c.val, cell) ∧ e.req = r
        ∧ s.toPool r = State.setChan { s with regs := rs, power := p } c
            { s.chan c with pool := (s.chan c).pool ++ [e] }) := by
  by_cases h : s.AtHome r
  · obtain ⟨c, cell, hp, himp⟩ := h
    obtain ⟨rs, p, e, hpart, he, ht⟩ := s.toPool_home r c cell hp himp
    exact ⟨rs, p, hpart, .inr ⟨c, cell, e, hp, he, ht⟩⟩
  · obtain ⟨rs, hpart, ht⟩ := s.toPool_homeless r h
    exact ⟨rs, s.power, hpart, .inl ⟨h, ht⟩⟩

end Sys2Proof.Machine

namespace Sys2Proof.Machine

variable (s : State)

/-! Poison, misses and lookups -/

/-- A miss of the request has to read its line: a read, or a host's partial write; those of other sources are merged in
the journal (R32, R245). -/
def Req.NeedsLine (r : Req) : Prop := r.kind = .read ∨ (r.kind = .partialWrite ∧ ∃ k, r.src = .head k)

theorem State.deliverPoison_merge (r : Req) (k : Fin 16) (hk : r.kind = .partialWrite) (hs : r.src = .head k) :
    ∃ q, s.deliverPoison r = { s with mem := { s.mem with accept := s.mem.accept ++ [q] } } := by
  rw [State.deliverPoison, if_pos hk, State.deliver]
  simp only [hk, hs]
  exact ⟨_, rfl⟩

theorem State.deliverPoison_read (r : Req) (hk : r.kind ≠ .partialWrite) : s.deliverPoison r = s.respondRead r poisonLine := by
  rw [State.deliverPoison, if_neg hk]

theorem State.regulPart_deliverPoison (r : Req) (h : r.NeedsLine) : (s.deliverPoison r).regulPart = s.regulPart := by
  by_cases hk : r.kind = .partialWrite
  · obtain ⟨-, k, hs⟩ := h.resolve_left (by simp [hk])
    obtain ⟨q, hq⟩ := s.deliverPoison_merge r k hk hs
    rw [hq, State.regulPart_setMem]
  · rw [s.deliverPoison_read r hk, State.regulPart_respondRead]

theorem State.regulPart_toPool (r : Req) (h : r.NeedsLine) : (s.toPool r).regulPart = s.regulPart := by
  obtain ⟨rs, p, hpart, hcase⟩ := s.toPool_cases r
  rcases hcase with ⟨-, ht | ht⟩ | ⟨c, cell, e, -, -, ht⟩
  · rw [ht, hpart]
  · rw [ht, State.regulPart_deliverPoison _ r h, hpart]
  · rw [ht, State.regulPart_setChan, hpart]

/-- A miss reaches its controller, or waits in the miss queue. -/
theorem State.miss_cases (r : Req) :
    s.miss r = s.toPool r ∨ s.miss r = { s with mem := { s.mem with missQ := s.mem.missQ ++ [r] } } := by
  unfold State.miss
  dsimp only
  split
  · split
    · exact .inl rfl
    · exact .inr rfl
  · exact .inl rfl

theorem State.regulPart_miss (r : Req) (h : r.NeedsLine) : (s.miss r).regulPart = s.regulPart := by
  rcases s.miss_cases r with hm | hm
  · rw [hm, State.regulPart_toPool _ r h]
  · rw [hm, State.regulPart_setMem]

/-- A miss with a home is queued for its channel, and nothing is answered yet. -/
theorem State.miss_queued (r : Req) (h : s.AtHome r) : (s.miss r).Queued r ∧ (s.miss r).outputs = s.outputs := by
  rcases s.miss_cases r with hm | hm
  · obtain ⟨rs, p, -, hcase⟩ := s.toPool_cases r
    rcases hcase with ⟨hno, -⟩ | ⟨c, cell, e, -, he, ht⟩
    · exact absurd h hno
    · rw [hm, ht]
      exact ⟨.inr ⟨c, e, by simp, he⟩, rfl⟩
  · rw [hm]
    exact ⟨.inl (by simp), rfl⟩

theorem State.regulPart_countLookup (hit : Bool) : (s.countLookup hit).regulPart = s.regulPart := by
  unfold State.countLookup
  dsimp only
  split
  · simp only [apply_ite State.regulPart, State.regulPart_bump _ aLC_HALT_HITS _ _ _ (.inl (by decide)),
      State.regulPart_bump _ aLC_HITS _ _ _ (.inl (by decide)), ite_self]
  · exact s.regulPart_bump _ _ _ _ (.inl (by decide))

/-- A lookup rests on the cache and the power domains alone. -/
theorem State.lookup_congr {s u : State} (hc : u.cache = s.cache) (hp : u.power = s.power) (line : Nat) :
    u.lookup line = s.lookup line := by
  have hd : u.sliceServes line = s.sliceServes line := by rw [State.sliceServes, State.sliceDom, State.dom, hp]; rfl
  have hf : u.cached line = s.cached line := by rw [State.cached, hc]; rfl
  rw [State.lookup, hd, hf]
  rfl

@[simp] theorem State.lookup_countLookup (hit : Bool) (line : Nat) : (s.countLookup hit).lookup line = s.lookup line := by
  obtain ⟨rs, h⟩ := s.countLookup_changes hit
  rw [h]
  exact State.lookup_congr rfl rfl line

/-! The lookup of an admitted request, by its kind (R188, Table 6.4) -/

/-- A lookup with nothing to write is answered at once. -/
theorem State.lookupReq_empty (r : Req) (f : Bool) (hk : r.kind = .partialWrite) (hm : r.mask = 0) :
    s.lookupReq r f = s.respondWrite r := by
  rw [State.lookupReq, if_pos ⟨hk, hm⟩]

/-- A hit that passes its check: a write goes to acceptance, another request is answered from the cache. -/
theorem State.lookupReq_hit (r : Req) (l : CacheLine) (h0 : ¬ (r.kind = .partialWrite ∧ r.mask = 0))
    (hl : s.lookup r.line = some l) :
    s.lookupReq r false = if r.isWrite then
        { s.countLookup true with mem := { s.mem with accept := s.mem.accept ++ [r] } }
      else ((s.countLookup true).touch r.line).respondRead r l.val := by
  obtain ⟨rs, h⟩ := s.countLookup_changes true
  rw [State.lookupReq, if_neg h0]
  simp only [hl, Option.isSome_some, Bool.false_eq_true, if_false, State.lookup_countLookup]
  rw [h]

/-- A miss: what needs the line from DRAM goes there, a write goes to acceptance, a hint comes to nothing. -/
theorem State.lookupReq_miss (r : Req) (f : Bool) (h0 : ¬ (r.kind = .partialWrite ∧ r.mask = 0))
    (hl : s.lookup r.line = none) :
    (r.NeedsLine ∧ s.lookupReq r f = (s.countLookup false).miss r)
      ∨ (r.isWrite = true ∧ s.lookupReq r f = { s.countLookup false with mem := { s.mem with accept := s.mem.accept ++ [r] } })
      ∨ (r.isWrite = false ∧ r.kind ≠ .read ∧ s.lookupReq r f = s.countLookup false) := by
  obtain ⟨rs, h⟩ := s.countLookup_changes false
  rw [State.lookupReq, if_neg h0]
  simp only [hl, Option.isSome_none, State.lookup_countLookup]
  rw [h]
  unfold Req.NeedsLine Req.isWrite
  rcases r.kind with _ | _ | _ | _ | _ <;> rcases r.src with _ | _ | _ | _ | _ <;> simp

end Sys2Proof.Machine

namespace Sys2Proof.Machine

variable (s : State)

@[simp] theorem State.regulPart_touch (line : Nat) : (s.touch line).regulPart = s.regulPart := by
  obtain ⟨ls, h⟩ := s.touch_changes line
  rw [h]
  exact State.regulPart_congr rfl rfl

/-- Looking up an admitted request changes nothing of regulation, whatever comes of it. -/
theorem State.regulPart_lookupReq (r : Req) : (s.lookupReq r false).regulPart = s.regulPart := by
  by_cases h0 : r.kind = .partialWrite ∧ r.mask = 0
  · rw [s.lookupReq_empty r false h0.1 h0.2, State.regulPart_respondWrite]
  cases hl : s.lookup r.line with
  | some l =>
    rw [s.lookupReq_hit r l h0 hl]
    split
    · exact (State.regulPart_setMem _ _).trans (s.regulPart_countLookup true)
    · rw [State.regulPart_respondRead, State.regulPart_touch, State.regulPart_countLookup]
  | none =>
    rcases s.lookupReq_miss r false h0 hl with ⟨hm, h⟩ | ⟨-, h⟩ | ⟨-, -, h⟩
    · rw [h, State.regulPart_miss _ r hm, State.regulPart_countLookup]
    · rw [h]
      exact (State.regulPart_setMem _ _).trans (s.regulPart_countLookup false)
    · rw [h, State.regulPart_countLookup]

/-! A head's request leaves the heads and the ports as they are -/

/-- The heads and what waits at admission. -/
def State.portsPart (s : State) : Vector Head 16 × List Req := (s.heads, s.mem.ports)

section
variable (r : Req) (k : Fin 16) (hs : r.src = .head k)
include hs

theorem State.portsPart_respondRead (v : LineVal) : (s.respondRead r v).portsPart = s.portsPart := by
  unfold State.respondRead
  simp only [hs]
  split
  · rfl
  · split <;> rfl

theorem State.portsPart_respondWrite : (s.respondWrite r).portsPart = s.portsPart := by
  unfold State.respondWrite State.uioLine
  simp only [hs]
  split
  · split
    · split
      · rfl
      · split <;> rfl
    · rfl
  · rfl

theorem State.portsPart_deliverPoison : (s.deliverPoison r).portsPart = s.portsPart := by
  by_cases hk : r.kind = .partialWrite
  · obtain ⟨q, hq⟩ := s.deliverPoison_merge r k hk hs
    rw [hq]
    rfl
  · rw [s.deliverPoison_read r hk, State.portsPart_respondRead _ r k hs]

theorem State.portsPart_miss : (s.miss r).portsPart = s.portsPart := by
  rcases s.miss_cases r with hm | hm
  · obtain ⟨rs, p, -, hcase⟩ := s.toPool_cases r
    rcases hcase with ⟨-, ht | ht⟩ | ⟨c, cell, e, -, -, ht⟩
    · rw [hm, ht]
      rfl
    · rw [hm, ht, State.portsPart_deliverPoison _ r k hs]
      rfl
    · rw [hm, ht]
      rfl
  · rw [hm]
    rfl

theorem State.portsPart_lookupReq : (s.lookupReq r false).portsPart = s.portsPart := by
  have hcount : ∀ hit, (s.countLookup hit).portsPart = s.portsPart := fun hit => by
    obtain ⟨rs, h⟩ := s.countLookup_changes hit
    rw [h]
    rfl
  by_cases h0 : r.kind = .partialWrite ∧ r.mask = 0
  · rw [s.lookupReq_empty r false h0.1 h0.2, State.portsPart_respondWrite _ r k hs]
  cases hl : s.lookup r.line with
  | some l =>
    rw [s.lookupReq_hit r l h0 hl]
    split
    · exact congrArg (·.1, s.mem.ports) (hcount true)
    · obtain ⟨ls, ht⟩ := (s.countLookup true).touch_changes r.line
      rw [State.portsPart_respondRead _ r k hs, ht]
      exact hcount true
  | none =>
    rcases s.lookupReq_miss r false h0 hl with ⟨-, h⟩ | ⟨-, h⟩ | ⟨-, -, h⟩
    · rw [h, State.portsPart_miss _ r k hs, hcount]
    · rw [h]
      exact congrArg (·.1, s.mem.ports) (hcount false)
    · rw [h, hcount]

end

/-! What one admission charges -/

/-- Line `m` of REG_M_ADM counts one line, the cycle one admission, and a token its debit (R266, R269, R270). -/
def State.Charged (s u : State) (m : Nat) : Prop :=
  (u.reg (aREG_M_ADM m)).toNat = min ((s.reg (aREG_M_ADM m)).toNat + 1) (2 ^ 64 - 1)
    ∧ u.regul.inCycle = s.regul.inCycle + 1 ∧ (s.admission m = .token → u.bucket m = s.bucket m - 1024)

/-- A counter as wide as its register. -/
theorem State.toNat_reg_bump (a : Nat) (h : sparseWf regReset s.regs = true) :
    ((s.bump a 0 64 1).reg a).toNat = min ((s.reg a).toNat + 1) (2 ^ 64 - 1) := by
  have hfld : ∀ t : State, t.fld a 0 64 = (t.reg a).toNat := fun t => by
    simp only [State.fld, getBits, BitVec.ushiftRight_zero]
    exact Nat.mod_eq_of_lt (t.reg a).isLt
  rw [← hfld, ← hfld]
  exact s.fld_bump_same a 0 64 1 h (by decide)

/-- Whatever comes after the charge leaves it as it is. -/
theorem State.charged_of_regulPart {s u : State} {m : Nat} (hm : m < 17) (hw : s.regsWf = true)
    (hb : sparseWf (fun _ => 0) s.regul.buckets = true)
    (h : u.regulPart = (s.chargeLine m (s.admission m)).regulPart) : s.Charged u m := by
  obtain ⟨g, hc, hcyc, htok⟩ := s.chargeLine_changes m (s.admission m)
  have hreg := State.regAdm_of_regulPart h m hm
  have hregul : u.regul = g := (State.regul_of_regulPart h).trans (by rw [hc])
  refine ⟨?_, by rw [hregul, hcyc], fun ht => ?_⟩
  · rw [hreg, State.reg_congr (s := s.bump (aREG_M_ADM m) 0 64 1) (by rw [hc]), s.toNat_reg_bump _ hw]
  · rw [State.bucket, hregul, htok ht, sparseGet_put_same _ _ _ _ hb]

/-! The commands of admission when a line goes -/

theorem State.headAdmit_served (k : Fin 16) (r : Req) (f : Bool) (hq : s.pickQuick k = none)
    (ha : s.admission k ≠ .no) (hp : s.pickPort k = some r) :
    s.headAdmit k f = finish s (s.admitHead k r (s.admission k) f) := by
  rw [State.headAdmit, hq, ite_self, hp]
  cases h : s.admission k with
  | token => rfl
  | weight => rfl
  | no => exact absurd h ha

theorem State.headAdmit_quick (k : Fin 16) (r : Req) (f : Bool) (hs : s.headServes k = true) (hq : s.pickQuick k = some r) :
    s.headAdmit k f = finish s ((s.dropPort r).passNow k r) := by
  rw [State.headAdmit, hs, hq, if_pos rfl]

theorem State.classAdmit_served (before : State) (rank : Nat) (r : Req) (go : State → State)
    (hw : s.sliceWaits r.line = false) (ha : s.admission 16 ≠ .no) (ht : s.classTurn rank = true) :
    State.classAdmit before s rank r false go = finish before (go (s.chargeLine 16 (s.admission 16))) := by
  rw [State.classAdmit, hw, if_neg Bool.false_ne_true]
  cases h : s.admission 16 with
  | token => simp [ht]
  | weight => simp [ht]
  | no => exact absurd h ha

theorem State.plainAdmit_served (rank : Nat) (go : State → State) (ha : s.admission 16 ≠ .no)
    (ht : s.classTurn rank = true) : s.plainAdmit rank go = finish s (go (s.chargeLine 16 (s.admission 16))) := by
  rw [State.plainAdmit]
  cases h : s.admission 16 with
  | token => simp [ht]
  | weight => simp [ht]
  | no => exact absurd h ha

theorem State.plainAdmit_no (rank : Nat) (go : State → State) (ha : s.admission 16 = .no) : s.plainAdmit rank go = .next s := by
  rw [State.plainAdmit, ha]

/-- The request of a port is its head's. -/
theorem State.pickPort_src (k : Fin 16) (r : Req) (h : s.pickPort k = some r) : r.src = .head k := by
  have hr : r ∈ s.portReady k := List.mem_of_mem_head? h
  simp only [State.portReady, List.mem_filter, beq_iff_eq] at hr
  exact hr.1.2

end Sys2Proof.Machine

namespace Sys2Proof.Machine

variable (s : State)

/-- A full write goes to acceptance, hit or miss (R188). -/
theorem State.lookupReq_write (r : Req) (hk : r.kind = .write) :
    ∃ rs, s.lookupReq r false = { s with regs := rs, mem := { s.mem with accept := s.mem.accept ++ [r] } } := by
  have h0 : ¬ (r.kind = .partialWrite ∧ r.mask = 0) := fun h => by simp [hk] at h
  have hw : r.isWrite = true := by simp [Req.isWrite, hk]
  have hcount : ∀ b, ∃ rs, { s.countLookup b with mem := { s.mem with accept := s.mem.accept ++ [r] } }
      = { s with regs := rs, mem := { s.mem with accept := s.mem.accept ++ [r] } } := fun b => by
    obtain ⟨rs, h⟩ := s.countLookup_changes b
    exact ⟨rs, by rw [h]⟩
  cases hl : s.lookup r.line with
  | some l =>
    rw [s.lookupReq_hit r l h0 hl, if_pos hw]
    exact hcount true
  | none =>
    rcases s.lookupReq_miss r false h0 hl with ⟨hm, -⟩ | ⟨-, h⟩ | ⟨hn, -, -⟩
    · exact absurd hm (by simp [Req.NeedsLine, hk])
    · rw [h]
      exact hcount false
    · exact absurd (hw.symm.trans hn) Bool.noConfusion

/-- A read that misses a line with a home is queued for it (R229). -/
theorem State.lookupReq_read_queued (r : Req) (hk : r.kind = .read) (hl : s.lookup r.line = none) (hh : s.AtHome r) :
    (s.lookupReq r false).Queued r ∧ (s.lookupReq r false).outputs = s.outputs := by
  have h0 : ¬ (r.kind = .partialWrite ∧ r.mask = 0) := fun h => by simp [hk] at h
  rcases s.lookupReq_miss r false h0 hl with ⟨-, h⟩ | ⟨hn, -⟩ | ⟨-, hn, -⟩
  · have hh' : (s.countLookup false).AtHome r :=
      State.atHome_congr (s.place_setReg aLC_MISSES _ (by decide) r.line) rfl hh
    rw [h]
    exact State.miss_queued _ r hh'
  · exact absurd hn (by simp [Req.isWrite, hk])
  · exact absurd hk hn

theorem State.respondRead_head (r : Req) (k : Fin 16) (v : LineVal) (hs : r.src = .head k) (hk : r.kind = .read)
    (hu : r.uio = false) :
    s.respondRead r v = (s.bump (aHD_RD_CNT k) 0 64 1).emit (.memData k r.tag v (s.head k).load) := by
  simp only [State.respondRead, hs, hk, hu, reduceCtorEq, Bool.false_eq_true, if_false, State.head_bump]

/-- A head's read that hits is answered with the line (R180). -/
theorem State.lookupReq_read_hit_outputs (r : Req) (k : Fin 16) (l : CacheLine) (hs : r.src = .head k) (hk : r.kind = .read)
    (hu : r.uio = false) (hl : s.lookup r.line = some l) :
    (s.lookupReq r false).outputs = s.outputs ++ [.memData k r.tag l.val (s.head k).load] := by
  have h0 : ¬ (r.kind = .partialWrite ∧ r.mask = 0) := fun h => by simp [hk] at h
  have hr : ¬ r.isWrite = true := by simp [Req.isWrite, hk]
  obtain ⟨rs, hc⟩ := s.countLookup_changes true
  obtain ⟨ls, ht⟩ := (s.countLookup true).touch_changes r.line
  rw [s.lookupReq_hit r l h0 hl, if_neg hr, State.respondRead_head _ r k _ hs hk hu, ht, hc]
  rfl

theorem State.queued_settle (b : State) {u : State} {r : Req} (h : u.Queued r) : (State.settle b u).Queued r := by
  simpa only [State.Queued, State.settle_mem, State.settle_chan] using h

/-! The head's request (R188, R229, R266, R269, R274) -/

/-- The state in which a head's admitted request is looked up: charged, out of its port, its credit returned. -/
def State.headCharged (s : State) (k : Fin 16) (r : Req) (a : Admission) : State :=
  let t := (s.chargeLine k a).dropPort r
  (t.setHead k { t.head k with admitted := (t.head k).admitted + 1 }).emit (.credit k)

theorem State.admitHead_eq (k : Fin 16) (r : Req) (a : Admission) (f : Bool) (hu : r.uio = false) :
    s.admitHead k r a f = (s.headCharged k r a).lookupReq r f := by
  simp only [State.admitHead, hu, Bool.false_eq_true, if_false, State.headCharged]

theorem State.headCharged_keeps (k : Fin 16) (r : Req) (a : Admission) :
    (s.headCharged k r a).regulPart = (s.chargeLine k a).regulPart
      ∧ (s.headCharged k r a).mem = { s.mem with ports := dropFirst r s.mem.ports }
      ∧ (s.headCharged k r a).outputs = s.outputs ++ [.credit k]
      ∧ (s.headCharged k r a).head k = { s.head k with admitted := (s.head k).admitted + 1 }
      ∧ (∀ line, (s.headCharged k r a).lookup line = s.lookup line)
      ∧ (s.AtHome r → (s.headCharged k r a).AtHome r) := by
  obtain ⟨g, hc, -, -⟩ := s.chargeLine_changes k a
  have hchans : (s.headCharged k r a).chans = (s.chargeLine k a).chans := rfl
  refine ⟨State.regulPart_congr rfl rfl, ?_, ?_, ?_, fun line => ?_, fun h => ?_⟩
  · simp only [State.headCharged, State.dropPort, State.emit_mem, State.setHead_mem, hc]
  · simp only [State.headCharged, State.dropPort, State.emit, State.setHead_outputs, hc]
  · simp only [State.headCharged, State.dropPort, State.head_emit, State.head_setHead_same, hc]
    rfl
  · exact State.lookup_congr (by simp only [State.headCharged, State.dropPort, State.emit_cache, State.setHead_cache, hc])
      (by simp only [State.headCharged, State.dropPort, State.emit_power, State.setHead_power, hc]) line
  · refine State.atHome_congr (s := s.chargeLine k a) (State.place_congr (fun _ _ => rfl) rfl rfl _) hchans ?_
    exact State.atHome_congr (s.place_chargeLine k a (by omega) r.line) (by rw [hc]) h

/-- What admission does with the request of a head that may go. -/
theorem State.regulationAdmit_head (k : Fin 16) (r : Req) (hw : s.regsWf = true)
    (hb : sparseWf (fun _ => 0) s.regul.buckets = true) (hq : s.pickQuick k = none) (ha : s.admission k ≠ .no)
    (hp : s.pickPort k = some r) (hu : r.uio = false) :
    ∃ u, exec (.regulationAdmit (.head k) false false) s = .next u ∧ s.Charged u k
      ∧ u.mem.ports = dropFirst r s.mem.ports ∧ (u.head k).admitted = (s.head k).admitted + 1
      ∧ (∀ l, r.kind = .read → s.lookup r.line = some l →
          u.outputs = s.outputs ++ [.credit k, .memData k r.tag l.val (s.head k).load])
      ∧ (r.kind = .read → s.lookup r.line = none → s.AtHome r → u.outputs = s.outputs ++ [.credit k] ∧ u.Queued r)
      ∧ (r.kind = .write → u.outputs = s.outputs ++ [.credit k] ∧ u.mem.accept = s.mem.accept ++ [r]) := by
  obtain ⟨hpart, hmem, hout, hhead, hlook, hhome⟩ := s.headCharged_keeps k r (s.admission k)
  have hs := s.pickPort_src k r hp
  have hports := State.portsPart_lookupReq (s.headCharged k r (s.admission k)) r k hs
  have hchg := State.charged_of_regulPart (m := k) (u := State.settle s ((s.headCharged k r (s.admission k)).lookupReq r false))
    (by omega) hw hb (by rw [State.regulPart_settle, State.regulPart_lookupReq, hpart])
  refine ⟨_, (s.headAdmit_served k r false hq ha hp).trans (by rw [s.admitHead_eq k r _ _ hu, finish_next]), hchg, ?_⟩
  generalize s.headCharged k r (s.admission k) = t at *
  have hh : (t.lookupReq r false).heads = t.heads := congrArg Prod.fst hports
  have hp' : (t.lookupReq r false).mem.ports = t.mem.ports := congrArg Prod.snd hports
  rw [State.settle_mem, State.settle_outputs, State.settle_head]
  refine ⟨by rw [hp', hmem], ?_, fun l hk hl => ?_, fun hk hl hh => ?_, fun hk => ?_⟩
  · rw [State.head, hh]
    exact congrArg Head.admitted hhead
  · rw [t.lookupReq_read_hit_outputs r k l hs hk hu ((hlook _).trans hl), hout, hhead, List.append_assoc]
    rfl
  · obtain ⟨hque, hout'⟩ := t.lookupReq_read_queued r hk ((hlook _).trans hl) (hhome hh)
    exact ⟨hout'.trans hout, State.queued_settle s hque⟩
  · obtain ⟨rs, h⟩ := t.lookupReq_write r hk
    rw [h]
    exact ⟨hout, by rw [hmem]⟩

end Sys2Proof.Machine

namespace Sys2Proof.Machine

variable (s : State)

/-! MemInv, and the lines of the carriage class (R35, R264, R266, R389) -/

/-- A MemInv that waited passes free of charge. -/
theorem State.regulationAdmit_quick (k : Fin 16) (r : Req) (hd : s.snapDue = false) (hs : s.headServes k = true)
    (hq : s.pickQuick k = some r) (hk : r.kind = .inv) :
    exec (.regulationAdmit (.head k) false false) s = .next
      ((State.emit { s with mem := { s.mem with ports := dropFirst r s.mem.ports } } (.credit k)).emit
        (.memCmp k r.tag (s.head k).load)) := by
  refine (s.headAdmit_quick k r false hs hq).trans ?_
  rw [State.passNow, if_pos hk]
  exact finish_quiet _ _ hd

/-- `t` is `s` with a line of the class charged; the record of the line's own unit may have moved on. -/
structure State.ClassCharged (s t : State) : Prop where
  regul : t.regulPart = (s.chargeLine 16 (s.admission 16)).regulPart
  mem : t.mem = s.mem
  cache : t.cache = s.cache
  power : t.power = s.power
  home : ∀ r, s.AtHome r → t.AtHome r

theorem State.ClassCharged.chargeLine : s.ClassCharged (s.chargeLine 16 (s.admission 16)) := by
  obtain ⟨g, hc, -, -⟩ := s.chargeLine_changes 16 (s.admission 16)
  exact ⟨rfl, by rw [hc], by rw [hc], by rw [hc], fun r h =>
    State.atHome_congr (s.place_chargeLine 16 _ (by decide) r.line) (by rw [hc]) h⟩

/-- The records of carriages, seals and fills are no part of what was charged. -/
theorem State.ClassCharged.records {s t : State} (h : s.ClassCharged t) (cs : Vector Carriage 32) (ss : Vector Seal 4)
    (fs : List Fill) : s.ClassCharged { t with cars := cs, seals := ss, filling := fs } :=
  ⟨h.regul, h.mem, h.cache, h.power, fun r hr =>
    State.atHome_congr (State.place_congr (fun _ _ => rfl) rfl rfl _) rfl (h.home r hr)⟩

theorem State.ClassCharged.setCar {s t : State} (h : s.ClassCharged t) (c : Fin 32) (x : Carriage) :
    s.ClassCharged (t.setCar c x) := h.records (t.cars.set c x) t.seals t.filling

theorem State.ClassCharged.setSeal {s t : State} (h : s.ClassCharged t) (i : Fin 4) (x : Seal) :
    s.ClassCharged (t.setSeal i x) := h.records t.cars (t.seals.set i x) t.filling

theorem State.ClassCharged.charged {s t : State} (h : s.ClassCharged t) (hw : s.regsWf = true)
    (hb : sparseWf (fun _ => 0) s.regul.buckets = true) (b : State) (r : Req) :
    s.Charged (State.settle b (t.lookupReq r false)) 16 :=
  State.charged_of_regulPart (by decide) hw hb (by rw [State.regulPart_settle, State.regulPart_lookupReq, h.regul])

theorem State.ClassCharged.queued {s t : State} (h : s.ClassCharged t) (b : State) {r : Req} (hk : r.kind = .read)
    (hl : s.lookup r.line = none) (hh : s.AtHome r) : (State.settle b (t.lookupReq r false)).Queued r :=
  State.queued_settle b (t.lookupReq_read_queued r hk ((State.lookup_congr h.cache h.power _).trans hl) (h.home r hh)).1

theorem State.ClassCharged.accept {s t : State} (h : s.ClassCharged t) (b : State) {r : Req} (hk : r.kind = .write) :
    (State.settle b (t.lookupReq r false)).mem.accept = s.mem.accept ++ [r] := by
  obtain ⟨rs, hu⟩ := t.lookupReq_write r hk
  rw [State.settle_mem, hu, h.mem]

/-- A piece whose request has been admitted (R35). -/
def Piece.admitted (p : Piece) (r : Req) : Piece :=
  if r.isWrite then { p with toWrite := p.toWrite.tail, sent := p.sent ++ [r.line] }
  else { p with toRead := p.toRead.tail, asked := p.asked ++ [r.line] }

/-- A seal whose hold copies have had their next read admitted (R389). -/
def Seal.asked (x : Seal) (line : Nat) : Seal :=
  { x with copies := x.copies.map (fun h =>
      if h.toRead.head? = some line then { h with toRead := h.toRead.tail, asked := h.asked ++ [line] } else h) }

/-- A seal whose staging has had the next write of a granule admitted (R387). -/
def Seal.sentOff (x : Seal) (g : Staged) (line : Nat) : Seal :=
  { x with staged := x.staged.map (fun q => if q = g then { q with toWrite := q.toWrite.tail, sent := q.sent ++ [line] } else q) }

/-- The blocks being filled, with one more line of the line's block admitted (R186). -/
def fillsSent (fs : List Fill) (line : Nat) : List Fill :=
  fs.map (fun f => if f.block = line / blockLines then { f with sent := f.sent + 1 } else f)

/-! A unit's next line goes through the admission of its class -/

theorem State.carAdmit_wants (c : Fin 32) (f : Bool) (i : Nat) (p : Piece) (r : Req) (hwants : (s.car c).wants = true)
    (hreq : s.carRequest c = some (i, p, r)) :
    s.carAdmit c f false = State.classAdmit s s 4 r (s.carBlocked c r)
      (fun t => (t.setCar c ((t.car c).setPiece i (p.admitted r))).lookupReq r f) := by
  simp only [State.carAdmit, hwants, if_true, hreq, Bool.false_eq_true, false_and, and_false, if_false]
  rfl

theorem State.holdAdmit_wants (i : Fin 4) (f : Bool) (r : Req) (hreq : (s.holdFill i).holdRequest i = some r) :
    s.holdAdmit i f = State.classAdmit s (s.holdFill i) 1 r ((s.holdFill i).copyBlocked r.line ((s.holdFill i).seal i).tb)
      (fun t => (t.setSeal i ((t.seal i).asked r.line)).lookupReq r f) := by
  simp only [State.holdAdmit, hreq]
  rfl

theorem State.stageAdmit_wants (i : Fin 4) (g : Staged) (r : Req)
    (hg : (s.seal i).staged.find? (fun g => !g.toWrite.isEmpty) = some g) (hreq : s.stageRequest i = some r) :
    s.stageAdmit i false = State.classAdmit s s (if g.hold then 1 else 4) r (s.blocked r)
      (fun t => (t.setSeal i ((t.seal i).sentOff g r.line)).lookupReq r false) := by
  simp only [State.stageAdmit, hg, hreq, Bool.false_eq_true, if_false]
  rfl

theorem State.zeroAdmit_wants (f : Bool) (r : Req) (hreq : s.zeroRequest = some r) :
    s.zeroAdmit f = State.classAdmit s s 3 r (s.blocked r)
      (fun t => State.lookupReq { t with filling := fillsSent t.filling r.line } r f) := by
  simp only [State.zeroAdmit, hreq]
  rfl

/-- A line of a stand-in's fill is counted; FILLED counts in units of 1 MiB (R479). -/
def State.fillCounted (t : State) (n : Nat) : State :=
  State.setFld { t with links := { t.links with siSent := sparsePut (fun _ => 0) t.links.siSent n (t.siSent n + 1) } }
    (aXR_SI_STATUS n) 12 12 ((t.siSent n + 1) / 16384)

theorem State.fillAdmit_wants (n : Nat) (h : s.siFillWants n = true) :
    s.fillAdmit n = s.plainAdmit 2 (fun t => t.fillCounted n) := by
  rw [State.fillAdmit, if_neg (by rw [h]; decide)]
  rfl

theorem State.repairAdmit_wants (q : Repair) (hq : s.integ.repairing = some q) (hm : q.moved < 64) :
    s.repairAdmit = s.plainAdmit 4 (fun t =>
      { t with integ := { t.integ with repairing := some { q with moved := q.moved + 1 } } }) := by
  rw [State.repairAdmit, hq]
  exact if_neg (Nat.not_le.mpr hm)

/-! The kinds of the class's requests -/

theorem State.holdRequest_kind (i : Fin 4) (r : Req) (h : s.holdRequest i = some r) : r.kind = .read := by
  simp only [State.holdRequest, Option.bind_eq_some_iff, Option.map_eq_some_iff] at h
  obtain ⟨_, _, _, _, rfl⟩ := h
  rfl

theorem State.zeroRequest_kind (r : Req) (h : s.zeroRequest = some r) : r.kind = .write := by
  simp only [State.zeroRequest, Option.map_eq_some_iff] at h
  obtain ⟨f, -, rfl⟩ := h
  simp [State.classWrite, wholeLine, fullMask]

section
variable (hw : s.regsWf = true) (hb : sparseWf (fun _ => 0) s.regul.buckets = true)
include hw hb

/-- A carriage's next line (R35, R264). -/
theorem State.regulationAdmit_carriage (c : Fin 32) (i : Nat) (p : Piece) (r : Req) (hwants : (s.car c).wants = true)
    (hreq : s.carRequest c = some (i, p, r)) (hslice : s.sliceWaits r.line = false) (ha : s.admission 16 ≠ .no)
    (ht : s.classTurn 4 = true) (hbl : s.carBlocked c r = false) :
    ∃ u, exec (.regulationAdmit (.carriage c) false false) s = .next u ∧ s.Charged u 16
      ∧ (r.kind = .read → s.lookup r.line = none → s.AtHome r → u.Queued r)
      ∧ (r.kind = .write → u.mem.accept = s.mem.accept ++ [r] ∧ (u.car c).st = (s.car c).st) := by
  have hcar : (s.chargeLine 16 (s.admission 16)).car c = s.car c := by
    obtain ⟨g, hc, -, -⟩ := s.chargeLine_changes 16 (s.admission 16)
    rw [hc]
    rfl
  have hgo := s.carAdmit_wants c false i p r hwants hreq
  rw [hbl, s.classAdmit_served s 4 r _ hslice ha ht] at hgo
  have hcc := (State.ClassCharged.chargeLine s).setCar c
    (((s.chargeLine 16 (s.admission 16)).car c).setPiece i (p.admitted r))
  refine ⟨_, hgo, hcc.charged hw hb s r, fun hk hl hh => hcc.queued s hk hl hh, fun hk => ⟨hcc.accept s hk, ?_⟩⟩
  obtain ⟨rs, hu⟩ := State.lookupReq_write _ r hk
  rw [State.settle_car, hu, hcar]
  have hst := State.car_setCar_same (s.chargeLine 16 (s.admission 16)) c ((s.car c).setPiece i (p.admitted r))
  exact (congrArg Carriage.st hst :)

/-- The next read of a seal's hold copies (R388, R389). -/
theorem State.regulationAdmit_hold (i : Fin 4) (r : Req) (hreq : (s.holdFill i).holdRequest i = some r)
    (hslice : (s.holdFill i).sliceWaits r.line = false) (ha : (s.holdFill i).admission 16 ≠ .no)
    (ht : (s.holdFill i).classTurn 1 = true)
    (hbl : (s.holdFill i).copyBlocked r.line ((s.holdFill i).seal i).tb = false) :
    ∃ u, exec (.regulationAdmit (.hold i) false false) s = .next u ∧ u.regul.inCycle = s.regul.inCycle + 1
      ∧ (u.reg (aREG_M_ADM 16)).toNat = min ((s.reg (aREG_M_ADM 16)).toNat + 1) (2 ^ 64 - 1)
      ∧ (s.lookup r.line = none → s.AtHome r → u.Queued r) := by
  obtain ⟨cs, hfill⟩ := s.holdFill_eq i
  have hgo := s.holdAdmit_wants i false r hreq
  rw [hbl, State.classAdmit_served _ s 1 r _ hslice ha ht] at hgo
  have hcc := (State.ClassCharged.chargeLine (s.holdFill i)).setSeal i
    ((((s.holdFill i).chargeLine 16 ((s.holdFill i).admission 16)).seal i).asked r.line)
  obtain ⟨hreg, hcyc, -⟩ := hcc.charged (by rw [hfill]; exact hw) (by rw [hfill]; exact hb) s r
  refine ⟨_, hgo, hcyc.trans (by rw [hfill]; rfl), hreg.trans (by rw [hfill]; rfl), fun hl hh =>
    hcc.queued s (State.holdRequest_kind _ i r hreq) ?_ ?_⟩
  · exact (State.lookup_congr (by rw [hfill]; rfl) (by rw [hfill]; rfl) _).trans hl
  · exact State.atHome_congr (State.place_congr (fun _ _ => by rw [hfill]; rfl) (by rw [hfill]; rfl) (by rw [hfill]; rfl) _)
      (by rw [hfill]; rfl) hh

/-- The next write of a seal's staging (R387, R389). -/
theorem State.regulationAdmit_stage (i : Fin 4) (g : Staged) (r : Req)
    (hg : (s.seal i).staged.find? (fun g => !g.toWrite.isEmpty) = some g) (hreq : s.stageRequest i = some r)
    (hslice : s.sliceWaits r.line = false) (ha : s.admission 16 ≠ .no)
    (ht : s.classTurn (if g.hold then 1 else 4) = true) (hbl : s.blocked r = false) :
    ∃ u, exec (.regulationAdmit (.stage i) false false) s = .next u ∧ s.Charged u 16
      ∧ (r.kind = .write → u.mem.accept = s.mem.accept ++ [r]) := by
  have hgo := s.stageAdmit_wants i g r hg hreq
  rw [hbl, s.classAdmit_served s _ r _ hslice ha ht] at hgo
  have hcc := (State.ClassCharged.chargeLine s).setSeal i
    (((s.chargeLine 16 (s.admission 16)).seal i).sentOff g r.line)
  exact ⟨_, hgo, hcc.charged hw hb s r, hcc.accept s⟩

/-- A line of the zero-fill (R186). -/
theorem State.regulationAdmit_zeroFill (r : Req) (hreq : s.zeroRequest = some r) (hslice : s.sliceWaits r.line = false)
    (ha : s.admission 16 ≠ .no) (ht : s.classTurn 3 = true) (hbl : s.blocked r = false) :
    ∃ u, exec (.regulationAdmit .zeroFill false false) s = .next u ∧ s.Charged u 16
      ∧ u.mem.accept = s.mem.accept ++ [r] ∧ u.filling = fillsSent s.filling r.line := by
  have hgo := s.zeroAdmit_wants false r hreq
  rw [hbl, s.classAdmit_served s 3 r _ hslice ha ht] at hgo
  have hcc := (State.ClassCharged.chargeLine s).records (s.chargeLine 16 (s.admission 16)).cars
    (s.chargeLine 16 (s.admission 16)).seals (fillsSent (s.chargeLine 16 (s.admission 16)).filling r.line)
  have hk := s.zeroRequest_kind r hreq
  refine ⟨_, hgo, hcc.charged hw hb s r, hcc.accept s hk, ?_⟩
  obtain ⟨g, hc, -, -⟩ := s.chargeLine_changes 16 (s.admission 16)
  obtain ⟨rs, hu⟩ := State.lookupReq_write { s.chargeLine 16 (s.admission 16) with
    filling := fillsSent (s.chargeLine 16 (s.admission 16)).filling r.line } r hk
  obtain ⟨rs', d, hset⟩ := State.settle_changes (State.lookupReq { s.chargeLine 16 (s.admission 16) with
    filling := fillsSent (s.chargeLine 16 (s.admission 16)).filling r.line } r false) s
  rw [hset, hu, hc]

/-- A line of a stand-in's fill; FILLED counts in units of 1 MiB (R479). -/
theorem State.regulationAdmit_standinFill (n : Fin 2) (hd : s.snapDue = false) (hwants : s.siFillWants n = true)
    (ha : s.admission 16 ≠ .no) (ht : s.classTurn 2 = true) :
    ∃ u, exec (.regulationAdmit (.standinFill n) false false) s = .next u ∧ s.Charged u 16
      ∧ u.fld (aXR_SI_STATUS n) 12 12 = (s.siSent n + 1) / 16384 ∧ u.mem = s.mem ∧ u.dram = s.dram := by
  obtain ⟨g, hc, -, -⟩ := s.chargeLine_changes 16 (s.admission 16)
  have hsent : s.siSent n < 2 ^ 25 := by
    simp only [State.siFillWants, Bool.and_eq_true, decide_eq_true_eq] at hwants
    exact hwants.2
  have hlinks : (s.chargeLine 16 (s.admission 16)).siSent n = s.siSent n := by rw [hc]; rfl
  have hgo := s.fillAdmit_wants n hwants
  rw [s.plainAdmit_served 2 _ ha ht, finish_quiet _ _ (by rw [hc]; exact hd), State.fillCounted, hlinks] at hgo
  refine ⟨_, hgo, State.charged_of_regulPart (by decide) hw hb ?_, ?_, by rw [hc]; rfl, by rw [hc]; rfl⟩
  · rw [State.regulPart_setFld _ _ _ _ _ (.inr (by simp only [aXR_SI_STATUS]; omega))]
    exact State.regulPart_congr rfl rfl
  · rw [State.fld_setFld_same _ _ _ _ _ (by rw [hc]; exact s.bump_regsWf _ _ _ _ hw) (by decide)]
    exact Nat.mod_eq_of_lt (by omega)

/-- A read or a write of a row repair's copy (R432). -/
theorem State.regulationAdmit_rowRepair (q : Repair) (hd : s.snapDue = false) (hq : s.integ.repairing = some q)
    (hm : q.moved < 64) (ha : s.admission 16 ≠ .no) (ht : s.classTurn 4 = true) :
    ∃ u, exec (.regulationAdmit .rowRepair false false) s = .next u ∧ s.Charged u 16
      ∧ u.integ.repairing = some { q with moved := q.moved + 1 } ∧ u.mem = s.mem := by
  obtain ⟨g, hc, -, -⟩ := s.chargeLine_changes 16 (s.admission 16)
  have hgo := s.repairAdmit_wants q hq hm
  rw [s.plainAdmit_served 4 _ ha ht, finish_quiet _ _ (by rw [hc]; exact hd)] at hgo
  exact ⟨_, hgo, State.charged_of_regulPart (by decide) hw hb (State.regulPart_congr rfl rfl), rfl, by rw [hc]⟩

end

/-- Without an admission for the class, its work without lines in the path waits. -/
theorem State.regulationAdmit_plain_waits (who : Requester) (ha : s.admission 16 = .no)
    (hwho : who = .rowRepair ∨ who = .standinFill 0 ∨ who = .standinFill 1) :
    exec (.regulationAdmit who false false) s = .next s := by
  have hfill : ∀ n, s.fillAdmit n = .next s := fun n => by
    rw [State.fillAdmit, s.plainAdmit_no _ _ ha, ite_self]
  rcases hwho with rfl | rfl | rfl
  · show s.repairAdmit = .next s
    rw [State.repairAdmit]
    split
    · rfl
    · rw [s.plainAdmit_no _ _ ha, ite_self]
  · exact hfill 0
  · exact hfill 1

end Sys2Proof.Machine

namespace Sys2Proof.Machine

variable (s : State)

/-! Pool grants (R229, R273) -/

/-- The state in which a request of the miss queue reaches its controller: out of the queue, its master held for this
cycle. -/
def State.entryTaken (s : State) (i : Nat) (r : Req) : State :=
  { s with mem := { s.mem with missQ := s.mem.missQ.eraseIdx i },
           regul := { s.regul with resume := sparsePut (fun _ => 0) s.regul.resume r.src.master (s.cyc + 1) } }

theorem State.poolEntryGrant_taken (i : Nat) (r : Req) (c : Fin 32) (cell : Nat) (hi : s.mem.missQ[i]? = some r)
    (hp : s.place r.line = some (c.val, cell)) (hf : s.poolFree c r.src.master = true) (hm : s.mergeAhead r = false)
    (he : (s.mem.missQ.take i).any (fun q => q.line == r.line && q.src == r.src) = false) :
    exec (.poolEntryGrant i) s = finish s ((s.entryTaken i r).toPool r) := by
  have hc : s.placeChan r.line = c := by rw [State.placeChan, hp]
  show execPoolEntryGrant i s = _
  rw [execPoolEntryGrant, hi]
  simp only [hc, c.isLt, dif_pos, Fin.eta, hf, he, hm, and_self, if_true]
  rfl

/-- A waiting miss takes its pool entry, and its master waits for the next cycle. -/
theorem State.poolEntryGrant_home (i : Nat) (r : Req) (c : Fin 32) (cell : Nat) (hd : s.snapDue = false)
    (hi : s.mem.missQ[i]? = some r) (hp : s.place r.line = some (c.val, cell)) (himp : s.impossible c = false)
    (hf : s.poolFree c r.src.master = true) (hm : s.mergeAhead r = false)
    (he : (s.mem.missQ.take i).any (fun q => q.line == r.line && q.src == r.src) = false)
    (hw : sparseWf (fun _ => 0) s.regul.resume = true) :
    ∃ u, exec (.poolEntryGrant i) s = .next u ∧ u.mem = { s.mem with missQ := s.mem.missQ.eraseIdx i }
      ∧ (∃ e ∈ (u.chan c).pool, e.req = r) ∧ u.poolBlocked r.src.master = true ∧ (∀ d, d ≠ c → u.chan d = s.chan d)
      ∧ u.dram = s.dram := by
  have hplace : (s.entryTaken i r).place r.line = some (c.val, cell) :=
    (State.place_congr (fun _ _ => rfl) rfl rfl _).trans hp
  obtain ⟨rs, p, hpart, hcase⟩ := (s.entryTaken i r).toPool_cases r
  rcases hcase with ⟨hno, -⟩ | ⟨c', cell', e, hp', he', ht⟩
  · exact absurd ⟨c, cell, hplace, himp⟩ hno
  obtain rfl : c = c' := Fin.ext (Prod.mk.inj (Option.some.inj (hplace.symm.trans hp'))).1
  have hgo := s.poolEntryGrant_taken i r c cell hi hp hf hm he
  rw [ht, finish_quiet _ _ (by exact hd)] at hgo
  refine ⟨_, hgo, rfl, ⟨e, by simp, he'⟩, ?_, fun d hne => State.chan_setChan_ne _ _ _ _ hne, rfl⟩
  have hres : sparseGet (fun _ => 0) (sparsePut (fun _ => 0) s.regul.resume r.src.master (s.cyc + 1)) r.src.master = s.cyc + 1 :=
    sparseGet_put_same _ _ _ _ hw
  rw [State.poolBlocked, Bool.or_eq_true, decide_eq_true_eq]
  exact .inr (hres.symm ▸ Nat.lt_succ_self s.cyc)

/-! Acceptance (R30, R31, R191, R239, R386) -/

theorem State.writeAccept_blocked (i : Nat) (r : Req) (hi : s.mem.accept[i]? = some r) (hb : s.acceptBlocked i r = true) :
    exec (.writeAccept i false) s = .next s := by
  show execWriteAccept i s false = _
  simp only [execWriteAccept, hi, hb, if_true]

/-- The state in which an admitted write meets the seals and its line: out of the queue of acceptance. -/
def State.acceptTaken (s : State) (i : Nat) : State := { s with mem := { s.mem with accept := s.mem.accept.eraseIdx i } }

theorem State.writeAccept_taken (i : Nat) (r : Req) (hi : s.mem.accept[i]? = some r) (hb : s.acceptBlocked i r = false)
    (hslice : s.sliceWaits r.line = false) :
    exec (.writeAccept i false) s = match s.sealHolds r with
      | some j => finish s (((s.acceptTaken i).setSeal j
          { s.seal j with heldWrites := (s.seal j).heldWrites ++ [r] }).holdFill j)
      | none => finish s ((s.acceptTaken i).acceptWrite r) := by
  show execWriteAccept i s false = _
  simp only [execWriteAccept, hi, hb, hslice, Bool.false_eq_true, if_false, false_and]
  rfl

/-- An ACTIVE seal whose granule is not saved holds the write before acceptance (R386). -/
theorem State.writeAccept_held (i : Nat) (r : Req) (j : Fin 4) (hd : s.snapDue = false) (hi : s.mem.accept[i]? = some r)
    (hb : s.acceptBlocked i r = false) (hslice : s.sliceWaits r.line = false) (hj : s.sealHolds r = some j) :
    ∃ u, exec (.writeAccept i false) s = .next u ∧ (u.seal j).heldWrites = (s.seal j).heldWrites ++ [r]
      ∧ u.cache = s.cache ∧ u.outputs = s.outputs ∧ u.mem = { s.mem with accept := s.mem.accept.eraseIdx i }
      ∧ u.dram = s.dram := by
  have hgo := s.writeAccept_taken i r hi hb hslice
  rw [hj] at hgo
  obtain ⟨cs, hfill⟩ := ((s.acceptTaken i).setSeal j
    { s.seal j with heldWrites := (s.seal j).heldWrites ++ [r] }).holdFill_eq j
  dsimp only at hgo
  rw [hfill, finish_quiet _ _ (by exact hd)] at hgo
  exact ⟨_, hgo, by simp, rfl, rfl, rfl, rfl⟩

/-- A head whose link is up has its Cmp when the write is complete (R191). -/
theorem State.respondWrite_up (r : Req) (k : Fin 16) (hs : r.src = .head k) (hu : r.uio = false) (hup : (s.head k).up = true) :
    s.respondWrite r = (s.bump (aHD_WR_CNT k) 0 64 1).emit (.memCmp k r.tag (s.head k).load) := by
  simp only [State.respondWrite, hs, hu, State.head_bump, hup, if_true, Bool.false_eq_true, if_false]

theorem State.lookup_eq_some {s : State} {line : Nat} {l : CacheLine} :
    s.lookup line = some l ↔ s.sliceServes line = true ∧ s.cached line = some l := by
  rw [State.lookup]
  split <;> simp_all

/-- A full line clears the entries of its line; another write leaves the tables (R423). -/
theorem State.ueClearIf_changes (r : Req) :
    ∃ g, (if fullMask r.mask = true then s.ueClear r.line else s) = { s with integ := g } := by
  split <;> exact ⟨_, rfl⟩

/-- A write of a cached line: the line is merged, dirty, and the most recently used (R239). -/
theorem State.cacheWrite_cached (line : Nat) (v : LineVal) (m : BitVec 64) (l : CacheLine) (hl : s.cached line = some l) :
    ∃ ls, s.cacheWrite line v m = { s with cache := { l with val := mergeLine l.val v m, dirty := true } :: ls } := by
  have hline : l.line = line := by
    have h := List.find?_some hl
    simpa using h
  have hmap : State.cached { s with cache := s.cache.map (fun (x : CacheLine) =>
      if x.line = line then { x with val := mergeLine x.val v m, dirty := true } else x) } line
      = some { l with val := mergeLine l.val v m, dirty := true } := by
    have hkey : ((fun x : CacheLine => x.line == line) ∘ fun x : CacheLine =>
        if x.line = line then { x with val := mergeLine x.val v m, dirty := true } else x) = fun x => x.line == line := by
      funext x
      by_cases h : x.line = line <;> simp [h]
    rw [State.cached, List.find?_map, hkey]
    exact (congrArg _ hl).trans (by simp [hline])
  rw [State.cacheWrite, State.touch, hmap]
  exact ⟨_, rfl⟩

/-- A write that no seal holds and whose line is complete in the state `t`: its head's Cmp goes out (R191). -/
theorem State.writeAccept_answered (i : Nat) (r : Req) (k : Fin 16) (t : State) (hi : s.mem.accept[i]? = some r)
    (hb : s.acceptBlocked i r = false) (hslice : s.sliceWaits r.line = false) (hs : r.src = .head k) (hu : r.uio = false)
    (hup : (s.head k).up = true) (hj : s.sealHolds r = none) (ht : (s.acceptTaken i).acceptWrite r = t.respondWrite r)
    (hh : t.head k = s.head k) (hd : t.snapDue = false) :
    exec (.writeAccept i false) s = .next ((t.bump (aHD_WR_CNT k) 0 64 1).emit (.memCmp k r.tag (s.head k).load)) := by
  have hgo := s.writeAccept_taken i r hi hb hslice
  rw [hj] at hgo
  rw [hgo, ht, t.respondWrite_up r k hs hu (hh ▸ hup), hh]
  exact finish_quiet _ _ hd

/-- A write of a cached line is accepted into it (R31, R239). -/
theorem State.writeAccept_cached (i : Nat) (r : Req) (k : Fin 16) (l : CacheLine) (hd : s.snapDue = false)
    (hi : s.mem.accept[i]? = some r) (hb : s.acceptBlocked i r = false) (hslice : s.sliceWaits r.line = false)
    (hs : r.src = .head k) (hu : r.uio = false) (hup : (s.head k).up = true) (hj : s.sealHolds r = none)
    (hl : s.lookup r.line = some l) :
    ∃ u, exec (.writeAccept i false) s = .next u
      ∧ u.lookup r.line = some { l with val := mergeLine l.val r.val r.mask, dirty := true }
      ∧ u.mem = { s.mem with accept := s.mem.accept.eraseIdx i } ∧ u.dram = s.dram
      ∧ u.outputs = s.outputs ++ [.memCmp k r.tag (s.head k).load] := by
  obtain ⟨hserves, hcached⟩ := State.lookup_eq_some.mp hl
  obtain ⟨g, hue⟩ := (s.acceptTaken i).ueClearIf_changes r
  obtain ⟨ls, hcw⟩ := State.cacheWrite_cached { s.acceptTaken i with integ := g } r.line r.val r.mask l hcached
  have hacc : (s.acceptTaken i).acceptWrite r
      = State.respondWrite { s.acceptTaken i with
          integ := g, cache := { l with val := mergeLine l.val r.val r.mask, dirty := true } :: ls } r := by
    have hl' : State.lookup { s.acceptTaken i with integ := g } r.line = some l := (State.lookup_congr rfl rfl _).trans hl
    rw [State.acceptWrite, hue]
    simp only [hl']
    exact congrArg (State.respondWrite · r) hcw
  refine ⟨_, s.writeAccept_answered i r k _ hi hb hslice hs hu hup hj hacc rfl hd, ?_, rfl, rfl, rfl⟩
  have hline : l.line = r.line := by simpa using List.find?_some hcached
  refine State.lookup_eq_some.mpr ⟨hserves, ?_⟩
  show List.find? (fun x : CacheLine => x.line == r.line)
    ({ l with val := mergeLine l.val r.val r.mask, dirty := true } :: ls) = _
  exact List.find?_cons_of_pos (by simp [hline])

/-! Accepted writes that the cache does not hold (R30, R31, R239) -/

/-- An entry numbered after all others stands in the journal alone under its number. -/
theorem State.tryInstall_new (e : JEntry) (js : List JEntry) (hjs : s.mem.journal = js ++ [e]) (hnew : ∀ f ∈ js, f.seq < e.seq)
    (hc : s.cached e.line = none) (hon : (s.sliceDom e.line).st = .on) (hmov : (s.sliceDom e.line).moving = none)
    (hways : (s.cache.filter (fun x => lineSlice x.line == lineSlice e.line && lineSet x.line == lineSet e.line)).length < 16) :
    s.tryInstall e.seq = { s with
      cache := { line := e.line, val := e.val, dirty := true, owner := (e.src.map Src.master).getD 16 } :: s.cache
      mem := { s.mem with journal := js } } := by
  have hfind : s.jEntry e.seq = some e := by
    have hnone : js.find? (fun f => f.seq == e.seq) = none := by
      simp only [List.find?_eq_none, beq_iff_eq]
      exact fun f hf => (hnew f hf).ne
    rw [State.jEntry, hjs, List.find?_append, hnone]
    simp
  have hdrop : (js ++ [e]).filter (fun f => !([e.seq].contains f.seq)) = js := by
    rw [List.filter_append, List.filter_eq_self.mpr]
    · simp
    · intro f hf
      simpa using (hnew f hf).ne
  have hinst : ∀ n : CacheLine, n.line = e.line → s.install n = .done { s with cache := n :: s.cache } := by
    intro n hn
    rw [State.install, hn, if_neg (by simp [hon, hmov]), if_pos hways]
  rw [State.tryInstall, hfind]
  simp only [hc, Option.isSome_none, Bool.false_eq_true, if_false]
  rw [hinst _ rfl]
  simp only [State.dropEntries, hjs, hdrop]

/-- The journal entry that holds an accepted write for its install (R31, R241). -/
def State.installEntry (s : State) (r : Req) : JEntry where
  seq := s.mem.nextSeq
  slot := some (s.journalSlot.getD s.nextSlot)
  line := r.line
  val := r.val
  mask := r.mask
  src := some r.src
  stamp := r.stamp
  place := .install

/-- A full line of a head at home, whose set has a way to spare, is installed dirty and leaves no entry behind. -/
theorem State.hostWrite_installed (r : Req) (k : Fin 16) (hs : r.src = .head k) (hh : s.AtHome r)
    (hnew : ∀ f ∈ s.mem.journal, f.seq < s.mem.nextSeq) (hc : s.cached r.line = none) (hon : (s.sliceDom r.line).st = .on)
    (hmov : (s.sliceDom r.line).moving = none)
    (hways : (s.cache.filter (fun x => lineSlice x.line == lineSlice r.line && lineSet x.line == lineSet r.line)).length < 16) :
    ∃ m, s.hostWrite r = { s with
        cache := { line := r.line, val := r.val, dirty := true, owner := k } :: s.cache, mem := m }
      ∧ m.accept = s.mem.accept ∧ m.journal = s.mem.journal := by
  obtain ⟨c, cell, hp, himp⟩ := hh
  rw [State.hostWrite, hp]
  simp only [himp, Bool.false_eq_true, if_false]
  have hown : ((s.installEntry r).src.map Src.master).getD 16 = k := by simp [State.installEntry, hs, Src.master]
  have hgo := State.tryInstall_new (s.journalAdd r.line r.val r.mask (some r.src) r.stamp .install) (s.installEntry r)
    s.mem.journal rfl hnew hc hon hmov hways
  rw [hown] at hgo
  exact ⟨_, hgo, rfl, rfl⟩

/-- A full line that the cache does not hold is installed dirty, and its head has its Cmp (R30, R31, R191). -/
theorem State.writeAccept_installed (i : Nat) (r : Req) (k : Fin 16) (hd : s.snapDue = false) (hi : s.mem.accept[i]? = some r)
    (hb : s.acceptBlocked i r = false) (hslice : s.sliceWaits r.line = false) (hs : r.src = .head k) (hu : r.uio = false)
    (hup : (s.head k).up = true) (hj : s.sealHolds r = none) (hc : s.cached r.line = none) (hm : fullMask r.mask = true)
    (hh : s.AtHome r) (hnew : ∀ e ∈ s.mem.journal, e.seq < s.mem.nextSeq) (hon : (s.sliceDom r.line).st = .on)
    (hmov : (s.sliceDom r.line).moving = none)
    (hways : (s.cache.filter (fun x => lineSlice x.line == lineSlice r.line && lineSet x.line == lineSet r.line)).length < 16) :
    ∃ u, exec (.writeAccept i false) s = .next u
      ∧ u.cache = { line := r.line, val := r.val, dirty := true, owner := k } :: s.cache
      ∧ u.mem.accept = s.mem.accept.eraseIdx i ∧ u.mem.journal = s.mem.journal ∧ u.dram = s.dram
      ∧ u.outputs = s.outputs ++ [.memCmp k r.tag (s.head k).load] := by
  obtain ⟨g, hue⟩ := (s.acceptTaken i).ueClearIf_changes r
  have hh' : State.AtHome { s.acceptTaken i with integ := g } r :=
    State.atHome_congr (State.place_congr (fun _ _ => rfl) rfl rfl _) rfl hh
  obtain ⟨m, hw, hma, hmj⟩ := State.hostWrite_installed { s.acceptTaken i with integ := g } r k hs hh' hnew hc hon hmov hways
  have hacc : (s.acceptTaken i).acceptWrite r = State.respondWrite { s.acceptTaken i with
      integ := g, cache := { line := r.line, val := r.val, dirty := true, owner := k } :: s.cache, mem := m } r := by
    have hl : State.lookup { s.acceptTaken i with integ := g } r.line = none := by
      rw [State.lookup]
      split
      · exact hc
      · rfl
    rw [State.acceptWrite, hue]
    simp only [hl, hs, hm, if_true]
    exact congrArg (State.respondWrite · r) hw
  exact ⟨_, s.writeAccept_answered i r k _ hi hb hslice hs hu hup hj hacc rfl hd, rfl, hma, hmj, rfl, rfl⟩

end Sys2Proof.Machine

namespace Sys2Proof.Machine

/-- Settles O27: every clause is the lemma about its admission, its grant or its acceptance. -/
theorem admissionAndAcceptance : Obligations.AdmissionAndAcceptance := by
  intro s hd hw hb
  refine ⟨?head, ?quick, ?carriage, ?hold, ?stage, ?standin, ?zero, ?repair, ?waits, ?grant, ?blocked, ?accept⟩
  case head => exact fun k r _ hq ha hp hu => s.regulationAdmit_head k r hw hb hq ha hp hu
  case quick => exact fun k r hs hq hk => s.regulationAdmit_quick k r hd hs hq hk
  case carriage => exact s.regulationAdmit_carriage hw hb
  case hold =>
    rintro i r _ rfl hreq hslice ha ht hbl
    exact s.regulationAdmit_hold hw hb i r hreq hslice ha ht hbl
  case stage => exact s.regulationAdmit_stage hw hb
  case standin => exact fun n => s.regulationAdmit_standinFill hw hb n hd
  case zero => exact s.regulationAdmit_zeroFill hw hb
  case repair => exact fun q => s.regulationAdmit_rowRepair hw hb q hd
  case waits => exact s.regulationAdmit_plain_waits
  case grant => exact fun i r c cell hi hp himp hf hm he hr => s.poolEntryGrant_home i r c cell hd hi hp himp hf hm he hr
  case blocked => exact s.writeAccept_blocked
  case accept =>
    intro i r hi hbl hslice
    exact ⟨fun k l => s.writeAccept_cached i r k l hd hi hbl hslice,
      fun k => s.writeAccept_installed i r k hd hi hbl hslice, fun j => s.writeAccept_held i r j hd hi hbl hslice⟩

end Sys2Proof.Machine

namespace Sys2Proof.Machine

open Sys2Proof.Claims

/-! Reset, and the grid of halts -/

/-- Settles O8: the state right after power-up is a literal, so each part is read off it. -/
theorem resetState : Obligations.ResetState :=
  ⟨rfl, rfl, rfl, rfl, rfl, by decide, by decide, rfl, rfl, rfl, rfl⟩

/-- The grid value at or below `x` is less than a period behind it and keeps the offset's phase (R251). -/
theorem gridAtOrBelow_some {phase o x v : Nat} (h : gridAtOrBelow phase o x = some v) :
    v ≤ x ∧ x < v + 4000 ∧ v % 4000 = (phase + o) % 4000 := by
  unfold gridAtOrBelow at h
  dsimp only at h
  split at h
  · cases h
  · cases h
    omega

theorem State.gridDue_mem (s : State) (v : Nat) (h : s.gridDue = some v) :
    ∃ o ∈ s.gridOffsets, gridAtOrBelow s.halt.phase o s.now = some v := by
  unfold State.gridDue at h
  dsimp only at h
  split at h
  · cases h
  · rename_i w rest hvs
    have hv : v = rest.foldl max w := by
      split at h
      · split at h
        · exact (Option.some.inj h).symm
        · cases h
      · exact (Option.some.inj h).symm
    have hm := List.max?_mem (List.max?_cons' (x := w) (xs := rest))
    rw [← hv, ← hvs, List.mem_filterMap] at hm
    obtain ⟨o, ho, hg⟩ := hm
    refine ⟨o, ho, ?_⟩
    split at hg
    · split at hg
      · rename_i he _
        rwa [← Option.some.inj hg]
      · cases hg
    · cases hg

/-- A HALT record leaves the schedule and the time unit alone. -/
@[simp] theorem State.haltRecord_halt (s : State) (src p q : Nat) (d e : Bool) (cause : Nat) :
    (s.haltRecord src p q d e cause).halt = s.halt := (FaultFrame.toAll s _ _).halt
@[simp] theorem State.haltRecord_tu (s : State) (src p q : Nat) (d e : Bool) (cause : Nat) :
    (s.haltRecord src p q d e cause).tu = s.tu := (FaultFrame.toAll s _ _).tu

/-- A placement leaves the time unit alone. -/
@[simp] theorem State.setPlacement_tu (s : State) (phase : Nat) (dbl thermal : Bool) (cause : Nat) :
    (s.setPlacement phase dbl thermal cause).tu = s.tu := by
  unfold State.setPlacement
  dsimp only
  split
  · rfl
  · rw [State.haltRecord_tu]

/-- Settles O34: a due value comes from an offset of the grid, and a placement is one of two branches. -/
theorem haltTimetable : Obligations.HaltTimetable := by
  refine ⟨fun s v h => ?_, ?_⟩
  · obtain ⟨o, ho, hg⟩ := s.gridDue_mem v h
    obtain ⟨hle, hlt, hmod⟩ := gridAtOrBelow_some hg
    exact ⟨hle, hlt, o, ho, hmod⟩
  · rintro s phase dbl thermal cause _ rfl
    unfold State.setPlacement
    dsimp only
    by_cases h : s.halt.phase = phase ∧ s.halt.inDouble = (dbl || thermal)
    · simp [h]
    · simp [h]

end Sys2Proof.Machine

namespace Sys2Proof.Machine

open Sys2Proof.Claims

/-! Which registers a reaction to a fault event can write -/

/-- An event as the collector notes it, before any reaction: the latch, the count, and the snapshot of a source that turns
severe (R590, R595, R599). -/
def State.noted (s : State) (e : FaultEvent) : State :=
  let c := (s.latchFirst e).countEvent e.src
  if c.2.2 && !c.2.1 && c.1.flag aSNAP_CTRL 3 then c.1.snapTrigger 3 0 e.src else c.1

/-- The event's source is severe as it is noted (R591). -/
def State.notedSevere (s : State) (e : FaultEvent) : Bool := ((s.latchFirst e).countEvent e.src).2.2

/-- The reaction of class `cls` to a noted event, with the events that it causes (R592, R596). -/
def State.react (s : State) (e : FaultEvent) (cls : Nat) : State × List FaultEvent :=
  let s := if 1 ≤ cls then s.notifyFault e.src else s
  let s := match e.master with
    | some m => if cls = 3 then s.fenceUnit e.src e.noFreeze m
      else if 2 ≤ cls ∧ e.noFreeze = false then s.freezeMaster e.src m else s
    | none => s
  if cls = 4 then (s.aliveStop 1, []) else if cls = 5 then (s.aliveStop 2).beginShutdown e.src e.idx else (s, [])

/-- An event is noted, the watchdog's stops ALIVE, and its class reacts (R589 to R597). -/
theorem State.raiseOne_eq (s : State) (e : FaultEvent) (h : (faultClass e.src).isNone = false) (t : State)
    (ht : t = if e.src = 3 then (s.noted e).aliveStop 3 else s.noted e) :
    s.raiseOne e = t.react e (actingClass (t.sourceClass e.src) (s.notedSevere e) e.master.isSome) := by
  subst ht
  exact if_neg (by simp [h])

/-- The branches of a choice keep a relation together. -/
theorem rel_ite {P : State → State → Prop} {c : Prop} [Decidable c] {s t u : State} (ht : P s t) (hu : P s u) :
    P s (if c then t else u) := by
  split
  · exact ht
  · exact hu

/-- The registers of the snapshot trigger and of the collector, the configuration of the sources apart. -/
abbrev CollectorReg (a : Nat) : Prop := 0xE0100 ≤ a ∧ (a < 0xE1400 ∨ a % 8 = 4 ∨ 0xF0000 ≤ a)

/-- A source that reacts has a register of its own. -/
theorem faultClass_lt (n : Nat) (h : (faultClass n).isNone = false) : n < 128 := by
  by_contra hn
  have hnone : faultClass n = none := by
    unfold faultClass
    simp (disch := omega) only [if_neg]
  simp [hnone] at h

/-- A relation between states that the count and the snapshot of a fault event keep: it composes, sees registers alone,
and allows each write of the snapshot trigger and the collector (R589 to R602). -/
structure CollectorClosed (P : State → State → Prop) : Prop where
  trans : ∀ {s t u}, P s t → P t u → P s u
  rest : ∀ {s u : State}, u.regs = s.regs → P s u
  collect : ∀ (s : State) (a : Nat) (v : Word), CollectorReg a → P s (s.setReg a v)

namespace CollectorClosed

variable {P : State → State → Prop} (hP : CollectorClosed P)
include hP

theorem refl (s : State) : P s s := hP.rest rfl

/-- A fold keeps the relation if each of its steps does. -/
theorem foldl {α : Type} (f : State → α → State) (l : List α) (s : State) (hf : ∀ s a, P s (f s a)) :
    P s (l.foldl f s) := by
  induction l generalizing s with
  | nil => exact hP.refl s
  | cons a l ih => exact hP.trans (hf s a) (ih (f s a))

/-- So does a fold over a state and a list of events. -/
theorem foldl_fst {α β : Type} {s u : State} (f : State × List β → α → State × List β) (l : List α) (h : P s u)
    (hf : ∀ p a, P p.1 (f p a).1) : P s (l.foldl f (u, [])).1 := by
  have key : ∀ p : State × List β, P s p.1 → P s (l.foldl f p).1 := by
    induction l with
    | nil => exact fun _ hp => hp
    | cons a l ih => exact fun p hp => ih (f p a) (hP.trans hp (hf p a))
  exact key (u, []) h

theorem snapTrigger (s : State) (b comp severe : Nat) : P s (s.snapTrigger b comp severe) := by
  have hset : ∀ (s : State) lo n x, P s (s.setFld aSNAP_STATUS lo n x) := fun s lo n x => hP.collect s _ _ (by decide)
  unfold State.snapTrigger
  dsimp only
  split
  · split
    · exact hP.trans (hP.trans (hset s _ _ _) (rel_ite (hset _ _ _ _) (hP.refl _))) (rel_ite (hset _ _ _ _) (hP.refl _))
    · exact hset s _ _ _
  · exact hP.trans (hP.collect s aSNAP_STATUS _ (by decide))
      (hP.trans (hP.collect _ aSNAP_RT _ (by decide)) (hP.rest rfl))

theorem notifyFault (s : State) (src : Nat) (h : src < 128) : P s (s.notifyFault src) :=
  hP.trans (hP.collect s _ _ (by simp only [aFC_ALERT]; omega)) (hP.rest rfl)

theorem latchFirst (s : State) (e : FaultEvent) : P s (s.latchFirst e) := by
  have hlatch : ∀ (s : State) (a b c : Word) (n : Nat), P s
      { ((s.setReg aFC_FIRST a).setReg aFC_FIRST_RT b).setReg aFC_FIRST_DETAIL c with fcFirstCycle := n } := fun s a b c n =>
    hP.trans (hP.collect s _ a (by decide)) (hP.trans (hP.collect _ _ b (by decide))
      (hP.trans (hP.collect _ aFC_FIRST_DETAIL c (by decide)) (hP.rest rfl)))
  unfold State.latchFirst
  exact rel_ite (rel_ite (hlatch s _ _ _ _) (hP.collect s aFC_FIRST _ (by decide))) (hlatch s _ _ _ _)

theorem countEvent (s : State) (src : Nat) : P s (s.countEvent src).1 := by
  have hst : ∀ (s : State) v, P s (s.setReg (aFC_SRC_STAT src) v) := fun s v =>
    hP.collect s _ v (by simp only [aFC_SRC_STAT]; omega)
  unfold State.countEvent
  dsimp only
  split
  · exact hP.trans (hst s _) (hst _ _)
  · have hwindow : ∀ (s : State) w, P s { s with fcWindow := w } := fun _ _ => hP.rest rfl
    refine hP.trans ?_ (rel_ite (hst _ _) (hP.refl _))
    exact hP.trans (hP.trans (hst s _) (rel_ite (hwindow _ _) (hP.refl _))) (hst _ _)

/-- An event counted and latched takes its snapshot (R590, R595, R599). -/
theorem noted (s : State) (e : FaultEvent) : P s (s.noted e) :=
  hP.trans (hP.trans (hP.latchFirst s e) (hP.countEvent _ _)) (rel_ite (hP.snapTrigger _ _ _ _) (hP.refl _))

/-- The copies of a snapshot stand above every register of Table 16.2 (R602). -/
theorem settle (b s : State) : P s (State.settle b s) := by
  have hfold : ∀ (l : List (Nat × Nat)) (t : State), (∀ p ∈ l, 0xF0000 ≤ p.1) →
      P t (l.foldl (fun s p => s.setReg p.1 (b.copyOf p)) t) := by
    intro l
    induction l with
    | nil => exact fun t _ => hP.refl t
    | cons p l ih =>
      exact fun t h => hP.trans (hP.collect t _ _ (by have := h p List.mem_cons_self; simp only [CollectorReg]; omega))
        (ih _ fun q hq => h q (List.mem_cons_of_mem _ hq))
  unfold State.settle State.takeSnapshot
  have hdue : P s { s with snapDue := false } := hP.rest rfl
  exact rel_ite (hP.trans hdue (hfold snapTable _ (by decide +kernel))) (hP.refl s)

end CollectorClosed

/-- The other registers that reactions to fault events write, ALIVE apart: comparators, the latches of frozen threads and
the shutdown (R385, R512). -/
def ReactionReg (a : Nat) : Prop :=
  (0x41000 ≤ a ∧ a < 0x41800) ∨ (0x80100 ≤ a ∧ a < 0x80900) ∨ (0xC0000 ≤ a ∧ a < 0xC0040)

/-- A relation between states that every reaction to a fault event keeps. -/
structure ReactionClosed (P : State → State → Prop) : Prop extends CollectorClosed P where
  write : ∀ (s : State) (a : Nat) (v : Word), ReactionReg a → P s (s.setReg a v)
  aliveStop : ∀ (s : State) (cause : Nat), P s (s.aliveStop cause)

namespace ReactionClosed

variable {P : State → State → Prop} (hP : ReactionClosed P)
include hP

theorem setThread (s : State) (t : Fin 8) (x : Thread) : P s (s.setThread t x) := hP.rest rfl
theorem setCar (s : State) (c : Fin 32) (x : Carriage) : P s (s.setCar c x) := hP.rest rfl
theorem setSeal (s : State) (i : Fin 4) (x : Seal) : P s (s.setSeal i x) := hP.rest rfl
theorem setOuting (s : State) (i : Fin 8) (x : Outing) : P s (s.setOuting i x) := hP.rest rfl
theorem setHead (s : State) (k : Fin 16) (x : Head) : P s (s.setHead k x) := hP.rest rfl
theorem setMem (s : State) (m : MemPath) : P s { s with mem := m } := hP.rest rfl
theorem setTherm (s : State) (x : Thermal) : P s { s with therm := x } := hP.rest rfl
theorem setPstore (s : State) (m : List Host.Cell) : P s { s with pstore := m } := hP.rest rfl

/-! Records, threads and comparators -/

theorem toFm (s : State) (log : EventLog) (r : Record) : P s (s.toFm log r) := rel_ite (hP.rest rfl) (hP.rest rfl)

theorem toHeads (s : State) (ks : List (Fin 16)) (log : EventLog) (r : Record) : P s (s.toHeads ks log r) :=
  hP.foldl _ ks s fun _ _ => hP.rest rfl

theorem toHeadAndFm (s : State) (k : Fin 16) (log : EventLog) (r : Record) : P s (s.toHeadAndFm k log r) :=
  hP.trans (hP.setHead s k _) (hP.toFm _ log r)

theorem toAll (s : State) (log : EventLog) (r : Record) : P s (s.toAll log r) :=
  hP.trans (hP.toHeads s _ log r) (hP.toFm _ log r)

theorem tcDisarm (s : State) (n : Fin 64) : P s (s.tcDisarm n) :=
  hP.write s _ _ (.inl (by simp only [aTC_CTRL]; omega))

theorem tcRelease (s : State) (n : Fin 64) : P s ((s.tcDisarm n).setReg (aTC_OWNER n) 0) :=
  hP.trans (hP.tcDisarm s n) (hP.write _ _ _ (.inl (by simp only [aTC_OWNER]; omega)))

theorem tcFree (s : State) (n : Fin 64) : P s (s.tcFree n) :=
  hP.trans (hP.trans (hP.tcDisarm s n) (hP.write _ _ _ (.inl (by simp only [aTC_STATUS]; omega))))
    (hP.write _ _ _ (.inl (by simp only [aTC_OWNER]; omega)))

theorem haltThread (s : State) (t : Fin 8) : P s (s.haltThread t) := by
  have hdrop : ∀ w, (s.dropRequest w).regs = s.regs := fun w => by unfold State.dropRequest; split <;> rfl
  unfold State.haltThread
  dsimp only
  split
  · split <;> exact hP.rest rfl
  · exact hP.rest (hdrop _)
  · exact hP.refl s

theorem haltAll (s : State) : P s s.haltAll := hP.foldl _ _ s hP.haltThread

/-! Carriages, seals and outings -/

theorem carEvent (s : State) (c : Fin 32) : P s (s.carEvent c) := by
  refine hP.rest ?_
  unfold State.carEvent
  dsimp only
  split <;> rfl

theorem writeProgress (s : State) (c : Fin 32) (desc entry done : Nat) (acc : Word) :
    P s (s.writeProgress c desc entry done acc) := by
  unfold State.writeProgress
  dsimp only
  exact hP.trans (hP.setCar s c _) (hP.setPstore _ _)

theorem carStopBy (s : State) (c : Fin 32) (code src : Nat) : P s (s.carStopBy c code src) := by
  have hcomp : P s (match (s.car c).comp with
      | some n => if code = 5 ∨ code = 6 then (s.tcDisarm n).setReg (aTC_OWNER n) 0 else s.tcFree n
      | none => s) := by
    split
    · exact rel_ite (hP.tcRelease s _) (hP.tcFree s _)
    · exact hP.refl s
  unfold State.carStopBy
  exact hP.trans (hP.trans (hP.trans hcomp (hP.setCar _ c _)) (rel_ite (hP.writeProgress _ _ _ _ _ _)
    (rel_ite (hP.refl _) (hP.writeProgress _ _ _ _ _ _))))
    (hP.trans (hP.carEvent _ c) (rel_ite (hP.refl _) (hP.toFm _ _ _)))

theorem carStop (s : State) (c : Fin 32) (code : Nat) : P s (s.carStop c code) := hP.carStopBy s c code _

theorem carStopAtLine (s : State) (c : Fin 32) (code src : Nat) : P s (s.carStopAtLine c code src) := by
  unfold State.carStopAtLine
  dsimp only
  split
  · exact hP.carStopBy s c code src
  · exact rel_ite (hP.rest rfl) (hP.carStopBy s c code src)
  · exact hP.refl s

theorem carUnreserve (s : State) (c : Fin 32) : P s (s.carUnreserve c) :=
  rel_ite (hP.trans (hP.setCar s c _) (hP.carEvent _ c)) (hP.refl s)

theorem sealFail (s : State) (i : Fin 4) (reason : Nat) : P s (s.sealFail i reason).1 := by
  unfold State.sealFail State.sealRecord
  dsimp only
  have hfold := hP.foldl (fun s c => s.carUnreserve c) (s.seal i).carriages s hP.carUnreserve
  generalize (s.seal i).carriages.foldl (fun s c => s.carUnreserve c) s = a at hfold ⊢
  exact hP.trans (hP.trans (hP.trans hfold (hP.setMem _ _)) (hP.setSeal _ i _)) (hP.trans (hP.toHeads _ _ _ _) (hP.toFm _ _ _))

theorem carPost (s : State) (c : Fin 32) : P s (s.carPost c) := by
  refine hP.rest ?_
  unfold State.carPost
  dsimp only
  split
  · rfl
  · simp only [apply_ite State.regs, State.setOuting_regs, State.setCar_regs, State.emit_regs, ite_self]

theorem outingAbsent (s : State) (i : Fin 8) (reason bound : Nat) (post : Bool) :
    P s (s.outingAbsent i reason bound post).1 := by
  unfold State.outingAbsent
  exact hP.trans (hP.setOuting s i _) (rel_ite (hP.trans (hP.setCar _ _ _) (hP.carPost _ _)) (hP.carUnreserve _ _))

/-! Shutdown, freezes and the collector -/

theorem thermalRecord (s : State) (src layer stage frac : Nat) : P s (s.thermalRecord src layer stage frac) :=
  hP.toAll s _ _

theorem beginShutdown (s : State) (src layer : Nat) : P s (s.beginShutdown src layer).1 := by
  have hth : ∀ (s : State) a v, 0xC0000 ≤ a → a < 0xC0040 → P s (s.setReg a v) := fun s a v h1 h2 =>
    hP.write s a v (.inr (.inr ⟨h1, h2⟩))
  have hflush : ∀ (s : State) (l : List Nat), P s { s with mem := { s.mem with flush := l } } := fun _ _ => hP.rest rfl
  unfold State.beginShutdown
  split
  · exact hP.refl s
  · dsimp only
    have h0 := hP.trans (hth s aTH_STATUS (putBits (s.reg aTH_STATUS) 4 2 1) (by decide) (by decide))
      (hth _ aTH_SHUT (packBits [(0, 16, src), (16, 5, if (src == 90) = true then layer else 0x1F)]) (by decide) (by decide))
    rw [← State.setFld_eq] at h0
    generalize (s.setFld aTH_STATUS 4 2 1).setReg aTH_SHUT
        (packBits [(0, 16, src), (16, 5, if (src == 90) = true then layer else 0x1F)]) = a at h0 ⊢
    have hmark := hP.trans h0 (rel_ite (c := (src == 90) = true) (hP.trans (hth a aTH_STATUS _ (by decide) (by decide))
      (hP.thermalRecord (a.setFlag aTH_STATUS 6 true) src layer 4 0)) (hP.refl a))
    generalize (if (src == 90) = true then _ else a : State) = b at hmark ⊢
    refine hP.trans ?_ (hflush _ _)
    refine hP.foldl_fst _ _ ?_ ?_
    · refine hP.foldl_fst _ _ ?_ ?_
      · refine hP.trans ?_ (hP.foldl _ _ _ fun s c => hP.carStopAtLine s c 1 0xFFFF)
        exact hP.trans (hP.trans hmark (hP.setTherm _ _)) (hP.haltAll _)
      · intro p i
        split
        · exact hP.trans (hP.sealFail p.1 i 3) (hP.tcDisarm _ _)
        · exact hP.refl _
    · intro p i
      split
      · exact hP.trans (hP.outingAbsent p.1 i 3 0 false) (hP.tcDisarm _ _)
      · exact hP.refl _

theorem headFreeze (s : State) (k : Fin 16) (reason addr stamp windowMs until_ : Nat) :
    P s (s.headFreeze k reason addr stamp windowMs until_) :=
  hP.trans (hP.setHead s k _) (hP.toHeadAndFm _ _ _ _)

theorem freezeMaster (s : State) (src : Nat) (m : Master) : P s (s.freezeMaster src m) := by
  unfold State.freezeMaster
  split
  · split
    · exact hP.headFreeze s _ _ _ _ _ _
    · exact hP.refl s
  · rename_i t reason word addr bus
    have htt : ∀ (s : State) a v, 0x80100 ≤ a → a < 0x80900 → P s (s.setReg a v) := fun s a v h1 h2 =>
      hP.write s a v (.inr (.inl ⟨h1, h2⟩))
    exact hP.trans (hP.trans (hP.trans (hP.trans (hP.setThread s t _)
      (htt _ (aTT_FAULT t) _ (by simp only [aTT_FAULT]; omega) (by simp only [aTT_FAULT]; omega)))
      (htt _ (aTT_FAULT_INSN t) _ (by simp only [aTT_FAULT_INSN]; omega) (by simp only [aTT_FAULT_INSN]; omega)))
      (htt _ (aTT_FAULT_ADDR t) _ (by simp only [aTT_FAULT_ADDR]; omega) (by simp only [aTT_FAULT_ADDR]; omega)))
      (hP.toFm _ _ _)
  · exact hP.trans (hP.carStop s _ 4) (hP.toFm _ _ _)

theorem fenceUnit (s : State) (src : Nat) (noFreeze : Bool) (m : Master) : P s (s.fenceUnit src noFreeze m) := by
  unfold State.fenceUnit
  split
  · split
    · exact hP.refl s
    · exact hP.headFreeze s _ _ _ _ _ _
  · exact hP.trans (rel_ite (hP.refl s) (hP.freezeMaster s src _)) (hP.haltAll _)
  · exact hP.trans (hP.freezeMaster s src _) (hP.foldl _ _ _ fun s d => hP.carStopAtLine s d 10 src)

theorem react (s : State) (e : FaultEvent) (cls : Nat) (he : e.src < 128) : P s (s.react e cls).1 := by
  have hnotify := rel_ite (c := 1 ≤ cls) (hP.notifyFault s e.src he) (hP.refl s)
  unfold State.react
  generalize (if 1 ≤ cls then s.notifyFault e.src else s) = x at hnotify ⊢
  dsimp only
  refine hP.trans hnotify ?_
  have hmaster : P x (match e.master with
      | some m => if cls = 3 then x.fenceUnit e.src e.noFreeze m
        else if 2 ≤ cls ∧ e.noFreeze = false then x.freezeMaster e.src m else x
      | none => x) := by
    split
    · exact rel_ite (hP.fenceUnit _ _ _ _) (rel_ite (hP.freezeMaster _ _ _) (hP.refl _))
    · exact hP.refl _
  refine hP.trans hmaster ?_
  rw [apply_ite Prod.fst, apply_ite Prod.fst]
  exact rel_ite (hP.aliveStop _ _) (rel_ite (hP.trans (hP.aliveStop _ _) (hP.beginShutdown _ _ _)) (hP.refl _))

theorem raiseOne (s : State) (e : FaultEvent) : P s (s.raiseOne e).1 := by
  cases h : (faultClass e.src).isNone with
  | true => rw [State.raiseOne, if_pos h]; exact hP.refl s
  | false =>
    rw [s.raiseOne_eq e h _ rfl]
    exact hP.trans (hP.trans (hP.noted s e) (rel_ite (hP.aliveStop _ 3) (hP.refl _))) (hP.react _ _ _ (faultClass_lt _ h))

theorem raiseAll (s : State) (n : Nat) (es : List FaultEvent) : P s (s.raiseAll n es) := by
  induction n generalizing s es with
  | zero => exact hP.refl s
  | succ n ih =>
    cases es with
    | nil => exact hP.refl s
    | cons e es => exact hP.trans (hP.raiseOne s e) (ih _ _)

theorem raiseList (s : State) (es : List FaultEvent) : P s (s.raiseList es) := hP.raiseAll s _ es

theorem raise (s : State) (src idx val : Nat) : P s (s.raise src idx val) := hP.raiseList s _

end ReactionClosed

end Sys2Proof.Machine

namespace Sys2Proof.Machine

open Sys2Proof.Claims

/-! The registers that the signals of the time unit count and show in -/

/-- The registers that frames and marks alone write (R52, R53, R57, R58). -/
def signalRegs : List Nat := [aTU_DOMAIN, aTU_CNT_A, aTU_CNT_B]

/-- The registers of the signals read as before. -/
def State.KeepsSignals (s u : State) : Prop := ∀ a ∈ signalRegs, u.reg a = s.reg a

theorem State.keepsSignals_setReg (s : State) (a : Nat) (v : Word) (h : a ∉ signalRegs) : s.KeepsSignals (s.setReg a v) :=
  fun b hb => s.reg_setReg_ne a b v fun e => h (e ▸ hb)

/-- No reaction to a fault event writes them. -/
theorem State.keepsSignals_closed : ReactionClosed State.KeepsSignals where
  trans h k a ha := (k a ha).trans (h a ha)
  rest h a _ := State.reg_congr h a
  collect s a v h := s.keepsSignals_setReg a v fun hm => by
    simp only [signalRegs, aTU_DOMAIN, aTU_CNT_A, aTU_CNT_B, List.mem_cons, List.not_mem_nil, or_false] at hm
    simp only [CollectorReg] at h
    omega
  write s a v h := s.keepsSignals_setReg a v fun hm => by
    simp only [signalRegs, aTU_DOMAIN, aTU_CNT_A, aTU_CNT_B, List.mem_cons, List.not_mem_nil, or_false] at hm
    simp only [ReactionReg] at h
    omega
  aliveStop s cause := by
    unfold State.aliveStop
    split
    · exact fun _ _ => rfl
    · intro a ha
      have h1 : a ≠ aALIVE_STATUS := fun e => absurd (e ▸ ha) (by decide)
      have h2 : a ≠ aALIVE_STOP_RT := fun e => absurd (e ▸ ha) (by decide)
      rw [State.reg_setReg_ne _ _ _ _ h2, State.reg_setFld_ne _ _ _ _ _ _ h1, State.reg_setFlag_ne _ _ _ _ _ h1]

/-- A field of these registers reads as before. -/
theorem State.KeepsSignals.fld {s u : State} (h : s.KeepsSignals u) {a : Nat} (ha : a ∈ signalRegs) (lo n : Nat) :
    u.fld a lo n = s.fld a lo n := congrArg (getBits · lo n) (h a ha)

theorem State.KeepsSignals.trans {s t u : State} (h : s.KeepsSignals t) (k : t.KeepsSignals u) : s.KeepsSignals u :=
  State.keepsSignals_closed.trans h k

/-- A change of state that writes no register. -/
theorem State.KeepsSignals.of_regs {s u : State} (h : u.regs = s.regs) : s.KeepsSignals u := State.keepsSignals_closed.rest h

/-! Trust: what a time event changes -/

theorem State.faultFrame_timeEvent (s : State) (b : Nat) : FaultFrame s (s.timeEvent b) := by
  unfold State.timeEvent
  exact (((FaultFrame.setFlag s _ _ _).trans (FaultFrame.ite (FaultFrame.notify _ _) (FaultFrame.refl _))).trans
    (FaultFrame.toAll _ _ _)).trans (FaultFrame.raise _ _ _ _)

theorem State.keepsSignals_timeEvent (s : State) (b : Nat) : s.KeepsSignals (s.timeEvent b) := by
  have hP := State.keepsSignals_closed
  have hnotify : ∀ (s : State), s.KeepsSignals (s.notify 13) := fun s => .of_regs rfl
  unfold State.timeEvent
  exact (((s.keepsSignals_setReg aTU_EVENT _ (by decide)).trans (rel_ite (hnotify _) (hP.refl _))).trans
    (hP.toAll _ _ _)).trans (hP.raise _ _ _ _)

/-- The time unit after its trust state is computed again (R63). -/
def TimeUnit.judged (u : TimeUnit) (t : Trust) : TimeUnit :=
  { u with trust := t, lockedMarks := if t = .locked then u.lockedMarks else 0 }

theorem State.timeChange_eq (s : State) (bits : List Nat) : ∃ events : List Nat,
    s.timeChange bits = events.foldl State.timeEvent { s with tu := s.tu.judged s.trustNow } := by
  by_cases h : s.trustNow = .locked
  · exact ⟨_, by simp only [State.timeChange, TimeUnit.judged, if_pos h]; rfl⟩
  · exact ⟨_, by simp only [State.timeChange, TimeUnit.judged, if_neg h]; rfl⟩

theorem State.faultFrame_timeChange (s : State) (bits : List Nat) :
    FaultFrame { s with tu := s.tu.judged s.trustNow } (s.timeChange bits) := by
  obtain ⟨events, h⟩ := s.timeChange_eq bits
  rw [h]
  exact FaultFrame.foldl _ _ _ State.faultFrame_timeEvent

/-- A time change moves the trust state of the time unit and nothing else of it (R63). -/
@[simp] theorem State.timeChange_tu (s : State) (bits : List Nat) : (s.timeChange bits).tu = s.tu.judged s.trustNow :=
  (s.faultFrame_timeChange bits).tu

@[simp] theorem State.retrust_tu (s : State) : s.retrust.tu = s.tu.judged s.trustNow := s.timeChange_tu []

theorem State.keepsSignals_timeChange (s : State) (bits : List Nat) : s.KeepsSignals (s.timeChange bits) := by
  obtain ⟨events, h⟩ := s.timeChange_eq bits
  rw [h]
  exact State.KeepsSignals.trans (.of_regs rfl) (State.keepsSignals_closed.foldl _ _ _ State.keepsSignals_timeEvent)

theorem State.keepsSignals_retrust (s : State) : s.KeepsSignals s.retrust := s.keepsSignals_timeChange []

/-! Losses (R67) -/

theorem State.keepsSignals_loseSource (s : State) : s.KeepsSignals s.loseSource := by
  unfold State.loseSource
  exact rel_ite s.keepsSignals_retrust (State.KeepsSignals.trans (.of_regs rfl) (State.keepsSignals_timeChange _ _))

theorem State.keepsSignals_loseTline (s : State) : s.KeepsSignals s.loseTline := by
  unfold State.loseTline
  exact State.KeepsSignals.trans (.of_regs rfl)
    (rel_ite (State.keepsSignals_loseSource _) (State.keepsSignals_retrust { s with tu := s.tu.dropTline }))


/-! Corrections and the step hold (Table 2.4, R59, R69) -/

/-- The time unit without what trust and corrections move. -/
def TimeUnit.signals (u : TimeUnit) : TimeUnit :=
  { u with trust := .untrusted, lockedMarks := 0, corr := .none, corrLeft := 0, pendingCorr := none, stepPending := false,
           ok := false, resid := 0, lost := false, stepHold := false, disciplined := false, lastMeasured := 0, prevMeasured := 0 }

@[simp] theorem TimeUnit.signals_judged (u : TimeUnit) (t : Trust) : (u.judged t).signals = u.signals := rfl

@[simp] theorem State.signals_timeChange (s : State) (bits : List Nat) : (s.timeChange bits).tu.signals = s.tu.signals := by
  rw [State.timeChange_tu, TimeUnit.signals_judged]

@[simp] theorem State.signals_retrust (s : State) : s.retrust.tu.signals = s.tu.signals := s.signals_timeChange []

theorem State.signals_startCorr (s : State) (k : CorrKind) (e : Int) : (s.startCorr k e).tu.signals = s.tu.signals := by
  unfold State.startCorr
  cases k <;> exact State.signals_timeChange _ _

theorem State.keepsSignals_startCorr (s : State) (k : CorrKind) (e : Int) : s.KeepsSignals (s.startCorr k e) := by
  unfold State.startCorr
  cases k <;> exact State.KeepsSignals.trans (.of_regs rfl) (State.keepsSignals_timeChange _ _)

/-- What a disarmed comparator's seal, outing or WAITT comes to (R368, R385, R398). -/
theorem State.stepDisarmed_cases (s : State) (n : Fin 64) : ∃ u : State, u = (s.tcDisarm n).setFlag (aTC_STATUS n) 3 true ∧
    ((s.stepDisarmed n).1 = u ∨ (∃ c, (s.stepDisarmed n).1 = u.carStop c 6)
      ∨ (∃ i, (s.stepDisarmed n).1 = (u.outingAbsent i 2 u.boundNow true).1)
      ∨ ∃ i, (s.stepDisarmed n).1 = (u.sealFail i 2).1) := by
  refine ⟨_, rfl, ?_⟩
  unfold State.stepDisarmed
  dsimp only
  split
  · split
    · split
      · exact .inr (.inl ⟨_, rfl⟩)
      · exact .inl rfl
    · exact .inl rfl
  · split
    · exact .inr (.inr (.inl ⟨_, rfl⟩))
    · exact .inl rfl
  · split
    · exact .inr (.inr (.inr ⟨_, rfl⟩))
    · exact .inl rfl
  · exact .inl rfl

theorem State.faultFrame_stepDisarmed (s : State) (n : Fin 64) : FaultFrame s (s.stepDisarmed n).1 := by
  obtain ⟨u, hu, h⟩ := s.stepDisarmed_cases n
  have hflag : FaultFrame s u := hu ▸ (FaultFrame.tcDisarm s n).trans (FaultFrame.setFlag _ _ _ _)
  rcases h with h | ⟨c, h⟩ | ⟨i, h⟩ | ⟨i, h⟩ <;> rw [h]
  · exact hflag
  · exact hflag.trans (FaultFrame.carStop _ _ _)
  · exact hflag.trans (FaultFrame.outingAbsent _ _ _ _ _)
  · exact hflag.trans (FaultFrame.sealFail _ _ _)

theorem State.keepsSignals_stepDisarmed (s : State) (n : Fin 64) : s.KeepsSignals (s.stepDisarmed n).1 := by
  have hP := State.keepsSignals_closed
  obtain ⟨u, hu, h⟩ := s.stepDisarmed_cases n
  have hflag : s.KeepsSignals u :=
    hu ▸ hP.trans (hP.tcDisarm s n) (hP.write _ (aTC_STATUS n) _ (.inl (by simp only [aTC_STATUS]; omega)))
  rcases h with h | ⟨c, h⟩ | ⟨i, h⟩ | ⟨i, h⟩ <;> rw [h]
  · exact hflag
  · exact hflag.trans (hP.carStop _ _ _)
  · exact hflag.trans (hP.outingAbsent _ _ _ _ _)
  · exact hflag.trans (hP.sealFail _ _ _)

/-- The step hold as entered, before the comparators of R69 are disarmed. -/
def TimeUnit.hold (u : TimeUnit) : TimeUnit :=
  { u with corr := .none, corrLeft := 0, ok := !u.lost, resid := 0, stepHold := true, disciplined := false, lockedMarks := 0,
           stepPending := false, pendingCorr := none }

/-- Comparators disarmed one after another, with the events that this causes. -/
def State.disarmAll (s : State) (ns : List (Fin 64)) : State × List FaultEvent :=
  ns.foldl (fun p n => ((p.1.stepDisarmed n).1, p.2 ++ (p.1.stepDisarmed n).2)) (s, [])

theorem State.faultFrame_disarmAll (s : State) (ns : List (Fin 64)) : FaultFrame s (s.disarmAll ns).1 :=
  FaultFrame.foldl_pair _ ns s (FaultFrame.refl s) fun p n => p.1.faultFrame_stepDisarmed n

theorem State.keepsSignals_disarmAll (s : State) (ns : List (Fin 64)) : s.KeepsSignals (s.disarmAll ns).1 :=
  State.keepsSignals_closed.foldl_fst _ ns (.of_regs rfl) fun p n => p.1.keepsSignals_stepDisarmed n

/-- Entering the step hold writes TU_DISARMED, disarms comparators, and ends with fault and time events. -/
theorem State.enterHold_eq (s : State) : ∃ (v : Word) (ns : List (Fin 64)) (es : List FaultEvent),
    s.enterHold = (State.raiseList (State.disarmAll (State.setReg { s with tu := s.tu.hold } aTU_DISARMED v) ns).1
      es).timeChange [4] := ⟨_, _, _, rfl⟩

theorem State.signals_enterHold (s : State) : s.enterHold.tu.signals = s.tu.signals := by
  obtain ⟨v, ns, es, h⟩ := s.enterHold_eq
  rw [h, State.signals_timeChange, (FaultFrame.raiseList _ _).tu, (State.faultFrame_disarmAll _ _).tu]
  rfl

theorem State.keepsSignals_enterHold (s : State) : s.KeepsSignals s.enterHold := by
  obtain ⟨v, ns, es, h⟩ := s.enterHold_eq
  rw [h]
  have hstart : s.KeepsSignals (State.setReg { s with tu := s.tu.hold } aTU_DISARMED v) :=
    State.keepsSignals_setReg { s with tu := s.tu.hold } _ v (by decide)
  exact ((hstart.trans (State.keepsSignals_disarmAll _ _)).trans (State.keepsSignals_closed.raiseList _ _)).trans
    (State.keepsSignals_timeChange _ _)

theorem State.signals_confirm (s : State) : s.confirm.tu.signals = s.tu.signals := by
  unfold State.confirm
  split
  · rfl
  · split
    · rfl
    · exact s.signals_enterHold
    · exact s.signals_startCorr _ _

theorem State.keepsSignals_confirm (s : State) : s.KeepsSignals s.confirm := by
  unfold State.confirm
  split
  · exact .of_regs rfl
  · split
    · exact .of_regs rfl
    · exact s.keepsSignals_enterHold
    · exact s.keepsSignals_startCorr _ _

/-! Measurement (R55, R60) -/

/-- The time unit when an error has been measured, before any correction is chosen. -/
def TimeUnit.measured (u : TimeUnit) (e : Int) (now : Nat) : TimeUnit :=
  { u with lastErr := e, prevMeasured := u.lastMeasured, lastMeasured := now, lost := false, pendingCorr := none }

/-- Under step hold a measurement records its error and corrects nothing (R69). -/
theorem State.measure_hold (s : State) (e : Int) (h : s.tu.stepHold = true) :
    s.measure e = { s with tu := s.tu.measured e s.now } := by
  unfold State.measure
  exact if_pos h

/-- A measurement records its error and, of the rest of the time unit, moves only corrections and trust. -/
theorem State.measure_signals (s : State) (e : Int) : (s.measure e).tu.signals = { s.tu.signals with lastErr := e } := by
  unfold State.measure
  dsimp only
  split
  · rfl
  · split
    · split
      · exact State.signals_retrust _
      · exact State.signals_retrust _
    · split
      · exact State.signals_retrust _
      · split
        · exact State.signals_startCorr _ _ _
        · exact State.signals_retrust _

end Sys2Proof.Machine

namespace Sys2Proof.Machine

open Sys2Proof.Claims

/-! What the applying of pending values leaves of the time unit -/

section
variable (s : State)

@[simp] theorem State.raise_tu (src idx val : Nat) : (s.raise src idx val).tu = s.tu := (FaultFrame.raise s _ _ _).tu
@[simp] theorem State.raiseList_tu (es : List FaultEvent) : (s.raiseList es).tu = s.tu := (FaultFrame.raiseList s es).tu

/-- A fold leaves the time unit alone if each of its steps does. -/
theorem State.foldl_tu {α : Type} (f : State → α → State) (l : List α) (s : State) (hf : ∀ s a, (f s a).tu = s.tu) :
    (l.foldl f s).tu = s.tu := by
  induction l generalizing s with
  | nil => rfl
  | cons a l ih => exact (ih (f s a)).trans (hf s a)

@[simp] theorem State.applyHaltCtrl_tu (v : Word) : (s.applyHaltCtrl v).tu = s.tu := by
  simp [State.applyHaltCtrl, apply_ite State.tu]

@[simp] theorem State.applyEq_tu (a : Nat) (v : Word) : (s.applyEq a v).tu = s.tu := by
  unfold State.applyEq
  dsimp only
  rw [apply_ite State.tu, State.raise_tu, State.setFlag_tu, ite_self, apply_ite State.tu, State.setFlag_tu, ite_self,
    apply_ite State.tu, State.setFlag_tu, ite_self, State.setReg_tu]

/-- FC_SRC_CFG as it applies is a write of that register, or nothing for a reserved number (R594). The source's number is
hidden behind a variable: the kernel would count the subtraction down from its literal. -/
theorem State.applySrcCfg_cases (a : Nat) (v : Word) : s.applySrcCfg a v = s ∨ ∃ w, s.applySrcCfg a v = s.setReg a w := by
  obtain ⟨n, hn⟩ : ∃ n, (a - 0xE1400) / 8 = n := ⟨_, rfl⟩
  have h : @State.applySrcCfg = @State.applySrcCfg := rfl
  conv at h => rhs; delta State.applySrcCfg
  rw [h]
  beta_reduce
  rw [hn]
  dsimp only
  split
  · exact .inl rfl
  · exact .inr ⟨_, rfl⟩

@[simp] theorem State.applySrcCfg_tu (a : Nat) (v : Word) : (s.applySrcCfg a v).tu = s.tu := by
  rcases s.applySrcCfg_cases a v with h | ⟨w, h⟩ <;> rw [h]
  exact s.setReg_tu a w

@[simp] theorem State.applyArray_tu (v : Word) : (s.applyArray v).tu = s.tu := by
  simp [State.applyArray, apply_ite State.tu]

@[simp] theorem State.rangedField_tu (a lo n x low high : Nat) : (s.rangedField a lo n x low high).1.tu = s.tu := by
  unfold State.rangedField
  split <;> rfl

@[simp] theorem State.applyScrub_tu (v : Word) : (s.applyScrub v).tu = s.tu := by
  simp [State.applyScrub, State.intBadCfg, apply_ite State.tu]

@[simp] theorem State.applyHard_tu (v : Word) : (s.applyHard v).tu = s.tu := by
  simp [State.applyHard, State.intBadCfg, apply_ite State.tu]

@[simp] theorem State.applyLaneCtrl_tu (v : Word) : (s.applyLaneCtrl v).tu = s.tu := by
  simp [State.applyLaneCtrl, apply_ite State.tu]

@[simp] theorem State.commitRegulation_tu (floor : Nat) : (s.commitRegulation floor).tu = s.tu := by
  unfold State.commitRegulation
  split
  · rfl
  · split
    · simp
    · exact State.foldl_tu _ _ s fun _ _ => rfl

@[simp] theorem State.strobeMarks_tu (g : Nat) (held : Bool) : (s.strobeMarks g held).tu = s.tu := by
  simp [State.strobeMarks, apply_ite State.tu]

/-! Halts, pins, carriages and threads -/

@[simp] theorem State.countHeld_tu (c : Fin 32) (src : Src) : (s.countHeld c src).tu = s.tu := by
  obtain ⟨rs, h⟩ := s.countHeld_changes c src
  rw [h]

@[simp] theorem State.holdReads_tu (c : Fin 32) : (s.holdReads c).tu = s.tu := by
  unfold State.holdReads
  dsimp only
  exact State.foldl_tu _ _ s fun s e => s.countHeld_tu c e.req.src

@[simp] theorem State.openHalt_tu : s.openHalt.tu = s.tu := by
  unfold State.openHalt
  split
  · rfl
  · refine (State.foldl_tu _ _ _ fun s c => ?_).trans rfl
    simp [apply_ite State.tu]

@[simp] theorem State.haltDue_tu : s.haltDue.tu = s.tu := by
  simp [State.haltDue, apply_ite State.tu]

@[simp] theorem State.stepHalt_tu : s.stepHalt.tu = s.tu := by
  unfold State.stepHalt
  split <;> simp

@[simp] theorem State.auxPulse_tu (pin : Nat) : (s.auxPulse pin).tu = s.tu := by
  simp [State.auxPulse, apply_ite State.tu]

@[simp] theorem State.wake_tu (n src : Nat) : (s.wake n src).tu = s.tu := by
  obtain ⟨p, h⟩ := s.wake_changes n src
  rw [h]

@[simp] theorem State.releaseCar_tu (c : Fin 32) : (s.releaseCar c).tu = s.tu := by
  simp [State.releaseCar, apply_ite State.tu]

@[simp] theorem State.carEvent_tu (c : Fin 32) : (s.carEvent c).tu = s.tu := (FaultFrame.carEvent s c).tu

@[simp] theorem State.outingLaunch_tu (i : Fin 8) (late : Bool) : (s.outingLaunch i late).tu = s.tu := by
  have hwake : ∀ (s : State) m, (s.wakeThreads m).tu = s.tu := fun s m => State.foldl_tu _ _ s fun s t => by
    simp [apply_ite State.tu, (FaultFrame.setEvents s t _).tu]
  simp [State.outingLaunch, State.carStart, apply_ite State.tu, hwake]

theorem State.setMem_tu (m : MemPath) : State.tu { s with mem := m } = s.tu := rfl

theorem State.setEventsIf_tu (n : Nat) (m : BitVec 16) : (if h : n < 8 then s.setEvents ⟨n, h⟩ m else s).tu = s.tu := by
  split <;> rfl

@[simp] theorem State.sealCheck_tu (i : Fin 4) : (s.sealCheck i).tu = s.tu := by
  unfold State.sealCheck
  dsimp only
  split
  · rfl
  · rw [(FaultFrame.sealRecord _ i _).tu, State.setEventsIf_tu, State.setSeal_tu, State.setMem_tu, (FaultFrame.tcFree _ _).tu]
    refine State.foldl_tu _ _ s fun s c => ?_
    split
    · exact State.carEvent_tu _ c
    · rfl

@[simp] theorem State.sealPulses_tu (i : Nat) : (s.sealPulses i).tu = s.tu :=
  State.foldl_tu _ _ s fun s pin => by simp [apply_ite State.tu]

@[simp] theorem State.sealBoundary_tu (i : Fin 4) (late : Bool) : (s.sealBoundary i late).tu = s.tu := by
  unfold State.sealBoundary
  dsimp only
  split
  · rw [State.sealCheck_tu, State.sealPulses_tu]
    refine (State.foldl_tu _ _ _ fun s p => ?_).trans (s.setSeal_tu i _)
    exact s.setCar_tu _ _
  · rfl

@[simp] theorem State.twaitLeave_tu (now : Nat) (t : Fin 8) : (s.twaitLeave now t).tu = s.tu := by
  unfold State.twaitLeave State.leaveWait State.setGpr
  split
  · simp [apply_ite State.tu]
  · rfl

end

/-! What follows a set of RT leaves RT as it was set -/

/-- The due comparators of the given targets that are still armed fire (R28, R61). -/
def State.fireThose (s : State) (due : List (Fin 64)) (new : Nat) (ts : List Nat) : State :=
  (due.filter (fun (n : Fin 64) => ts.contains (s.tcTarget n.val))).foldl
    (fun s (n : Fin 64) => if s.tcArmed n.val then s.tcFire n (decide ((s.reg (aTC_VALUE n)).toNat < new)) else s) s

/-- The comparators armed for a value of the span (old, new]. -/
def State.dueIn (s : State) (old new : Nat) : List (Fin 64) :=
  (List.finRange 64).filter (fun (n : Fin 64) =>
    s.tcArmed n.val && decide (old < (s.reg (aTC_VALUE n)).toNat) && decide ((s.reg (aTC_VALUE n)).toNat ≤ new))

/-- The order of R28 over a span: snapshots, seals, halts, launches, waits, strobes. -/
theorem State.fireSpan_eq (s : State) (old new : Nat) (halt : State → State) : s.fireSpan old new halt =
    ((List.finRange 8).foldl (fun s t => s.twaitLeave new t)
      ((halt ((s.fireThose (s.dueIn old new) new [4]).fireThose (s.dueIn old new) new [6])).fireThose
        (s.dueIn old new) new [0, 1, 2, 5, 7])).fireThose (s.dueIn old new) new [3] := rfl

/-- What no comparator, strobe, halt or pin does to the time unit: RT, the error measured, the due initial set and the
number of marks stand, and no mark is announced. -/
structure ClockFrame (s u : State) : Prop where
  rt : u.tu.rt = s.tu.rt
  lastErr : u.tu.lastErr = s.tu.lastErr
  needSet : u.tu.needSet = s.tu.needSet
  markSeq : u.tu.markSeq = s.tu.markSeq
  announce : s.tu.announce = none → u.tu.announce = none

namespace ClockFrame

theorem of_tu {s u : State} (h : u.tu = s.tu) : ClockFrame s u := by
  constructor <;> simp [h]

theorem refl (s : State) : ClockFrame s s := of_tu rfl

theorem trans {s t u : State} (h : ClockFrame s t) (k : ClockFrame t u) : ClockFrame s u :=
  ⟨k.rt.trans h.rt, k.lastErr.trans h.lastErr, k.needSet.trans h.needSet, k.markSeq.trans h.markSeq,
    fun hn => k.announce (h.announce hn)⟩

theorem ite {c : Prop} [Decidable c] {s t u : State} (ht : ClockFrame s t) (hu : ClockFrame s u) :
    ClockFrame s (if c then t else u) := by
  split
  · exact ht
  · exact hu

theorem foldl {α : Type} (f : State → α → State) (l : List α) (s : State) (hf : ∀ s a, ClockFrame s (f s a)) :
    ClockFrame s (l.foldl f s) := by
  induction l generalizing s with
  | nil => exact refl s
  | cons a l ih => exact (hf s a).trans (ih (f s a))

/-! Losses of a source -/

theorem loseSource (s : State) : ClockFrame s s.loseSource := by
  unfold State.loseSource
  split
  · exact ⟨by simp [TimeUnit.judged], by simp [TimeUnit.judged], by simp [TimeUnit.judged], by simp [TimeUnit.judged],
      by simp [TimeUnit.judged]⟩
  · constructor <;> simp [TimeUnit.judged, TimeUnit.discard]

theorem loseTline (s : State) : ClockFrame s s.loseTline := by
  have hdrop : ClockFrame s { s with tu := s.tu.dropTline } := ⟨rfl, rfl, rfl, rfl, fun _ => rfl⟩
  unfold State.loseTline
  refine ite (hdrop.trans (loseSource _)) (hdrop.trans ?_)
  constructor <;> simp [TimeUnit.judged]

theorem losePtm (s : State) : ClockFrame s s.losePtm := by
  have hdrop : ClockFrame s
      { s with tu := { s.tu with ptmRunning := false, ptmTracking := false, ptmLastErr := none, ptmFails := 0 } } :=
    ⟨rfl, rfl, rfl, rfl, id⟩
  unfold State.losePtm
  exact ite (hdrop.trans (loseSource _)) hdrop

/-! Strobes -/

theorem applyTuCtrl (s : State) (v : Word) : ClockFrame s (s.applyTuCtrl v) := by
  have hset : ClockFrame s (s.setReg aTU_CTRL v) := of_tu rfl
  unfold State.applyTuCtrl
  have hline := hset.trans (ite (c := 2 ≤ getBits v 0 2 ∧ ((s.setReg aTU_CTRL v).tu.tracking = true
    ∨ (s.setReg aTU_CTRL v).tu.source = .tline)) (loseTline _) (refl _))
  exact hline.trans (ite (losePtm _) (refl _))

theorem applyOne (s : State) (a : Nat) (v : Word) : ClockFrame s (s.applyOne a v) := by
  unfold State.applyOne
  dsimp only
  split
  · exact ite (applyTuCtrl s _) (of_tu (by simp [apply_ite State.tu]))
  all_goals exact of_tu (by simp [apply_ite State.tu])

theorem applyGroup (s : State) (g floor : Nat) : ClockFrame s (s.applyGroup g floor) := by
  have hcfg : ∀ (s : State) (l : List (Nat × Word)), ClockFrame s
      (l.foldl (fun s p => (s.dropPending p.1).setReg p.1 p.2) s) := fun s l => foldl _ l s fun _ _ => of_tu rfl
  have hone : ∀ (s : State) (p : Nat × Word), ClockFrame s ((s.dropPending p.1).applyOne p.1 p.2) := fun s p =>
    (of_tu (s := s) (u := s.dropPending p.1) rfl).trans (applyOne _ _ _)
  unfold State.applyGroup
  dsimp only
  refine (hcfg s _).trans (ite (ite (of_tu ?_) (of_tu ?_)) (foldl _ _ _ hone)) <;> simp

theorem strobe (s : State) (mask : Nat) (late : Bool) : ClockFrame s (s.strobe mask late).1 := by
  have hfold : ∀ (l : List Nat) (f : State × Nat → Nat → State × Nat) (p : State × Nat),
      (∀ p g, ClockFrame p.1 (f p g).1) → ClockFrame p.1 (l.foldl f p).1 := by
    intro l f p hf
    induction l generalizing p with
    | nil => exact refl _
    | cons g l ih => exact (hf p g).trans (ih (f p g))
  have hcycle : ClockFrame s (if s.strobeCycle = s.cyc + 1 then s
      else { s with strobeCycle := s.cyc + 1, strobeDone := 0, strobeHeld := 0 }) := ite (refl s) (of_tu rfl)
  unfold State.strobe
  refine hcycle.trans (hfold _ _ (_, 0) fun p g => ?_)
  dsimp only
  have hlate : ClockFrame p.1 (if late then p.1.setFlag aCTL_UPD_LATE g true else p.1) := ite (of_tu rfl) (refl _)
  generalize (if late then p.1.setFlag aCTL_UPD_LATE g true else p.1) = t at hlate ⊢
  split
  · exact hlate
  · exact (hlate.trans (applyGroup t g _)).trans (of_tu (State.strobeMarks_tu _ g _))

/-! Comparators (R61, R83) -/

theorem tcAct (s : State) (n : Fin 64) (target index : Nat) (late : Bool) : ClockFrame s (s.tcAct n target index late) := by
  unfold State.tcAct
  split
  · split <;> exact of_tu rfl
  · split
    · split
      · exact of_tu (by simp [State.endWaitt, (FaultFrame.tcFree s n).tu])
      · exact of_tu (by simp)
    · exact refl s
  · exact strobe s _ late
  · exact ite (of_tu (FaultFrame.snapTrigger s _ _ _).tu) (refl s)
  · split
    · exact of_tu (by simp)
    · exact refl s
  · split
    · exact of_tu (by simp)
    · exact refl s
  · exact ite (of_tu (by simp)) (refl s)
  · exact refl s

theorem tcAdvance_tu (s : State) (n : Fin 64) : (s.tcAdvance n).tu = s.tu := by
  simp [State.tcAdvance, State.tcDisarm, apply_ite State.tu]

theorem tcRefuse_tu (s : State) (n : Fin 64) (target index : Nat) : (s.tcRefuse n target index).1.tu = s.tu := by
  unfold State.tcRefuse
  split
  · split
    · split
      · exact (FaultFrame.carStop s _ _).tu
      · rfl
    · rfl
  · split
    · split
      · exact (FaultFrame.outingAbsent s _ _ _ _).tu
      · rfl
    · rfl
  · split
    · split
      · exact (FaultFrame.sealFail s _ _).tu
      · rfl
    · rfl
  · rfl

theorem tcFire (s : State) (n : Fin 64) (late : Bool) : ClockFrame s (s.tcFire n late) := by
  unfold State.tcFire
  refine ite (of_tu ?_) ?_
  · simp [tcAdvance_tu, tcRefuse_tu]
  · refine ClockFrame.trans (of_tu ?_) (tcAct _ n _ _ late)
    simp [tcAdvance_tu, apply_ite State.tu]

theorem fireThose (s : State) (due : List (Fin 64)) (new : Nat) (ts : List Nat) : ClockFrame s (s.fireThose due new ts) :=
  foldl _ _ s fun s n => ite (tcFire s n _) (refl s)

theorem fireSpan (s : State) (old new : Nat) : ClockFrame s (s.fireSpan old new State.stepHalt) := by
  have hleave : ∀ s : State, ((List.finRange 8).foldl (fun s t => s.twaitLeave new t) s).tu = s.tu := fun s =>
    State.foldl_tu _ _ s fun s t => s.twaitLeave_tu new t
  rw [State.fireSpan_eq]
  exact (((((fireThose s _ new _).trans (fireThose _ _ new _)).trans (of_tu (State.stepHalt_tu _))).trans
    (fireThose _ _ new _)).trans (of_tu (hleave _))).trans (fireThose _ _ new _)

/-! The beats of ALIVE and of the rack cycle -/

theorem aliveBeat (s : State) : ClockFrame s s.aliveBeat := by
  have hbeat : ClockFrame s { s with tu := { s.tu with aliveCycle := s.now / 512000 } } := ⟨rfl, rfl, rfl, rfl, id⟩
  exact ite (ite hbeat (hbeat.trans (of_tu rfl))) (refl s)

theorem rackBeat (s : State) : ClockFrame s s.rackBeat := by
  have hbeat : ClockFrame s { s with tu := { s.tu with pulseCycle := s.now / 32000 } } := ⟨rfl, rfl, rfl, rfl, id⟩
  exact ite (hbeat.trans (foldl _ _ _ fun s pin => ite (of_tu (s.auxPulse_tu pin)) (refl s))) (refl s)

end ClockFrame

/-! Setting RT (R45, R59, R70) -/

/-- A set of RT ends the correction, the due initial set and the pending step. -/
def TimeUnit.loaded (u : TimeUnit) (rt : BitVec 96) : TimeUnit := { u with rt := rt, needSet := false }

/-- RT as it is loaded with a value in 1/256 ns. -/
def rtOf (target : Nat) : BitVec 96 := BitVec.ofNat 96 (target * 2 ^ 24)

/-- The state in which the events of a set of RT are judged. -/
def State.setRt (s : State) (rt : BitVec 96) : State :=
  let b := s.endCorr
  let w := { b with tu := { b.tu with rt := rt } }
  let r := (w.setReg aTU_STEP_FROM (BitVec.ofNat 64 s.now)).setReg aTU_STEP_TO (BitVec.ofNat 64 w.now)
  { r with tu := { r.tu with setDone := true, needSet := false, stepPending := false, pendingCorr := none,
                             ok := true, lost := false, lastMeasured := w.now, prevMeasured := w.now } }

/-- RT has moved back: the halts and beats that follow it begin from the new value (R71). -/
def State.movedBack (s : State) (old new : Nat) : State :=
  { s with halt := { s.halt with lastGrid := some new, secondFrom := s.halt.secondFrom - (old - new) * 2 ^ 32 },
           tu := { s.tu with aliveCycle := new / 512000, pulseCycle := new / 32000,
                             ptmLastCycle := min s.tu.ptmLastCycle (new / 32000) } }

/-- A set of RT judges trust, moves the scrub pass, and then fires the span or begins from the new value. -/
theorem State.loadRt_eq (s : State) (target : Nat) (set_ : Bool) : ∃ (old new : Nat) (i : Integrity),
    s.loadRt target set_ = if old < new
      then (State.fireSpan { (s.setRt (rtOf target)).timeChange [if set_ then 0 else 1] with integ := i }
        old new State.stepHalt).aliveBeat.rackBeat
      else State.movedBack { (s.setRt (rtOf target)).timeChange [if set_ then 0 else 1] with integ := i } old new :=
  ⟨_, _, _, rfl⟩

theorem State.setRt_clock (s : State) (rt : BitVec 96) : ClockFrame { s with tu := s.tu.loaded rt } (s.setRt rt) := by
  constructor <;> simp [State.setRt, State.endCorr, TimeUnit.loaded]

theorem ClockFrame.timeChange (s : State) (bits : List Nat) : ClockFrame s (s.timeChange bits) := by
  constructor <;> simp [TimeUnit.judged]

theorem ClockFrame.movedBack (s : State) (old new : Nat) : ClockFrame s (s.movedBack old new) := ⟨rfl, rfl, rfl, rfl, id⟩

/-- RT is loaded: it reads the target, and the measured error and the marks stand. The value is hidden behind a variable:
the kernel would compute with it when it compares two time units. -/
theorem State.loadRt_clock (s : State) (target : Nat) (set_ : Bool) :
    ∃ rt, rt = rtOf target ∧ ClockFrame { s with tu := s.tu.loaded rt } (s.loadRt target set_) := by
  refine ⟨_, rfl, ?_⟩
  obtain ⟨old, new, i, h⟩ := s.loadRt_eq target set_
  have hjudged := ((s.setRt_clock (rtOf target)).trans (ClockFrame.timeChange _ [if set_ then 0 else 1])).trans
    (ClockFrame.of_tu (u := { (s.setRt (rtOf target)).timeChange [if set_ then 0 else 1] with integ := i }) rfl)
  rw [h]
  refine hjudged.trans (ClockFrame.ite ?_ ?_)
  · exact ((ClockFrame.fireSpan _ old new).trans (ClockFrame.aliveBeat _)).trans (ClockFrame.rackBeat _)
  · exact ClockFrame.movedBack _ old new

end Sys2Proof.Machine

namespace Sys2Proof.Machine

open Sys2Proof.Claims

/-! The end of a command, for the time unit and the registers of the signals -/

@[simp] theorem State.settle_tu (b s : State) : (State.settle b s).tu = s.tu := by
  obtain ⟨rs, d, h⟩ := s.settle_changes b
  rw [h]

theorem State.settle_quiet (b : State) {s : State} (h : s.snapDue = false) : State.settle b s = s := by
  rw [State.settle, if_neg (by simp [h])]

theorem State.keepsSignals_settle (b s : State) : s.KeepsSignals (State.settle b s) := State.keepsSignals_closed.settle b s

/-! A loss of the source and of TLINE (R67) -/

/-- The selected source is lost: none is selected, and the last one stands remembered. -/
def TimeUnit.lose (u : TimeUnit) : TimeUnit :=
  { u.discard with source := .none, lastSource := u.source, lost := true, ok := false, ptmTracking := false, ptmLastErr := none }

theorem State.loseSource_tu (s : State) :
    ∃ t, s.loseSource.tu = (if s.tu.source = .none then s.tu else s.tu.lose).judged t := by
  unfold State.loseSource
  split
  · exact ⟨_, s.retrust_tu⟩
  · exact ⟨_, State.timeChange_tu _ _⟩

theorem State.loseTline_tu (s : State) :
    ∃ t, s.loseTline.tu = (if s.tu.source = .tline then s.tu.dropTline.lose else s.tu.dropTline).judged t := by
  unfold State.loseTline
  by_cases h : s.tu.source = .tline
  · obtain ⟨t, ht⟩ := State.loseSource_tu { s with tu := s.tu.dropTline }
    exact ⟨t, by simpa [h, TimeUnit.dropTline] using ht⟩
  · exact ⟨State.trustNow { s with tu := s.tu.dropTline }, by simp [h]⟩

/-- A loss on TLINE drops its frames, marks and tracking, and leaves RT and LOS. -/
theorem State.loseTline_drops (s : State) : s.loseTline.tu.tracking = false ∧ s.loseTline.tu.lastFrame = none
    ∧ s.loseTline.tu.lastMark = none ∧ s.loseTline.tu.announce = none ∧ s.loseTline.tu.rt = s.tu.rt
    ∧ s.loseTline.tu.tlineLos = s.tu.tlineLos := by
  obtain ⟨t, h⟩ := s.loseTline_tu
  rw [h]
  by_cases hs : s.tu.source = .tline <;> simp [hs, TimeUnit.lose, TimeUnit.discard, TimeUnit.dropTline, TimeUnit.judged]

/-- If TLINE was selected, no source is selected and the loss stands. -/
theorem State.loseTline_source (s : State) (hs : s.tu.source = .tline) :
    s.loseTline.tu.source = .none ∧ s.loseTline.tu.lost = true := by
  obtain ⟨t, h⟩ := s.loseTline_tu
  rw [h, if_pos hs]
  exact ⟨rfl, rfl⟩

/-! Frames (R52, R55, R58) -/

/-- A frame that breaks a rule is counted, and dropped where TLINE may be used. -/
theorem State.droppedFrame (s : State) (a : Nat) (ha : a ∈ signalRegs) (hq : Quiet s) (hw : s.regsWf = true) :
    ∃ u, finish s (if s.tlineUsed then (s.bump a 0 16 1).dropFrame else s.bump a 0 16 1) = .next u ∧ u.tu.rt = s.tu.rt
      ∧ u.fld a 0 16 = min (s.fld a 0 16 + 1) 0xFFFF
      ∧ (s.tlineUsed = true → u.tu.lastFrame = none ∧ u.tu.announce = none ∧ u.tu.tracking = false)
      ∧ (s.tlineUsed = false → u = s.bump a 0 16 1) := by
  have hcount : (s.bump a 0 16 1).fld a 0 16 = min (s.fld a 0 16 + 1) 0xFFFF := s.fld_bump_same a 0 16 1 hw (by decide)
  cases hu : s.tlineUsed with
  | false => exact ⟨_, finish_quiet _ _ hq, rfl, hcount, nofun, fun _ => rfl⟩
  | true =>
    obtain ⟨htrack, hframe, _, hann, hrt, _⟩ := (s.bump a 0 16 1).loseTline_drops
    refine ⟨_, finish_next _ _, ?_, ?_, fun _ => ?_, nofun⟩
    · simpa [State.dropFrame] using hrt
    · exact (((s.bump a 0 16 1).keepsSignals_loseTline.trans (State.keepsSignals_settle s _)).fld ha 0 16).trans hcount
    · simpa [State.dropFrame] using ⟨hframe, hann, htrack⟩

/-- What a shown frame leaves for the events that follow it to keep: RT, its flags, and the domain it showed. -/
structure State.Shown (s u : State) : Prop where
  rt : u.tu.rt = s.tu.rt
  duRefOk : u.tu.duRefOk = s.tu.duRefOk
  duCal : u.tu.duCal = s.tu.duCal
  domain : u.reg aTU_DOMAIN = s.reg aTU_DOMAIN

namespace State.Shown

theorem trans {s t u : State} (h : s.Shown t) (k : t.Shown u) : s.Shown u :=
  ⟨k.rt.trans h.rt, k.duRefOk.trans h.duRefOk, k.duCal.trans h.duCal, k.domain.trans h.domain⟩

theorem of_signals {s u : State} (h : u.tu.signals = s.tu.signals) (hr : s.KeepsSignals u) : s.Shown u :=
  ⟨(congrArg TimeUnit.rt h : u.tu.signals.rt = s.tu.signals.rt),
   (congrArg TimeUnit.duRefOk h : u.tu.signals.duRefOk = s.tu.signals.duRefOk),
   (congrArg TimeUnit.duCal h : u.tu.signals.duCal = s.tu.signals.duCal), hr _ (by decide)⟩

theorem retrust (s : State) : s.Shown s.retrust := of_signals s.signals_retrust s.keepsSignals_retrust

theorem loseTline (s : State) : s.Shown s.loseTline := by
  obtain ⟨t, h⟩ := s.loseTline_tu
  refine ⟨?_, ?_, ?_, s.keepsSignals_loseTline _ (by decide)⟩ <;> rw [h] <;>
    by_cases hs : s.tu.source = .tline <;> simp [hs, TimeUnit.lose, TimeUnit.discard, TimeUnit.dropTline, TimeUnit.judged]

theorem acquireTline (s : State) (base : Nat) : s.Shown (s.acquireTline base) := by
  unfold State.acquireTline
  split
  · exact of_signals rfl (.of_regs rfl)
  · refine ⟨?_, ?_, ?_, State.KeepsSignals.trans (.of_regs rfl) (State.keepsSignals_timeChange _ _) _ (by decide)⟩ <;>
      rw [State.timeChange_tu] <;> dsimp only [TimeUnit.judged] <;> split <;> rfl

end State.Shown

/-- The frame is remembered with the RT that it announces. -/
def TimeUnit.framed (u : TimeUnit) (here : Frame) (ok : Bool) : TimeUnit :=
  { u with lastFrame := some here, announce := some here.rt, measOk := ok }

/-- What follows an accepted frame: it is remembered, and a correction may be confirmed. -/
theorem State.acceptFrame_eq (s : State) (r : Nat) (domain flags : BitVec 16) (here : Frame)
    (hh : here = { rt := r, domain := domain, mark := s.tu.lastMark, seq := s.tu.markSeq }) : ∃ t : State, ∃ u : State,
    (s.showFrame domain flags).Shown t ∧ u = { t with tu := t.tu.framed here (s.consistentFrame r domain) }
    ∧ (s.acceptFrame r domain flags = u.confirm.retrust ∨ s.acceptFrame r domain flags = u.retrust) := by
  subst hh
  by_cases hc : s.consistentFrame r domain = true
  · refine ⟨_, _, State.Shown.acquireTline _ (tlineBase flags), rfl, ?_⟩
    rw [State.acceptFrame, if_pos hc, hc]
    exact ite_eq_or_eq _ _ _
  · rw [State.acceptFrame, if_neg hc]
    simp only [Bool.not_eq_true] at hc
    refine ⟨_, _, ?_, rfl, .inr (by rw [hc]; rfl)⟩
    split
    · have hbump : (s.showFrame domain flags).Shown ((s.showFrame domain flags).bump aTU_CNT_B 16 16 1) :=
        ⟨rfl, rfl, rfl, State.reg_bump_ne _ _ _ _ _ _ (by decide)⟩
      exact hbump.trans (State.Shown.loseTline _)
    · exact State.Shown.of_signals rfl (.of_regs rfl)


/-- An accepted frame is the last accepted one and announces its RT; its flags and domain show. -/
theorem State.acceptFrame_accepts (s : State) (r : Nat) (domain flags : BitVec 16) (hw : s.regsWf = true) (u : State)
    (hu : u = State.settle s (s.acceptFrame r domain flags)) : u.tu.lastFrame = some ⟨r, domain, s.tu.lastMark, s.tu.markSeq⟩
      ∧ u.tu.announce = some r ∧ u.tu.measOk = s.consistentFrame r domain ∧ u.tu.rt = s.tu.rt
      ∧ u.tu.duRefOk = flags.getLsbD 15 ∧ u.tu.duCal = flags.getLsbD 14 ∧ u.fld aTU_DOMAIN 16 16 = domain.toNat := by
  obtain ⟨t, v, hshown, hv, haccept⟩ := s.acceptFrame_eq r domain flags _ rfl
  have hkept : (s.acceptFrame r domain flags).tu.signals = v.tu.signals ∧ v.KeepsSignals (s.acceptFrame r domain flags) := by
    rcases haccept with h | h <;> rw [h]
    · exact ⟨(State.signals_retrust _).trans v.signals_confirm, v.keepsSignals_confirm.trans (State.keepsSignals_retrust _)⟩
    · exact ⟨v.signals_retrust, v.keepsSignals_retrust⟩
  obtain ⟨hsig, hregs⟩ := hkept
  have hsig : u.tu.signals = (t.tu.framed ⟨r, domain, s.tu.lastMark, s.tu.markSeq⟩ (s.consistentFrame r domain)).signals := by
    rw [hu, State.settle_tu, hsig, hv]
  have hdomain : u.fld aTU_DOMAIN 16 16 = domain.toNat := by
    calc u.fld aTU_DOMAIN 16 16 = v.fld aTU_DOMAIN 16 16 := by
          rw [hu]
          exact (hregs.trans (State.keepsSignals_settle s _)).fld (by decide) 16 16
      _ = t.fld aTU_DOMAIN 16 16 := by rw [hv]; rfl
      _ = (s.showFrame domain flags).fld aTU_DOMAIN 16 16 := congrArg (getBits · 16 16) hshown.domain
      _ = domain.toNat % 2 ^ 16 := s.fld_setFld_same aTU_DOMAIN 16 16 domain.toNat hw (by decide)
      _ = domain.toNat := Nat.mod_eq_of_lt domain.isLt
  have hfield : ∀ {β : Type} (f : TimeUnit → β), f u.tu.signals = f (t.tu.framed ⟨r, domain, s.tu.lastMark, s.tu.markSeq⟩
      (s.consistentFrame r domain)).signals := fun f => congrArg f hsig
  exact ⟨hfield TimeUnit.lastFrame, hfield TimeUnit.announce, hfield TimeUnit.measOk, (hfield TimeUnit.rt).trans hshown.rt,
    (hfield TimeUnit.duRefOk).trans hshown.duRefOk, (hfield TimeUnit.duCal).trans hshown.duCal, hdomain⟩

/-! What a measurement and a set of RT leave of the marks (R55, R70) -/

section
variable (s : State) (e : Int) (target : Nat) (set_ : Bool)

/-- A field of the time unit that a measurement moves neither by its error nor by trust and corrections. -/
theorem State.measure_field {β : Type} (f : TimeUnit → β) :
    f (s.measure e).tu.signals = f { s.tu.signals with lastErr := e } :=
  congrArg f (s.measure_signals e)

theorem State.measure_rt : (s.measure e).tu.rt = s.tu.rt := s.measure_field e TimeUnit.rt
theorem State.measure_lastErr : (s.measure e).tu.lastErr = e := s.measure_field e TimeUnit.lastErr
theorem State.measure_markSeq : (s.measure e).tu.markSeq = s.tu.markSeq := s.measure_field e TimeUnit.markSeq
theorem State.measure_announce : (s.measure e).tu.announce = s.tu.announce := s.measure_field e TimeUnit.announce
theorem State.measure_source : (s.measure e).tu.source = s.tu.source := s.measure_field e TimeUnit.source
theorem State.measure_ptmTracking : (s.measure e).tu.ptmTracking = s.tu.ptmTracking := s.measure_field e TimeUnit.ptmTracking

/-- A set of RT reads its target, ends the due set, and leaves the error and the marks. -/
theorem State.loadRt_sets : (s.loadRt target set_).tu.rt = rtOf target ∧ (s.loadRt target set_).tu.needSet = false
    ∧ (s.loadRt target set_).tu.lastErr = s.tu.lastErr ∧ (s.loadRt target set_).tu.markSeq = s.tu.markSeq
    ∧ (s.tu.announce = none → (s.loadRt target set_).tu.announce = none) := by
  obtain ⟨rt, hrt, h⟩ := s.loadRt_clock target set_
  exact ⟨h.rt.trans hrt, h.needSet, h.lastErr, h.markSeq, h.announce⟩

end

/-! Marks (R54, R55, R57, R69, R70) -/

/-- The error of an announced mark, against its RT and the delay of the cable. -/
def State.markError (s : State) (stamp : Int) (ann : Nat) : Int := stamp - (ann * 256 + s.cableDelay : Nat)

theorem State.markError_eq (s : State) (stamp : Int) (ann : Nat) :
    s.markError stamp ann = stamp - ((ann : Int) * 256 + s.cableDelay) := by
  rw [State.markError]
  push_cast
  rfl

/-- The state in which RT is set at a mark: the mark is taken as the target, and the last frame's mark moves with it. -/
def State.setAtMark (s : State) (stamp : Int) (ann : Nat) : State :=
  { s with tu := { s.tu with
      lastErr := s.markError stamp ann, lastMark := some ((ann * 256 + s.cableDelay : Nat) : Int),
      lastFrame := s.tu.lastFrame.map (fun f => { f with mark := f.mark.map (fun m =>
        m + (ann * 256 + s.cableDelay : Nat) - stamp) }) } }

/-- An announced mark is measured, or sets RT: always under a due initial set, otherwise only for a pending step. -/
theorem State.announcedMark_cases (s : State) (stamp : Int) (ann : Nat) :
    (s.tu.stepHold = true → s.announcedMark stamp ann = s.measure (s.markError stamp ann))
    ∧ (s.tu.stepHold = false → s.tu.needSet = true →
      s.announcedMark stamp ann = (s.setAtMark stamp ann).loadRt (ann * 256 + s.cableDelay) true)
    ∧ (s.tu.stepHold = false → s.tu.needSet = false →
      (s.tu.stepPending = true ∧ s.announcedMark stamp ann = (s.setAtMark stamp ann).loadRt (ann * 256 + s.cableDelay) false)
      ∨ s.announcedMark stamp ann =
        State.measure { s with tu := { s.tu with stepPending := false } } (s.markError stamp ann)) := by
  refine ⟨fun h => ?_, fun h hn => ?_, fun h hn => ?_⟩
  · rw [State.announcedMark, if_pos h]; rfl
  · rw [State.announcedMark, if_neg (by simp [h]), if_pos (by simp [hn]), hn]; rfl
  · rw [State.announcedMark, if_neg (by simp [h]), hn]
    by_cases hp : s.tu.stepPending = true ∧ s.tu.rt.toNat ≤ (ann * 256 + s.cableDelay) * 2 ^ 24
    · exact .inl ⟨hp.1, by rw [if_pos (by simpa using hp)]; rfl⟩
    · exact .inr (by rw [if_neg (by simpa using hp)]; rfl)

/-- An announced mark records its error, counts as marks do, and announces nothing further. -/
theorem State.announcedMark_measures (s : State) (stamp : Int) (ann : Nat) (hn : s.tu.announce = none) :
    (s.announcedMark stamp ann).tu.markSeq = s.tu.markSeq ∧ (s.announcedMark stamp ann).tu.announce = none
    ∧ (s.announcedMark stamp ann).tu.lastErr = s.markError stamp ann := by
  have hmeasure : ∀ t : State, t.tu.markSeq = s.tu.markSeq → t.tu.announce = none →
      (t.measure (s.markError stamp ann)).tu.markSeq = s.tu.markSeq ∧ (t.measure (s.markError stamp ann)).tu.announce = none
      ∧ (t.measure (s.markError stamp ann)).tu.lastErr = s.markError stamp ann := fun t hseq hann =>
    ⟨(t.measure_markSeq _).trans hseq, (t.measure_announce _).trans hann, t.measure_lastErr _⟩
  have hload : ∀ target set_, ((s.setAtMark stamp ann).loadRt target set_).tu.markSeq = s.tu.markSeq
      ∧ ((s.setAtMark stamp ann).loadRt target set_).tu.announce = none
      ∧ ((s.setAtMark stamp ann).loadRt target set_).tu.lastErr = s.markError stamp ann := fun target set_ => by
    obtain ⟨_, _, herr, hseq, hann⟩ := (s.setAtMark stamp ann).loadRt_sets target set_
    exact ⟨hseq, hann hn, herr⟩
  obtain ⟨hhold, hset, hother⟩ := s.announcedMark_cases stamp ann
  cases h : s.tu.stepHold with
  | true => rw [hhold h]; exact hmeasure s rfl hn
  | false =>
    cases hneed : s.tu.needSet with
    | true => rw [hset h hneed]; exact hload _ _
    | false =>
      obtain ⟨_, heq⟩ | heq := hother h hneed <;> rw [heq]
      · exact hload _ _
      · exact hmeasure _ rfl hn

/-- Without a due set or a pending step, a mark leaves RT. -/
theorem State.announcedMark_rt (s : State) (stamp : Int) (ann : Nat) (h : s.tu.stepHold = false) (hn : s.tu.needSet = false)
    (hp : s.tu.stepPending = false) : (s.announcedMark stamp ann).tu.rt = s.tu.rt := by
  obtain ⟨hpend, _⟩ | heq := (s.announcedMark_cases stamp ann).2.2 h hn
  · simp [hp] at hpend
  · rw [heq, State.measure_rt]

/-- The state after a mark has been accepted and stamped. -/
def State.marked (s : State) (stamp : Int) : State :=
  { s with tu := { s.tu with markSeq := s.tu.markSeq + 1, announce := none, lastMark := some stamp } }

/-- An accepted announced mark (R55, R69, R70), from the state that the mark was stamped in. -/
theorem State.announcedMark_marked (s : State) (stamp : Int) (ann : Nat) (hq : Quiet s) (u : State)
    (hu : u = State.settle s ((s.marked stamp).announcedMark stamp ann)) :
    u.tu.markSeq = s.tu.markSeq + 1 ∧ u.tu.announce = none ∧ u.tu.lastErr = s.markError stamp ann
      ∧ (s.tu.stepHold = true → u = { s.marked stamp with tu := (s.marked stamp).tu.measured (s.markError stamp ann) s.now })
      ∧ (s.tu.stepHold = false → s.tu.needSet = true → u.tu.rt = rtOf (ann * 256 + s.cableDelay) ∧ u.tu.needSet = false)
      ∧ (s.tu.stepHold = false → s.tu.needSet = false → s.tu.stepPending = false → u.tu.rt = s.tu.rt) := by
  obtain ⟨hseq, hann, herr⟩ := (s.marked stamp).announcedMark_measures stamp ann rfl
  obtain ⟨hhold, hset, _⟩ := (s.marked stamp).announcedMark_cases stamp ann
  have htu : u.tu = ((s.marked stamp).announcedMark stamp ann).tu := hu ▸ State.settle_tu _ _
  refine ⟨by rw [htu]; exact hseq, by rw [htu]; exact hann, by rw [htu]; exact herr, fun h => ?_, fun h hn => ?_,
    fun h hn hp => ?_⟩
  · rw [hu, hhold h, (s.marked stamp).measure_hold _ h]
    exact State.settle_quiet s hq
  · rw [htu, hset h hn]
    obtain ⟨hrt, hneed, _⟩ :=
      ((s.marked stamp).setAtMark stamp ann).loadRt_sets (ann * 256 + (s.marked stamp).cableDelay) true
    exact ⟨hrt, hneed⟩
  · rw [htu]
    exact (s.marked stamp).announcedMark_rt stamp ann h hn hp

/-- A mark outside the window of R57 is ignored. -/
def State.markIgnored (s : State) (stamp : Int) : Prop := s.tu.trust = .locked ∧ s.tu.markInWindow stamp = false

/-- An accepted mark without an announcement, or before two consistent frames, is stamped and no more. -/
theorem execCycleMark_unmeasured (s : State) (sub : BitVec 7) (delay : BitVec 16) (hq : Quiet s) (hu : s.tlineUsed = true)
    (hi : ¬s.markIgnored (s.markStamp sub.toNat delay.toNat)) (hn : s.tu.announce = none ∨ s.tu.measOk = false) :
    execCycleMark sub s delay = .next (s.marked (s.markStamp sub.toNat delay.toNat)) := by
  refine ((if_neg (by simp [hu])).trans (if_neg hi)).trans ?_
  split
  · rename_i ann hann
    exact (congrArg (finish s) (if_neg (by simp_all))).trans (finish_quiet s (s.marked _) hq)
  · exact finish_quiet s (s.marked _) hq

/-- An accepted mark that is announced after two consistent frames is measured. -/
theorem execCycleMark_announced (s : State) (sub : BitVec 7) (delay : BitVec 16) (ann : Nat) (hu : s.tlineUsed = true)
    (hi : ¬s.markIgnored (s.markStamp sub.toNat delay.toNat)) (hann : s.tu.announce = some ann) (hok : s.tu.measOk = true) :
    execCycleMark sub s delay = .next (State.settle s ((s.marked (s.markStamp sub.toNat delay.toNat)).announcedMark
      (s.markStamp sub.toNat delay.toNat) ann)) := by
  refine ((if_neg (by simp [hu])).trans (if_neg hi)).trans ?_
  rw [hann]
  exact congrArg (finish s) (if_pos hok)

theorem execTlineFlat_flat (s : State) (inFrame : Bool) (hw : s.regsWf = true) : ∃ u, execTlineFlat inFrame s = .next u
    ∧ u.tu.tlineLos = true ∧ u.tu.rt = s.tu.rt ∧ u.fld aTU_CNT_A 16 16 = min (s.fld aTU_CNT_A 16 16 + bit inFrame) 0xFFFF
    ∧ (s.tlineUsed = true → u.tu.tracking = false ∧ u.tu.lastFrame = none ∧ u.tu.lastMark = none) := by
  obtain ⟨t, ht⟩ : ∃ t : State, t =
      if inFrame then State.bump { s with tu := { s.tu with tlineLos := true } } aTU_CNT_A 16 16 1
      else { s with tu := { s.tu with tlineLos := true } } := ⟨_, rfl⟩
  have htu : t.tu = { s.tu with tlineLos := true } := by
    rw [ht]
    cases inFrame <;> rfl
  have hcount : t.fld aTU_CNT_A 16 16 = min (s.fld aTU_CNT_A 16 16 + bit inFrame) 0xFFFF := by
    rw [ht]
    cases inFrame with
    | true => exact State.fld_bump_same { s with tu := { s.tu with tlineLos := true } } aTU_CNT_A 16 16 1 hw (by decide)
    | false => exact (Nat.min_eq_left (Nat.le_of_lt_succ (getBits_lt _ 16 16))).symm
  have hexec : execTlineFlat inFrame s = finish s (if s.tlineUsed then t.loseTline else t) := by rw [ht]; rfl
  rw [hexec]
  obtain ⟨htrack, hframe, hmark, _, hrt, hlos⟩ := t.loseTline_drops
  cases hu : s.tlineUsed with
  | true =>
    refine ⟨_, finish_next _ _, ?_, ?_, ?_, fun _ => ?_⟩
    · simp [hlos, htu]
    · simp [hrt, htu]
    · exact ((t.keepsSignals_loseTline.trans (State.keepsSignals_settle s _)).fld (by decide) 16 16).trans hcount
    · simp [htrack, hframe, hmark]
  | false =>
    exact ⟨_, finish_next _ _, by simp [htu], by simp [htu],
      ((State.keepsSignals_settle s t).fld (by decide) 16 16).trans hcount, nofun⟩

/-- Settles O40: each signal of TLINE is counted and dropped, shown, measured or lost, by the lemmas above. -/
theorem timelineSignals : Obligations.TimelineSignals := by
  intro s sync domain flags crc rt hq hw badA badB
  have hframe : ¬badA → ¬badB → exec (.thifinFrame sync rt domain flags crc) s =
      if s.tlineUsed = false then .next (s.showFrame domain flags) else finish s (s.acceptFrame rt.toNat domain flags) := by
    intro ha hb
    exact (if_neg (by rwa [ne_comm (a := crc16 _ _ _)])).trans (if_neg (by rwa [ne_comm (a := domain.toNat)]))
  refine ⟨fun ha => ?_, fun ha hb => ?_, fun ha hb hu => ?_, fun ha hb hu => ?_, ?_, fun inFrame => ?_, rfl, fun m hm ht => ?_⟩
  · obtain ⟨u, h, hrest⟩ := s.droppedFrame aTU_CNT_A (by decide) hq hw
    exact ⟨u, (if_pos (by rwa [ne_comm (a := crc16 _ _ _)])).trans h, hrest⟩
  · obtain ⟨u, h, hrest⟩ := s.droppedFrame aTU_CNT_B (by decide) hq hw
    exact ⟨u, ((if_neg (by rwa [ne_comm (a := crc16 _ _ _)])).trans (if_pos (by rwa [ne_comm (a := domain.toNat)]))).trans h,
      hrest⟩
  · rw [hframe ha hb, if_pos hu]
  · rw [hframe ha hb, if_neg (by simp [hu])]
    exact ⟨_, finish_next _ _, s.acceptFrame_accepts rt.toNat domain flags hw _ rfl⟩
  · rintro sub delay stamp rfl ignored marked
    refine ⟨fun hu => if_pos hu, fun hu hi => ?_, fun hu hi hn => ?_, fun ann hu hi hann hok => ?_⟩
    · exact ((if_neg (by simp [hu])).trans (if_pos hi)).trans (finish_quiet _ _ hq)
    · exact execCycleMark_unmeasured s sub delay hq hu hi hn
    · rw [← State.markError_eq]
      exact ⟨_, execCycleMark_announced s sub delay ann hu hi hann hok, s.announcedMark_marked _ ann hq _ rfl⟩
  · exact execTlineFlat_flat s inFrame hw
  · have hexec : exec .markMissing s =
        if m + 32016 * 256 ≤ s.rtAt 0 ∧ (s.tu.tracking = true ∨ s.tu.lastFrame.isSome = true) then finish s s.loseTline
        else .next s := by
      change execMarkMissing s = _
      rw [execMarkMissing, hm]
    rw [hexec]
    refine ⟨fun hle => ?_, fun hlt => if_neg fun h => absurd h.1 (by omega)⟩
    rw [if_pos ⟨hle, ht⟩]
    obtain ⟨htrack, hframe, _, _, hrt, _⟩ := s.loseTline_drops
    refine ⟨_, finish_next _ _, ?_, ?_, ?_, fun hs => ?_⟩
    · simp [htrack]
    · simp [hframe]
    · simp [hrt]
    · simpa using s.loseTline_source hs

end Sys2Proof.Machine

namespace Sys2Proof.Machine

open Sys2Proof.Claims

/-! A loss of PTM (R67) -/

/-- PTM is lost: no dialogue runs and none counts. -/
def TimeUnit.dropPtm (u : TimeUnit) : TimeUnit :=
  { u with ptmRunning := false, ptmTracking := false, ptmLastErr := none, ptmFails := 0 }

theorem State.losePtm_tu (s : State) : (s.tu.source = .ptm ∧ ∃ t, s.losePtm.tu = s.tu.dropPtm.lose.judged t)
    ∨ (s.tu.source ≠ .ptm ∧ s.losePtm = { s with tu := s.tu.dropPtm }) := by
  unfold State.losePtm
  by_cases h : s.tu.source = .ptm
  · obtain ⟨t, ht⟩ := State.loseSource_tu { s with tu := s.tu.dropPtm }
    exact .inl ⟨h, t, by simpa [h, TimeUnit.dropPtm] using ht⟩
  · exact .inr ⟨h, if_neg (by simpa using h)⟩

/-- PTM lost is not tracked and not selected; RT stands. -/
theorem State.losePtm_drops (s : State) : s.losePtm.tu.ptmFails = 0 ∧ s.losePtm.tu.ptmTracking = false
    ∧ s.losePtm.tu.source ≠ .ptm ∧ s.losePtm.tu.rt = s.tu.rt := by
  obtain ⟨_, t, h⟩ | ⟨hs, h⟩ := s.losePtm_tu <;> rw [h]
  · exact ⟨rfl, rfl, nofun, rfl⟩
  · exact ⟨rfl, rfl, hs, rfl⟩

/-- If PTM was selected, no source is selected and the loss stands. -/
theorem State.losePtm_source (s : State) (hs : s.tu.source = .ptm) :
    s.losePtm.tu.source = .none ∧ s.losePtm.tu.lost = true := by
  obtain ⟨_, t, h⟩ | ⟨hn, _⟩ := s.losePtm_tu
  · rw [h]
    exact ⟨rfl, rfl⟩
  · exact absurd hs hn

/-! A consistent dialogue (R68, R70, R80) -/

/-- PTM is tracked. -/
def State.ptmTracked (s : State) : State := { s with tu := { s.tu with ptmTracking := true } }

/-- While TLINE is selected, PTM is only tracked. -/
theorem State.acquirePtm_tline (s : State) (h : s.tu.source = .tline) : s.acquirePtm = s.ptmTracked := if_neg (by simp [h])

/-- Where TLINE is not selected, PTM is selected and tracked; RT and what awaits it stand. -/
theorem State.acquirePtm_selects (s : State) (h : s.tu.source ≠ .tline) : s.acquirePtm.tu.source = .ptm
    ∧ s.acquirePtm.tu.ptmTracking = true ∧ s.acquirePtm.tu.rt = s.tu.rt ∧ s.acquirePtm.tu.stepHold = s.tu.stepHold
    ∧ s.acquirePtm.tu.needSet = s.tu.needSet ∧ s.acquirePtm.tu.stepPending = s.tu.stepPending
    ∧ s.acquirePtm.tu.pendingCorr = s.tu.pendingCorr := by
  unfold State.acquirePtm
  dsimp only
  split
  · rw [State.timeChange_tu]
    exact ⟨rfl, rfl, rfl, rfl, rfl, rfl, rfl⟩
  · rename_i hn
    cases hs : s.tu.source <;> simp_all

/-- A due set loads RT from the dialogue. -/
theorem State.usePtm_set (s : State) (source : Nat) (e : Int) (first : Bool) (h : s.tu.stepHold = false)
    (hn : s.tu.needSet = true) :
    s.usePtm source e first = State.loadRt { s with tu := { s.tu with lastErr := e } } source true := by
  rw [State.usePtm, if_neg (by simp [h]), if_pos hn]

/-- With nothing due, pending or awaiting confirmation, the dialogue is measured. -/
theorem State.usePtm_measures (s : State) (source : Nat) (e : Int) (first : Bool) (hn : s.tu.needSet = false)
    (hp : s.tu.stepPending = false) (hc : s.tu.pendingCorr = none) :
    s.usePtm source e first = s.measure e ∨ s.usePtm source e first =
      State.measure { s with tu := { s.tu with stepPending := false } } e := by
  have hconfirm : (if first then s else s.confirm) = s := by
    cases first
    · rw [State.confirm, hc]; rfl
    · rfl
  unfold State.usePtm
  split
  · exact .inl rfl
  · rw [if_neg (by simp [hn]), hconfirm]
    dsimp only
    rw [if_neg (by simp [hp])]
    exact .inr rfl

/-- The error of a dialogue, remembered for the next one (R80). -/
def State.answered (s : State) (e : Int) : State := { s with tu := { s.tu with ptmFails := 0, ptmLastErr := some e } }

/-- What a dialogue does with the error before it: the first is remembered, an inconsistent one loses PTM, and a consistent
one is used where PTM becomes or is the source. -/
theorem State.ptmAnswer_cases (s : State) (source : Nat) (e : Int) (he : e = s.rtAt 0 - source) :
    (s.tu.ptmLastErr = none → s.ptmAnswer source = s.answered e)
    ∧ (∀ p, s.tu.ptmLastErr = some p → 20 * 256 < (e - p).natAbs → s.ptmAnswer source =
        { (s.answered e).losePtm with tu := { (s.answered e).losePtm.tu with ptmLastErr := some e } })
    ∧ (∀ p, s.tu.ptmLastErr = some p → (e - p).natAbs ≤ 20 * 256 →
        (s.tu.source = .tline → s.ptmAnswer source = (s.answered e).acquirePtm)
        ∧ (s.tu.source ≠ .tline → ∃ first, s.ptmAnswer source = (s.answered e).acquirePtm.usePtm source e first)) := by
  subst he
  refine ⟨fun h => ?_, fun p h hlt => ?_, fun p h hle => ⟨fun hs => ?_, fun hs => ?_⟩⟩ <;>
    unfold State.ptmAnswer <;> rw [h] <;> dsimp only
  · rfl
  · exact if_neg (by omega)
  · have hline : (s.answered (s.rtAt 0 - source)).acquirePtm.tu.source ≠ .ptm := by
      rw [(s.answered _).acquirePtm_tline hs]
      simp [State.answered, State.ptmTracked, hs]
    exact (if_pos hle).trans (if_neg hline)
  · exact ⟨_, (if_pos hle).trans (if_pos ((s.answered (s.rtAt 0 - source)).acquirePtm_selects hs).1)⟩

/-! Dialogues as commands (R67, R79, R80, R82) -/

/-- The dialogue that was running has ended. -/
def State.dialogueEnded (s : State) : State := { s with tu := { s.tu with ptmRunning := false } }

theorem execPtmDialogueComplete_answer (s : State) (master : Word) (frac : BitVec 8) (hr : s.tu.ptmRunning = true)
    (hh : s.ptmHeadUp = true) : execPtmDialogueComplete (some (master, frac)) s =
      .next (State.settle s (s.dialogueEnded.ptmAnswer (s.ptmTime master frac))) :=
  (if_neg (by simp [hr])).trans (if_neg (by simp [hh]))

theorem execPtmDialogueComplete_failed (s : State) (hr : s.tu.ptmRunning = true) (hh : s.ptmHeadUp = true) :
    execPtmDialogueComplete none s =
      finish s (if 2 ≤ s.tu.ptmFails + 1 then State.losePtm { s with tu := { s.tu with
          ptmRunning := false, ptmFails := s.tu.ptmFails + 1 } }
        else { s with tu := { s.tu with ptmRunning := false, ptmFails := s.tu.ptmFails + 1 } }) :=
  (if_neg (by simp [hr])).trans (if_neg (by simp [hh]))

/-- The second failed dialogue in a row loses PTM. -/
theorem execPtmDialogueComplete_lost (s : State) (hr : s.tu.ptmRunning = true) (hh : s.ptmHeadUp = true)
    (hf : 1 ≤ s.tu.ptmFails) : ∃ u, execPtmDialogueComplete none s = .next u ∧ u.tu.ptmFails = 0 ∧ u.tu.ptmTracking = false
      ∧ u.tu.rt = s.tu.rt ∧ (s.tu.source = .ptm → u.tu.source = .none ∧ u.tu.lost = true) := by
  rw [execPtmDialogueComplete_failed s hr hh, if_pos (by omega), finish_next]
  obtain ⟨t, ht⟩ : ∃ t : State, t = { s with tu := { s.tu with ptmRunning := false, ptmFails := s.tu.ptmFails + 1 } } :=
    ⟨_, rfl⟩
  rw [← ht]
  obtain ⟨hfails, htrack, _, hrt⟩ := t.losePtm_drops
  refine ⟨_, rfl, ?_, ?_, ?_, fun hs => ?_⟩ <;> rw [State.settle_tu]
  · exact hfails
  · exact htrack
  · rw [hrt, ht]
  · exact t.losePtm_source (by rw [ht]; exact hs)

/-- A consistent dialogue is tracked under TLINE, and elsewhere measured, or sets RT when a set is due. -/
theorem State.ptmAnswer_consistent (s : State) (source : Nat) (e p : Int) (hq : Quiet s) (he : e = s.rtAt 0 - source)
    (hp : s.tu.ptmLastErr = some p) (hle : (e - p).natAbs ≤ 20 * 256) (u : State)
    (hu : u = State.settle s (s.dialogueEnded.ptmAnswer source)) :
    (s.tu.source = .tline → u = { s with tu := { s.tu with
        ptmRunning := false, ptmFails := 0, ptmLastErr := some e, ptmTracking := true } })
    ∧ (s.tu.source ≠ .tline → s.tu.needSet = false → s.tu.stepPending = false → s.tu.pendingCorr = none →
        u.tu.source = .ptm ∧ u.tu.ptmTracking = true ∧ u.tu.lastErr = e ∧ u.tu.rt = s.tu.rt)
    ∧ (s.tu.source ≠ .tline → s.tu.stepHold = false → s.tu.needSet = true →
        u.tu.rt = rtOf source ∧ u.tu.lastErr = e ∧ u.tu.needSet = false) := by
  obtain ⟨hline, huse⟩ := (s.dialogueEnded.ptmAnswer_cases source e he).2.2 p hp hle
  have htu : u.tu = (s.dialogueEnded.ptmAnswer source).tu := hu ▸ State.settle_tu _ _
  refine ⟨fun hs => ?_, fun hs hn hpend hc => ?_, fun hs hh hn => ?_⟩
  · rw [hu, hline hs, (s.dialogueEnded.answered e).acquirePtm_tline hs]
    rw [State.settle_quiet s (s := (s.dialogueEnded.answered e).ptmTracked) hq]
    simp only [State.ptmTracked, State.answered, State.dialogueEnded]
  · obtain ⟨first, h⟩ := huse hs
    obtain ⟨hsrc, htrack, hrt, _, hneed, hstep, hcorr⟩ := (s.dialogueEnded.answered e).acquirePtm_selects hs
    rw [htu, h]
    rcases State.usePtm_measures _ source e first (hneed.trans hn) (hstep.trans hpend) (hcorr.trans hc) with hm | hm <;> rw [hm]
    all_goals exact ⟨(State.measure_source _ _).trans hsrc, (State.measure_ptmTracking _ _).trans htrack,
      State.measure_lastErr _ _, (State.measure_rt _ _).trans hrt⟩
  · obtain ⟨first, h⟩ := huse hs
    obtain ⟨_, _, _, hhold, hneed, _⟩ := (s.dialogueEnded.answered e).acquirePtm_selects hs
    rw [htu, h, State.usePtm_set _ source e first (hhold.trans hh) (hneed.trans hn)]
    obtain ⟨hrt, hdone, herr, _⟩ := State.loadRt_sets { (s.dialogueEnded.answered e).acquirePtm with
      tu := { (s.dialogueEnded.answered e).acquirePtm.tu with lastErr := e } } source true
    exact ⟨hrt, herr, hdone⟩

/-! Writes of registers by a path -/

/-- A write that passes its checks has its register's effect. -/
theorem State.commandWrite_ok (s : State) (p : Path) (a width : Nat) (v : Word) (h : WriteOk s p a width v) :
    s.commandWrite p a width v = .next (State.settle s (s.applyWrite a v)) := by
  obtain ⟨_, hopen, hcheck⟩ := h
  rw [State.commandWrite, if_pos hopen, State.writeReg, hcheck]
  rfl

/-- A write of TU_ACK acknowledges (R69). -/
theorem State.applyWrite_tuAck (s : State) (v : Word) : s.applyWrite aTU_ACK v = s.tuAck (v &&& 0xFFFFFFFF) := by
  have hrow : ∃ row, regLookup aTU_ACK = some (row, 0, 0) ∧ row.name = .TU_ACK ∧ row.wide = false := ⟨_, rfl, rfl, rfl⟩
  obtain ⟨row, hlook, hname, hwide⟩ := hrow
  rw [State.applyWrite, hlook]
  dsimp only
  rw [hname, hwide]
  rfl

/-- An acknowledgement under step hold ends it and asks for an initial set; otherwise nothing changes (R69, R70). -/
theorem execTuAckWrite_acks (s : State) (p : Path) (v : BitVec 32) (h : WriteOk s p aTU_ACK 4 (v.setWidth 64)) :
    (v.getLsbD 0 = true → s.tu.stepHold = true → ∃ u, exec (.tuAckWrite p v) s = .next u ∧ u.tu.stepHold = false
      ∧ u.tu.needSet = true ∧ u.tu.rt = s.tu.rt)
    ∧ (v.getLsbD 0 = false ∨ s.tu.stepHold = false → exec (.tuAckWrite p v) s = .next s) := by
  obtain ⟨hq, _⟩ := id h
  have hexec : exec (.tuAckWrite p v) s = .next (State.settle s (s.tuAck (v.setWidth 64 &&& 0xFFFFFFFF))) :=
    (s.commandWrite_ok p _ _ _ h).trans (by rw [s.applyWrite_tuAck])
  have hbit : (v.setWidth 64 &&& 0xFFFFFFFF).getLsbD 0 = v.getLsbD 0 := by simp
  rw [hexec, State.tuAck, hbit]
  refine ⟨fun hv hh => ?_, fun hn => ?_⟩
  · rw [if_pos ⟨hv, hh⟩]
    refine ⟨_, rfl, ?_, ?_, ?_⟩ <;> rw [State.settle_tu, State.retrust_tu] <;> rfl
  · rw [if_neg (by rintro ⟨hv, hh⟩; exact hn.elim (by simp only [hv]; nofun) (by simp [hh])), State.settle_quiet s hq]

/-- Settles O41: each command on PTM, on a correction and on the bound, by the lemmas above. -/
theorem ptmAndCorrections : Obligations.PtmAndCorrections := by
  intro s hq due
  refine ⟨fun h => if_pos h, fun h => if_neg h, fun answer h => if_pos h, fun answer h hh => ?_, fun hr hh hf => ?_,
    fun hr hh hf => execPtmDialogueComplete_lost s hr hh hf, fun master frac e hr hh he => ?_, fun hc hl => ?_, fun h => ?_,
    fun h => ?_, fun h => if_neg h, fun p v h => execTuAckWrite_acks s p v h⟩
  · exact (if_neg (by simp [h])).trans (if_pos hh)
  · refine (execPtmDialogueComplete_failed s hr hh).trans ?_
    rw [hf, if_neg (by decide)]
    exact finish_quiet _ _ hq
  · have hexec := execPtmDialogueComplete_answer s master frac hr hh
    obtain ⟨hfirst, hlost, _⟩ := s.dialogueEnded.ptmAnswer_cases (s.ptmTime master frac) e he
    refine ⟨fun h => ?_, fun p h hlt => ?_, fun p h hle => ?_⟩
    · refine hexec.trans ?_
      rw [hfirst h]
      exact congrArg _ (State.settle_quiet s hq)
    · obtain ⟨_, htrack, hsource, hrt⟩ := (s.dialogueEnded.answered e).losePtm_drops
      refine ⟨_, hexec, ?_⟩
      rw [State.settle_tu, hlost p h hlt]
      exact ⟨rfl, htrack, hsource, hrt⟩
    · exact ⟨_, hexec, s.ptmAnswer_consistent _ e p hq he h hle _ rfl⟩
  · refine ⟨_, (if_pos ⟨hc, hl⟩).trans (finish_next s s.endCorr.retrust), ?_⟩
    rw [State.settle_tu, State.retrust_tu]
    exact ⟨rfl, rfl, rfl⟩
  · exact if_neg fun hcl => h.elim hcl.1 (· hcl.2)
  · refine ⟨_, (if_pos h).trans (finish_next s s.retrust), ?_⟩
    rw [State.settle_tu, State.retrust_tu]
    exact ⟨h, rfl⟩

end Sys2Proof.Machine

namespace Sys2Proof.Machine

open Sys2Proof.Claims

/-! Registers that the collector does not write -/

/-- A register reads as before, and the registers stay in canonical form. -/
def State.KeepsReg (a : Nat) (s u : State) : Prop :=
  (sparseWf regReset s.regs = true → sparseWf regReset u.regs = true) ∧ u.reg a = s.reg a

theorem State.keepsReg_collector {a : Nat} (ha : ¬CollectorReg a) : CollectorClosed (State.KeepsReg a) where
  trans h k := ⟨fun w => k.1 (h.1 w), k.2.trans h.2⟩
  rest h := ⟨fun w => by rw [h]; exact w, State.reg_congr h a⟩
  collect s b v hb := ⟨s.setReg_regsWf b v, s.reg_setReg_ne b a v fun h => ha (h ▸ hb)⟩

/-! ALIVE (R596 to R598) -/

/-- ALIVE, once stopped, stays as it is. -/
def State.StaysStopped (s u : State) : Prop :=
  s.flag aALIVE_STATUS 1 = true → u.reg aALIVE_STATUS = s.reg aALIVE_STATUS

theorem State.staysStopped_closed : ReactionClosed State.StaysStopped where
  trans {s t u} h k hs := (k (by rw [State.flag, h hs]; exact hs)).trans (h hs)
  rest h _ := State.reg_congr h _
  collect s a v ha _ := s.reg_setReg_ne a _ v (by simp only [CollectorReg] at ha; simp only [aALIVE_STATUS]; omega)
  write s a v ha _ := s.reg_setReg_ne a _ v (by simp only [ReactionReg] at ha; simp only [aALIVE_STATUS]; omega)
  aliveStop s cause hs := by rw [State.aliveStop, if_pos hs]

/-- A stop sets its bit, and its cause unless ALIVE had stopped before. -/
theorem State.aliveStop_stops (s : State) (cause : Nat) (hw : sparseWf regReset s.regs = true) :
    (s.aliveStop cause).flag aALIVE_STATUS 1 = true
    ∧ (s.flag aALIVE_STATUS 1 = false → (s.aliveStop cause).fld aALIVE_STATUS 2 2 = cause % 4) := by
  cases h : s.flag aALIVE_STATUS 1 with
  | true => rw [State.aliveStop, if_pos h]; exact ⟨h, nofun⟩
  | false =>
    have hreg : (s.aliveStop cause).reg aALIVE_STATUS
        = ((s.setFlag aALIVE_STATUS 1 true).setFld aALIVE_STATUS 2 2 cause).reg aALIVE_STATUS := by
      rw [State.aliveStop, if_neg (by simp [h])]
      exact State.reg_setReg_ne _ _ _ _ (by decide)
    have hw' : sparseWf regReset (s.setFlag aALIVE_STATUS 1 true).regs = true := s.setReg_regsWf _ _ hw
    have hfld : ((s.setFlag aALIVE_STATUS 1 true).setFld aALIVE_STATUS 2 2 cause).fld aALIVE_STATUS 1 1
        = (s.setFlag aALIVE_STATUS 1 true).fld aALIVE_STATUS 1 1 :=
      State.fld_setFld_disjoint _ _ _ _ _ _ _ hw' (by decide)
    refine ⟨?_, fun _ => ?_⟩
    · rw [State.flag, hreg, State.setFld, State.reg_setReg_same _ _ _ hw', getLsbD_putBits, if_neg (by decide)]
      exact s.flag_setFlag_same _ 1 true hw (by decide)
    · rw [State.fld, hreg]
      exact State.fld_setFld_same _ aALIVE_STATUS 2 2 cause hw' (by decide)

/-- A single event is one reaction, followed by those that it causes. -/
theorem State.raise_eq (s : State) (src idx val : Nat) : s.raise src idx val =
    (s.raiseOne (.plain src idx val)).1.raiseAll 64 (s.raiseOne (.plain src idx val)).2 := rfl

/-- The watchdog's event stops ALIVE with cause 3, and nothing after it restarts ALIVE (R597, R598). -/
theorem execWatchdogExpiry_stops (s : State) (hw : s.regsWf = true) : ∃ u, execWatchdogExpiry s = .next u
    ∧ u.flag aALIVE_STATUS 1 = true ∧ (s.flag aALIVE_STATUS 1 = false → u.fld aALIVE_STATUS 2 2 = 3) := by
  have hP := State.staysStopped_closed
  obtain ⟨hwf, hkeep⟩ := (State.keepsReg_collector (a := aALIVE_STATUS) (by decide)).noted s (.plain 3 0 0)
  obtain ⟨hstop, hcause⟩ := (s.noted (.plain 3 0 0)).aliveStop_stops 3 (hwf hw)
  have hone : State.StaysStopped ((s.noted (.plain 3 0 0)).aliveStop 3) (s.raiseOne (.plain 3 0 0)).1 := by
    rw [s.raiseOne_eq (.plain 3 0 0) rfl _ rfl]
    exact hP.react _ _ _ (by decide)
  have hafter : State.StaysStopped ((s.noted (.plain 3 0 0)).aliveStop 3) (State.settle s (s.raise 3 0 0)) := by
    rw [State.raise_eq]
    exact hP.trans (hP.trans hone (hP.raiseAll _ _ _)) (hP.settle s _)
  have hreg := hafter hstop
  refine ⟨_, finish_next _ _, ?_, fun hs => ?_⟩
  · exact (congrArg (BitVec.getLsbD · 1) hreg).trans hstop
  · exact (congrArg (getBits · 2 2) hreg).trans (hcause ((congrArg (BitVec.getLsbD · 1) hkeep).trans hs))

/-- The toggle of a running ALIVE writes its bit and notes the beat (R596). -/
theorem State.aliveBeat_toggles (s : State) (hw : s.regsWf = true) (hb : s.tu.aliveCycle < s.now / 512000)
    (hs : s.flag aALIVE_STATUS 1 = false) : s.aliveBeat.flag aALIVE_STATUS 0 = (!s.flag aALIVE_STATUS 0)
      ∧ RegsKept s s.aliveBeat [aALIVE_STATUS]
      ∧ s.aliveBeat = { s with regs := s.aliveBeat.regs, tu := { s.tu with aliveCycle := s.now / 512000 } } := by
  have hbeat : s.aliveBeat = State.setFlag { s with tu := { s.tu with aliveCycle := s.now / 512000 } } aALIVE_STATUS 0
      (!s.flag aALIVE_STATUS 0) := (if_pos hb).trans (if_neg (by simp [hs]))
  rw [hbeat]
  refine ⟨State.flag_setFlag_same _ _ _ _ hw (by decide), fun a ha => ?_, rfl⟩
  exact State.reg_setFlag_ne _ _ _ _ _ (by simpa using ha)

/-! Pins and messages (R336, R611) -/

/-- A device-wide event reaches the thread that TT_EVROUTE names, and no other (R336). -/
theorem State.notify_routes (s : State) (b : Nat) (t : Fin 8) (h : s.fld aTT_EVROUTE (3 * (b - 10)) 3 = t.val) :
    ((s.notify b).thread t).events = (s.thread t).events ||| BitVec.ofNat 16 (2 ^ b) ∧ OtherThreads s (s.notify b) t
    ∧ s.notify b = { s with eng := { s.eng with threads := (s.notify b).eng.threads } } := by
  have hnotify : s.notify b = s.setEvents t (BitVec.ofNat 16 (2 ^ b)) := by
    rw [State.notify]
    congr 1
    exact Fin.ext ((congrArg (· % 8) h).trans (Nat.mod_eq_of_lt t.isLt))
  rw [hnotify]
  refine ⟨?_, fun j hj => ?_, rfl⟩
  · rw [State.setEvents, State.thread_setThread_same]
  · rw [State.setEvents, State.thread_setThread_ne _ _ _ _ hj]

/-- A pulse of a pin that is low raises it for 16 ns (R611). -/
theorem State.auxPulse_a (s : State) (h : s.pins.auxEndA = none) : s.auxPulse 0 =
    { s with pins := { s.pins with auxEndA := some (s.cyc + 32) }, outputs := s.outputs ++ [.auxPulse 0] } :=
  if_neg (by simp [h])

theorem State.auxPulse_b (s : State) (h : s.pins.auxEndB = none) : s.auxPulse 1 =
    { s with pins := { s.pins with auxEndB := some (s.cyc + 32) }, outputs := s.outputs ++ [.auxPulse 1] } :=
  if_neg (by simp [h])

/-- The rack cycle whose beat was last noted. -/
def State.pulsed (s : State) : State := { s with tu := { s.tu with pulseCycle := s.now / 32000 } }

/-- A further rack cycle pulses AUX_A and then AUX_B, each if it is owned for function 2 (R611). -/
theorem State.rackBeat_eq (s : State) (h : s.tu.pulseCycle < s.now / 32000) (t : State)
    (ht : t = if s.auxFunc 0 = 2 then s.pulsed.auxPulse 0 else s.pulsed) :
    s.rackBeat = if t.auxFunc 1 = 2 then t.auxPulse 1 else t := by
  subst ht
  exact if_pos h

/-- Settles O43: the beats, pulses and edges are branches of their commands; the watchdog's stop lasts. -/
theorem aliveAndPins : Obligations.AliveAndPins := by
  intro s hq hw
  refine ⟨fun hb hs => ⟨_, rfl, s.aliveBeat_toggles hw hb hs⟩, fun hs => ⟨_, rfl, ?_⟩, fun hb => ?_,
    execWatchdogExpiry_stops s hw, fun hb h0 h1 he => ?_, fun hb h0 h1 he => ?_, fun hb => ?_, fun c hc hle => ?_,
    fun c hc hle => ?_, fun hf ht => ?_, fun hf => ?_, rfl, fun t ht => ⟨_, rfl, s.notify_routes 11 t ht⟩⟩
  · unfold State.aliveBeat
    split
    · dsimp only
    · rfl
  · exact congrArg _ (if_neg (by omega))
  · refine congrArg _ ((s.rackBeat_eq hb _ rfl).trans ?_)
    rw [if_pos h0, s.pulsed.auxPulse_a he]
    exact if_neg h1
  · refine congrArg _ ((s.rackBeat_eq hb _ rfl).trans ?_)
    rw [if_neg h0]
    exact (if_pos h1).trans (s.pulsed.auxPulse_b he)
  · exact congrArg _ (if_neg (by omega))
  · change execAuxPulseEnd 0 s = _
    simp [execAuxPulseEnd, hc, hle]
  · change execAuxPulseEnd 1 s = _
    simp [execAuxPulseEnd, hc, hle]
  · refine (if_pos ⟨rfl, hf⟩).trans ?_
    rw [ht]
    rfl
  · exact if_neg (by simp [hf])

end Sys2Proof.Machine

namespace Sys2Proof.Machine

open Sys2Proof.Claims

/-! An event whose class only records and notifies (R590 to R595) -/

/-- An event of class 2 or less without a master writes what the collector writes. -/
theorem CollectorClosed.raise_mild {P : State → State → Prop} (hP : CollectorClosed P) (s : State) (src idx val : Nat)
    (hk : (faultClass src).isNone = false) (h3 : src ≠ 3) (hcls : s.sourceClass src ≤ 2) : P s (s.raise src idx val) := by
  have hsrc := faultClass_lt src hk
  have hkeep : (s.noted (.plain src idx val)).sourceClass src = s.sourceClass src := by
    obtain ⟨_, hreg⟩ := (State.keepsReg_collector (a := aFC_SRC_CFG src) (by
      simp only [CollectorReg, aFC_SRC_CFG]; omega)).noted s (.plain src idx val)
    rw [State.sourceClass, State.sourceClass, State.fld, hreg, State.fld]
  obtain ⟨cls, hle, hone⟩ : ∃ cls, cls ≤ 2 ∧ s.raiseOne (.plain src idx val)
      = (s.noted (.plain src idx val)).react (.plain src idx val) cls := by
    refine ⟨_, ?_, s.raiseOne_eq (.plain src idx val) hk _ (if_neg h3).symm⟩
    rw [show (FaultEvent.plain src idx val).src = src from rfl, hkeep, actingClass, if_neg (by omega)]
    exact hcls
  have hreact : (s.noted (.plain src idx val)).react (.plain src idx val) cls
      = (if 1 ≤ cls then (s.noted (.plain src idx val)).notifyFault src else s.noted (.plain src idx val), []) :=
    (if_neg (by omega)).trans (if_neg (by omega))
  rw [State.raise_eq, hone, hreact]
  exact hP.trans (hP.noted s _) (rel_ite (hP.notifyFault _ src hsrc) (hP.refl _))

/-! Writes of comparator registers (R84, R608) -/

/-- A value that is not the default reads back from any list. -/
theorem sparseGet_put_ne_default {α : Type} [DecidableEq α] (d : Nat → α) (l : List (Nat × α)) (a : Nat) (v : α)
    (h : v ≠ d a) :
    sparseGet d (sparsePut d l a v) a = v := by
  induction l with
  | nil => simp [sparsePut, h, sparseGet]
  | cons p l ih =>
    obtain ⟨b, w⟩ := p
    unfold sparsePut
    split
    · rename_i hlt
      rw [sparseGet, if_neg (by omega), ih]
    · split <;> simp [sparseGet]

/-- The row of an address, from its name, width and first index. -/
theorem regLookup_row {a i : Nat} {name : RegName} {wide : Bool}
    (h : (regLookup a).map (fun r => (r.1.name, r.1.wide, r.2.1)) = some (name, wide, i)) :
    ∃ row j, regLookup a = some (row, i, j) ∧ row.name = name ∧ row.wide = wide := by
  obtain ⟨⟨row, _, j⟩, hlook, heq⟩ := Option.map_eq_some_iff.mp h
  simp only [Prod.mk.injEq] at heq
  obtain ⟨hname, hwide, rfl⟩ := heq
  exact ⟨row, j, hlook, hname, hwide⟩

theorem State.applyWrite_tcValue (s : State) (n : Fin 64) (v : Word) : s.applyWrite (aTC_VALUE n) v = s.tcValueApply n v := by
  have hrows : ∀ n : Fin 64, (regLookup (aTC_VALUE n)).map (fun r => (r.1.name, r.1.wide, r.2.1))
      = some (.TC_VALUE, true, n.val) := by decide +kernel
  obtain ⟨row, j, hlook, hname, hwide⟩ := regLookup_row (hrows n)
  rw [State.applyWrite, hlook]
  dsimp only
  rw [hname, hwide]
  exact dif_pos n.isLt

theorem State.applyWrite_tcCtrl (s : State) (n : Fin 64) (v : Word) :
    s.applyWrite (aTC_CTRL n) v = s.tcCtrlApply n (v &&& 0xFFFFFFFF) := by
  have hrows : ∀ n : Fin 64, (regLookup (aTC_CTRL n)).map (fun r => (r.1.name, r.1.wide, r.2.1))
      = some (.TC_CTRL, false, n.val) := by decide +kernel
  obtain ⟨row, j, hlook, hname, hwide⟩ := regLookup_row (hrows n)
  rw [State.applyWrite, hlook]
  dsimp only
  rw [hname, hwide]
  exact dif_pos n.isLt

/-- A comparator set in this cycle is not due in it, and is late if its value has been reached (R84). -/
theorem State.tcGovern_sets (s : State) (n : Fin 64) : (s.tcGovern n).tcDue n = false
    ∧ (s.tcGovern n).lateArms.getLsbD n.val = decide ((s.reg (aTC_VALUE n)).toNat ≤ s.now) := by
  constructor
  · have hready : sparseGet (fun _ => 0) (s.tcGovern n).tcReadyAt n.val = s.cyc + 1 :=
      sparseGet_put_ne_default _ _ _ _ (by omega)
    rw [State.tcDue, hready]
    have hlt : ¬s.cyc + 1 ≤ (s.tcGovern n).cyc := Nat.not_succ_le_self s.cyc
    simp [hlt]
  · unfold State.tcGovern
    dsimp only
    split <;> simp_all [n.isLt]

/-- TC_VALUE as written by its owner moves an armed comparator and no other register (R84). -/
theorem State.tcValueApply_sets (s : State) (n : Fin 64) (v : Word) (hw : s.regsWf = true) (u : State)
    (hu : u = s.tcValueApply n v) : u.reg (aTC_VALUE n) = v ∧ RegsKept s u [aTC_VALUE n]
      ∧ (s.tcArmed n = true → u.tcDue n = false ∧ u.lateArms.getLsbD n.val = decide (v.toNat ≤ s.now))
      ∧ u = { s with regs := u.regs, lateArms := u.lateArms, tcReadyAt := u.tcReadyAt } := by
  obtain ⟨t, ht⟩ : ∃ t, t = s.setReg (aTC_VALUE n) v := ⟨_, rfl⟩
  have harmed : t.tcArmed n = s.tcArmed n :=
    ht ▸ congrArg (BitVec.getLsbD · 0) (s.reg_setReg_ne (aTC_VALUE n) (aTC_CTRL n) v
      (by simp only [aTC_VALUE, aTC_CTRL]; omega))
  have hvalue : t.reg (aTC_VALUE n) = v := ht ▸ s.reg_setReg_same _ v hw
  have hcases : u = if s.tcArmed n then t.tcGovern n else t := by rw [hu, ← harmed, ht]; rfl
  have hregs : u.regs = t.regs := by rw [hcases]; split <;> rfl
  have hrest : u = { t with lateArms := u.lateArms, tcReadyAt := u.tcReadyAt } := by rw [hcases]; split <;> rfl
  refine ⟨(State.reg_congr hregs _).trans hvalue, fun a ha => ?_, fun ha => ?_, ?_⟩
  · exact (State.reg_congr hregs a).trans (ht ▸ s.reg_setReg_ne _ a v (by simpa using ha))
  · obtain ⟨hdue, hlate⟩ := t.tcGovern_sets n
    rw [hcases, if_pos ha]
    exact ⟨hdue, hlate.trans (by rw [hvalue, ht]; rfl)⟩
  · rw [hregs]
    exact hrest.trans (by rw [ht]; rfl)

/-! TC_CTRL (R331, R608) -/

/-- The low half of a written word keeps the fields of a 32-bit value. -/
theorem getBits_low32 (v : BitVec 32) (lo n : Nat) :
    getBits (v.setWidth 64 &&& 0xFFFFFFFF) lo n = v.toNat / 2 ^ lo % 2 ^ n := by
  have hlow : (v.setWidth 64 &&& 0xFFFFFFFF : Word).toNat = v.toNat := by
    have hv := v.isLt
    rw [BitVec.toNat_and, BitVec.toNat_setWidth_of_le (by omega)]
    exact (Nat.and_two_pow_sub_one_eq_mod v.toNat 32).trans (Nat.mod_eq_of_lt hv)
  rw [getBits, BitVec.toNat_ushiftRight, hlow, Nat.shiftRight_eq_div_pow]

/-- The word of TC_CTRL with an arm bit, a target and an index. -/
def tcCtrlWord (arm : Bool) (target index : Nat) : Word :=
  if arm then packBits [(0, 1, 1), (4, 4, target), (8, 5, index)] else packBits [(4, 4, target), (8, 5, index)]

/-- The fields of the word of TC_CTRL read back. -/
theorem tcCtrlWord_fields (arm : Bool) (target index : Nat) (ht : target < 16) (hi : index < 32) :
    (tcCtrlWord arm target index).getLsbD 0 = arm ∧ getBits (tcCtrlWord arm target index) 4 4 = target
    ∧ getBits (tcCtrlWord arm target index) 8 5 = index := by
  have htarget : getBits (packBits [(4, 4, target), (8, 5, index)]) 4 4 = target :=
    (getBits_putBits_same _ _ _ _ (by omega)).trans (Nat.mod_eq_of_lt ht)
  have hindex : getBits (packBits [(4, 4, target), (8, 5, index)]) 8 5 = index :=
    ((getBits_putBits_disjoint _ _ _ _ _ _ (by omega)).trans (getBits_putBits_same _ _ _ _ (by omega))).trans
      (Nat.mod_eq_of_lt hi)
  cases arm with
  | false =>
    refine ⟨?_, htarget, hindex⟩
    rw [tcCtrlWord, if_neg (by simp), packBits, getLsbD_putBits, if_neg (by omega), packBits, getLsbD_putBits,
      if_neg (by omega)]
    rfl
  | true =>
    refine ⟨?_, (getBits_putBits_disjoint _ _ _ _ _ _ (by omega)).trans htarget,
      (getBits_putBits_disjoint _ _ _ _ _ _ (by omega)).trans hindex⟩
    rw [tcCtrlWord, if_pos rfl, packBits, getLsbD_putBits]
    rfl

/-- A legal TC_CTRL arms or disarms with its target and index. -/
theorem State.tcCtrlApply_legal (s : State) (n : Fin 64) (v : Word) (hok : targetOk (getBits v 4 4) (getBits v 8 5) = true)
    (hpin : getBits v 4 4 ≠ 7 ∨ s.auxOwner (getBits v 8 5) = s.tcOwner n) (hw : s.regsWf = true) (u : State)
    (hu : u = s.tcCtrlApply n v) : u.tcArmed n = v.getLsbD 0 ∧ u.tcTarget n = getBits v 4 4 ∧ u.tcIndex n = getBits v 8 5
      ∧ RegsKept s u [aTC_CTRL n] ∧ u = { s with regs := u.regs, lateArms := u.lateArms, tcReadyAt := u.tcReadyAt } := by
  obtain ⟨harm, htarget, hindex⟩ := tcCtrlWord_fields (v.getLsbD 0) _ _ (getBits_lt v 4 4) (getBits_lt v 8 5)
  obtain ⟨t, ht⟩ : ∃ t, t = s.setReg (aTC_CTRL n) (tcCtrlWord (v.getLsbD 0) (getBits v 4 4) (getBits v 8 5)) := ⟨_, rfl⟩
  have hcases : u = if v.getLsbD 0 then t.tcGovern n else t := by
    have hgood : ¬(targetOk (getBits v 4 4) (getBits v 8 5) = false ∨
        (v.getLsbD 0 && getBits v 4 4 == 7 && (s.auxOwner (getBits v 8 5) != s.tcOwner n)) = true) := by
      rcases hpin with h | h <;> simp [hok, h]
    rw [hu, ht]
    refine (if_neg hgood).trans ?_
    cases v.getLsbD 0 <;> rfl
  have hregs : u.regs = t.regs := by rw [hcases]; split <;> rfl
  have hrest : u = { t with lateArms := u.lateArms, tcReadyAt := u.tcReadyAt } := by rw [hcases]; split <;> rfl
  have hctrl : u.reg (aTC_CTRL n) = tcCtrlWord (v.getLsbD 0) (getBits v 4 4) (getBits v 8 5) :=
    (State.reg_congr hregs _).trans (ht ▸ s.reg_setReg_same _ _ hw)
  refine ⟨by rw [State.tcArmed, State.flag, hctrl, harm], by rw [State.tcTarget, State.fld, hctrl, htarget],
    by rw [State.tcIndex, State.fld, hctrl, hindex], fun a ha => ?_, ?_⟩
  · exact (State.reg_congr hregs a).trans (ht ▸ s.reg_setReg_ne _ a _ (by simpa using ha))
  · rw [hregs]
    exact hrest.trans (by rw [ht]; rfl)

/-- An illegal target or index is BAD_TARGET, and the comparator is not armed. -/
theorem State.tcCtrlApply_bad (s : State) (n : Fin 64) (v : Word) (hok : targetOk (getBits v 4 4) (getBits v 8 5) = false)
    (hw : s.regsWf = true) (u : State) (hu : u = s.tcCtrlApply n v) :
    u.tcArmed n = false ∧ u.flag (aTC_STATUS n) 5 = true ∧ RegsKept s u [aTC_CTRL n, aTC_STATUS n]
    ∧ u = { s with regs := u.regs } := by
  obtain ⟨harm, _⟩ := tcCtrlWord_fields false _ _ (getBits_lt v 4 4) (getBits_lt v 8 5)
  have hbad : u = (s.setReg (aTC_CTRL n) (tcCtrlWord false (getBits v 4 4) (getBits v 8 5))).setFlag (aTC_STATUS n) 5 true :=
    hu.trans (if_pos (.inl hok))
  have hne : aTC_CTRL n ≠ aTC_STATUS n := by simp only [aTC_CTRL, aTC_STATUS]; omega
  rw [hbad]
  refine ⟨?_, State.flag_setFlag_same _ _ _ _ (s.setReg_regsWf _ _ hw) (by decide), fun a ha => ?_, rfl⟩
  · rw [State.tcArmed, State.flag, State.reg_setFlag_ne _ _ _ _ _ hne, s.reg_setReg_same _ _ hw, harm]
  · simp only [List.mem_cons, List.not_mem_nil, or_false, not_or] at ha
    rw [State.reg_setFlag_ne _ _ _ _ _ ha.2, s.reg_setReg_ne _ _ _ ha.1]

/-! Firing (R65, R66, R83, R85, R86) -/

/-- What an occurrence leaves of a comparator: disarmed without a period, moved on past RT with one (R85). -/
def State.tcMoved (s u : State) (n : Fin 64) : Prop :=
  (s.fld (aTC_PERIOD n) 0 32 = 0 → u.tcArmed n = false ∧ u.reg (aTC_VALUE n) = s.reg (aTC_VALUE n))
  ∧ (0 < s.fld (aTC_PERIOD n) 0 32 → u.tcArmed n = true ∧ u.reg (aTC_VALUE n) = BitVec.ofNat 64
      ((s.reg (aTC_VALUE n)).toNat + s.fld (aTC_PERIOD n) 0 32 *
        ((s.now - (s.reg (aTC_VALUE n)).toNat) / s.fld (aTC_PERIOD n) 0 32 + 1)))

/-- It rests on the comparator's registers and RT alone. -/
theorem State.tcMoved_congr {s s' u u' : State} (n : Fin 64) (hs : ∀ a ∈ [aTC_VALUE n, aTC_PERIOD n], s'.reg a = s.reg a)
    (ht : s'.tu = s.tu) (hu : ∀ a ∈ [aTC_VALUE n, aTC_CTRL n], u'.reg a = u.reg a) (h : s'.tcMoved u n) :
    s.tcMoved u' n := by
  have hnow : s'.now = s.now := congrArg (fun u : TimeUnit => u.rt.toNat / 2 ^ 32) ht
  simp only [List.mem_cons, List.not_mem_nil, or_false, forall_eq_or_imp, forall_eq] at hs hu
  simp only [State.tcMoved, State.tcArmed, State.flag, State.fld, hs, hu, hnow] at h ⊢
  exact h

/-- An occurrence of an armed comparator whose value has been reached disarms it or moves it on. -/
theorem State.tcAdvance_moves (s : State) (n : Fin 64) (hw : sparseWf regReset s.regs = true) (ha : s.tcArmed n = true)
    (hv : (s.reg (aTC_VALUE n)).toNat ≤ s.now) : s.tcMoved (s.tcAdvance n) n := by
  have hne : aTC_VALUE n ≠ aTC_CTRL n := by simp only [aTC_VALUE, aTC_CTRL]; omega
  refine ⟨fun hp => ?_, fun hp => ?_⟩
  · have hadv : s.tcAdvance n = State.tcDisarm { s with lateArms := s.lateArms &&& ~~~(1#64 <<< n.val) } n := if_pos hp
    rw [hadv]
    exact ⟨State.flag_setFlag_same _ _ _ _ hw (by decide), State.reg_setFlag_ne _ _ _ _ _ hne⟩
  · have hadv : s.tcAdvance n = State.setReg { s with lateArms := s.lateArms &&& ~~~(1#64 <<< n.val) } (aTC_VALUE n)
        (BitVec.ofNat 64 (nextPeriod (s.reg (aTC_VALUE n)).toNat (s.fld (aTC_PERIOD n) 0 32) s.now)) := if_neg (by omega)
    rw [hadv]
    refine ⟨(congrArg (BitVec.getLsbD · 0) (State.reg_setReg_ne _ _ _ _ hne.symm)).trans ha, ?_⟩
    exact (State.reg_setReg_same _ _ _ hw).trans (congrArg _ (if_neg (by omega)))

/-- It writes TC_CTRL or TC_VALUE, and no other register. -/
theorem State.tcAdvance_keeps (s : State) (n : Fin 64) : RegsKept s (s.tcAdvance n) [aTC_VALUE n, aTC_CTRL n] := by
  intro a ha
  simp only [List.mem_cons, List.not_mem_nil, or_false, not_or] at ha
  unfold State.tcAdvance
  dsimp only
  split
  · exact State.reg_setFlag_ne _ _ _ _ _ ha.2
  · exact State.reg_setReg_ne _ _ _ _ ha.1

theorem State.tcAdvance_frame (s : State) (n : Fin 64) :
    s.tcAdvance n = { s with regs := (s.tcAdvance n).regs, lateArms := (s.tcAdvance n).lateArms } := by
  unfold State.tcAdvance
  dsimp only
  split <;> rfl

/-- A bit of a register is set where the condition holds. -/
def State.markIf (s : State) (c : Bool) (a i : Nat) : State := if c then s.setFlag a i true else s

theorem State.markIf_marks (s : State) (c : Bool) (a i : Nat) (hw : sparseWf regReset s.regs = true) (hi : i < 64) :
    (∀ j, (s.markIf c a i).flag a j = (decide (j = i) && c || s.flag a j)) ∧ RegsKept s (s.markIf c a i) [a]
    ∧ sparseWf regReset (s.markIf c a i).regs = true ∧ s.markIf c a i = { s with regs := (s.markIf c a i).regs } := by
  cases c with
  | false => exact ⟨fun j => by simp [State.markIf], fun _ _ => rfl, hw, rfl⟩
  | true =>
    refine ⟨fun j => ?_, fun b hb => s.reg_setFlag_ne _ _ _ _ (by simpa using hb), s.setReg_regsWf _ _ hw, rfl⟩
    by_cases hj : j = i
    · rw [hj]
      exact (s.flag_setFlag_same a i true hw hi).trans (by simp)
    · exact (s.flag_setFlag_other a i j true hw hj).trans (by simp [hj])

/-- The status bits of an occurrence that fires: OVERRUN where FIRED stood already, FIRED, and LATE. -/
def State.tcStatus (s : State) (n : Fin 64) (late : Bool) : State :=
  ((s.markIf (s.flag (aTC_STATUS n) 0) (aTC_STATUS n) 4).markIf true (aTC_STATUS n) 0).markIf late (aTC_STATUS n) 1

theorem State.tcStatus_sets (s : State) (n : Fin 64) (late : Bool) (hw : sparseWf regReset s.regs = true) :
    (s.tcStatus n late).flag (aTC_STATUS n) 0 = true
    ∧ (s.tcStatus n late).flag (aTC_STATUS n) 4 = (s.flag (aTC_STATUS n) 0 || s.flag (aTC_STATUS n) 4)
    ∧ (s.tcStatus n late).flag (aTC_STATUS n) 1 = (late || s.flag (aTC_STATUS n) 1)
    ∧ RegsKept s (s.tcStatus n late) [aTC_STATUS n] ∧ sparseWf regReset (s.tcStatus n late).regs = true
    ∧ s.tcStatus n late = { s with regs := (s.tcStatus n late).regs } := by
  obtain ⟨hflag1, hkeep1, hwf1, hrest1⟩ := s.markIf_marks (s.flag (aTC_STATUS n) 0) (aTC_STATUS n) 4 hw (by decide)
  obtain ⟨hflag2, hkeep2, hwf2, hrest2⟩ := State.markIf_marks _ true (aTC_STATUS n) 0 hwf1 (by decide)
  obtain ⟨hflag3, hkeep3, hwf3, hrest3⟩ := State.markIf_marks _ late (aTC_STATUS n) 1 hwf2 (by decide)
  unfold State.tcStatus
  refine ⟨?_, ?_, ?_, fun a ha => (hkeep3 a ha).trans ((hkeep2 a ha).trans (hkeep1 a ha)), hwf3, ?_⟩
  · simp [hflag3, hflag2]
  · simp [hflag3, hflag2, hflag1]
  · simp [hflag3, hflag2, hflag1]
  · exact hrest3.trans (by rw [hrest2, hrest1])

/-- An occurrence whose tolerance allows it sets its status, advances and has its target's effect. -/
theorem State.tcFire_allowed (s : State) (n : Fin 64) (late : Bool)
    (h : s.fld (aTC_TOL n) 0 32 = 0 ∨ s.boundNow ≤ s.fld (aTC_TOL n) 0 32) :
    s.tcFire n late = ((s.tcStatus n late).tcAdvance n).tcAct n (s.tcTarget n) (s.tcIndex n) late :=
  if_neg (by omega)

/-- One whose tolerance lies below the bound is refused, with source 26; target 0 has nothing to undo. -/
theorem State.tcFire_refused (s : State) (n : Fin 64) (late : Bool)
    (h : ¬(s.fld (aTC_TOL n) 0 32 = 0 ∨ s.boundNow ≤ s.fld (aTC_TOL n) 0 32)) (ht : s.tcTarget n = 0) :
    s.tcFire n late = ((s.setFlag (aTC_STATUS n) 2 true).tcAdvance n).raise 26 n (s.fld (aTC_TOL n) 0 32) := by
  refine (if_pos (by omega)).trans ?_
  rw [ht]
  rfl

/-- The registers of the comparator that the advance reads or writes are not its status. -/
theorem tcStatus_ne (n : Fin 64) : ∀ a ∈ [aTC_VALUE n, aTC_PERIOD n, aTC_CTRL n], a ∉ [aTC_STATUS n] := by
  simp only [aTC_VALUE, aTC_PERIOD, aTC_CTRL, aTC_STATUS, List.mem_cons, List.not_mem_nil, or_false]
  omega

/-- The advance does not write the status. -/
theorem tcStatus_notMem (n : Fin 64) : aTC_STATUS n ∉ [aTC_VALUE n, aTC_CTRL n] := by
  simp only [aTC_VALUE, aTC_CTRL, aTC_STATUS, List.mem_cons, List.not_mem_nil, or_false]
  omega

/-- A due comparator whose status alone has been written advances as it would have. -/
theorem State.tcAdvance_after (s t : State) (n : Fin 64) (hk : RegsKept s t [aTC_STATUS n]) (ht : t.tu = s.tu)
    (hw : sparseWf regReset t.regs = true) (hd : s.tcDue n = true) : s.tcMoved (t.tcAdvance n) n := by
  have hregs : ∀ a ∈ [aTC_VALUE n, aTC_PERIOD n, aTC_CTRL n], t.reg a = s.reg a := fun a ha => hk a (tcStatus_ne n a ha)
  have hnow : t.now = s.now := congrArg (fun u : TimeUnit => u.rt.toNat / 2 ^ 32) ht
  simp only [State.tcDue, Bool.and_eq_true, decide_eq_true_eq] at hd
  obtain ⟨⟨harm, hle⟩, _⟩ := hd
  simp only [List.mem_cons, List.not_mem_nil, or_false, forall_eq_or_imp, forall_eq] at hregs
  obtain ⟨hvalue, hperiod, hctrl⟩ := hregs
  refine State.tcMoved_congr n ?_ ht (fun _ _ => rfl) (t.tcAdvance_moves n hw ?_ ?_)
  · simp [hvalue, hperiod]
  · rwa [State.tcArmed, State.flag, hctrl]
  · rwa [hvalue, hnow]

/-- An allowed occurrence before its target acts: its status, its advance, and nothing beyond its own registers. -/
theorem State.tcFired_sets (s : State) (n : Fin 64) (late : Bool) (hw : s.regsWf = true) (hd : s.tcDue n = true) (u : State)
    (hu : u = (s.tcStatus n late).tcAdvance n) : u.flag (aTC_STATUS n) 0 = true
      ∧ u.flag (aTC_STATUS n) 4 = (s.flag (aTC_STATUS n) 0 || s.flag (aTC_STATUS n) 4)
      ∧ u.flag (aTC_STATUS n) 1 = (late || s.flag (aTC_STATUS n) 1)
      ∧ s.tcMoved u n ∧ RegsKept s u (tcRegs n) ∧ u = { s with regs := u.regs, lateArms := u.lateArms } := by
  obtain ⟨hfired, hoverrun, hlate, hkeep, hwf, hrest⟩ := s.tcStatus_sets n late hw
  have hstatus : u.reg (aTC_STATUS n) = (s.tcStatus n late).reg (aTC_STATUS n) :=
    hu ▸ (s.tcStatus n late).tcAdvance_keeps n _ (tcStatus_notMem n)
  have hbit : ∀ i, u.flag (aTC_STATUS n) i = (s.tcStatus n late).flag (aTC_STATUS n) i := fun i =>
    congrArg (BitVec.getLsbD · i) hstatus
  refine ⟨(hbit 0).trans hfired, (hbit 4).trans hoverrun, (hbit 1).trans hlate, ?_, fun a ha => ?_, ?_⟩
  · exact hu ▸ s.tcAdvance_after _ n hkeep (by rw [hrest]) hwf hd
  · simp only [tcRegs, List.mem_cons, List.not_mem_nil, or_false, not_or] at ha
    obtain ⟨hvalue, _, _, hctrl, hst, _⟩ := ha
    rw [hu, (s.tcStatus n late).tcAdvance_keeps n a (by simp [hvalue, hctrl]), hkeep a (by simpa using hst)]
  · rw [hu]
    exact ((s.tcStatus n late).tcAdvance_frame n).trans (by rw [hrest])

/-- A refused occurrence with target 0: FAULT is set, the comparator advances, and the event's class only records. -/
theorem State.tcRefused_sets (s : State) (n : Fin 64) (late : Bool) (hw : s.regsWf = true) (hd : s.tcDue n = true)
    (htol : ¬(s.fld (aTC_TOL n) 0 32 = 0 ∨ s.boundNow ≤ s.fld (aTC_TOL n) 0 32)) (ht : s.tcTarget n = 0)
    (hcls : s.sourceClass 26 ≤ 2) (u : State) (hu : u = State.settle s (s.tcFire n late)) :
    u.flag (aTC_STATUS n) 2 = true ∧ u.flag (aTC_STATUS n) 0 = s.flag (aTC_STATUS n) 0 ∧ s.tcMoved u n ∧ u.tu = s.tu := by
  obtain ⟨t, hset⟩ : ∃ t, t = (s.setFlag (aTC_STATUS n) 2 true).tcAdvance n := ⟨_, rfl⟩
  have hwf := s.setReg_regsWf (aTC_STATUS n) (putBits (s.reg (aTC_STATUS n)) 2 1 (bit true)) hw
  have hmark : RegsKept s (s.setFlag (aTC_STATUS n) 2 true) [aTC_STATUS n] := fun a ha =>
    s.reg_setFlag_ne _ _ _ _ (by simpa using ha)
  have hkeep : RegsKept s t [aTC_STATUS n, aTC_VALUE n, aTC_CTRL n] := fun a ha => by
    simp only [List.mem_cons, not_or] at ha
    rw [hset, State.tcAdvance_keeps _ n a (by simpa using ha.2), hmark a (by simpa using ha.1)]
  have hstatus : t.reg (aTC_STATUS n) = (s.setFlag (aTC_STATUS n) 2 true).reg (aTC_STATUS n) :=
    hset ▸ State.tcAdvance_keeps _ n _ (tcStatus_notMem n)
  have hclass : t.sourceClass 26 = s.sourceClass 26 := by
    rw [State.sourceClass, State.sourceClass, State.fld, State.fld, hkeep]
    simp only [aFC_SRC_CFG, aTC_VALUE, aTC_CTRL, aTC_STATUS, List.mem_cons, List.not_mem_nil, or_false]
    omega
  have hquiet : ∀ a, ¬CollectorReg a → u.reg a = t.reg a := fun a ha => by
    have hP := State.keepsReg_collector ha
    rw [hu, s.tcFire_refused n late htol ht, ← hset]
    exact (hP.trans (hP.raise_mild t 26 n _ rfl (by decide) (hclass ▸ hcls)) (hP.settle s _)).2
  have hown : ∀ a, a < 0xE0100 → u.reg a = t.reg a := fun a ha => hquiet a (by simp only [CollectorReg]; omega)
  have hbit : ∀ i, u.flag (aTC_STATUS n) i = (s.setFlag (aTC_STATUS n) 2 true).flag (aTC_STATUS n) i := fun i =>
    congrArg (BitVec.getLsbD · i) ((hown _ (by simp only [aTC_STATUS]; omega)).trans hstatus)
  refine ⟨(hbit 2).trans (s.flag_setFlag_same _ _ _ hw (by decide)),
    (hbit 0).trans (s.flag_setFlag_other _ _ _ _ hw (by decide)), ?_, ?_⟩
  · refine State.tcMoved_congr n (fun _ _ => rfl) rfl (fun a ha => hown a ?_)
      (hset ▸ s.tcAdvance_after _ n hmark rfl hwf hd)
    simp only [aTC_VALUE, aTC_CTRL, List.mem_cons, List.not_mem_nil, or_false] at ha
    omega
  · rw [hu, State.settle_tu, s.tcFire_refused n late htol ht, State.raise_tu, ClockFrame.tcAdvance_tu, State.setFlag_tu]

/-- A read of TU_RT latches the fraction and answers integer RT (R41). -/
theorem State.readAnswer_tuRt (s : State) (p : Path) : s.readAnswer p aTU_RT 8 =
    (s.setReg aTU_RT_FRAC (BitVec.ofNat 64 s.rtFrac)).emit (.regValue p s.nowW) := by
  have hrow : ∃ row, regLookup aTU_RT = some (row, 0, 0) ∧ row.name = .TU_RT := ⟨_, rfl, rfl⟩
  obtain ⟨row, hlook, hname⟩ := hrow
  have hread : s.readReg p aTU_RT 8 = (s.setReg aTU_RT_FRAC (BitVec.ofNat 64 s.rtFrac), some s.nowW) := by
    rw [State.readReg, if_pos (by decide), State.readEffects, State.peek, hlook]
    dsimp only
    rw [hname]
    rfl
  rw [State.readAnswer, hread]

theorem execComparatorFire_due (s : State) (n : Fin 64) (hd : s.tcDue n = true) : exec (.comparatorFire n) s =
    .next (State.settle s (s.tcFire n (s.lateArms.getLsbD n.val))) := if_pos hd

/-- Settles O42: the reads and writes of the comparator registers, and an occurrence allowed or refused, by the lemmas above. -/
theorem comparators : Obligations.Comparators := by
  intro s n p hq hw moved allowed
  refine ⟨fun hopen => ?_, fun v h => ?_, fun v target index h htarget hindex => ?_, fun hd hal ht => ?_,
    fun t hd hal ht hi => ?_, fun hd hal ht hcls => ?_, fun hd => if_neg (by simp [hd])⟩
  · refine ⟨_, (if_pos hopen).trans (finish_next s _), ?_, ?_⟩
    · rw [State.settle_outputs, s.readAnswer_tuRt]
      rfl
    · rw [State.settle_tu, s.readAnswer_tuRt]
      rfl
  · have hsets := s.tcValueApply_sets n v hw _ rfl
    obtain ⟨_, _, _, hframe⟩ := id hsets
    refine ⟨_, (s.commandWrite_ok p _ _ _ h).trans ?_, hsets⟩
    rw [s.applyWrite_tcValue, State.settle_quiet s ((congrArg State.snapDue hframe).trans hq)]
  · obtain ⟨w, hword⟩ : ∃ w : Word, w = v.setWidth 64 &&& 0xFFFFFFFF := ⟨_, rfl⟩
    have htgt : getBits w 4 4 = target := hword ▸ (getBits_low32 v 4 4).trans htarget.symm
    have hidx : getBits w 8 5 = index := hword ▸ (getBits_low32 v 8 5).trans hindex.symm
    have harm : w.getLsbD 0 = v.getLsbD 0 := by simp [hword]
    have hexec : (s.tcCtrlApply n w).snapDue = false → exec (.tcCtrlWrite p n v) s = .next (s.tcCtrlApply n w) :=
      fun hsnap => (s.commandWrite_ok p _ _ _ h).trans
        (by rw [s.applyWrite_tcCtrl, ← hword, State.settle_quiet s hsnap])
    rw [← htgt, ← hidx, ← harm]
    refine ⟨fun hok hpin => ?_, fun hbad => ?_⟩
    · have hsets := s.tcCtrlApply_legal n w hok hpin hw _ rfl
      obtain ⟨_, _, _, _, hframe⟩ := id hsets
      exact ⟨_, hexec ((congrArg State.snapDue hframe).trans hq), hsets⟩
    · have hsets := s.tcCtrlApply_bad n w hbad hw _ rfl
      obtain ⟨_, _, _, hframe⟩ := id hsets
      exact ⟨_, hexec ((congrArg State.snapDue hframe).trans hq), hsets⟩
  · have hsets := s.tcFired_sets n (s.lateArms.getLsbD n.val) hw hd _ rfl
    obtain ⟨_, _, _, _, _, hframe⟩ := id hsets
    refine ⟨_, (execComparatorFire_due s n hd).trans ?_, hsets⟩
    rw [s.tcFire_allowed n _ hal, ht]
    exact congrArg _ (State.settle_quiet s ((congrArg State.snapDue hframe).trans hq))
  · obtain ⟨_, _, _, hmoved, _, hframe⟩ := s.tcFired_sets n (s.lateArms.getLsbD n.val) hw hd _ rfl
    obtain ⟨u, hu⟩ : ∃ u, u = (s.tcStatus n (s.lateArms.getLsbD n.val)).tcAdvance n := ⟨_, rfl⟩
    rw [← hu] at hmoved hframe
    have hact : u.tcAct n 1 t (s.lateArms.getLsbD n.val) = u.setEvents t 0x100 := dif_pos t.isLt
    refine ⟨u.setEvents t 0x100, (execComparatorFire_due s n hd).trans ?_, ?_, hmoved⟩
    · rw [s.tcFire_allowed n _ hal, ht, hi, ← hu, hact]
      exact congrArg _ (State.settle_quiet s ((congrArg State.snapDue hframe).trans hq))
    · rw [State.setEvents, State.thread_setThread_same, hframe]
      rfl
  · exact ⟨_, execComparatorFire_due s n hd, s.tcRefused_sets n _ hw hd hal ht hcls _ rfl⟩

end Sys2Proof.Machine

namespace Sys2Proof.Machine

open Sys2Proof.Claims

/-! The opening of a halt: reads held, banks closed, and what both leave as it is -/

/-- What an opening changes on the channels alone leaves the schedule, the stores and the registers of the halts as they
are. -/
structure State.HoldFrame (s u : State) : Prop where
  halt : u.halt = s.halt
  dram : u.dram = s.dram
  mem : u.mem = s.mem
  cache : u.cache = s.cache
  reg : ∀ a, 0x60000 ≤ a → a < 0x61000 → u.reg a = s.reg a

theorem State.HoldFrame.refl (s : State) : s.HoldFrame s := ⟨rfl, rfl, rfl, rfl, fun _ _ _ => rfl⟩

theorem State.HoldFrame.trans {s t u : State} (h : s.HoldFrame t) (k : t.HoldFrame u) : s.HoldFrame u :=
  ⟨k.halt.trans h.halt, k.dram.trans h.dram, k.mem.trans h.mem, k.cache.trans h.cache,
    fun a h1 h2 => (k.reg a h1 h2).trans (h.reg a h1 h2)⟩

/-- A held read counts on its channel and its head, outside the registers of the halts (R192, R249). -/
theorem State.HoldFrame.countHeld (s : State) (c : Fin 32) (src : Src) : s.HoldFrame (s.countHeld c src) := by
  obtain ⟨rs, h⟩ := s.countHeld_changes c src
  refine ⟨by rw [h], by rw [h], by rw [h], by rw [h], fun a h1 h2 => ?_⟩
  have hc : (s.bump (aCH_HELD c) 0 32 1).reg a = s.reg a := s.reg_bump_ne _ _ _ _ _ (by simp only [aCH_HELD]; omega)
  unfold State.countHeld
  cases src with
  | head k => exact (State.reg_bump_ne _ _ _ _ _ _ (by simp only [aHD_HALT_HELD]; omega)).trans hc
  | _ => exact hc

/-- The counts of a channel's held reads change registers alone. -/
theorem State.countHelds_frame (s : State) (c : Fin 32) (es : List PoolEntry) (t : State)
    (ht : t = es.foldl (fun s e => s.countHeld c e.req.src) s) : s.HoldFrame t ∧ t.chans = s.chans := by
  subst ht
  induction es generalizing s with
  | nil => exact ⟨.refl s, rfl⟩
  | cons e es ih =>
    obtain ⟨rs, h⟩ := s.countHeld_changes c e.req.src
    obtain ⟨hf, hc⟩ := ih (s.countHeld c e.req.src)
    exact ⟨(State.HoldFrame.countHeld s c e.req.src).trans hf, hc.trans (by rw [h])⟩

/-- A channel's reads are held: its pool alone changes among the channels (R249). -/
theorem State.holdReads_frame (s : State) (c : Fin 32) : s.HoldFrame (s.holdReads c)
    ∧ (∀ d, d ≠ c → (s.holdReads c).chan d = s.chan d)
    ∧ ∃ es, (s.holdReads c).chan c = { s.chan c with pool := es } := by
  unfold State.holdReads
  dsimp only
  generalize ht : ((s.chan c).pool.filter _).foldl _ s = t
  obtain ⟨hf, hc⟩ := s.countHelds_frame c _ t ht.symm
  refine ⟨⟨hf.halt, hf.dram, hf.mem, hf.cache, hf.reg⟩, fun d hd => ?_, _, State.chan_setChan_same _ _ _⟩
  rw [State.chan_setChan_ne _ _ _ _ hd, State.chan, State.chan, hc]

/-- A channel as a halt opens: its banks close and its reads without an RD are held, unless it is in self-refresh (R225,
R248). -/
def State.haltChannel (s : State) (c : Fin 32) : State :=
  if (s.chan c).selfRefresh then s else (s.setChan c ((s.chan c).preh s.cyc)).holdReads c

/-- A channel that no open row is left on, unless it is in self-refresh. -/
def Channel.Closed (ch : Channel) : Prop := ch.selfRefresh = false → ∀ b ∈ ch.banks, b.2.row = none

/-- The opening on one channel closes it, keeps every channel closed that was, and leaves self-refresh as it is. -/
theorem State.haltChannel_closes (s : State) (c : Fin 32) : s.HoldFrame (s.haltChannel c)
    ∧ ((s.haltChannel c).chan c).Closed
    ∧ ∀ d, ((s.haltChannel c).chan d).selfRefresh = (s.chan d).selfRefresh
      ∧ ((s.chan d).Closed → ((s.haltChannel c).chan d).Closed) := by
  unfold State.haltChannel
  split
  · rename_i h
    exact ⟨.refl s, fun hs => absurd hs (by simp [h]), fun d => ⟨rfl, id⟩⟩
  · obtain ⟨hf, hne, es, hc⟩ := (s.setChan c ((s.chan c).preh s.cyc)).holdReads_frame c
    rw [State.chan_setChan_same] at hc
    have hclosed : (((s.setChan c ((s.chan c).preh s.cyc)).holdReads c).chan c).Closed := fun _ => by
      rw [hc]
      intro b hb
      obtain ⟨_, _, rfl⟩ := List.mem_map.mp hb
      rfl
    refine ⟨⟨hf.halt, hf.dram, hf.mem, hf.cache, hf.reg⟩, hclosed, fun d => ?_⟩
    by_cases hd : d = c
    · subst hd
      exact ⟨by rw [hc]; rfl, fun _ => hclosed⟩
    · rw [hne d hd, State.chan_setChan_ne _ _ _ _ hd]
      exact ⟨rfl, id⟩

/-- So does the opening on a list of channels, for each of them. -/
theorem State.haltChannels_close (s : State) (cs : List (Fin 32)) (t : State) (ht : t = cs.foldl State.haltChannel s) :
    s.HoldFrame t ∧ ∀ d, (t.chan d).selfRefresh = (s.chan d).selfRefresh
      ∧ (d ∈ cs ∨ (s.chan d).Closed → (t.chan d).Closed) := by
  subst ht
  induction cs generalizing s with
  | nil => exact ⟨.refl s, fun d => ⟨rfl, fun h => h.resolve_left (by simp)⟩⟩
  | cons c cs ih =>
    obtain ⟨hf, hcl, hd⟩ := s.haltChannel_closes c
    obtain ⟨kf, kd⟩ := ih (s.haltChannel c)
    refine ⟨hf.trans kf, fun d => ⟨(kd d).1.trans (hd d).1, fun h => (kd d).2 ?_⟩⟩
    rcases h with h | h
    · rcases List.mem_cons.mp h with rfl | h
      · exact .inr hcl
      · exact .inl h
    · exact .inr ((hd d).2 h)

/-- The timetable as a halt opens in this cycle (R251, R255, R257). -/
def State.haltStarted (s : State) : State :=
  { s with halt := { s.halt with openAt := some s.cyc, refabDone := false, lastOpen := s.cyc, deferred := 0,
                                 preclosed := false, actStopped := false } }

/-- The registers that tell it (R259). -/
def State.haltMarked (s : State) : State := (s.haltStarted.setReg aHALT_LAST s.nowW).bump aHALT_COUNT 0 64 1

theorem State.openHalt_eq (s : State) (h : s.pins.held = false) :
    s.openHalt = (List.finRange 32).foldl State.haltChannel s.haltMarked := by
  rw [State.openHalt, if_neg (by simp [h])]
  rfl

/-- While the device is held in reset nothing opens (R116). -/
theorem State.openHalt_held (s : State) (h : s.pins.held = true) : s.openHalt = s := if_pos h

theorem State.haltMarked_tells (s : State) (hw : s.regsWf = true) : s.haltMarked.reg aHALT_LAST = s.nowW
    ∧ (s.haltMarked.reg aHALT_COUNT).toNat = min ((s.reg aHALT_COUNT).toNat + 1) (2 ^ 64 - 1) := by
  have hlast : (s.haltStarted.setReg aHALT_LAST s.nowW).reg aHALT_COUNT = s.reg aHALT_COUNT :=
    s.haltStarted.reg_setReg_ne _ _ _ (by decide)
  refine ⟨(State.reg_bump_ne _ _ _ _ _ _ (by decide)).trans (State.reg_setReg_same _ _ _ hw), ?_⟩
  rw [State.haltMarked, State.toNat_reg_bump _ _ (s.haltStarted.setReg_regsWf _ _ hw), hlast]

/-- What an opening does: the window starts, HALT_LAST and HALT_COUNT tell it, and every channel closes (R248, R251,
R255). -/
theorem State.openHalt_opens (s : State) (h : s.pins.held = false) (hw : s.regsWf = true) (u : State) (hu : u = s.openHalt) :
    u.halt = s.haltMarked.halt ∧ u.dram = s.dram ∧ u.mem = s.mem ∧ u.cache = s.cache ∧ u.reg aHALT_LAST = s.nowW
    ∧ (u.reg aHALT_COUNT).toNat = min ((s.reg aHALT_COUNT).toNat + 1) (2 ^ 64 - 1)
    ∧ ∀ c, (s.chan c).selfRefresh = false → ∀ b ∈ (u.chan c).banks, b.2.row = none := by
  obtain ⟨hlast, hcount⟩ := s.haltMarked_tells hw
  obtain ⟨hf, hd⟩ := s.haltMarked.haltChannels_close _ u (hu.trans (s.openHalt_eq h))
  refine ⟨hf.halt, hf.dram, hf.mem, hf.cache, (hf.reg _ (by decide) (by decide)).trans hlast, ?_, fun c hc => ?_⟩
  · rw [hf.reg _ (by decide) (by decide), hcount]
  · obtain ⟨hself, hclosed⟩ := hd c
    exact hclosed (.inl (List.mem_finRange c)) (hself.trans hc)

/-- A halt that falls due in an open window is counted and deferred (R255). -/
theorem State.haltDue_deferred (s : State) (h : s.windowOpen = true) : s.haltDue =
    { s.bump aHALT_EVENTS 16 16 1 with halt := { s.halt with deferred := s.halt.deferred + 1 } } := if_pos h

/-- A halt that falls due outside a window opens (R251). -/
theorem State.haltDue_opens (s : State) (h : s.windowOpen = false) : s.haltDue = s.openHalt := if_neg (by simp [h])

/-- The state as HALT_OPEN takes the grid value `v` (R251). -/
def State.gridTaken (s : State) (v : Nat) : State := { s with halt := { s.halt with lastGrid := some v } }

theorem execHaltOpen_due (s : State) (v : Nat) (h : s.gridDue = some v) :
    exec .haltOpen s = .next (s.gridTaken v).haltDue := by
  show execHaltOpen s = _
  rw [execHaltOpen, h]
  rfl

/-- Settles O32: outside a window the due halt opens, inside it is deferred, and a held device opens nothing. -/
theorem haltOpens : Obligations.HaltOpens := by
  intro s v hv hw
  rw [execHaltOpen_due s v hv]
  refine ⟨fun ho hh => ?_, fun ho => ?_, fun ho hh => ?_⟩
  · rw [(s.gridTaken v).haltDue_opens ho]
    obtain ⟨hhalt, hdram, hmem, hcache, hlast, hcount, hclosed⟩ := (s.gridTaken v).openHalt_opens hh hw _ rfl
    refine ⟨_, rfl, ?_, ?_, hlast, ?_, ?_, hcount, hclosed, hdram, hmem, hcache⟩ <;> rw [hhalt] <;> rfl
  · rw [(s.gridTaken v).haltDue_deferred ho]
    exact ⟨_, rfl, rfl, rfl, rfl, rfl, fun a ha => s.reg_bump_ne _ _ _ _ _ (by simpa using ha),
      s.fld_bump_same aHALT_EVENTS 16 16 1 hw (by decide)⟩
  · exact congrArg _ (((s.gridTaken v).haltDue_opens ho).trans ((s.gridTaken v).openHalt_held hh))

end Sys2Proof.Machine

namespace Sys2Proof.Machine

open Sys2Proof.Claims

/-! Relations between states that compose -/

/-- A relation that each operation on the way from one state to another may keep. -/
structure Composes (P : State → State → Prop) : Prop where
  refl : ∀ s, P s s
  trans : ∀ {s t u}, P s t → P t u → P s u

namespace Composes

variable {P : State → State → Prop} (hP : Composes P)
include hP

/-- One more operation, done under a condition. -/
theorem andIf {p : Prop} [Decidable p] {s t u : State} (h : P s t) (k : P t u) : P s (if p then u else t) :=
  rel_ite (hP.trans h k) h

/-- One more operation, done unless a condition holds. -/
theorem andUnless {p : Prop} [Decidable p] {s t u : State} (h : P s t) (k : P t u) : P s (if p then t else u) :=
  rel_ite h (hP.trans h k)

/-- One more operation for each element of a list. -/
theorem andFold {α : Type} {f : State → α → State} {l : List α} {s t : State} (h : P s t) (hf : ∀ t x, P t (f t x)) :
    P s (l.foldl f t) := by
  induction l generalizing t with
  | nil => exact h
  | cons x l ih => exact ih (hP.trans h (hf t x))

end Composes

/-! A register that neither a reaction to a fault event nor a channel fault writes -/

theorem State.keepsReg_composes (a : Nat) : Composes (State.KeepsReg a) where
  refl _ := ⟨id, rfl⟩
  trans h k := ⟨fun w => k.1 (h.1 w), k.2.trans h.2⟩

namespace State.KeepsReg

variable {a : Nat} {s t u : State}

theorem trans (h : State.KeepsReg a s t) (k : State.KeepsReg a t u) : State.KeepsReg a s u :=
  (State.keepsReg_composes a).trans h k

theorem setReg (s : State) (b : Nat) (v : Word) (h : a ≠ b) : State.KeepsReg a s (s.setReg b v) :=
  ⟨s.setReg_regsWf b v, s.reg_setReg_ne b a v h⟩

theorem andReg {b : Nat} {v : Word} (h : State.KeepsReg a s t) (hb : a ≠ b) : State.KeepsReg a s (t.setReg b v) :=
  h.trans (setReg t b v hb)

theorem of_regs (h : u.regs = s.regs) : State.KeepsReg a s u := ⟨fun w => by rw [h]; exact w, State.reg_congr h a⟩

/-- A change before the others that writes no register. -/
theorem since (k : State.KeepsReg a t u) (h : t.regs = s.regs) : State.KeepsReg a s u := (of_regs h).trans k

/-- A field of the register reads as before. -/
theorem fld (h : State.KeepsReg a s u) (lo n : Nat) : u.fld a lo n = s.fld a lo n := congrArg (getBits · lo n) h.2

/-- A bit of the register reads as before. -/
theorem flag (h : State.KeepsReg a s u) (i : Nat) : u.flag a i = s.flag a i := congrArg (BitVec.getLsbD · i) h.2

end State.KeepsReg

/-- No reaction to a fault event writes a register below the pages of faults and snapshots, the comparators, the threads'
latches and the shutdown apart. -/
theorem State.keepsReg_reaction {a : Nat} (ha : a < 0xE0000) (hr : ¬ReactionReg a) : ReactionClosed (State.KeepsReg a) where
  toCollectorClosed := State.keepsReg_collector (by simp only [CollectorReg]; omega)
  write s b v hb := .setReg s b v fun h => hr (h ▸ hb)
  aliveStop s cause := by
    have hset : ∀ t b v, 0xE0000 ≤ b → State.KeepsReg a t (t.setReg b v) := fun t b v hb => .setReg t b v (by omega)
    unfold State.aliveStop
    exact (State.keepsReg_composes a).andUnless (.of_regs rfl) (((hset s aALIVE_STATUS _ (by decide)).trans
      (hset _ aALIVE_STATUS _ (by decide))).trans (hset _ aALIVE_STOP_RT _ (by decide)))

/-- Spares that are free again write the two spare maps of their channel alone (R463). -/
theorem Composes.dropStandins {P : State → State → Prop} (hP : Composes P) (s : State) (c : Nat)
    (hdq : ∀ t v, P t (t.setReg (aXR_CH_SPMAP c) v)) (hca : ∀ t v, P t (t.setReg (aXR_CH_CASPMAP c) v)) :
    P s (s.dropStandins c) := by
  unfold State.dropStandins
  exact hP.andIf (hP.andIf (hP.andFold (hP.refl s) fun t j => hP.andIf (hP.refl t) (hdq t _)) (hca _ _)) (hca _ _)

/-- A measurement that is abandoned writes the channel's wires alone (R463). -/
theorem State.dropMeasures_keepsReg (s : State) (c : Fin 32) {a : Nat} (ha : a < 0xB1000) :
    State.KeepsReg a s (s.dropMeasures c) := by
  unfold State.dropMeasures
  refine .andReg (.since ((State.keepsReg_composes a).dropStandins _ c (fun t v => .setReg t _ v ?_) fun t v => .setReg t _ v ?_)
    rfl) ?_
  · simp only [aXR_CH_SPMAP]; omega
  · simp only [aXR_CH_CASPMAP]; omega
  · simp only [aXR_CH_STATUS]; omega

/-- A channel fault writes the channel's own registers, and what a reaction writes (R438, R439, R463). -/
theorem State.channelFault_keepsReg (s : State) (c : Fin 32) (cause : Nat) {a : Nat} (hc : a < 0xA1000 ∨ 0xA1400 ≤ a)
    (ha : a < 0xB1000) (hr : ¬ReactionReg a) : State.KeepsReg a s (s.channelFault c cause) := by
  have hP := State.keepsReg_composes a
  have hstat : a ≠ aINT_CH_STATUS c := by simp only [aINT_CH_STATUS]; omega
  have hrt : a ≠ aINT_CH_FAULT_RT c := by simp only [aINT_CH_FAULT_RT]; omega
  unfold State.channelFault
  dsimp only
  generalize hy : s.setChan c _ = x
  have hx : x.regs = s.regs := hy ▸ rfl
  refine .trans ?_ ((State.keepsReg_reaction (by omega) hr).raise _ _ _ _)
  refine hP.andUnless (.andReg (.andReg (.andReg ?_ hstat) hstat) hstat) (.setReg _ _ _ hrt)
  exact (State.dropMeasures_keepsReg x c ha).since hx

end Sys2Proof.Machine

namespace Sys2Proof.Machine

open Sys2Proof.Claims

/-! The clock spine (R488, R489) -/

/-- A bit outside a field that is written reads as before. -/
theorem State.flag_setFld_other (s : State) (a lo n x i : Nat) (h : sparseWf regReset s.regs = true)
    (hi : i < lo ∨ lo + n ≤ i) : (s.setFld a lo n x).flag a i = s.flag a i := by
  rw [State.flag, State.setFld, State.reg_setReg_same _ _ _ h, getLsbD_putBits, State.flag]
  exact if_neg (by omega)

/-- The columns of a layer come after the one last selected, each a number below 4. -/
theorem rotate_find_lt {last k : Nat} {p : Nat → Bool} (h : (rotate 4 last).find? p = some k) : k < 4 := by
  obtain ⟨i, _, rfl⟩ := List.mem_map.mp (List.mem_of_find?_eq_some h)
  omega

/-- A layer's clock as it turns from column `sel` to column `k` (R489). -/
def State.clockTurned (s : State) (n sel k : Nat) : State :=
  ((s.setFlag (aXR_CLK n) (4 + sel) true).setFld (aXR_CLK n) 0 2 k).bump (aXR_CLK n) 16 16 1

theorem State.clockTurned_shows (s : State) (n sel k : Nat) (hw : s.regsWf = true) (hsel : sel < 4) (hk : k < 4) (t : State)
    (ht : t = s.clockTurned n sel k) :
    t.fld (aXR_CLK n) 0 2 = k ∧ t.clkDead n sel = true ∧ t.flag (aXR_CLK n) 8 = s.flag (aXR_CLK n) 8 := by
  subst ht
  have hw1 := s.setFlag_regsWf (aXR_CLK n) (4 + sel) true hw
  have hw2 := State.setFld_regsWf _ (aXR_CLK n) 0 2 k hw1
  unfold State.clockTurned State.clkDead State.bump
  refine ⟨?_, ?_, ?_⟩
  · rw [State.fld_setFld_disjoint _ _ _ _ _ _ _ hw2 (by omega), State.fld_setFld_same _ _ _ _ _ hw1 (by decide)]
    exact Nat.mod_eq_of_lt hk
  · rw [State.flag_setFld_other _ _ _ _ _ _ hw2 (by omega), State.flag_setFld_other _ _ _ _ _ _ hw1 (by omega)]
    exact s.flag_setFlag_same _ _ _ hw (by omega)
  · rw [State.flag_setFld_other _ _ _ _ _ _ hw2 (by omega), State.flag_setFld_other _ _ _ _ _ _ hw1 (by omega)]
    exact s.flag_setFlag_other _ _ _ _ hw (by omega)

/-- The channels of a DRAM layer, none for layer 0. -/
def clockChannels (n : Fin 17) : List (Fin 32) :=
  if h : 0 < n.val then [⟨2 * (n.val - 1), by omega⟩, ⟨2 * (n.val - 1) + 1, by omega⟩] else []

/-- The channels of a layer that has lost its clock fault: none of them writes the clock's register (R489, R438). -/
theorem execMissingClock_turns (s : State) (n : Fin 17) (sel k : Nat) (hg : s.flag aXR_GSTATUS 0 = true)
    (hr : s.flag (aXR_CLK n) 8 = false) (hd : n.val = 0 ∨ s.domStays (n.val - 1) = true) (hsel : sel = s.fld (aXR_CLK n) 0 2)
    (hk : (rotate 4 sel).find? (fun j => !(s.setFlag (aXR_CLK n) (4 + sel) true).clkDead n j) = some k) :
    ∃ u, exec (.missingClock n) s = .next u ∧ State.KeepsReg (aXR_CLK n) (s.clockTurned n sel k) u := by
  have ha : aXR_CLK n < 0xB1000 ∧ 0xA1400 ≤ aXR_CLK n := by simp only [aXR_CLK]; omega
  have hra : ¬ReactionReg (aXR_CLK n) := by simp only [ReactionReg, aXR_CLK]; omega
  have hP := State.keepsReg_reaction (a := aXR_CLK n) (by omega) hra
  have hgo : ¬(s.flag aXR_GSTATUS 0 = false ∨ s.flag (aXR_CLK n) 8 = true
      ∨ (0 < n.val ∧ s.domStays (n.val - 1) = false)) := by
    rintro (h | h | ⟨hn, h⟩)
    · exact Bool.noConfusion (hg.symm.trans h)
    · exact Bool.noConfusion (hr.symm.trans h)
    · exact hd.elim (by omega) fun hd => Bool.noConfusion (hd.symm.trans h)
  subst hsel
  have hexec : exec (.missingClock n) s = finish s
      (((clockChannels n).filter (fun c => ((s.setFlag (aXR_CLK n) (4 + s.fld (aXR_CLK n) 0 2) true).chan c).mode != .lost)).foldl
        (fun t c => t.channelFault c 2) ((s.clockTurned n (s.fld (aXR_CLK n) 0 2) k).raise 80 n k)) := by
    show execMissingClock n s = _
    rw [execMissingClock, if_neg hgo]
    dsimp only
    rw [hk]
    rfl
  exact ⟨_, hexec.trans (finish_next _ _), ((State.keepsReg_composes _).andFold (hP.raise _ _ _ _) fun t c =>
    t.channelFault_keepsReg c 2 (.inr ha.2) ha.1 hra).trans (hP.settle _ _)⟩

/-- One column of a layer is watched: dead if it shows no edge and is not the selected one (R488). -/
def State.columnWatched (s : State) (n sel : Nat) (silent : BitVec 4) (k : Nat) : State :=
  if silent.getLsbD k && k != sel then s.setFlag (aXR_CLK n) (4 + k) true else s

theorem State.columnWatched_shows (s : State) (n sel : Nat) (silent : BitVec 4) (k : Nat) (hw : s.regsWf = true) (hk : k < 4)
    (t : State) (ht : t = s.columnWatched n sel silent k) :
    t.regsWf = true ∧ RegsKept s t [aXR_CLK n] ∧ t = { s with regs := t.regs }
    ∧ ∀ j, t.clkDead n j = (s.clkDead n j || (j == k && silent.getLsbD j && j != sel)) := by
  subst ht
  unfold State.columnWatched
  split
  · rename_i h
    refine ⟨s.setFlag_regsWf _ _ _ hw, fun a ha => s.reg_setFlag_ne _ _ _ _ (by simpa using ha), rfl, fun j => ?_⟩
    by_cases hj : j = k
    · subst hj
      rw [State.clkDead, s.flag_setFlag_same _ _ _ hw (by omega)]
      simp_all
    · rw [State.clkDead, s.flag_setFlag_other _ _ _ _ hw (by omega)]
      simp [State.clkDead, hj]
  · rename_i h
    refine ⟨hw, fun _ _ => rfl, rfl, fun j => ?_⟩
    by_cases hj : j = k
    · subst hj
      simp_all
    · simp [hj]

/-- The watch of a list of columns marks those of it that show no edge (R488). -/
theorem State.columnsWatched_show (s : State) (n sel : Nat) (silent : BitVec 4) (ks : List Nat) (hw : s.regsWf = true)
    (hks : ∀ k ∈ ks, k < 4) (t : State) (ht : t = ks.foldl (fun t k => t.columnWatched n sel silent k) s) :
    RegsKept s t [aXR_CLK n] ∧ t = { s with regs := t.regs }
    ∧ ∀ j, t.clkDead n j = (s.clkDead n j || (ks.contains j && silent.getLsbD j && j != sel)) := by
  induction ks generalizing s with
  | nil => subst ht; exact ⟨fun _ _ => rfl, rfl, fun j => by simp⟩
  | cons k ks ih =>
    obtain ⟨hw1, hkept, hregs, hdead⟩ := s.columnWatched_shows n sel silent k hw (hks k List.mem_cons_self) _ rfl
    obtain ⟨hkept', hregs', hdead'⟩ := ih _ hw1 (fun j hj => hks j (List.mem_cons_of_mem k hj)) ht
    refine ⟨fun a ha => (hkept' a ha).trans (hkept a ha), hregs'.trans (by rw [hregs]), fun j => ?_⟩
    rw [hdead', hdead]
    simp only [List.contains_cons, Bool.or_assoc, Bool.and_or_distrib_right]

end Sys2Proof.Machine

namespace Sys2Proof.Machine

open Sys2Proof.Claims

/-! What the end of a command and the operations on wires leave unchanged -/

@[simp] theorem State.settle_links (b s : State) : (State.settle b s).links = s.links := by
  obtain ⟨rs, d, h⟩ := s.settle_changes b
  rw [h]
@[simp] theorem State.settle_dram (b s : State) : (State.settle b s).dram = s.dram := by
  obtain ⟨rs, d, h⟩ := s.settle_changes b
  rw [h]

/-- Operations on wires, spares and taps keep time, DRAM and the change instants already taken, and give no tap that waits
(R453, R460 to R473). -/
structure LinkFrame (s u : State) : Prop where
  tu : u.tu = s.tu
  dram : u.dram = s.dram
  regs : sparseWf regReset s.regs = true → sparseWf regReset u.regs = true
  changedAt : u.links.changedAt = s.links.changedAt
  taps : ∀ q ∈ u.links.pendingTaps, q ∈ s.links.pendingTaps

theorem linkFrame_composes : Composes LinkFrame where
  refl _ := ⟨rfl, rfl, id, rfl, fun _ => id⟩
  trans h k := ⟨k.tu.trans h.tu, k.dram.trans h.dram, fun w => k.regs (h.regs w), k.changedAt.trans h.changedAt,
    fun q hq => h.taps q (k.taps q hq)⟩

namespace LinkFrame

theorem refl (s : State) : LinkFrame s s := linkFrame_composes.refl s

theorem trans {s t u : State} (h : LinkFrame s t) (k : LinkFrame t u) : LinkFrame s u := linkFrame_composes.trans h k

/-- No reaction to a fault event touches them. -/
theorem of_fault {s u : State} (h : FaultFrame s u) : LinkFrame s u :=
  ⟨h.tu, h.dram, h.regs, by rw [h.links], fun q hq => by rwa [h.links] at hq⟩

theorem setReg (s : State) (a : Nat) (v : Word) : LinkFrame s (s.setReg a v) := .of_fault (.setReg s a v)

theorem andReg {s t : State} {a : Nat} {v : Word} (h : LinkFrame s t) : LinkFrame s (t.setReg a v) := h.trans (.setReg t a v)

theorem setChan (s : State) (c : Fin 32) (x : Channel) : LinkFrame s (s.setChan c x) := ⟨rfl, rfl, id, rfl, fun _ => id⟩

theorem raise (s : State) (src idx val : Nat) : LinkFrame s (s.raise src idx val) := .of_fault (.raise s _ _ _)

theorem setSpare (s : State) (c j wire : Nat) (temp : Bool) : LinkFrame s (s.setSpare c j wire temp) := .setReg s _ _

theorem setCaSpare (s : State) (c j wire : Nat) (temp : Bool) : LinkFrame s (s.setCaSpare c j wire temp) := .setReg s _ _

theorem refreshWires (s : State) (c : Nat) : LinkFrame s (s.refreshWires c) := by
  unfold State.refreshWires
  exact (((setReg s _ _).andReg).andReg).andReg

theorem beginMeasure (s : State) (key w spare : Nat) : LinkFrame s (s.beginMeasure key w spare) :=
  ⟨rfl, rfl, id, rfl, fun _ => id⟩

theorem recalStop (s : State) (a i idx val : Nat) : LinkFrame s (s.recalStop a i idx val) := by
  unfold State.recalStop
  exact linkFrame_composes.andUnless (.refl s) ((setReg s _ _).trans (.raise _ _ _ _))

/-- Limp changes registers, the mode of its channel and the lists of measurements alone (R470). -/
theorem enterLimp (s : State) (c : Fin 32) : LinkFrame s (s.enterLimp c) := by
  have hP := linkFrame_composes
  have hlimp : ∀ (t : State) (x : Channel) (due : List Nat) (ms : List (Nat × Nat × Nat)),
      LinkFrame t { t.setChan c x with links := { t.links with limpDue := due, measuring := ms } } :=
    fun _ _ _ _ => ⟨rfl, rfl, id, rfl, fun _ => id⟩
  unfold State.enterLimp
  dsimp only
  refine .trans (.trans (hP.andFold ((setReg s _ _).andReg) fun t p => setSpare t _ _ _ _) (hlimp _ _ _ _)) (.refreshWires _ _)

end LinkFrame

/-- A change instant applies the taps that wait for its group and leaves none of them waiting (R461). -/
theorem State.applyTaps_frame (s : State) (key base : Nat) : LinkFrame s (s.applyTaps key base)
    ∧ ∀ q ∈ (s.applyTaps key base).links.pendingTaps, q.1 ≠ key := by
  have hfold : ∀ news : List (Nat × Nat × Nat), LinkFrame s (news.foldl (fun s (p : Nat × Nat × Nat) =>
      let i := base + p.2.1
      let s := if s.tapOf i ≠ p.2.2 ∧ key < 64 then s.bump (aXR_CH_STATUS (key % 32)) 16 16 1 else s
      s.setTap i p.2.2) s) := fun news => linkFrame_composes.andFold (.refl s) fun t p =>
    (linkFrame_composes.andIf (.refl t) (LinkFrame.setReg t _ _)).andReg
  unfold State.applyTaps
  obtain ⟨htu, hdram, hregs, hat, htaps⟩ := hfold (s.links.pendingTaps.filter (fun p => p.1 == key))
  exact ⟨⟨htu, hdram, hregs, hat, fun q hq => htaps q (List.mem_filter.mp hq).1⟩,
    fun q hq => by simpa using (List.mem_filter.mp hq).2⟩

/-- After its taps the DQ group of a channel changes spares and measurements alone (R460 to R464). -/
theorem State.changeDq_frame (s : State) (c : Fin 32) : LinkFrame (s.applyTaps c.val (100 * c.val)) (s.changeDq c) := by
  have hP := linkFrame_composes
  unfold State.changeDq
  extract_lets s0 s1 s2 dead s3 s4
  have h1 : LinkFrame s0 s1 := hP.andIf (.refl s0) (.enterLimp s0 c)
  have h2 : LinkFrame s1 s2 := hP.andFold (.refl s1) fun t j => hP.andIf (.refl t) (.setSpare t _ _ _ _)
  have h3 : LinkFrame s2 s3 := hP.andFold (.refl s2) fun t p => .setSpare t _ _ _ _
  refine (((h1.trans h2).trans h3).trans (.refreshWires s3 c)).trans (rel_ite (.refl s4) ?_)
  split
  · exact .recalStop s4 _ _ _ _
  · split
    · exact .refl s4
    · exact (((LinkFrame.setChan s4 c _).trans (.setSpare _ _ _ _ _)).trans (.beginMeasure _ _ _ _)).trans (.refreshWires _ c)

/-- So does its command/address group (R473). -/
theorem State.changeCa_frame (s : State) (c : Fin 32) :
    LinkFrame (s.applyTaps (32 + c.val) (100 * c.val)) (s.changeCa c) := by
  have hP := linkFrame_composes
  unfold State.changeCa
  extract_lets key s0 s1 dead idle s2 s3
  have h1 : LinkFrame s0 s1 := hP.andFold (.refl s0) fun t j => hP.andIf (.refl t) (.setCaSpare t _ _ _ _)
  have h2 : LinkFrame s1 s2 := hP.andFold (.refl s1) fun t p => .setCaSpare t _ _ _ _
  refine ((h1.trans h2).trans (.refreshWires s2 c)).trans (rel_ite (.refl s3) ?_)
  split
  · exact .recalStop s3 _ _ _ _
  · split
    · exact .refl s3
    · exact ((LinkFrame.setCaSpare s3 _ _ _ _).trans (.beginMeasure _ _ _ _)).trans (.refreshWires _ c)

/-- The state that has noted the change instant of channel `c` in the window opened at `o` (R461). -/
def State.instantNoted (s : State) (c : Fin 32) (o : Nat) : State :=
  { s with links := { s.links with changedAt := (c.val, o) :: s.links.changedAt.filter (fun p => p.1 != c.val) } }

/-- A change instant applies the taps of both groups, once (R453, R461). -/
theorem execRecalChangeInstant_applies (s : State) (c : Fin 32) (o : Nat) (ho : s.halt.openAt = some o) (hat : o + 40 ≤ s.cyc)
    (hl : (s.chan c).mode ≠ .lost) (hs : (s.chan c).selfRefresh = false) (hr : s.replaying c = false)
    (hc : s.links.changedAt.contains (c.val, o) = false) (hg : s.flag aXR_GSTATUS 0 = true)
    (hd : s.domStays (c.val / 2) = true) :
    exec (.recalChangeInstant c) s = finish s (((s.instantNoted c o).changeDq c).changeCa c) := by
  show execRecalChangeInstant c s = _
  unfold execRecalChangeInstant
  dsimp only
  rw [ho]
  dsimp only
  exact if_neg (by simp only [hl, hs, hr, hc, hg, hd]; simpa using hat)

/-- What a change instant leaves: its mark, no tap that waits for the channel, and DRAM as it was. -/
theorem State.changeInstant_leaves (s : State) (c : Fin 32) (o : Nat) (u : State)
    (hu : u = ((s.instantNoted c o).changeDq c).changeCa c) :
    u.links.changedAt.contains (c.val, o) = true ∧ (∀ q ∈ u.links.pendingTaps, q.1 ≠ c.val ∧ q.1 ≠ 32 + c.val)
    ∧ u.dram = s.dram := by
  subst hu
  obtain ⟨hdqTaps, hdqNone⟩ := (s.instantNoted c o).applyTaps_frame c.val (100 * c.val)
  obtain ⟨hcaTaps, hcaNone⟩ := ((s.instantNoted c o).changeDq c).applyTaps_frame (32 + c.val) (100 * c.val)
  have hdq := (s.instantNoted c o).changeDq_frame c
  have hca := ((s.instantNoted c o).changeDq c).changeCa_frame c
  have hall := ((hdqTaps.trans hdq).trans hcaTaps).trans hca
  refine ⟨?_, fun q hq => ⟨?_, hcaNone q (hca.taps q hq)⟩, hall.dram⟩
  · rw [hall.changedAt]
    simp [State.instantNoted]
  · exact hdqNone q (hdq.taps q (hcaTaps.taps q (hca.taps q hq)))

end Sys2Proof.Machine

namespace Sys2Proof.Machine

open Sys2Proof.Claims

/-! Sweeps and express groups (R451, R460, R465) -/

/-- A sweep of a DQ wire that is being measured gives the tap that waits (R451, R465). -/
theorem execSweepDone_dq (s : State) (c : Fin 32) (w : Fin 76) (m : Nat × Nat × Nat) (x : BitVec 32) (t : Nat)
    (hq : Quiet s) (hm : s.links.measuring.find? (fun q => q.1 == c.val && q.2.1 == w.val) = some m)
    (hp : s.links.pendingTaps.any (fun q => q.1 == c.val && q.2.1 == w.val) = false) (hx : bestTap x 8 true = some t) :
    exec (.sweepDone (100 * c.val + w.val) x) s = .next { s with
      links := { s.links with pendingTaps := s.links.pendingTaps ++ [(c.val, w.val, t)] } } := by
  have hlt : 100 * c.val + w.val < 3200 := by omega
  have hchan : (⟨(100 * c.val + w.val) / 100, by omega⟩ : Fin 32) = c := Fin.ext (by simp only; omega)
  have hwire : (100 * c.val + w.val) % 100 = w.val := by omega
  have hdq : decide (w.val < 76) = true := by simp
  have hends : s.sweepEnds c w.val x = { s with
      links := { s.links with pendingTaps := s.links.pendingTaps ++ [(c.val, w.val, t)] } } := by
    unfold State.sweepEnds
    simp only [hdq, if_true, hm, hp, hx, Bool.false_eq_true, if_false]
  show execSweepDone _ x s = _
  rw [execSweepDone, dif_pos hlt, hchan, hwire, hends]
  exact finish_quiet s _ hq

/-- A wire index above every group names no wire. -/
theorem execSweepDone_none (s : State) (wire : Nat) (x : BitVec 32) (h : 5376 ≤ wire) :
    exec (.sweepDone wire x) s = .next s := by
  show execSweepDone wire x s = _
  rw [execSweepDone, dif_neg (by omega), if_neg (by omega)]

/-- An express group measures its next wire once its taps are applied (R460). -/
theorem execExpressRecalTick_measures (s : State) (d : Fin 2) (l : Fin 64) (key : Nat) (t : State) (w : Nat)
    (hkey : key = 64 + 64 * d.val + l.val) (hg : s.flag aXR_GSTATUS 0 = true) (ht : t = s.applyTaps key (expressBase d l))
    (hon : t.flag aXR_GCTRL 0 = true) (hm : t.links.measuring.any (fun q => q.1 == key) = false)
    (hused : t.flag (aXR_XG d l) 5 = false) (hdead : t.xgDead d l 16 = false)
    (hw : t.nextWire key ((List.range 16).filter (fun i => !t.xgDead d l i)) = some w) :
    exec (.expressRecalTick d l) s = .next (t.beginMeasure key w 16) := by
  subst hkey
  show execExpressRecalTick d l s = _
  unfold execExpressRecalTick
  rw [if_neg (by simp [hg])]
  dsimp only
  rw [← ht, if_neg (by simp [hon, hm]), if_neg (by simp [hused, hdead]), hw]

/-! Stand-ins (R479) -/

/-- What the fill of a stand-in leaves before its registers say so (R476, R479, R481). -/
def State.siPoisoned (s : State) (n : Nat) : State :=
  let t := (s.dropLines (fun line => (s.siBlocks n).contains (line / 2 ^ 22))).poisonSlots n (List.range 256)
  if n = 1 then t.poisonSlots 1 (t.movedSlots.map (fun k => 256 + k / 31)) else t

/-- Poisoned slots change DRAM and what fills it alone. -/
theorem State.siPoisoned_frame (s : State) (n : Nat) (t : State) (ht : t = s.siPoisoned n) :
    t.regs = s.regs ∧ t.cache = s.cache.filter (fun x => !(s.siBlocks n).contains (x.line / 2 ^ 22))
    ∧ t.mem.journal = s.mem.journal.filter (fun e => !(s.siBlocks n).contains (e.line / 2 ^ 22)) ∧ t.tu = s.tu
    ∧ t.snapDue = s.snapDue := by
  subst ht
  unfold State.siPoisoned
  dsimp only
  split <;> exact ⟨rfl, rfl, rfl, rfl, rfl⟩

/-- Its registers tell that it is in service (R479). -/
def State.siServing (t : State) (n : Nat) : State := (t.setFld (aXR_SI_STATUS n) 0 2 3).setFld (aXR_SI_STATUS n) 12 12 2048

theorem State.siFill_eq (s : State) (n : Nat) (t : State) (ht : t = (s.siPoisoned n).siServing n) : s.siFill n =
    if h : t.siChannel n < 32 then t.setChan ⟨t.siChannel n, h⟩ { t.chan ⟨t.siChannel n, h⟩ with inService := true }
    else t := by
  subst ht
  rfl

theorem State.siServing_shows (t : State) (n : Nat) (hw : sparseWf regReset t.regs = true) :
    (t.siServing n).siState n = 3 ∧ (t.siServing n).siChannel n = t.siChannel n := by
  have hw' := t.setFld_regsWf (aXR_SI_STATUS n) 0 2 3 hw
  unfold State.siServing State.siState State.siChannel
  rw [State.fld_setFld_disjoint _ _ _ _ _ _ _ hw' (by omega), State.fld_setFld_disjoint _ _ _ _ _ _ _ hw' (by omega),
    State.fld_setFld_same _ _ _ _ _ hw (by decide), State.fld_setFld_disjoint _ _ _ _ _ _ _ hw (by omega)]
  exact ⟨rfl, rfl⟩

/-- A filled stand-in is in service with its channel, and neither cache nor journal holds a line of its blocks (R479). -/
theorem State.siFill_serves (s : State) (n : Nat) (hw : s.regsWf = true) (u : State) (hu : u = s.siFill n) :
    u.siState n = 3 ∧ (∀ c : Fin 32, c.val = s.siChannel n → (u.chan c).inService = true)
    ∧ (∀ line, (s.siBlocks n).contains (line / 2 ^ 22) = true → u.cached line = none ∧ u.journalOf line = [])
    ∧ u.snapDue = s.snapDue := by
  subst hu
  obtain ⟨hregs, hcache, hjournal, -, hsnap⟩ := s.siPoisoned_frame n _ rfl
  obtain ⟨hstate, hchannel⟩ := (s.siPoisoned n).siServing_shows n (by rw [hregs]; exact hw)
  have hsame : (s.siPoisoned n).siChannel n = s.siChannel n := by
    rw [State.siChannel, State.siChannel, State.fld, State.fld, State.reg_congr hregs]
  have hnone : ∀ line, (s.siBlocks n).contains (line / 2 ^ 22) = true →
      (s.siPoisoned n).cached line = none ∧ (s.siPoisoned n).journalOf line = [] := fun line hl => by
    rw [State.cached, State.journalOf, hcache, hjournal]
    constructor
    · rw [List.find?_eq_none]
      intro x hx hline
      obtain rfl := eq_of_beq hline
      exact absurd (List.mem_filter.mp hx).2 (by rw [hl]; decide)
    · rw [List.filter_eq_nil_iff]
      intro e he hline
      obtain rfl := eq_of_beq hline
      exact absurd (List.mem_filter.mp he).2 (by rw [hl]; decide)
  rw [s.siFill_eq n _ rfl]
  split
  · refine ⟨hstate, fun c hc => ?_, hnone, hsnap⟩
    rename_i h
    obtain rfl : c = ⟨_, h⟩ := Fin.ext (hc.trans (hsame.symm.trans hchannel.symm))
    rw [State.chan_setChan_same]
  · rename_i h
    exact ⟨hstate, fun c hc => absurd c.isLt (by rwa [hc, ← hsame, ← hchannel]), hnone, hsnap⟩

theorem execStandinFillDone_fills (s : State) (n : Fin 2) (hq : Quiet s) (hw : s.regsWf = true) (h2 : s.siState n = 2)
    (hsent : s.siSent n = standinLines) : exec (.standinFillDone n) s = .next (s.siFill n) := by
  obtain ⟨-, -, -, hsnap⟩ := s.siFill_serves n hw _ rfl
  show finish s (if _ then _ else _) = _
  rw [if_pos ⟨h2, hsent⟩]
  exact finish_quiet s _ (hsnap.trans hq)

theorem execStandinFillDone_waits (s : State) (n : Fin 2) (hq : Quiet s) (h : s.siState n ≠ 2 ∨ s.siSent n ≠ standinLines) :
    exec (.standinFillDone n) s = .next s := by
  show finish s (if _ then _ else _) = _
  rw [if_neg (by rcases h with h | h <;> simp [h])]
  exact finish_quiet s _ hq

/-! Service columns (R100) -/

/-- The state that counts one more failed service column. -/
def State.serviceCounted (s : State) : State := { s with links := { s.links with serviceFailed := s.links.serviceFailed + 1 } }

/-- Up to eight failures change the count alone; the next raise SERVICE_COLUMNS (R100). -/
theorem execServiceColumnFail_counts (s : State) (hq : Quiet s) : ∃ u, exec .serviceColumnFail s = .next u
    ∧ u.links.serviceFailed = s.links.serviceFailed + 1
    ∧ (s.links.serviceFailed < 8 → u = { s with links := u.links }) := by
  have hexec : exec .serviceColumnFail s = finish s (if 8 < s.serviceCounted.links.serviceFailed then
      s.serviceCounted.raise 9 0 s.serviceCounted.links.serviceFailed else s.serviceCounted) := rfl
  have hcount : s.serviceCounted.links.serviceFailed = s.links.serviceFailed + 1 := rfl
  by_cases h : 8 < s.serviceCounted.links.serviceFailed
  · rw [if_pos h, finish_next] at hexec
    refine ⟨_, hexec, ?_, fun h' => absurd h (by omega)⟩
    rw [State.settle_links, (FaultFrame.raise _ _ _ _).links, hcount]
  · rw [if_neg h, finish_quiet s s.serviceCounted hq] at hexec
    exact ⟨_, hexec, rfl, fun _ => rfl⟩

/-- Settles O54: each clause by the lemma on its command. -/
theorem stackLinks : Obligations.StackLinks := by
  intro s hq hw
  refine ⟨fun c ho => ?_, fun c o ho hat hl hs hr hc hg hd => ?_,
    fun c w m x t hm hp hx => execSweepDone_dq s c w m x t hq hm hp hx, fun wire x h => execSweepDone_none s wire x h,
    fun d l key t w hkey hg ht hon hm hused hdead hw' =>
      execExpressRecalTick_measures s d l key t w hkey hg ht hon hm hused hdead hw',
    fun d l hg => ?_, fun n sel k hg hr hd hsel hk => ?_, fun n silent hg => ?_, fun n h2 hsent => ?_,
    fun n h => execStandinFillDone_waits s n hq h, execServiceColumnFail_counts s hq⟩
  · show execRecalChangeInstant c s = _
    simp only [execRecalChangeInstant, ho]
  · obtain ⟨hat', htaps, hdram⟩ := s.changeInstant_leaves c o _ rfl
    refine ⟨_, (execRecalChangeInstant_applies s c o ho hat hl hs hr hc hg hd).trans (finish_next _ _), ?_, ?_, ?_⟩
    · rw [State.settle_links]; exact hat'
    · rw [State.settle_links]; exact htaps
    · rw [State.settle_dram]; exact hdram
  · show execExpressRecalTick d l s = _
    rw [execExpressRecalTick, if_pos hg]
  · obtain ⟨u, hu, hkeep⟩ := execMissingClock_turns s n sel k hg hr hd hsel hk
    obtain ⟨hsel', hdead, hlost⟩ := s.clockTurned_shows n sel k hw (hsel ▸ getBits_lt _ 0 2) (rotate_find_lt hk) _ rfl
    exact ⟨u, hu, (hkeep.fld 0 2).trans hsel', (hkeep.flag (4 + sel)).trans hdead, (hkeep.flag 8).trans (hlost.trans hr)⟩
  · obtain ⟨hkept, hregs, hdead⟩ := s.columnsWatched_show n (s.fld (aXR_CLK n) 0 2) silent (List.range 4) hw
      (fun k hk => List.mem_range.mp hk) _ rfl
    refine ⟨_, if_neg (by simp [hg]), fun j hj => (hdead j).trans ?_, hkept, hregs⟩
    rw [List.contains_iff_mem.mpr (List.mem_range.mpr hj), Bool.true_and]
  · obtain ⟨hstate, hserves, hgone, -⟩ := s.siFill_serves n hw _ rfl
    exact ⟨_, execStandinFillDone_fills s n hq hw h2 hsent, hstate, hserves, hgone⟩

end Sys2Proof.Machine


namespace Sys2Proof.Machine

open Sys2Proof.Claims

/-! Answers to reads: the lines of carriages and seals touch no more than a reaction to a fault event does -/

namespace FaultFrame

theorem composes : Composes FaultFrame := ⟨refl, FaultFrame.trans⟩

theorem setMem (s : State) (m : MemPath) : FaultFrame s { s with mem := m } :=
  ⟨rfl, rfl, rfl, rfl, rfl, rfl, rfl, rfl, rfl, rfl, rfl, rfl, rfl, rfl, rfl, id, id⟩

theorem carAdvance (s : State) (c : Fin 32) (n : Nat) : FaultFrame s (s.carAdvance c n) :=
  composes.andIf (setCar s c _) (writeProgress _ _ _ _ _ _)

theorem releaseHeld (s : State) (i : Fin 4) : FaultFrame s (s.releaseHeld i) := (setSeal s i _).trans (setMem _ _)

/-- Events signalled to a thread where the number names one. -/
theorem setEventsIf (s : State) (n : Nat) (m : BitVec 16) : FaultFrame s (if h : n < 8 then s.setEvents ⟨n, h⟩ m else s) := by
  split
  · exact setEvents s _ m
  · exact refl s

theorem sealCheck (s : State) (i : Fin 4) : FaultFrame s (s.sealCheck i) := by
  unfold State.sealCheck
  dsimp only
  refine composes.andUnless (refl s) ?_
  refine .trans ?_ (sealRecord _ i _)
  refine .trans ?_ (setEventsIf _ _ _)
  refine .trans (.trans (.trans ?_ (tcFree _ _)) (setMem _ _)) (setSeal _ i _)
  exact composes.andFold (refl s) fun t c => composes.andIf (refl t) ((setCar t c _).trans (carEvent _ c))

theorem holdFill (s : State) (i : Fin 4) : FaultFrame s (s.holdFill i) := by
  obtain ⟨cs, h⟩ := s.holdFill_eq i
  rw [h]
  exact setSeal s i _

theorem setGranule (s : State) (g : Nat) : FaultFrame s (s.setGranule g) :=
  ⟨rfl, rfl, rfl, rfl, rfl, rfl, rfl, rfl, rfl, rfl, rfl, rfl, rfl, rfl, rfl, id, Memory.set_wf _ _ _⟩

theorem granuleDone (s : State) (i : Fin 4) (g : Nat) (hold : Bool) (got : List (Nat × LineVal)) :
    FaultFrame s (s.granuleDone i g hold got) :=
  ((((setGranule s g).trans (setSeal _ i _)).trans (releaseHeld _ i)).trans (sealCheck _ i)).trans (holdFill _ i)

theorem carSend (s : State) (c : Fin 32) : FaultFrame s (s.carSend c) := by
  unfold State.carSend
  dsimp only
  split
  · exact refl s
  · exact composes.andUnless (refl s) (composes.andFold (refl s) fun t q => (setCar t c _).trans (emit _ _))

theorem carRetire (s : State) (c : Fin 32) (fuel : Nat) : FaultFrame s (s.carRetire c fuel) := by
  induction fuel generalizing s with
  | zero => exact refl s
  | succ fuel ih =>
    unfold State.carRetire
    dsimp only
    split
    · exact ite (((setCar s c _).trans (carAdvance _ c _)).trans (ih _)) (refl s)
    · exact refl s

theorem listMove (s : State) (c : Fin 32) (d : Desc) (fuel : Nat) : FaultFrame s (s.listMove c d fuel) := by
  induction fuel generalizing s with
  | zero => exact refl s
  | succ fuel ih =>
    unfold State.listMove
    dsimp only
    split
    · exact ite ((setCar s c _).trans (ih _)) (refl s)
    · split
      · exact refl s
      · split
        · exact (setCar s c _).trans (ih _)
        · exact (writeProgress s c _ _ _ _).trans (carStop _ c _)
        · exact (writeProgress s c _ _ _ _).trans (carriageViolation _ c _)

theorem carAhead (s : State) (c : Fin 32) (d : Desc) (fuel : Nat) : FaultFrame s (s.carAhead c d fuel) := by
  induction fuel generalizing s with
  | zero => exact refl s
  | succ fuel ih => exact ite (((setCar s c _).trans (carSend _ c)).trans (ih _)) (refl s)

theorem carRun (s : State) (c : Fin 32) (fuel : Nat) : FaultFrame s (s.carRun c fuel) := by
  induction fuel generalizing s with
  | zero => exact refl s
  | succ fuel ih =>
    unfold State.carRun
    split
    · exact refl s
    · rename_i d _
      extract_lets t1 t2 t3
      have h : FaultFrame s t3 := composes.andIf (composes.andIf (carRetire s c 64) (listMove t1 c d 4))
        ((carSend t2 c).trans (carAhead _ c d 64))
      exact ite h (h.trans (ih t3))

theorem sweepMove (s : State) (c : Fin 32) (i : Fin 4) (first n fuel : Nat) : FaultFrame s (s.sweepMove c i first n fuel) := by
  induction fuel generalizing s with
  | zero => exact refl s
  | succ fuel ih =>
    unfold State.sweepMove
    exact ite (refl s) (ite (((carAdvance s c 4096).trans (setCar _ c _)).trans (ih _)) (ite (refl s) (setCar s c _)))

theorem carGo (s : State) (c : Fin 32) : FaultFrame s (s.carGo c) := by
  unfold State.carGo
  dsimp only
  split
  · exact carPost s c
  · split
    · exact ite (sweepMove s c _ _ _ _) (refl s)
    · exact ite (carRun s c 8) (refl s)

theorem sweepStaged (s : State) (c : Fin 32) (got : List (Nat × LineVal)) : FaultFrame s (s.sweepStaged c got) := by
  unfold State.sweepStaged
  split
  · exact composes.andIf (composes.andIf (setCar s c _) (granuleDone _ _ _ _ _)) ((carAdvance _ c _).trans (carGo _ c))
  · exact refl s

theorem carGot (s : State) (c : Fin 32) (run line : Nat) (v : LineVal) : FaultFrame s (s.carGot c run line v) := by
  unfold State.carGot
  dsimp only
  split
  · exact refl s
  · refine composes.andUnless (refl s) ?_
    split
    · exact ((setCar s c _).trans (carRetire _ c 64)).trans (carStopBy _ c _ _)
    · exact ite ((setCar s c _).trans (carGo _ c)) (ite ((setCar s c _).trans (sweepStaged _ c _)) (setCar s c _))

/-- The answer to a read (R180, R378). -/
theorem respondRead (s : State) (r : Req) (v : LineVal) : FaultFrame s (s.respondRead r v) := by
  unfold State.respondRead
  split
  · exact ite (refl s) (ite ((bump s _ _ _ _).trans (emit _ _)) ((bump s _ _ _ _).trans (emit _ _)))
  · exact carGot s _ _ _ _
  · exact setSeal s _ _
  · exact refl s
  · exact refl s

/-- A read held by a channel without a home is answered with poison; a head's masked write is merged into it (R444, R482). -/
theorem deliverPoison (s : State) (r : Req) (h : r.isMerge = false) : FaultFrame s (s.deliverPoison r) := by
  unfold State.deliverPoison
  split
  · rename_i hk
    unfold State.deliver
    cases hs : r.src with
    | head k => rw [hk]; exact setMem s _
    | _ => simp [Req.isMerge, hk, hs] at h
  · exact respondRead s r _

end FaultFrame

end Sys2Proof.Machine

namespace Sys2Proof.Machine

open Sys2Proof.Claims

/-! Boot training keeps time and the canonical form of the registers (R454, R459, R468, R474, R487) -/

namespace LinkFrame

theorem ite {p : Prop} [Decidable p] {s t u : State} (ht : LinkFrame s t) (hu : LinkFrame s u) :
    LinkFrame s (if p then t else u) := rel_ite ht hu

theorem setTap (s : State) (i t : Nat) : LinkFrame s (s.setTap i t) := .setReg s _ _

theorem markDead (s : State) (c w : Nat) : LinkFrame s (s.markDead c w) := by
  unfold State.markDead
  extract_lets s1
  refine (setReg s _ _ : LinkFrame s s1).trans ?_
  exact ite (setReg s1 _ _) (ite (setReg s1 _ _) (ite (setReg s1 _ _) (setReg s1 _ _)))

theorem fixedReject (s : State) (i : Nat) : LinkFrame s (s.fixedReject i) := (((setReg s _ _).andReg)).trans (.raise _ _ _ _)

theorem trainWire (s : State) (c w : Nat) (sweep : List (Nat × BitVec 32)) (fixed : Bool) :
    LinkFrame s (s.trainWire c w sweep fixed) := by
  unfold State.trainWire
  extract_lets i dq fx used t s1
  refine ite (refl s) ?_
  split
  · exact refl s
  · have h1 : LinkFrame s s1 := linkFrame_composes.andIf (refl s) (fixedReject s i)
    refine ite (setTap s _ _) (h1.trans ?_)
    split
    · exact setTap s1 _ _
    · exact markDead s1 c w

theorem trainWires (s : State) (c : Nat) (ws : List Nat) (sweep : List (Nat × BitVec 32)) (fixed : Bool) :
    LinkFrame s (ws.foldl (fun s w => s.trainWire c w sweep fixed) s) :=
  linkFrame_composes.andFold (refl s) fun t w => trainWire t c w sweep fixed

theorem assignDq (s : State) (c : Fin 32) : LinkFrame s (s.assignDq c) :=
  linkFrame_composes.andFold (refl s) fun t _ => (setSpare t c _ _ _).trans (.raise _ _ _ _)

theorem trainDq (s : State) (c : Fin 32) (sweep : List (Nat × BitVec 32)) (fixed : Bool) :
    LinkFrame s (s.trainDq c sweep fixed).1 := by
  unfold State.trainDq
  extract_lets before s1 s2 now news
  have h : LinkFrame s s2 := (trainWires s c _ sweep fixed).trans (assignDq s1 c)
  refine h.trans ?_
  rw [apply_ite Prod.fst, apply_ite Prod.fst]
  exact ite ((of_fault (.raiseList s2 _)).trans (.refreshWires _ c))
    (ite ((raise s2 _ _ _).trans (.enterLimp _ c)) (.refreshWires s2 c))

theorem trainCa (s : State) (c : Fin 32) (sweep : List (Nat × BitVec 32)) (fixed : Bool) :
    LinkFrame s (s.trainCa c sweep fixed).1 := by
  unfold State.trainCa
  extract_lets s1 dead free s2
  exact (linkFrame_composes.andFold (trainWires s c _ sweep fixed) fun t _ => setCaSpare t c _ _ _).trans (.refreshWires s2 c)

theorem setSiBlocks (s : State) (n : Nat) (bs : List Nat) : LinkFrame s (s.setSiBlocks n bs) :=
  andReg (linkFrame_composes.andFold (refl s) fun t _ => setReg t _ _)

theorem siForm (s : State) (n : Nat) : LinkFrame s (s.siForm n) := by
  unfold State.siForm
  exact ite (refl s) (andReg ⟨rfl, rfl, id, rfl, fun _ => id⟩)

theorem siBegin (s : State) (n : Nat) (c : Fin 32) : LinkFrame s (s.siBegin n c) := by
  unfold State.siBegin
  extract_lets s1 s2
  have h : LinkFrame s s2 := ((setReg s _ _).trans (setSiBlocks s1 n _)).trans (siForm _ n)
  exact linkFrame_composes.andIf h (raise s2 _ _ _)

theorem replayRecord (s : State) (c : Fin 32) (outcome entries reads : Nat) :
    LinkFrame s (s.replayRecord c outcome entries reads) := (setReg s _ _).trans (of_fault (.toFm _ _ _))

/-- A declaration of loss changes the cache, the channel, the journal, registers and answers alone (R474, R482). -/
theorem loseChannel (s : State) (c : Fin 32) : LinkFrame s (s.loseChannel c) := by
  have hcache : ∀ (t : State) (ls : List CacheLine), LinkFrame t { t with cache := ls } :=
    fun _ _ => ⟨rfl, rfl, id, rfl, fun _ => id⟩
  unfold State.loseChannel
  extract_lets was s1 old s2 s3 s4 reads es held s5 path s6 s7
  have h3 : LinkFrame s s3 := ((hcache s _).trans (setChan s1 c _)).trans (raise s2 _ _ _)
  refine h3.trans ?_
  split
  · exact siBegin s3 _ c
  · have h6 : LinkFrame s3 s6 := ((raise s3 _ _ _).trans (setChan s4 c _)).trans (of_fault (.setMem s5 _))
    have h7 : LinkFrame s6 s7 := linkFrame_composes.andFold (refl s6) fun t e => by
      split
      · exact refl t
      · rename_i hm
        exact of_fault (.deliverPoison t e.req (by simpa using hm))
    exact ((h6.trans h7).trans (replayRecord s7 c _ _ _)).andReg

theorem bootClock (s : State) (n : Nat) (edges : BitVec 4) : LinkFrame s (s.bootClock n edges) := by
  unfold State.bootClock
  extract_lets r s1 s2
  have h : LinkFrame s s1 := linkFrame_composes.andFold (refl s) fun t k => linkFrame_composes.andUnless (refl t) (setReg t _ _)
  refine h.trans ?_
  split
  · exact setReg s1 _ _
  · exact (setReg s1 _ _).trans (ite (raise s2 _ _ _) (raise s2 _ _ _))

theorem bootChannel (s : State) (c : Fin 32) (sweep : List (Nat × BitVec 32)) : LinkFrame s (s.bootChannel c sweep) := by
  unfold State.bootChannel
  dsimp only
  have hca := trainCa s c sweep false
  have hdq := trainDq (s.trainCa c sweep false).1 c sweep false
  exact ite (refl s) (ite ((setChan s c _).trans (loseChannel _ c)).andReg
    ((hca.trans hdq).trans (ite (loseChannel _ c).andReg (refl _))))

theorem refreshExpress (s : State) (d l : Nat) : LinkFrame s (s.refreshExpress d l) := by
  unfold State.refreshExpress
  exact (((setReg s _ _).andReg).andReg).andReg

theorem bootExpress (s : State) (d l : Nat) (sweep : List (Nat × BitVec 32)) : LinkFrame s (s.bootExpress d l sweep) := by
  unfold State.bootExpress
  refine (linkFrame_composes.andFold (refl s) fun t w => ?_).trans (refreshExpress _ d l)
  dsimp only
  refine ite (refl t) ?_
  split
  · exact refl t
  · split
    · exact setTap t _ _
    · exact (setReg t _ _).andReg

end LinkFrame

/-- Training in step 4 ends with its mark in XR_GSTATUS (R454). -/
theorem State.bootTrain_eq (s : State) (sweep : List (Nat × BitVec 32)) (clocks : List (Nat × BitVec 4)) :
    ∃ t, LinkFrame s t ∧ s.bootTrain sweep clocks = t.setFlag aXR_GSTATUS 0 true := by
  have hP := linkFrame_composes
  have hclock : ∀ (t : State) (n : Nat), LinkFrame t (match clocks.find? (fun (p : Nat × BitVec 4) => p.1 == n) with
      | some p => t.bootClock n p.2
      | none => t) := fun t n => by
    split
    · exact .bootClock t n _
    · exact .refl t
  exact ⟨_, hP.andFold (hP.andFold (hP.andFold (.refl s) hclock) fun t c => .bootChannel t c sweep)
    fun t i => .bootExpress t _ _ sweep, rfl⟩


end Sys2Proof.Machine

namespace Sys2Proof.Machine

open Sys2Proof.Claims

/-! Power-up and power loss (R109, R614, R633) -/

/-- With no fuse command in progress a loss of power leaves the array as it is (R633). -/
theorem State.otpAfterLoss_idle (s : State) (h : s.otp.cmd = none) : s.otpAfterLoss = s.otp.words := by
  simp [State.otpAfterLoss, State.otpBlown, State.otpBlowing, h]

theorem execPowerUp_converts (s : State) : exec .powerUp s = .next { s with pins := { s.pins with converter := true } } := by
  have hsame : ∀ t : State, t.pins.converter = true → t = { t with pins := { t.pins with converter := true } } :=
    fun t ht => by conv_rhs => rw [← ht]
  show Host.Outcome.next (if s.pins.converter then s else { s with pins := { s.pins with converter := true } }) = _
  cases h : s.pins.converter with
  | true => exact congrArg _ (hsame s h)
  | false => rfl

/-! Steps of start-up (R614) -/

/-- The integer RT is read from the time unit. -/
theorem State.nowW_of_tu {s u : State} (h : u.tu = s.tu) : u.nowW = s.nowW := by
  rw [State.nowW, State.nowW, State.now, State.now, h]

/-- A step starts with its RT recorded, and writes nothing else (R614). -/
theorem State.startStep_shows (s : State) (n : Nat) (hn : n < 16) (hw : sparseWf regReset s.regs = true) (t : State)
    (ht : t = s.startStep n) : t.fld aSU_STATUS 0 4 = n ∧ t.reg (aSU_STEP_RT n) = s.nowW
    ∧ sparseWf regReset t.regs = true ∧ RegsKept s t [aSU_STATUS, aSU_STEP_RT n] := by
  subst ht
  have hw' := s.setFld_regsWf aSU_STATUS 0 4 n hw
  have hne : aSU_STATUS ≠ aSU_STEP_RT n := by simp only [aSU_STATUS, aSU_STEP_RT]; omega
  refine ⟨?_, State.reg_setReg_same _ _ _ hw', State.setReg_regsWf _ _ _ hw', fun a ha => ?_⟩
  · rw [State.fld, State.startStep, State.reg_setReg_ne _ _ _ _ hne]
    exact (s.fld_setFld_same _ _ _ _ hw (by decide)).trans (Nat.mod_eq_of_lt hn)
  · simp only [List.mem_cons, List.not_mem_nil, or_false, not_or] at ha
    rw [State.startStep, State.reg_setReg_ne _ _ _ _ ha.2, State.reg_setFld_ne _ _ _ _ _ _ ha.1]

/-- Step 4 follows step 3 once the stack clock runs. -/
theorem execStackClockReady_steps (s : State) (hw : s.regsWf = true) (h3 : s.fld aSU_STATUS 0 4 = 3) (hh : s.pins.held = false) :
    ∃ u, exec .stackClockReady s = .next u ∧ u.fld aSU_STATUS 0 4 = 4 ∧ u.reg (aSU_STEP_RT 4) = s.nowW
      ∧ RegsKept s u [aSU_STATUS, aSU_STEP_RT 4] ∧ u = { s with regs := u.regs } := by
  obtain ⟨hstep, hrt, -, hkept⟩ := s.startStep_shows 4 (by decide) hw _ rfl
  have hexec : exec .stackClockReady s = .next (s.startStep 4) := congrArg Host.Outcome.next (if_pos ⟨h3, hh⟩)
  exact ⟨_, hexec, hstep, hrt, hkept, rfl⟩

/-! Supply readings (R111) -/

/-- MOD_SUPPLY for a reading. -/
def supplyWord (r : SupplyReading) : Word := packBits [(0, 16, r.vin.toNat), (16, 16, r.iin.toNat)]

/-- MOD_POWER for a reading, with the sticky flags as they stand. -/
def powerWord (r : SupplyReading) (sticky : Nat) : Word :=
  packBits [(0, 16, r.pin.toNat), (16, 8, r.convTemp.toNat), (24, 1, bit r.convOk), (25, 2, sticky)]

theorem supplyWord_fields (r : SupplyReading) :
    getBits (supplyWord r) 0 16 = r.vin.toNat ∧ getBits (supplyWord r) 16 16 = r.iin.toNat := by
  unfold supplyWord packBits packBits
  rw [getBits_putBits_same _ _ _ _ (by decide), getBits_putBits_disjoint _ _ _ _ _ _ (by decide),
    getBits_putBits_same _ _ _ _ (by decide)]
  exact ⟨Nat.mod_eq_of_lt r.vin.isLt, Nat.mod_eq_of_lt r.iin.isLt⟩

theorem powerWord_fields (r : SupplyReading) (sticky : Nat) :
    getBits (powerWord r sticky) 0 16 = r.pin.toNat ∧ getBits (powerWord r sticky) 16 8 = r.convTemp.toNat
    ∧ (powerWord r sticky).getLsbD 24 = r.convOk
    ∧ ∀ i, i < 2 → (powerWord r sticky).getLsbD (25 + i) = sticky.testBit i := by
  unfold powerWord packBits packBits packBits packBits
  refine ⟨?_, ?_, ?_, fun i hi => ?_⟩
  · rw [getBits_putBits_same _ _ _ _ (by decide)]
    exact Nat.mod_eq_of_lt r.pin.isLt
  · rw [getBits_putBits_disjoint _ _ _ _ _ _ (by decide), getBits_putBits_same _ _ _ _ (by decide)]
    exact Nat.mod_eq_of_lt r.convTemp.isLt
  · rw [getLsbD_putBits, if_neg (by decide), getLsbD_putBits, if_neg (by decide), getLsbD_putBits, if_pos (by decide)]
    cases r.convOk <;> rfl
  · rw [getLsbD_putBits, if_neg (by omega), getLsbD_putBits, if_neg (by omega), getLsbD_putBits, if_neg (by omega),
      getLsbD_putBits, if_pos (by omega), Nat.add_sub_cancel_left]

/-- A reading writes MOD_SUPPLY, MOD_POWER and the flag of the supply window, and OTP follows it (R111, R543). -/
theorem State.supplyReading_eq (s : State) (r : SupplyReading) : ∃ b o, s.supplyReading r =
    { ((s.setReg aMOD_SUPPLY (supplyWord r)).setReg aMOD_POWER (powerWord r (s.fld aMOD_POWER 25 2))).setFlag aOTP_STATUS 2 b
      with otp := o } := by
  have hfld : (s.setReg aMOD_SUPPLY (supplyWord r)).fld aMOD_POWER 25 2 = s.fld aMOD_POWER 25 2 :=
    congrArg (getBits · 25 2) (s.reg_setReg_ne _ _ _ (by decide))
  have hwatch : ∀ t : State, ∃ b o, t.supplyWatch = { t.setFlag aOTP_STATUS 2 b with otp := o } := fun t => by
    unfold State.supplyWatch
    dsimp only
    split
    · split <;> exact ⟨_, _, rfl⟩
    · exact ⟨_, _, rfl⟩
  rw [← hfld]
  unfold State.supplyReading
  dsimp only
  split <;> exact hwatch _

/-- What a reading shows, and what it leaves (R111). -/
theorem State.supplyReading_shows (s : State) (r : SupplyReading) (hw : s.regsWf = true) (t : State)
    (ht : t = s.supplyReading r) :
    (t.reg aMOD_SUPPLY = supplyWord r ∧ t.reg aMOD_POWER = powerWord r (s.fld aMOD_POWER 25 2)
      ∧ sparseWf regReset t.regs = true ∧ RegsKept s t [aMOD_SUPPLY, aMOD_POWER, aOTP_STATUS])
    ∧ t.pins = s.pins ∧ t.dram = s.dram ∧ t.tu = s.tu ∧ t.snapDue = s.snapDue := by
  obtain ⟨b, o, h⟩ := s.supplyReading_eq r
  rw [h] at ht
  subst ht
  have hw1 := s.setReg_regsWf aMOD_SUPPLY (supplyWord r) hw
  have hw2 := State.setReg_regsWf _ aMOD_POWER (powerWord r (s.fld aMOD_POWER 25 2)) hw1
  refine ⟨⟨?_, ?_, State.setFlag_regsWf _ _ _ _ hw2, fun a ha => ?_⟩, rfl, rfl, rfl, rfl⟩
  · refine (State.reg_setFlag_ne _ _ _ _ _ (by decide)).trans ?_
    rw [State.reg_setReg_ne _ _ _ _ (by decide)]
    exact s.reg_setReg_same _ _ hw
  · exact (State.reg_setFlag_ne _ _ _ _ _ (by decide)).trans (State.reg_setReg_same _ _ _ hw1)
  · simp only [List.mem_cons, List.not_mem_nil, or_false, not_or] at ha
    obtain ⟨h1, h2, h3⟩ := ha
    refine (State.reg_setFlag_ne _ _ _ _ _ h3).trans ?_
    rw [State.reg_setReg_ne _ _ _ _ h2, State.reg_setReg_ne _ _ _ _ h1]

/-- The flags and fields that follow when the registers hold the words of a reading. -/
theorem State.fields_of_words (u : State) (r : SupplyReading) (s : State) (hs : u.reg aMOD_SUPPLY = supplyWord r)
    (hp : u.reg aMOD_POWER = powerWord r (s.fld aMOD_POWER 25 2)) :
    u.fld aMOD_SUPPLY 0 16 = r.vin.toNat ∧ u.fld aMOD_SUPPLY 16 16 = r.iin.toNat ∧ u.fld aMOD_POWER 0 16 = r.pin.toNat
    ∧ u.fld aMOD_POWER 16 8 = r.convTemp.toNat ∧ u.flag aMOD_POWER 24 = r.convOk
    ∧ ∀ i, i < 2 → u.flag aMOD_POWER (25 + i) = s.flag aMOD_POWER (25 + i) := by
  obtain ⟨hvin, hiin⟩ := supplyWord_fields r
  obtain ⟨hpin, htemp, hok, hsticky⟩ := powerWord_fields r (s.fld aMOD_POWER 25 2)
  simp only [State.fld, State.flag, hs, hp]
  refine ⟨hvin, hiin, hpin, htemp, hok, fun i hi => (hsticky i hi).trans ?_⟩
  rw [State.fld, testBit_getBits, decide_eq_true hi, Bool.true_and]

end Sys2Proof.Machine

namespace Sys2Proof.Machine

open Sys2Proof.Claims

@[simp] theorem State.settle_pins (b s : State) : (State.settle b s).pins = s.pins := by
  obtain ⟨rs, d, h⟩ := s.settle_changes b
  rw [h]
@[simp] theorem State.settle_cache (b s : State) : (State.settle b s).cache = s.cache := by
  obtain ⟨rs, d, h⟩ := s.settle_changes b
  rw [h]

/-! Registers of the module and of start-up, which no reaction to a fault event writes -/

/-- An event raised at a command's end leaves a register of the module or of start-up as it is. -/
theorem State.keepsReg_raise {a : Nat} (ha : a < 0x40000) (s : State) (src idx val : Nat) :
    State.KeepsReg a s (s.raise src idx val) :=
  (State.keepsReg_reaction (by omega) (by simp only [ReactionReg]; omega)).raise s src idx val

theorem State.keepsReg_settle {a : Nat} (ha : a < 0xE0000) (b s : State) : State.KeepsReg a s (State.settle b s) :=
  (State.keepsReg_collector (by simp only [CollectorReg]; omega)).settle b s

/-! Supply limits and the end of step 1 (R111, R614) -/

/-- The sticky flag of a limit that has been passed (R111). -/
def State.limitMarked (t : State) (i : Nat) (passed : Bool) : State := if passed then t.setFlag aMOD_POWER i true else t

theorem State.limitMarked_shows (t : State) (i : Nat) (passed : Bool) (hi : i = 25 ∨ i = 26)
    (hw : sparseWf regReset t.regs = true) (x : State) (hx : x = t.limitMarked i passed) :
    x.flag aMOD_POWER i = (passed || t.flag aMOD_POWER i) ∧ x.fld aMOD_POWER 0 16 = t.fld aMOD_POWER 0 16
    ∧ x.fld aMOD_POWER 16 8 = t.fld aMOD_POWER 16 8 ∧ x.flag aMOD_POWER 24 = t.flag aMOD_POWER 24
    ∧ State.KeepsReg aMOD_SUPPLY t x ∧ x.dram = t.dram := by
  subst hx
  cases passed with
  | false => exact ⟨rfl, rfl, rfl, rfl, (State.keepsReg_composes _).refl t, rfl⟩
  | true => exact ⟨t.flag_setFlag_same _ _ _ hw (by omega), t.fld_setFld_disjoint _ _ _ _ _ _ hw (by omega),
      t.fld_setFld_disjoint _ _ _ _ _ _ hw (by omega), t.flag_setFlag_other _ _ _ _ hw (by omega),
      .setReg t _ _ (by decide), rfl⟩

theorem State.supplyLimit_eq (s : State) (r : SupplyReading) (i : Nat) (passed : Bool) (hp : s.pins.pwrGood = true) (x : State)
    (hx : x = (s.supplyReading r).limitMarked i passed) :
    s.supplyLimit r i passed = finish s (if passed then x.raise 8 0 r.vin.toNat else x) := by
  subst hx
  rw [State.supplyLimit, if_neg (by simp [hp]), State.limitMarked]
  cases passed <;> simp only [Bool.false_eq_true, if_true, if_false]

/-- A limit's reading stands, and its flag is set if it has been passed (R111). -/
theorem State.supplyLimit_shows (s : State) (r : SupplyReading) (i : Nat) (hi : i = 25 ∨ i = 26) (passed : Bool)
    (hp : s.pins.pwrGood = true) (hw : s.regsWf = true) : ∃ u, s.supplyLimit r i passed = .next u
      ∧ u.flag aMOD_POWER i = (passed || s.flag aMOD_POWER i)
      ∧ u.fld aMOD_SUPPLY 0 16 = r.vin.toNat ∧ u.fld aMOD_SUPPLY 16 16 = r.iin.toNat
      ∧ u.fld aMOD_POWER 0 16 = r.pin.toNat ∧ u.fld aMOD_POWER 16 8 = r.convTemp.toNat
      ∧ u.flag aMOD_POWER 24 = r.convOk ∧ u.dram = s.dram := by
  obtain ⟨⟨hsupply, hpower, hwf, -⟩, -, hdram, -, -⟩ := s.supplyReading_shows r hw _ rfl
  obtain ⟨hvin, hiin, hpin, htemp, hok, hsticky⟩ := (s.supplyReading r).fields_of_words r s hsupply hpower
  have hflag : (s.supplyReading r).flag aMOD_POWER i = s.flag aMOD_POWER i := by
    rcases hi with rfl | rfl
    · exact hsticky 0 (by decide)
    · exact hsticky 1 (by decide)
  obtain ⟨xflag, xpin, xtemp, xok, xsupply, xdram⟩ := (s.supplyReading r).limitMarked_shows i passed hi hwf _ rfl
  have hexec := (s.supplyLimit_eq r i passed hp _ rfl).trans (finish_next _ _)
  generalize (s.supplyReading r).limitMarked i passed = x at xflag xpin xtemp xok xsupply xdram hexec
  have hend : ∀ a, a < 0x40000 → State.KeepsReg a x (State.settle s (if passed then x.raise 8 0 r.vin.toNat else x)) :=
    fun a ha => ((State.keepsReg_composes a).andIf ((State.keepsReg_composes a).refl x)
      (State.keepsReg_raise ha x _ _ _)).trans (State.keepsReg_settle (by omega) s _)
  have hfault : FaultFrame x (if passed then x.raise 8 0 r.vin.toNat else x) :=
    FaultFrame.composes.andIf (.refl x) (.raise _ _ _ _)
  have hS := xsupply.trans (hend aMOD_SUPPLY (by decide))
  have hP := hend aMOD_POWER (by decide)
  exact ⟨_, hexec, (hP.flag i).trans (xflag.trans (by rw [hflag])), (hS.fld 0 16).trans hvin, (hS.fld 16 16).trans hiin,
    (hP.fld 0 16).trans (xpin.trans hpin), (hP.fld 16 8).trans (xtemp.trans htemp), (hP.flag 24).trans (xok.trans hok),
    (State.settle_dram _ _).trans (hfault.dram.trans (xdram.trans hdram))⟩

/-- The state in which AON runs and its first readings stand. -/
def State.aonRuns (s : State) (r : SupplyReading) : State :=
  { s.supplyReading r with pins := { (s.supplyReading r).pins with aonReady := true } }

/-- Step 1 ends: the readings stand, and step 2 starts unless the device is held (R115, R614). -/
theorem execAonStartDone_ends (s : State) (r : SupplyReading) (hq : Quiet s) (hw : s.regsWf = true) (hp : s.pins.pwrGood = true)
    (h1 : s.fld aSU_STATUS 0 4 = 1) (ha : s.pins.aonReady = false) :
    ∃ u, exec (.aonStartDone r.vin r.iin r.pin r.convTemp r.convOk) s = .next u ∧ u.fld aMOD_SUPPLY 0 16 = r.vin.toNat
      ∧ u.flag aMOD_POWER 24 = r.convOk ∧ u.pins.aonReady = true
      ∧ (s.pins.held = false → u.fld aSU_STATUS 0 4 = 2 ∧ u.reg (aSU_STEP_RT 2) = s.nowW)
      ∧ (s.pins.held = true → u.fld aSU_STATUS 0 4 = 1) := by
  obtain ⟨⟨hsupply, hpower, hwf, hkept⟩, hpins, -, htu, hsnap⟩ := s.supplyReading_shows r hw _ rfl
  obtain ⟨hvin, -, -, -, hok, -⟩ := (s.aonRuns r).fields_of_words r s hsupply hpower
  have hexec : exec (.aonStartDone r.vin r.iin r.pin r.convTemp r.convOk) s =
      finish s (if s.pins.held then s.aonRuns r else (s.aonRuns r).startStep 2) := if_neg (by simp [hp, h1, ha])
  cases hh : s.pins.held with
  | true =>
    rw [if_pos hh, finish_quiet s (s.aonRuns r) (hsnap.trans hq)] at hexec
    exact ⟨_, hexec, hvin, hok, rfl, nofun, fun _ => (congrArg (getBits · 0 4) (hkept aSU_STATUS (by decide))).trans h1⟩
  | false =>
    rw [if_neg (by simp [hh]), finish_quiet s ((s.aonRuns r).startStep 2) (hsnap.trans hq)] at hexec
    obtain ⟨hstep, hrt, -, hreg⟩ := (s.aonRuns r).startStep_shows 2 (by decide) hwf _ rfl
    have hnow : (s.aonRuns r).nowW = s.nowW := State.nowW_of_tu htu
    exact ⟨_, hexec, (congrArg (getBits · 0 16) (hreg aMOD_SUPPLY (by decide))).trans hvin,
      (congrArg (BitVec.getLsbD · 24) (hreg aMOD_POWER (by decide))).trans hok, rfl, fun _ => ⟨hstep, hrt.trans hnow⟩, nofun⟩

/-! Straps and the release of module reset (R115 to R118, R616) -/

/-- The layout that HEADCFG selects (R117). -/
def strapLayout (hc : BitVec 2) : Nat := if hc = 3 then 0 else hc.toNat

/-- MOD_STRAP for a sampled HEADCFG (R117). -/
def strapWord (hc : BitVec 2) : Word :=
  packBits [(0, 2, hc.toNat), (2, 2, strapLayout hc), (4, 1, bit (decide (hc = 3)))]

theorem strapWord_fields (hc : BitVec 2) : getBits (strapWord hc) 0 2 = hc.toNat ∧ getBits (strapWord hc) 2 2 = strapLayout hc
    ∧ (strapWord hc).getLsbD 4 = decide (hc = 3) := by
  revert hc
  decide

/-- The state that has sampled the straps. -/
def State.strapped (s : State) (hc : BitVec 2) : State :=
  let t := (s.setReg aMOD_STRAP (strapWord hc)).setFld aMOD_PERST 16 16 (perstUsed (strapLayout hc))
  { t with pins := { t.pins with straps := hc, strapsSampled := true } }

/-- The straps are sampled once, 5 µs after release; the reserved value raises its event and selects layout 0 (R117). -/
theorem execStrapSample_samples (s : State) (hc : BitVec 2) (hw : s.regsWf = true) (hp : s.pins.pwrGood = true)
    (hh : s.pins.held = false) (hs : s.pins.strapsSampled = false) (ht : s.pins.releasedAt + cycUs 5 ≤ s.cyc) :
    ∃ u, exec (.strapSample hc) s = .next u ∧ u.layout = strapLayout hc ∧ u.fld aMOD_STRAP 0 2 = hc.toNat
      ∧ u.flag aMOD_STRAP 4 = decide (hc = 3) ∧ u.pins.strapsSampled = true := by
  have hexec : exec (.strapSample hc) s
      = finish s (if hc == 3 then (s.strapped hc).raise 10 0 3 else s.strapped hc) := by
    have hbeq : decide (hc = 3) = (hc == 3) := rfl
    have hlay : strapLayout hc = if (hc == 3) = true then 0 else hc.toNat := by simp [strapLayout]
    show execStrapSample hc s = _
    rw [execStrapSample, if_neg (by simp [hp, hh, hs, ht]), State.strapped, strapWord, hbeq, hlay]
  rw [finish_next] at hexec
  obtain ⟨hhc, hlayout, hrsvd⟩ := strapWord_fields hc
  have hstrap : (s.strapped hc).reg aMOD_STRAP = strapWord hc :=
    (State.reg_setFld_ne _ _ _ _ _ _ (by decide)).trans (s.reg_setReg_same _ _ hw)
  have hfault : FaultFrame (s.strapped hc) (if hc == 3 then (s.strapped hc).raise 10 0 3 else s.strapped hc) :=
    FaultFrame.composes.andIf (.refl _) (.raise _ _ _ _)
  have hevent : State.KeepsReg aMOD_STRAP (s.strapped hc) (if hc == 3 then (s.strapped hc).raise 10 0 3 else s.strapped hc) :=
    (State.keepsReg_composes _).andIf ((State.keepsReg_composes _).refl _) (State.keepsReg_raise (by decide) _ _ _ _)
  have hreg := (hevent.trans (State.keepsReg_settle (by decide) s _)).2.trans hstrap
  refine ⟨_, hexec, ?_, ?_, ?_, ?_⟩
  · exact (congrArg (getBits · 2 2) hreg).trans hlayout
  · exact (congrArg (getBits · 0 2) hreg).trans hhc
  · exact (congrArg (BitVec.getLsbD · 4) hreg).trans hrsvd
  · rw [State.settle_pins, hfault.pins]
    rfl

end Sys2Proof.Machine

namespace Sys2Proof.Machine

open Sys2Proof.Claims

/-! Module reset (R116, R631) -/

/-- A loss of PTM changes the time unit, and beyond it no more than reactions to fault events do. -/
theorem State.losePtm_frame (s : State) : ∃ t, FaultFrame { s with tu := t } s.losePtm := by
  have hchange : ∀ (u : TimeUnit) bits, ∃ t, FaultFrame { s with tu := t } (State.timeChange { s with tu := u } bits) :=
    fun u bits => ⟨_, State.faultFrame_timeChange { s with tu := u } bits⟩
  unfold State.losePtm State.loseSource State.retrust
  extract_lets sel unit s1
  split
  · split
    · exact hchange _ _
    · exact hchange _ _
  · exact ⟨_, .refl s1⟩

/-- What survives a module reset outside the registers, and the canonical form that their survivors rest on. -/
structure ResetFrame (s u : State) : Prop where
  tu : u.tu = s.tu
  chans : u.chans = s.chans
  otp : u.otp = s.otp
  regs : sparseWf regReset s.regs = true → sparseWf regReset u.regs = true

theorem resetFrame_composes : Composes ResetFrame where
  refl _ := ⟨rfl, rfl, rfl, id⟩
  trans h k := ⟨k.tu.trans h.tu, k.chans.trans h.chans, k.otp.trans h.otp, fun w => k.regs (h.regs w)⟩

/-- Measurements that are abandoned touch registers and lists of measurements alone (R463). -/
theorem ResetFrame.dropMeasures (s : State) (c : Nat) : ResetFrame s (s.dropMeasures c) := by
  have hP := resetFrame_composes
  have hset : ∀ (t : State) a v, ResetFrame t (t.setReg a v) := fun t a v => ⟨rfl, rfl, rfl, t.setReg_regsWf a v⟩
  unfold State.dropMeasures
  extract_lets old s1
  have h1 : ResetFrame s s1 := ⟨rfl, rfl, rfl, id⟩
  exact hP.trans (hP.trans h1 (hP.dropStandins s1 c (hset · _) (hset · _))) (hset _ _ _)

theorem State.head_reset_down (k : Fin 16) : (State.reset.head k).up = false := by
  revert k
  decide

/-- What a module reset leaves: the device held, RT, the fuses and the modes of the channels as they were, everything else
that the text names at its reset value, and the reset counted (R116, R631). -/
theorem State.moduleReset_leaves (s : State) (hw : s.regsWf = true) (u : State) (hu : u = s.moduleReset) :
    (u.pins.held = true ∧ u.tu.rt = s.tu.rt ∧ u.otp.words = s.otp.words ∧ (∀ c, (u.chan c).mode = (s.chan c).mode)
      ∧ (∀ k, (u.head k).up = false) ∧ u.dram = [] ∧ u.pstore = [] ∧ u.cache = [] ∧ u.pend = [] ∧ u.grants = []
      ∧ (∀ t, u.thread t = State.reset.thread t) ∧ (s.tu.source = .ptm → u.tu.source = .none)
      ∧ u.fld aSU_RESET 16 16 = min (s.fld aSU_RESET 16 16 + 1) 0xFFFF) ∧ u.snapDue = false := by
  unfold State.moduleReset at hu
  extract_lets cause cable s1 fresh unit halts links therm otp pins t0 t1 t2 t3 t4 at hu
  obtain ⟨lost, hlost⟩ := s.losePtm_frame
  have hdrop : ResetFrame s.losePtm s1 := resetFrame_composes.andFold (resetFrame_composes.refl _) ResetFrame.dropMeasures
  have hw0 : sparseWf regReset t0.regs = true := sparseWf_filter _ _ _ (hdrop.regs (hlost.regs hw))
  have hw1 : sparseWf regReset t1.regs = true := State.setFld_regsWf _ _ _ _ _ hw0
  have hreset : u.reg aSU_RESET = packBits [(0, 2, 1), (16, 16, satAt 16 (getBits cause 16 16 + 1))] := by
    have hthermal : u.reg aSU_RESET = t3.reg aSU_RESET := hu ▸ (State.reg_setFlag_ne _ aTH_STATUS _ _ _ (by decide)).trans
      (t3.reg_setFld_ne aTH_STATUS _ _ _ _ (by decide))
    exact hthermal.trans ((t2.reg_setFlag_ne aSU_STATUS _ _ _ (by decide)).trans (t1.reg_setReg_same _ _ hw1))
  subst hu
  refine ⟨⟨rfl, ?_, ?_, fun c => ?_, State.head_reset_down, rfl, rfl, rfl, rfl, rfl, fun _ => rfl, fun hs => ?_, ?_⟩, rfl⟩
  · show s1.tu.rt = s.tu.rt
    rw [hdrop.tu]
    exact s.losePtm_drops.2.2.2
  · show s1.otp.words = s.otp.words
    rw [hdrop.otp, hlost.otp]
  · show ((s1.chans.map Channel.kept)[c]).mode = (s.chan c).mode
    rw [hdrop.chans, hlost.chans]
    simp [Channel.kept, State.chan]
  · show s1.tu.source = .none
    rw [hdrop.tu]
    exact (s.losePtm_source hs).1
  · rw [State.fld, hreset, packBits, packBits, packBits, getBits_putBits_disjoint _ _ _ _ _ _ (by decide),
      getBits_putBits_same _ _ _ _ (by decide), Nat.mod_eq_of_lt (by unfold satAt; omega)]
    rfl

/-- A module reset is recognised while the device is powered and not held (R116). -/
theorem execModuleReset_resets (s : State) (hw : s.regsWf = true) (hp : s.pins.pwrGood = true) (hh : s.pins.held = false) :
    exec .moduleReset s = .next s.moduleReset := by
  have hexec : exec .moduleReset s = finish s s.moduleReset := congrArg (finish s) (if_pos ⟨hp, hh⟩)
  exact hexec.trans (finish_quiet s _ (s.moduleReset_leaves hw _ rfl).2)

theorem execModuleReset_held (s : State) (hq : Quiet s) (hh : s.pins.held = true) : exec .moduleReset s = .next s := by
  have hexec : exec .moduleReset s = finish s s := congrArg (finish s) (if_neg (by simp [hh]))
  exact hexec.trans (finish_quiet s s hq)

/-- The state as RST_N rises: no halt is owed for the time held (R115, R149). -/
def State.released (s : State) : State :=
  { s with pins := { s.pins with held := false, releasedAt := s.cyc, strapsSampled := false }, eqDigestBusy := true,
           halt := { s.halt with lastOpen := s.cyc, lastGrid := s.gridDue.or s.halt.lastGrid } }

/-- Start-up resumes at step 2 once AON runs (R115, R616). -/
theorem execModuleRelease_resumes (s : State) (hw : s.regsWf = true) (hh : s.pins.held = true) :
    ∃ u, exec .moduleRelease s = .next u ∧ u.pins.held = false ∧ u.tu = s.tu ∧ u.eqDigestBusy = true
      ∧ (s.pins.aonReady = true → u.fld aSU_STATUS 0 4 = 2 ∧ u.reg (aSU_STEP_RT 2) = s.nowW)
      ∧ (s.pins.aonReady = false → u.regs = s.regs) := by
  have hexec : exec .moduleRelease s = .next (if s.pins.aonReady then s.released.startStep 2 else s.released) :=
    if_neg (by simp [hh])
  cases ha : s.pins.aonReady with
  | true =>
    rw [if_pos ha] at hexec
    obtain ⟨hstep, hrt, -, -⟩ := s.released.startStep_shows 2 (by decide) hw _ rfl
    exact ⟨_, hexec, rfl, rfl, rfl, fun _ => ⟨hstep, hrt⟩, nofun⟩
  | false =>
    rw [if_neg (by simp [ha])] at hexec
    exact ⟨_, hexec, rfl, rfl, rfl, nofun, fun _ => rfl⟩

end Sys2Proof.Machine

namespace Sys2Proof.Machine

open Sys2Proof.Claims

/-! Step 4: training and fill (R410, R454, R614, R632) -/

/-- What the stand-ins of step 4 leave: time, an empty cache, and the registers other than their own (R477, R632). -/
structure FillFrame (s u : State) : Prop where
  tu : u.tu = s.tu
  cache : s.cache = [] → u.cache = []
  reg : State.KeepsReg aXR_GSTATUS s u

theorem fillFrame_composes : Composes FillFrame where
  refl s := ⟨rfl, id, (State.keepsReg_composes _).refl s⟩
  trans h k := ⟨k.tu.trans h.tu, fun hc => k.cache (h.cache hc), h.reg.trans k.reg⟩

namespace FillFrame

theorem setReg (s : State) (a : Nat) (v : Word) (h : aXR_GSTATUS ≠ a) : FillFrame s (s.setReg a v) :=
  ⟨rfl, id, .setReg s a v h⟩

theorem status (s : State) (n : Nat) (v : Word) : FillFrame s (s.setReg (aXR_SI_STATUS n) v) :=
  setReg s _ v (by simp only [aXR_GSTATUS, aXR_SI_STATUS]; omega)

theorem setSiBlocks (s : State) (n : Nat) (bs : List Nat) : FillFrame s (s.setSiBlocks n bs) := by
  have hP := fillFrame_composes
  unfold State.setSiBlocks
  refine hP.trans (hP.andFold (hP.refl s) fun t q => setReg t _ _ ?_) (status _ n _)
  simp only [aXR_GSTATUS, aXR_SI_BLK]
  omega

theorem siForm (s : State) (n : Nat) : FillFrame s (s.siForm n) := by
  have hP := fillFrame_composes
  unfold State.siForm
  extract_lets surv links s1
  have h1 : FillFrame s s1 := ⟨rfl, id, .of_regs rfl⟩
  exact hP.andUnless (hP.refl s) (hP.trans h1 (status s1 n _))

theorem siFill (s : State) (n : Nat) : FillFrame s (s.siFill n) := by
  have hP := fillFrame_composes
  obtain ⟨hregs, hcache, -, htu, -⟩ := s.siPoisoned_frame n _ rfl
  have hpoison : FillFrame s (s.siPoisoned n) := ⟨htu, fun h => by rw [hcache, h]; rfl, .of_regs hregs⟩
  have hserve : FillFrame (s.siPoisoned n) ((s.siPoisoned n).siServing n) := hP.trans (status _ n _) (status _ n _)
  rw [s.siFill_eq n _ rfl]
  refine hP.trans (hP.trans hpoison hserve) ?_
  split
  · exact ⟨rfl, id, .of_regs rfl⟩
  · exact hP.refl _

theorem bootStandin (s : State) (n : Nat) : FillFrame s (s.bootStandin n) := by
  have hP := fillFrame_composes
  unfold State.bootStandin
  extract_lets bs s1
  have h1 : FillFrame s s1 := hP.andIf (hP.refl s) (hP.trans (setSiBlocks s n _) (siForm _ n))
  exact hP.andUnless (hP.refl s) (hP.andUnless h1 (siFill s1 n))

end FillFrame

/-- The fill empties the cache and leaves time and the training's end as they are (R410). -/
theorem State.bootFill_frame (s : State) (t : State) (ht : t = s.bootFill) :
    t.tu = s.tu ∧ t.cache = [] ∧ State.KeepsReg aXR_GSTATUS s t := by
  subst ht
  unfold State.bootFill
  extract_lets links s1
  obtain ⟨htu, hcache, hreg⟩ := fillFrame_composes.trans (.bootStandin s1 0) (.bootStandin (s1.bootStandin 0) 1)
  exact ⟨htu, hcache rfl, hreg.since rfl⟩

/-- Steps 5 and 6 start together, or step 6 with a shutdown: step 6 and its RT stand, and a register that neither they nor
reactions write is as it was (R614, R616). -/
theorem State.startLanes_shows (s : State) (hw : sparseWf regReset s.regs = true) (u : State) (hu : u = s.startLanes) :
    u.fld aSU_STATUS 0 4 = 6 ∧ u.reg (aSU_STEP_RT 6) = s.nowW ∧ u.cache = s.cache
    ∧ ∀ a, 0xA0000 ≤ a → a < 0xC0000 → u.reg a = s.reg a := by
  have hstep : ∀ t : State, t.nowW = s.nowW → sparseWf regReset t.regs = true → t.cache = s.cache →
      (∀ a, 0xA0000 ≤ a → a < 0xC0000 → t.reg a = s.reg a) → (t.startStep 6).fld aSU_STATUS 0 4 = 6
      ∧ (t.startStep 6).reg (aSU_STEP_RT 6) = s.nowW ∧ (t.startStep 6).cache = s.cache
      ∧ ∀ a, 0xA0000 ≤ a → a < 0xC0000 → (t.startStep 6).reg a = s.reg a := fun t hnow hwt hc hr => by
    obtain ⟨h6, hrt, -, hkept⟩ := t.startStep_shows 6 (by decide) hwt _ rfl
    refine ⟨h6, hrt.trans hnow, hc, fun a h1 h2 => (hkept a ?_).trans (hr a h1 h2)⟩
    simp only [List.mem_cons, List.not_mem_nil, or_false, not_or, aSU_STATUS, aSU_STEP_RT]
    omega
  subst hu
  unfold State.startLanes
  extract_lets hot
  clear_value hot
  cases hot with
  | some n =>
    obtain ⟨h6, hrt, hc, hr⟩ := hstep s rfl hw rfl fun _ _ _ => rfl
    have hkeep : ∀ a, a < 0xC0000 → ¬ReactionReg a → State.KeepsReg a (s.startStep 6) ((s.startStep 6).raise 90 n (s.gov n)) :=
      fun a h hn => (State.keepsReg_reaction (by omega) hn).raise _ _ _ _
    refine ⟨((hkeep aSU_STATUS (by decide) (by unfold ReactionReg; decide)).fld 0 4).trans h6,
      (hkeep (aSU_STEP_RT 6) (by decide) (by unfold ReactionReg; decide)).2.trans hrt, (FaultFrame.raise _ _ _ _).cache.trans hc,
      fun a h1 h2 => (hkeep a h2 (by simp only [ReactionReg]; omega)).2.trans (hr a h1 h2)⟩
  | none =>
    obtain ⟨-, -, hw5, hkept⟩ := s.startStep_shows 5 (by decide) hw _ rfl
    refine hstep (s.startStep 5) rfl hw5 rfl fun a h1 h2 => hkept a ?_
    simp only [List.mem_cons, List.not_mem_nil, or_false, not_or, aSU_STATUS, aSU_STEP_RT]
    omega

/-- The state whose patrol scrubber starts a pass (R424, R614). -/
def State.scrubStarts (t : State) : State :=
  State.setReg { t with integ := { t.integ with scrubStart := t.now, scrubFrom := 0 } } aSCRUB_POS 0

theorem State.scrubStarts_shows (t : State) (hw : sparseWf regReset t.regs = true) :
    sparseWf regReset t.scrubStarts.regs = true ∧ t.scrubStarts.reg aSCRUB_POS = 0
    ∧ t.scrubStarts.reg aXR_GSTATUS = t.reg aXR_GSTATUS ∧ t.scrubStarts.cache = t.cache ∧ t.scrubStarts.tu = t.tu :=
  ⟨State.setReg_regsWf _ _ _ hw, State.reg_setReg_same _ _ _ hw, State.reg_setReg_ne _ _ _ _ (by decide), rfl, rfl⟩

/-- The training has ended before the fill, which takes no time and keeps its mark (R410, R454). -/
theorem State.bootDone_shows (s : State) (sweep : List (Nat × BitVec 32)) (clocks : List (Nat × BitVec 4)) (hw : s.regsWf = true)
    (f : State) (hf : f = (s.bootTrain sweep clocks).bootFill) :
    f.tu = s.tu ∧ f.cache = [] ∧ sparseWf regReset f.regs = true ∧ f.flag aXR_GSTATUS 0 = true := by
  obtain ⟨x, htrain, heq⟩ := s.bootTrain_eq sweep clocks
  obtain ⟨htu, hcache, hstatus⟩ := (s.bootTrain sweep clocks).bootFill_frame f hf
  rw [heq] at htu hstatus
  exact ⟨htu.trans htrain.tu, hcache, hstatus.1 (x.setFlag_regsWf _ _ _ (htrain.regs hw)),
    (hstatus.flag 0).trans (x.flag_setFlag_same _ _ _ (htrain.regs hw) (by decide))⟩

/-- Step 4 ends: the training has ended, the cache is empty, and the scrubber stands at the first line (R410, R454). -/
theorem execBootFillDone_ends (s : State) (sweep : List (Nat × BitVec 32)) (clocks : List (Nat × BitVec 4)) (hw : s.regsWf = true)
    (h4 : s.fld aSU_STATUS 0 4 = 4) (hh : s.pins.held = false) : ∃ u, exec (.bootFillDone sweep clocks) s = .next u
      ∧ u.fld aSU_STATUS 0 4 = 6 ∧ u.reg (aSU_STEP_RT 6) = s.nowW ∧ u.flag aXR_GSTATUS 0 = true ∧ u.cache = []
      ∧ u.reg aSCRUB_POS = 0 := by
  have hexec : exec (.bootFillDone sweep clocks) s = finish s (s.bootTrain sweep clocks).bootFill.scrubStarts.startLanes :=
    if_neg (by simp [h4, hh])
  obtain ⟨htu, hcache, hwf, htrained⟩ := s.bootDone_shows sweep clocks hw _ rfl
  generalize (s.bootTrain sweep clocks).bootFill = f at hexec htu hcache hwf htrained
  obtain ⟨hwt, hpos, hstatus, htcache, httu⟩ := f.scrubStarts_shows hwf
  generalize f.scrubStarts = t at hexec hwt hpos hstatus htcache httu
  obtain ⟨h6, hrt, hc, hr⟩ := t.startLanes_shows hwt _ rfl
  generalize t.startLanes = x at hexec h6 hrt hc hr
  have hend : ∀ a, a < 0xE0000 → State.KeepsReg a x (State.settle s x) := fun a ha => State.keepsReg_settle ha s x
  have hgstatus := (hend aXR_GSTATUS (by decide)).2.trans ((hr aXR_GSTATUS (by decide) (by decide)).trans hstatus)
  have hscrub := (hend aSCRUB_POS (by decide)).2.trans ((hr aSCRUB_POS (by decide) (by decide)).trans hpos)
  exact ⟨_, hexec.trans (finish_next s x), ((hend aSU_STATUS (by decide)).fld 0 4).trans h6,
    (hend (aSU_STEP_RT 6) (by decide)).2.trans (hrt.trans (State.nowW_of_tu (httu.trans htu))),
    (congrArg (BitVec.getLsbD · 0) hgstatus).trans htrained,
    (State.settle_cache s x).trans (hc.trans (htcache.trans hcache)), hscrub⟩

end Sys2Proof.Machine

namespace Sys2Proof.Machine

open Sys2Proof.Claims

/-- Power-up leaves everything but the fuses at reset, and holds the block while RST_N is low (R109, R115, R633). -/
theorem execPwrGoodRelease_resets (s : State) (rstN : Bool) (hc : s.pins.converter = true) (hp : s.pins.pwrGood = false) :
    ∃ u, exec (.pwrGoodRelease rstN) s = .next u ∧ u.regs = State.reset.regs ∧ u.tu = State.reset.tu
      ∧ u.heads = State.reset.heads ∧ u.dram = [] ∧ u.pins.pwrGood = true ∧ u.pins.held = !rstN
      ∧ u.otp.words = s.otpAfterLoss ∧ (s.otp.cmd = none → u.otp.words = s.otp.words) := by
  have hexec : exec (.pwrGoodRelease rstN) s = .next { s.fresh with pins := { s.fresh.pins with held := !rstN } } :=
    congrArg Host.Outcome.next (if_pos ⟨hc, hp⟩)
  exact ⟨_, hexec, rfl, rfl, rfl, rfl, rfl, rfl, rfl, s.otpAfterLoss_idle⟩

/-- A loss of power loses everything but the fuses (R1, R109). -/
theorem execPowerLoss_loses (s : State) (hc : s.pins.converter = true) : ∃ u, exec .powerLoss s = .next u
    ∧ u.pins.converter = false ∧ u.pins.pwrGood = false ∧ u.dram = [] ∧ u.pstore = []
    ∧ (s.otp.cmd = none → u.otp.words = s.otp.words) := by
  have hexec : exec .powerLoss s =
      .next { s.fresh with pins := { s.fresh.pins with converter := false, pwrGood := false } } := if_pos hc
  exact ⟨_, hexec, rfl, rfl, rfl, rfl, s.otpAfterLoss_idle⟩

/-- Settles O60: each clause by the lemma on its command. -/
theorem startUp : Obligations.StartUp := by
  intro s hq hw
  refine ⟨execPowerUp_converts s, fun rstN hc hp => execPwrGoodRelease_resets s rstN hc hp, fun rstN hp => ?_,
    execPowerLoss_loses s, fun i r n passed hi hp => ?_, fun r hp h1 ha => execAonStartDone_ends s r hq hw hp h1 ha,
    fun hp hh => ⟨_, execModuleReset_resets s hw hp hh, (s.moduleReset_leaves hw _ rfl).1⟩, execModuleReset_held s hq,
    execModuleRelease_resumes s hw, fun hh => ?_, fun hc => execStrapSample_samples s hc hw, fun hc hs => ?_,
    execStackClockReady_steps s hw, fun h3 => ?_, fun sweep clocks => execBootFillDone_ends s sweep clocks hw, fun sweep clocks h4 => ?_⟩
  · exact congrArg Host.Outcome.next (if_neg (by simp [hp]))
  · rcases hi with ⟨rfl, rfl, rfl⟩ | ⟨rfl, rfl, rfl⟩
    · exact s.supplyLimit_shows r 25 (.inl rfl) _ hp hw
    · exact s.supplyLimit_shows r 26 (.inr rfl) _ hp hw
  · exact if_pos hh
  · exact if_pos (.inr (.inr (.inl hs)))
  · exact congrArg Host.Outcome.next (if_neg fun h => h3 h.1)
  · exact if_pos (.inl h4)

end Sys2Proof.Machine

namespace Sys2Proof.Machine

open Sys2Proof.Claims

/-! What a run of register writes leaves as it is -/

/-- The register store stays in canonical form, and only the bits that `w` marks are written. -/
def State.WritesOnly (w : Nat → Nat → Prop) (s u : State) : Prop :=
  sparseWf regReset s.regs = true →
    sparseWf regReset u.regs = true ∧ ∀ a i, ¬w a i → u.flag a i = s.flag a i

/-- Nothing but registers changes. -/
def State.RegsOnly (s u : State) : Prop := u = { s with regs := u.regs }

theorem State.regsOnly_composes : Composes State.RegsOnly where
  refl _ := rfl
  trans {s t u} h k := by
    unfold State.RegsOnly at h k ⊢
    rw [k, h]

/-- Two words with the same bits from `lo` up to `lo + n` have the same field there. -/
theorem getBits_congr {v w : Word} {lo n : Nat} (h : ∀ i, lo ≤ i → i < lo + n → v.getLsbD i = w.getLsbD i) :
    getBits v lo n = getBits w lo n := by
  apply Nat.eq_of_testBit_eq
  intro i
  rw [testBit_getBits, testBit_getBits]
  by_cases hi : i < n
  · rw [h (lo + i) (by omega) (by omega)]
  · simp [hi]

/-- What each step keeps stands after a list of steps. -/
theorem foldl_keeps {α β : Type} {f : β → α → β} {W Q : β → Prop} {l : List α} {b : β} (hb : W b) (hq : Q b)
    (hW : ∀ t y, W t → W (f t y)) (hkeep : ∀ t y, W t → Q t → Q (f t y)) : Q (l.foldl f b) := by
  obtain ⟨_, h⟩ := List.foldlRecOn (motive := fun t => W t ∧ Q t) l f ⟨hb, hq⟩ fun t ⟨hw, hq⟩ y _ =>
    ⟨hW t y hw, hkeep t y hw hq⟩
  exact h

/-- What one step of a list sets and every step keeps stands after it. -/
theorem foldl_establishes {α β : Type} {f : β → α → β} {W Q : β → Prop} {x : α} {l : List α} {b : β} (hx : x ∈ l)
    (hb : W b) (hW : ∀ t y, W t → W (f t y)) (hset : ∀ t, W t → Q (f t x)) (hkeep : ∀ t y, W t → Q t → Q (f t y)) :
    Q (l.foldl f b) := by
  induction l generalizing b with
  | nil => nomatch hx
  | cons y l ih =>
    rcases List.mem_cons.mp hx with rfl | hx
    · exact foldl_keeps (l := l) (hW b x hb) (hset b hb) hW hkeep
    · exact ih hx (hW b y hb)

namespace State.WritesOnly

variable {w : Nat → Nat → Prop} {s u : State}

theorem composes (w : Nat → Nat → Prop) : Composes (State.WritesOnly w) where
  refl _ hw := ⟨hw, fun _ _ _ => rfl⟩
  trans h k hw := ⟨(k (h hw).1).1, fun a i hi => ((k (h hw).1).2 a i hi).trans ((h hw).2 a i hi)⟩

theorem of_regs (h : u.regs = s.regs) : State.WritesOnly w s u := fun hw =>
  ⟨by rw [h]; exact hw, fun a i _ => congrArg (BitVec.getLsbD · i) (State.reg_congr h a)⟩

theorem setFld (s : State) (a lo n x : Nat) (h : ∀ i, lo ≤ i → i < lo + n → w a i) :
    State.WritesOnly w s (s.setFld a lo n x) := fun hw => by
  refine ⟨s.setFld_regsWf a lo n x hw, fun b i hi => ?_⟩
  by_cases hb : b = a
  · subst hb
    refine s.flag_setFld_other b lo n x i hw ?_
    by_contra hin
    exact hi (h i (by omega) (by omega))
  · exact congrArg (BitVec.getLsbD · i) (s.reg_setFld_ne a b lo n x hb)

theorem setFlag (s : State) (a i : Nat) (b : Bool) (h : w a i) : State.WritesOnly w s (s.setFlag a i b) :=
  setFld s a i 1 (bit b) fun j h1 h2 => (show j = i by omega) ▸ h

theorem setReg (s : State) (a : Nat) (v : Word) (h : ∀ i, w a i) : State.WritesOnly w s (s.setReg a v) := fun hw => by
  refine ⟨s.setReg_regsWf a v hw, fun b i hi => ?_⟩
  have hb : b ≠ a := fun hb => hi (hb ▸ h i)
  exact congrArg (BitVec.getLsbD · i) (s.reg_setReg_ne a b v hb)

theorem wf (h : State.WritesOnly w s u) (hw : sparseWf regReset s.regs = true) : sparseWf regReset u.regs = true := (h hw).1

theorem flag (h : State.WritesOnly w s u) (hw : sparseWf regReset s.regs = true) {a i : Nat} (hi : ¬w a i) :
    u.flag a i = s.flag a i := (h hw).2 a i hi

theorem fld (h : State.WritesOnly w s u) (hw : sparseWf regReset s.regs = true) {a lo n : Nat}
    (hi : ∀ i, lo ≤ i → i < lo + n → ¬w a i) : u.fld a lo n = s.fld a lo n :=
  getBits_congr fun i h1 h2 => h.flag hw (hi i h1 h2)

theorem reg (h : State.WritesOnly w s u) (hw : sparseWf regReset s.regs = true) {a : Nat} (ha : ∀ i, ¬w a i) :
    u.reg a = s.reg a := BitVec.eq_of_getLsbD_eq fun i _ => h.flag hw (ha i)

end State.WritesOnly

/-! LN_STATUS of a head's lanes -/

/-- The bits of LN_STATUS that follow the link: the rate, the membership, the inversion and the reversal of a lane. -/
def LinkBit (a i : Nat) : Prop := (∃ l : Fin 64, a = aLN_STATUS l) ∧ 2 ≤ i ∧ i < 8

theorem not_linkBit {a : Nat} (h : a < 0x21000 ∨ 0x22000 ≤ a ∨ a % 64 ≠ 0) (i : Nat) : ¬LinkBit a i := by
  rintro ⟨⟨l, rfl⟩, _⟩
  simp only [aLN_STATUS] at h
  omega

theorem State.laneStatus_regsOnly (s : State) (k : Nat) (lanes : List (Fin 64)) (rate : Nat) (inv : List (Fin 64))
    (rev : Bool) : s.RegsOnly (s.laneStatus k lanes rate inv rev) :=
  State.regsOnly_composes.andFold (.refl s) fun t l => by
    dsimp only
    split <;> rfl

theorem State.laneStatus_writes (s : State) (k : Nat) (lanes : List (Fin 64)) (rate : Nat) (inv : List (Fin 64))
    (rev : Bool) : State.WritesOnly LinkBit s (s.laneStatus k lanes rate inv rev) := by
  have hP := State.WritesOnly.composes LinkBit
  have hbit : ∀ (l : Fin 64) i, 2 ≤ i → i < 8 → LinkBit (aLN_STATUS l) i := fun l i h1 h2 => ⟨⟨l, rfl⟩, h1, h2⟩
  refine hP.andFold (hP.refl s) fun t l => ?_
  have hflag : ∀ (t : State) i b, 2 ≤ i → i < 8 → State.WritesOnly LinkBit t (t.setFlag (aLN_STATUS l) i b) :=
    fun t i b h1 h2 => .setFlag t _ i b (hbit l i h1 h2)
  refine hP.trans (hP.trans (hP.trans (hP.andUnless (hP.refl t) (.setFld t _ 2 3 _ ?_)) (hflag _ 5 _ ?_ ?_))
    (hflag _ 6 _ ?_ ?_)) (hflag _ 7 _ ?_ ?_)
  · exact fun i h1 h2 => hbit l i h1 (by omega)
  all_goals decide

/-- LN_STATUS shows a new rate on the lanes of a link (R142, R200). -/
def State.lanesAt (s : State) (lanes : List (Fin 64)) (rate : Nat) : State :=
  lanes.foldl (fun s (l : Fin 64) => s.setFld (aLN_STATUS l) 2 3 rate) s

theorem State.lanesAt_regsOnly (s : State) (lanes : List (Fin 64)) (rate : Nat) : s.RegsOnly (s.lanesAt lanes rate) :=
  State.regsOnly_composes.andFold (.refl s) fun _ _ => rfl

theorem State.lanesAt_writes (s : State) (lanes : List (Fin 64)) (rate : Nat) :
    State.WritesOnly LinkBit s (s.lanesAt lanes rate) := by
  have hP := State.WritesOnly.composes LinkBit
  exact hP.andFold (hP.refl s) fun t (l : Fin 64) => .setFld t _ 2 3 _ fun i h1 h2 => ⟨⟨l, rfl⟩, h1, by omega⟩

/-- Neither the advertised rate nor an entry of the equalisation table rests on what follows the link. -/
theorem State.advertised_linkBits {s u : State} (h : State.WritesOnly LinkBit s u) (hw : sparseWf regReset s.regs = true)
    (k : Nat) : u.advertised k = s.advertised k := by
  have hreg : ∀ a, a < 0x21000 ∨ 0x22000 ≤ a ∨ a % 64 ≠ 0 → u.reg a = s.reg a := fun a ha => h.reg hw (not_linkBit ha)
  have hlayout : u.layout = s.layout := h.fld hw fun i _ _ => not_linkBit (by decide) i
  have hmax : u.maxRate = s.maxRate := by rw [State.maxRate, State.maxRate, State.fld, hreg _ (by decide), State.fld]
  have hlim : ∀ d l, u.fld (aXR_XG d l) 7 3 = s.fld (aXR_XG d l) 7 3 := fun d l => by
    rw [State.fld, hreg _ (by simp only [aXR_XG]; omega), State.fld]
  have husable : ∀ l r, u.eqUsable l r = s.eqUsable l r := fun l r => h.flag hw fun hb => by
    obtain ⟨_, _, hi⟩ := hb
    omega
  have hall : ∀ r, u.lanesUsable k r = s.lanesUsable k r := fun r => by
    simp only [State.lanesUsable, hlayout, husable]
  have hpermitted : u.permittedRate k = s.permittedRate k := by
    rw [State.permittedRate, State.permittedRate, hall, hall]
  rw [State.advertised, State.advertised, hlayout, hmax, hpermitted]
  congr 1
  funext r l
  simp only [List.foldl_cons, List.foldl_nil, hlim]

theorem State.eqEntry_linkBits {s u : State} (h : State.WritesOnly LinkBit s u) (hw : sparseWf regReset s.regs = true)
    (l r : Nat) : u.eqEntry l r = s.eqEntry l r := by
  have hentry : u.reg (aLN_EQ r l) = s.reg (aLN_EQ r l) := h.reg hw (not_linkBit (by simp only [aLN_EQ]; omega))
  have hctrl : u.flag aLANE_CTRL 3 = s.flag aLANE_CTRL 3 := h.flag hw (not_linkBit (by decide) _)
  simp only [State.eqEntry, hentry, hctrl]

/-! Equalisation (R148, R152) -/

/-- The entry in force of lane `l` at rate index `r` is `v`. -/
def State.EqInForce (u : State) (l r : Nat) (v : Word) : Prop :=
  u.laneEq.find? (fun p => p.1 == l && p.2.1 == r) = some (l, r, v)

/-- Nothing but the settings of the lanes and what they report changes. -/
def State.EqOnly (s u : State) : Prop := u = { s with laneEq := u.laneEq, outputs := u.outputs }

theorem State.eqOnly_composes : Composes State.EqOnly where
  refl _ := rfl
  trans {s t u} h k := by
    unfold State.EqOnly at h k ⊢
    rw [k, h]

theorem State.laneEnter_eqOnly (s : State) (l r : Nat) : s.EqOnly (s.laneEnter l r) := rfl

theorem State.EqOnly.regs {s u : State} (h : s.EqOnly u) : u.regs = s.regs := by rw [h]
theorem State.EqOnly.heads {s u : State} (h : s.EqOnly u) : u.heads = s.heads := by rw [h]
theorem State.EqOnly.snapDue {s u : State} (h : s.EqOnly u) : u.snapDue = s.snapDue := by rw [h]

theorem State.EqOnly.head {s u : State} (h : s.EqOnly u) (k : Fin 16) : u.head k = s.head k :=
  congrArg (fun hs : Vector Head 16 => hs[k.val]) h.heads

theorem State.EqOnly.eqEntry {s u : State} (h : s.EqOnly u) (l r : Nat) : u.eqEntry l r = s.eqEntry l r := by
  rw [h]
  rfl

/-- The rates one after the other, and at each the lanes one after the other. -/
theorem State.lanesEnter_eq (s : State) (lanes : List (Fin 64)) (above top : Nat) : s.lanesEnter lanes above top =
    ((List.range 7).filter (fun r => decide (2 ≤ r ∧ above < r ∧ r ≤ top))).foldl
      (fun s r => lanes.foldl (fun s (l : Fin 64) => s.laneEnter l (r - 2)) s) s := by
  have hlanes : (do let a ← lanes; pure a.val : List Nat) = lanes.map Fin.val := List.map_eq_flatMap.symm
  unfold State.lanesEnter
  simp only [hlanes, List.foldl_map]

theorem State.lanesEnter_eqOnly (s : State) (lanes : List (Fin 64)) (above top : Nat) :
    s.EqOnly (s.lanesEnter lanes above top) := by
  have hC := State.eqOnly_composes
  rw [s.lanesEnter_eq]
  exact hC.andFold (hC.refl s) fun t _ => hC.andFold (hC.refl t) fun t l => t.laneEnter_eqOnly l _

/-- A lane that enters at a rate has its entry in force there. -/
theorem State.laneEnter_sets (s : State) (l r : Nat) : (s.laneEnter l r).EqInForce l r (s.eqEntry l r) := by
  simp [State.EqInForce, State.laneEnter, State.emit]

/-- Any other setting in force stays, and the same lane's setting is its entry again. -/
theorem State.laneEnter_keeps {s : State} {l r : Nat} (h : s.EqInForce l r (s.eqEntry l r)) (m q : Nat) :
    (s.laneEnter m q).EqInForce l r (s.eqEntry l r) := by
  by_cases hkey : m = l ∧ q = r
  · obtain ⟨rfl, rfl⟩ := hkey
    exact s.laneEnter_sets m q
  · have hsame : ∀ p : Nat × Nat × Word, (p.1 == l && p.2.1 == r) = true → (!(p.1 == m && p.2.1 == q)) = true := by
      intro p hp
      simp only [Bool.and_eq_true, beq_iff_eq] at hp
      obtain ⟨hl, hr⟩ := hp
      have hne : ¬(l = m ∧ r = q) := fun h => hkey ⟨h.1.symm, h.2.symm⟩
      simpa [hl, hr, ← not_and_or] using hne
    unfold State.EqInForce at h ⊢
    rw [← h, State.laneEnter, State.emit]
    dsimp only
    rw [List.find?_cons_of_neg (by simpa using hkey), List.find?_filter]
    congr 1
    funext p
    cases hp : (p.1 == l && p.2.1 == r) with
    | false => simp
    | true => simp [hsame p hp]

/-- Every lane that enters the rates above one up to another has its entry in force at each of them. -/
theorem State.lanesEnter_enters (s : State) (lanes : List (Fin 64)) (above top r : Nat) (h2 : above < r + 2) (ht : r + 2 ≤ top)
    (h6 : r + 2 < 7) (l : Fin 64) (hl : l ∈ lanes) : (s.lanesEnter lanes above top).EqInForce l r (s.eqEntry l r) := by
  have hrate : r + 2 ∈ (List.range 7).filter (fun r => decide (2 ≤ r ∧ above < r ∧ r ≤ top)) := by
    simp only [List.mem_filter, List.mem_range, decide_eq_true_eq]
    omega
  have hC := State.eqOnly_composes
  have hlane : ∀ (q : Nat) (t : State) (m : Fin 64), s.EqOnly t → s.EqOnly (t.laneEnter m q) := fun q t m ht =>
    hC.trans ht (t.laneEnter_eqOnly m q)
  have hkeep : ∀ (q : Nat) (t : State) (m : Fin 64), s.EqOnly t → t.EqInForce l r (s.eqEntry l r) →
      (t.laneEnter m q).EqInForce l r (s.eqEntry l r) := fun q t m ht hq => by
    rw [← ht.eqEntry] at hq ⊢
    exact State.laneEnter_keeps hq m q
  rw [s.lanesEnter_eq]
  refine foldl_establishes (W := s.EqOnly) (Q := fun t => t.EqInForce l r (s.eqEntry l r)) hrate (hC.refl s)
    (fun t q ht => hC.andFold ht fun t l => t.laneEnter_eqOnly l _) (fun t ht => ?_)
    fun t q ht hq => foldl_keeps ht hq (hlane _) (hkeep _)
  refine foldl_establishes (W := s.EqOnly) (Q := fun t => t.EqInForce l r (s.eqEntry l r)) hl ht (hlane _) (fun t ht => ?_)
    (hkeep _)
  rw [← ht.eqEntry]
  exact t.laneEnter_sets l r

end Sys2Proof.Machine

namespace Sys2Proof.Machine

open Sys2Proof.Claims

/-! A head whose fields change -/

theorem State.setHead_self (s : State) (k : Fin 16) : s.setHead k (s.head k) = s := by
  have hsame : s.heads.set k.val (s.head k) k.isLt = s.heads := Vector.set_getElem_self _
  rw [State.setHead, hsame]

/-- A change of the capacity counts in the sequence number of the head's CDAT and nowhere else (R216). -/
theorem State.cdatFollow_changes (s : State) (k : Fin 16) (before : Nat) :
    ∃ n, s.cdatFollow k before = s.setHead k { s.head k with cdatSeq := n } := by
  unfold State.cdatFollow
  split
  · exact ⟨(s.head k).cdatSeq, (s.setHead_self k).symm⟩
  · exact ⟨_, rfl⟩

/-! Training (R135, R161) -/

/-- The skewed lanes of a head are marked and reported (R162). -/
def State.skewNoted (s : State) (bad : List (Fin 64)) : State :=
  State.raiseList (bad.foldl (fun t (l : Fin 64) => t.setFlag (aLN_STATUS l) 13 true) s)
    (bad.map (fun l => .plain 33 l.val 0))

/-- A head in training on lanes. -/
def Head.trainingOn (h : Head) (lanes : List (Fin 64)) (rev : Bool) : Head :=
  { h with link := .training, lanes := lanes, reversed := rev, bypass := false }

/-- A head in Polling.Compliance, without lanes. -/
def Head.compliant (h : Head) : Head := { h with link := .compliance, lanes := [], reversed := false, bypass := false }

/-- The head trains on lanes, which enter equalisation at the rates that training will pass. -/
def State.trains (t : State) (k : Fin 16) (lanes inv : List (Fin 64)) (rev : Bool) : State :=
  let t := t.setHead k ((t.head k).trainingOn lanes rev)
  let t := t.laneStatus k lanes 0 inv rev
  t.lanesEnter lanes 1 (min 4 (t.advertised k))

/-- The head enters Polling.Compliance. -/
def State.complies (t : State) (k : Fin 16) : State := (t.setHead k (t.head k).compliant).laneStatus k [] 0 [] false

/-- The lanes on which a head trains. -/
def State.trainable (s : State) (k : Fin 16) (undetected skewed : List (Fin 64)) (rev : Bool) : List (Fin 64) :=
  trainedLanes (if rev then (s.lanesOf k).reverse else s.lanesOf k) ((s.lanesOf k).filter (fun l => skewed.contains l)
    ++ (s.lanesOf k).filter (fun (l : Fin 64) => undetected.contains l || s.laneExcluded l.val))

theorem execLinkTrainingStart_may (s : State) (k : Fin 16) (undetected skewed : List (Fin 64)) (rev : Bool)
    (inv : List (Fin 64)) (compliance : Bool) (hm : s.mayTrain k = true) (t : State)
    (ht : t = s.skewNoted ((s.lanesOf k).filter (fun l => skewed.contains l))) :
    exec (.linkTrainingStart k undetected skewed rev inv compliance) s = finish s
      (if (s.trainable k undetected skewed rev).isEmpty then t
        else if compliance then t.complies k else t.trains k (s.trainable k undetected skewed rev) inv rev) := by
  subst ht
  refine (if_neg (by simp [hm])).trans ?_
  rw [apply_ite (finish s), apply_ite (finish s)]
  rfl

/-- Every skewed lane is marked, whatever the reaction to its event. -/
theorem State.skewNoted_marks (s : State) (bad : List (Fin 64)) (hw : sparseWf regReset s.regs = true) (t : State)
    (ht : t = s.skewNoted bad) : sparseWf regReset t.regs = true ∧ ∀ l ∈ bad, t.flag (aLN_STATUS l) 13 = true := by
  have hstep : ∀ (t : State) (l : Fin 64), sparseWf regReset t.regs = true →
      sparseWf regReset (t.setFlag (aLN_STATUS l) 13 true).regs = true := fun t l h => t.setFlag_regsWf _ _ _ h
  obtain ⟨x, hx⟩ : ∃ x, x = bad.foldl (fun t (l : Fin 64) => t.setFlag (aLN_STATUS l) 13 true) s := ⟨_, rfl⟩
  have hwx : sparseWf regReset x.regs = true := 
    hx ▸ List.foldlRecOn (motive := fun t : State => sparseWf regReset t.regs = true) bad _ hw fun t h l _ => hstep t l h
  have hraise : ∀ l : Fin 64, State.KeepsReg (aLN_STATUS l) x t := fun l => by
    have hclosed := State.keepsReg_reaction (a := aLN_STATUS l) (by simp only [aLN_STATUS]; omega)
      (by simp only [ReactionReg, aLN_STATUS]; omega)
    rw [ht, State.skewNoted, ← hx]
    exact hclosed.raiseList _ _
  refine ⟨(hraise 0).1 hwx, fun l hl => ?_⟩
  refine ((hraise l).flag 13).trans (hx ▸ foldl_establishes (W := fun t : State => sparseWf regReset t.regs = true)
    (Q := fun t : State => t.flag (aLN_STATUS l) 13 = true) hl hw hstep (fun t h => t.flag_setFlag_same _ _ _ h (by decide))
    fun t m h hq => ?_)
  by_cases hm : aLN_STATUS m = aLN_STATUS l
  · rw [hm]
    exact t.flag_setFlag_same _ _ _ h (by decide)
  · exact (congrArg (BitVec.getLsbD · 13) (t.reg_setFlag_ne _ _ _ _ (Ne.symm hm))).trans hq

/-- A head that trains: its link, its lanes and their entries, and what stays. -/
theorem State.trains_shows (t : State) (k : Fin 16) (lanes inv : List (Fin 64)) (rev : Bool)
    (hw : sparseWf regReset t.regs = true) (u : State) (hu : u = t.trains k lanes inv rev) :
    u.head k = (t.head k).trainingOn lanes rev
    ∧ (∀ j, j ≠ k → u.head j = t.head j) ∧ u.snapDue = t.snapDue
    ∧ (∀ l : Fin 64, u.flag (aLN_STATUS l) 13 = t.flag (aLN_STATUS l) 13)
    ∧ (2 ≤ t.advertised k → ∀ l ∈ lanes, u.EqInForce l 0 (t.eqEntry l 0)) := by
  obtain ⟨x, hx⟩ : ∃ x, x = t.setHead k ((t.head k).trainingOn lanes rev) := ⟨_, rfl⟩
  obtain ⟨y, hy⟩ : ∃ y, y = x.laneStatus k lanes 0 inv rev := ⟨_, rfl⟩
  have huy : u = y.lanesEnter lanes 1 (min 4 (y.advertised k)) := by rw [hu, hy, hx, State.trains]
  have hwx : sparseWf regReset x.regs = true := by rw [hx]; exact hw
  have hbits : State.WritesOnly LinkBit x y := hy ▸ x.laneStatus_writes k lanes 0 inv rev
  have hyx : y = { x with regs := y.regs } := hy ▸ x.laneStatus_regsOnly k lanes 0 inv rev
  have heq : y.EqOnly u := huy ▸ y.lanesEnter_eqOnly _ _ _
  have hhead : ∀ j, u.head j = x.head j := fun j => (heq.head j).trans (by rw [hyx]; rfl)
  refine ⟨?_, fun j hj => ?_, ?_, fun l => ?_, fun h2 l hl => ?_⟩
  · rw [hhead, hx, State.head_setHead_same]
  · rw [hhead, hx, State.head_setHead_ne _ _ _ _ hj]
  · rw [heq.snapDue, hyx, hx]
    rfl
  · have hflag : y.flag (aLN_STATUS l) 13 = x.flag (aLN_STATUS l) 13 := hbits.flag hwx fun hb => by
      obtain ⟨_, _, hi⟩ := hb
      omega
    rw [State.flag, State.reg_congr heq.regs]
    exact hflag.trans (by rw [hx]; rfl)
  · have hadv : y.advertised k = t.advertised k := (State.advertised_linkBits hbits hwx k).trans (by rw [hx]; rfl)
    have hentry : y.eqEntry l 0 = t.eqEntry l 0 := (State.eqEntry_linkBits hbits hwx l 0).trans (by rw [hx]; rfl)
    rw [huy, ← hentry]
    exact y.lanesEnter_enters _ _ _ 0 (by decide) (by omega) (by decide) l hl

/-- A head that may train on some lane enters training there (R120, R135, R161, R162). -/
theorem execLinkTrainingStart_trains (s : State) (k : Fin 16) (undetected skewed : List (Fin 64)) (rev : Bool)
    (inv lanes : List (Fin 64)) (hq : Quiet s) (hw : s.regsWf = true) (hm : s.mayTrain k = true)
    (hl : lanes = s.trainable k undetected skewed rev) (hne : lanes ≠ []) :
    ∃ u, exec (.linkTrainingStart k undetected skewed rev inv false) s = .next u ∧ (u.head k).link = .training
      ∧ (u.head k).lanes = lanes ∧ (u.head k).reversed = rev
      ∧ (skewed = [] → 2 ≤ s.advertised k → ∀ l ∈ lanes, u.EqInForce l 0 (s.eqEntry l 0))
      ∧ (∀ l ∈ s.lanesOf k, l ∈ skewed → u.flag (aLN_STATUS l) 13 = true)
      ∧ (skewed = [] → ∀ j, j ≠ k → u.head j = s.head j) := by
  obtain ⟨bad, hbad⟩ : ∃ bad, bad = (s.lanesOf k).filter (fun l => skewed.contains l) := ⟨_, rfl⟩
  obtain ⟨t, ht⟩ : ∃ t, t = s.skewNoted bad := ⟨_, rfl⟩
  obtain ⟨x, hx⟩ : ∃ x, x = t.trains k lanes inv rev := ⟨_, rfl⟩
  have hexec : exec (.linkTrainingStart k undetected skewed rev inv false) s = .next (State.settle s x) := by
    rw [execLinkTrainingStart_may s k undetected skewed rev inv false hm t (hbad ▸ ht), ← hl, if_neg (by simpa using hne),
      if_neg (by decide), ← hx]
    rfl
  obtain ⟨hwt, hmarked⟩ := s.skewNoted_marks bad hw t ht
  obtain ⟨hhead, hothers, hsnap, hflag, henter⟩ := t.trains_shows k lanes inv rev hwt x hx
  have hnone : skewed = [] → t = s := by
    rintro rfl
    have hnil : bad = [] := hbad.trans (by simp)
    rw [ht, hnil]
    rfl
  refine ⟨_, hexec, ?_, ?_, ?_, fun hs h2 => ?_, fun l hlk hls => ?_, fun hs j hj => ?_⟩
  iterate 3 rw [State.settle_head, hhead]; rfl
  · rw [State.settle_quiet s (hsnap.trans (hnone hs ▸ hq))]
    rw [hnone hs] at henter
    exact henter h2
  · refine ((State.keepsReg_settle (by simp only [aLN_STATUS]; omega) s x).flag 13).trans ((hflag l).trans (hmarked l ?_))
    rw [hbad]
    simpa using ⟨hlk, hls⟩
  · rw [State.settle_head, hothers j hj, hnone hs]

/-- In compliance it keeps no lane. -/
theorem execLinkTrainingStart_complies (s : State) (k : Fin 16) (undetected skewed : List (Fin 64)) (rev : Bool)
    (inv lanes : List (Fin 64)) (hm : s.mayTrain k = true) (hl : lanes = s.trainable k undetected skewed rev)
    (hne : lanes ≠ []) :
    ∃ u, exec (.linkTrainingStart k undetected skewed rev inv true) s = .next u ∧ (u.head k).link = .compliance
      ∧ (u.head k).lanes = [] := by
  obtain ⟨t, ht⟩ : ∃ t, t = s.skewNoted ((s.lanesOf k).filter (fun l => skewed.contains l)) := ⟨_, rfl⟩
  have hhead : (t.complies k).head k = (t.head k).compliant := by
    rw [State.complies, State.laneStatus_regsOnly]
    exact State.head_setHead_same _ _ _
  refine ⟨State.settle s (t.complies k), ?_, ?_, ?_⟩
  · rw [execLinkTrainingStart_may s k undetected skewed rev inv true hm t ht, ← hl, if_neg (by simpa using hne), if_pos rfl]
    rfl
  all_goals rw [State.settle_head, hhead]; rfl

/-- Without a lane to train the head stays as it is (log 40). -/
theorem execLinkTrainingStart_stays (s : State) (k : Fin 16) (undetected : List (Fin 64)) (rev : Bool) (inv : List (Fin 64))
    (hq : Quiet s) (hm : s.mayTrain k = true) (hl : s.trainable k undetected [] rev = []) :
    exec (.linkTrainingStart k undetected [] rev inv false) s = .next s := by
  have hnil : (s.lanesOf k).filter (fun l => ([] : List (Fin 64)).contains l) = [] := by simp
  rw [execLinkTrainingStart_may s k undetected [] rev inv false hm s (by rw [hnil]; rfl), hl,
    if_pos List.isEmpty_nil]
  exact finish_quiet s s hq

/-! Link-up and speed changes (R140 to R143, R200) -/

/-- A head whose link has come up at a rate, its function's state at reset. -/
def Head.upAt (h : Head) (rate : Nat) : Head :=
  { h with link := .l0, rate := BitVec.ofNat 3 rate, held := false, bypass := false, policy := 0, dvsecLatch := none,
           cfg := [], hdm := [], transcript := [] }

/-- A fresh link-up: the head at its rate with its function's state at reset, the RT of it, and what stays. -/
theorem State.headUp_shows (s : State) (k : Fin 16) (rate : Nat) (hw : sparseWf regReset s.regs = true) (u : State)
    (hu : u = s.headUp k rate) :
    (∃ n, u.head k = { (s.head k).upAt rate with cdatSeq := n })
    ∧ (∀ j, j ≠ k → u.head j = s.head j) ∧ u.reg (aHD_LAST_UP k) = s.nowW ∧ u.grants = s.grants := by
  obtain ⟨x, hx⟩ : ∃ x, x = s.setHead k ((s.head k).upAt rate) := ⟨_, rfl⟩
  obtain ⟨y, hy⟩ : ∃ y, y = x.lanesAt (s.head k).lanes rate := ⟨_, rfl⟩
  have hyx : y = { x with regs := y.regs } := hy ▸ x.lanesAt_regsOnly _ _
  have hwy : sparseWf regReset y.regs = true := by
    rw [hy]
    exact (x.lanesAt_writes _ _).wf (by rw [hx]; exact hw)
  obtain ⟨n, hfollow⟩ := (y.setReg (aHD_LAST_UP k) y.nowW).cdatFollow_changes k (s.head k).cap
  have huy : u = State.notify ((y.setReg (aHD_LAST_UP k) y.nowW).setHead k { y.head k with cdatSeq := n }) 14 := by
    refine hu.trans (.trans ?_ (congrArg (State.notify · 14) hfollow))
    rw [hy, hx]
    rfl
  have hhead : ∀ j, y.head j = x.head j := fun j => by rw [hyx]; rfl
  refine ⟨⟨n, ?_⟩, fun j hj => ?_, ?_, ?_⟩
  · rw [huy]
    refine (State.head_setHead_same _ _ _).trans ?_
    rw [hhead, hx, State.head_setHead_same]
  · rw [huy]
    refine (State.head_setHead_ne _ _ _ _ hj).trans ((hhead j).trans ?_)
    rw [hx, State.head_setHead_ne _ _ _ _ hj]
  · rw [huy]
    refine (State.reg_setReg_same _ _ _ hwy).trans ?_
    rw [hyx, hx]
    rfl
  · rw [huy]
    show y.grants = s.grants
    rw [hyx, hx]
    rfl

theorem execLinkUp_up (s : State) (k : Fin 16) (rate : BitVec 3) (precode : List (Fin 64)) (r : Nat)
    (ht : (s.head k).link = .training) (hd : s.laneDomains k (s.head k).lanes = true)
    (hr : r = min rate.toNat (if (s.head k).bypass then s.advertised k else min 4 (s.advertised k))) :
    exec (.linkUp k rate precode) s
      = .next ((s.setHead k { s.head k with precode := precoded (s.head k).lanes precode r }).headUp k r) := by
  subst hr
  exact if_neg (by simp [ht, hd])

/-- A head that runs at another rate than the one it advertises starts a change to it (R142, R148). -/
theorem execDirectedSpeedChange_starts (s : State) (k : Fin 16) (hl : (s.head k).link = .l0)
    (hr : (s.head k).rate.toNat ≠ s.advertised k) : ∃ u, exec (.directedSpeedChange k) s = .next u
      ∧ u.head k = { s.head k with link := .speedChange } ∧ (∀ j, j ≠ k → u.head j = s.head j) ∧ u.regs = s.regs
      ∧ (2 ≤ s.advertised k → s.advertised k < 7 → ∀ l ∈ (s.head k).lanes, u.EqInForce l (s.advertised k - 2)
          (s.eqEntry l (s.advertised k - 2))) := by
  obtain ⟨t, ht⟩ : ∃ t, t = s.setHead k { s.head k with link := .speedChange } := ⟨_, rfl⟩
  obtain ⟨above, habove⟩ : ∃ n, n = if (s.head k).rate.toNat < s.advertised k then (s.head k).rate.toNat
    else s.advertised k - 1 := ⟨_, rfl⟩
  have heq := t.lanesEnter_eqOnly (s.head k).lanes above (s.advertised k)
  refine ⟨t.lanesEnter (s.head k).lanes above (s.advertised k), (if_pos ⟨hl, hr⟩).trans (by rw [ht, habove]), ?_,
    fun j hj => ?_, ?_, fun h2 h7 l hlane => ?_⟩
  · rw [heq.head, ht, State.head_setHead_same]
  · rw [heq.head, ht, State.head_setHead_ne _ _ _ _ hj]
  · rw [heq.regs, ht]
    rfl
  · have hentry : t.eqEntry l (s.advertised k - 2) = s.eqEntry l (s.advertised k - 2) := by
      rw [ht]
      rfl
    rw [← hentry]
    refine t.lanesEnter_enters _ _ _ _ ?_ (by omega) (by omega) l hlane
    rw [habove]
    split <;> omega

/-- A head that runs in L0 at a rate agreed with its partner. -/
def Head.runsAt (h : Head) (rate : Nat) (precode : List (Fin 64)) : Head :=
  { h with link := .l0, rate := BitVec.ofNat 3 rate, precode := precoded h.lanes precode rate }

/-- A speed change ends in L0 at the rate agreed (R135, R143). -/
theorem execSpeedChangeComplete_ends (s : State) (k : Fin 16) (rate : BitVec 3) (precode : List (Fin 64)) (r : Nat)
    (hl : (s.head k).link = .speedChange) (hr : r = min rate.toNat (s.advertised k)) :
    ∃ u n, exec (.speedChangeComplete k rate precode) s = .next u
      ∧ u.head k = { (s.head k).runsAt r precode with cdatSeq := n }
      ∧ ∀ j, j ≠ k → u.head j = s.head j := by
  obtain ⟨x, hx⟩ : ∃ x, x = s.setHead k ((s.head k).runsAt r precode) := ⟨_, rfl⟩
  obtain ⟨y, hy⟩ : ∃ y, y = x.lanesAt (s.head k).lanes r := ⟨_, rfl⟩
  have hyx : y = { x with regs := y.regs } := hy ▸ x.lanesAt_regsOnly _ _
  have hhead : ∀ j, y.head j = x.head j := fun j => by rw [hyx]; rfl
  have hexec : exec (.speedChangeComplete k rate precode) s = .next (y.cdatFollow k (s.head k).cap) := by
    rw [hy, hx, hr]
    exact if_neg (by simp [hl])
  obtain ⟨n, hfollow⟩ := y.cdatFollow_changes k (s.head k).cap
  refine ⟨_, n, hexec.trans (congrArg _ hfollow), ?_, fun j hj => ?_⟩
  · rw [State.head_setHead_same, hhead, hx, State.head_setHead_same]
  · rw [State.head_setHead_ne _ _ _ _ hj, hhead, hx, State.head_setHead_ne _ _ _ _ hj]

/-! Equalisation (R148, R154, R156) -/

/-- A training head that is asked to bypass enters its highest rate at once (R156). -/
theorem execEqBypassRequest_bypasses (s : State) (k : Fin 16) (hl : (s.head k).link = .training) :
    ∃ u, exec (.eqBypassRequest k) s = .next u ∧ u.head k = { s.head k with bypass := true }
      ∧ (∀ j, j ≠ k → u.head j = s.head j) ∧ u.regs = s.regs
      ∧ (5 ≤ s.advertised k → s.advertised k < 7 → ∀ l ∈ (s.head k).lanes, u.EqInForce l (s.advertised k - 2)
          (s.eqEntry l (s.advertised k - 2))) := by
  obtain ⟨t, ht⟩ : ∃ t, t = s.setHead k { s.head k with bypass := true } := ⟨_, rfl⟩
  have hhead : t.head k = { s.head k with bypass := true } := ht ▸ s.head_setHead_same k _
  have hadv : t.advertised k = s.advertised k := ht ▸ rfl
  have heq := t.lanesEnter_eqOnly (t.head k).lanes (max 4 (t.advertised k - 1)) (t.advertised k)
  refine ⟨t.lanesEnter (t.head k).lanes (max 4 (t.advertised k - 1)) (t.advertised k), (if_pos hl).trans (by rw [ht]),
    (heq.head k).trans hhead, fun j hj => ?_, heq.regs.trans (ht ▸ rfl), fun h5 h7 l hlane => ?_⟩
  · rw [heq.head, ht, State.head_setHead_ne _ _ _ _ hj]
  · have hentry : t.eqEntry l (s.advertised k - 2) = s.eqEntry l (s.advertised k - 2) := ht ▸ rfl
    rw [← hentry]
    exact t.lanesEnter_enters _ _ _ _ (by omega) (by omega) (by omega) l (by rw [hhead]; exact hlane)

/-- A Phase 3 request is answered from the setting in force, or else from the table (R154). -/
theorem execEqPhase3Request_answers (s : State) (l : Fin 64) (r : Fin 5) (request : EqRequest) (v : Word)
    (hv : v = ((s.laneEq.find? (fun p => p.1 == l.val && p.2.1 == r.val)).map (fun p => p.2.2)).getD (s.eqEntry l r)) :
    exec (.eqPhase3Request l r request) s = .next (s.emit (.eqAnswer l (eqMatches v request))) := by
  subst hv
  change execEqPhase3Request l r request s = _
  unfold execEqPhase3Request
  cases s.laneEq.find? (fun p => p.1 == l.val && p.2.1 == r.val) <;> rfl

/-- Settles O44: each clause by the lemma on its command. -/
theorem linkTraining : Obligations.LinkTraining := by
  intro s k hq hw entered
  refine ⟨fun _ => rfl, fun undetected skewed rev inv out lanes hm hout hlanes => ?_, fun _ _ _ _ _ hm => if_pos hm,
    fun rate precode r ht hd hr => ?_, execDirectedSpeedChange_starts s k, fun hn => if_neg ?_,
    fun rate precode r hl hr => ?_, fun hl => if_pos hl, fun hl => if_pos hl, fun l hk hl hin => ?_,
    execEqBypassRequest_bypasses s k, fun l r hk hup hin hr => ?_, execEqPhase3Request_answers s⟩
  · have hl : lanes = s.trainable k undetected skewed rev := hlanes.trans (by rw [hout]; rfl)
    refine ⟨execLinkTrainingStart_trains s k undetected skewed rev inv lanes hq hw hm hl,
      execLinkTrainingStart_complies s k undetected skewed rev inv lanes hm hl, fun hnil hs => ?_⟩
    subst hs
    exact execLinkTrainingStart_stays s k undetected rev inv hq hm (hl.symm.trans hnil)
  · obtain ⟨x, hx⟩ : ∃ x, x = s.setHead k { s.head k with precode := precoded (s.head k).lanes precode r } := ⟨_, rfl⟩
    obtain ⟨⟨n, hhead⟩, hothers, hup, hgrants⟩ := x.headUp_shows k r (by rw [hx]; exact hw) _ rfl
    rw [show x.head k = _ from hx ▸ s.head_setHead_same k _] at hhead
    refine ⟨_, (execLinkUp_up s k rate precode r ht hd hr).trans (by rw [← hx]), ?_, ?_, ?_, ?_, ?_, ?_, ?_, ?_, ?_, ?_, ?_,
      hup.trans (by rw [hx]; rfl), fun j hj => (hothers j hj).trans (hx ▸ s.head_setHead_ne k j _ hj),
      hgrants.trans (by rw [hx]; rfl)⟩
    all_goals rw [hhead]; rfl
  · rintro ⟨hl, hr⟩
    exact hn.elim (· hl) hr
  · obtain ⟨u, n, hexec, hhead, hothers⟩ := execSpeedChangeComplete_ends s k rate precode r hl hr
    refine ⟨u, hexec, ?_, ?_, ?_, ?_, hothers⟩
    all_goals rw [hhead]; rfl
  · subst hk
    exact if_pos ⟨hl, hin⟩
  · subst hk
    refine ⟨s.laneEnter l r, if_pos ⟨hup, hin, hr⟩, fun m hm => ?_, rfl⟩
    rw [List.mem_singleton.mp hm]
    exact s.laneEnter_sets l r

end Sys2Proof.Machine

namespace Sys2Proof.Machine

open Sys2Proof.Claims

namespace State.WritesOnly

variable {w w' : Nat → Nat → Prop} {s u : State}

/-- Fewer bits written are among more. -/
theorem mono (h : State.WritesOnly w s u) (hsub : ∀ a i, w a i → w' a i) : State.WritesOnly w' s u := fun hw =>
  ⟨h.wf hw, fun _ _ hi => h.flag hw fun hb => hi (hsub _ _ hb)⟩

theorem regsKept (h : State.WritesOnly w s u) (hw : sparseWf regReset s.regs = true) {except : List Nat}
    (hsub : ∀ a i, w a i → a ∈ except) : RegsKept s u except := fun a ha => h.reg hw fun i hi => ha (hsub a i hi)

end State.WritesOnly

/-! The checker of a lane (R168) -/

/-- The errors that a lane's checker still remembers. -/
def State.recentErrs (s : State) (l : Nat) : Nat :=
  ((s.errsOf l).filter (fun q => decide ((s.reg (aLN_BITCNT l)).toNat < q + 1024))).length

/-- LN_ERRCNT with `n` more errors counted. -/
def State.errCount (s : State) (l n : Nat) : Word := BitVec.ofNat 64 (min ((s.reg (aLN_ERRCNT l)).toNat + n) (2 ^ 64 - 1))

/-- What the checker of a lane writes: its error counter and SYNC. -/
def CheckBit (l a i : Nat) : Prop := a = aLN_ERRCNT l ∨ (a = aLN_TEST l ∧ i = 14)

theorem State.reg_bump_counter (s : State) (a n : Nat) (h : sparseWf regReset s.regs = true) :
    (s.bump a 0 64 n).reg a = BitVec.ofNat 64 (min ((s.reg a).toNat + n) (2 ^ 64 - 1)) := by
  have hfld : ∀ t : State, t.fld a 0 64 = (t.reg a).toNat := fun t => by
    simp only [State.fld, getBits, BitVec.ushiftRight_zero]
    exact Nat.mod_eq_of_lt (t.reg a).isLt
  rw [← hfld, ← s.fld_bump_same a 0 64 n h (by decide), hfld, BitVec.ofNat_toNat, BitVec.setWidth_eq]

theorem State.countErrors_idle (s : State) (l n : Nat) (h : s.checking l = false ∨ n = 0) : s.countErrors l n = s := if_pos h

/-- A synchronised checker counts up to the 32nd error within 1,024 bits, and loses SYNC with it. -/
theorem State.countErrors_some (s : State) (l n : Nat) (hc : s.checking l = true) (hn : 0 < n) : ∃ ps t,
    t = (s.setErrs l ps).bump (aLN_ERRCNT l) 0 64 (min n (32 - s.recentErrs l))
    ∧ s.countErrors l n = if 32 ≤ s.recentErrs l + n then t.setFlag (aLN_TEST l) 14 false else t := by
  have hcount : ¬(s.checking l = false ∨ n = 0) := by
    rintro (h | h)
    · simp [hc] at h
    · omega
  unfold State.countErrors
  rw [if_neg hcount]
  extract_lets p old m lost
  have hlost : lost = true ↔ 32 ≤ s.recentErrs l + n := decide_eq_true_iff.trans (by
    show 32 ≤ s.recentErrs l + min n (32 - s.recentErrs l) ↔ _
    omega)
  exact ⟨_, _, rfl, if_congr hlost rfl rfl⟩

theorem State.countErrors_frame (s : State) (l n : Nat) :
    s.countErrors l n = { s with regs := (s.countErrors l n).regs, laneErrs := (s.countErrors l n).laneErrs } := by
  by_cases h : s.checking l = false ∨ n = 0
  · rw [s.countErrors_idle l n h]
  · obtain ⟨ps, t, rfl, hif⟩ := s.countErrors_some l n (by simpa using fun hc => h (.inl hc)) (by omega)
    rw [hif]
    split <;> rfl

theorem State.countErrors_writes (s : State) (l n : Nat) : State.WritesOnly (CheckBit l) s (s.countErrors l n) := by
  have hP := State.WritesOnly.composes (CheckBit l)
  by_cases h : s.checking l = false ∨ n = 0
  · rw [s.countErrors_idle l n h]
    exact hP.refl s
  · obtain ⟨ps, t, ht, hif⟩ := s.countErrors_some l n (by simpa using fun hc => h (.inl hc)) (by omega)
    have hbump : State.WritesOnly (CheckBit l) s t :=
      ht ▸ hP.trans (.of_regs rfl) (.setFld (s.setErrs l ps) _ _ _ _ fun _ _ _ => .inl rfl)
    rw [hif]
    exact rel_ite (hP.trans hbump (.setFlag _ _ _ _ (.inr ⟨rfl, rfl⟩))) hbump

theorem State.countErrors_counts (s : State) (l n : Nat) (hw : sparseWf regReset s.regs = true) (hc : s.checking l = true)
    (u : State) (hu : u = s.countErrors l n) :
    (s.recentErrs l + n < 32 → u.reg (aLN_ERRCNT l) = s.errCount l n ∧ u.flag (aLN_TEST l) 14 = true)
    ∧ (0 < n → 32 ≤ s.recentErrs l + n → u.reg (aLN_ERRCNT l) = s.errCount l (32 - s.recentErrs l)
        ∧ u.flag (aLN_TEST l) 14 = false) := by
  have hne : aLN_TEST l ≠ aLN_ERRCNT l := by simp only [aLN_TEST, aLN_ERRCNT]; omega
  have hsync : s.flag (aLN_TEST l) 14 = true := by
    simp only [State.checking, Bool.and_eq_true] at hc
    exact hc.2
  subst hu
  rcases Nat.eq_zero_or_pos n with rfl | hn
  · refine ⟨fun _ => ?_, fun h => absurd h (by decide)⟩
    have hmax : min ((s.reg (aLN_ERRCNT l)).toNat + 0) (2 ^ 64 - 1) = (s.reg (aLN_ERRCNT l)).toNat := by
      have := (s.reg (aLN_ERRCNT l)).isLt
      omega
    rw [s.countErrors_idle l 0 (.inr rfl), State.errCount, hmax, BitVec.ofNat_toNat, BitVec.setWidth_eq]
    exact ⟨rfl, hsync⟩
  · obtain ⟨ps, t, ht, hif⟩ := s.countErrors_some l n hc hn
    have hcount : t.reg (aLN_ERRCNT l) = s.errCount l (min n (32 - s.recentErrs l)) :=
      ht ▸ (s.setErrs l ps).reg_bump_counter _ _ hw
    have hwt : sparseWf regReset t.regs = true := ht ▸ (s.setErrs l ps).bump_regsWf _ _ _ _ hw
    refine ⟨fun h => ?_, fun _ h => ?_⟩
    · have hflag : t.flag (aLN_TEST l) 14 = s.flag (aLN_TEST l) 14 :=
        congrArg (BitVec.getLsbD · 14) (ht ▸ State.reg_bump_ne _ _ _ _ _ _ hne)
      rw [hif, if_neg (by omega), hcount, hflag, show min n (32 - s.recentErrs l) = n by omega]
      exact ⟨rfl, hsync⟩
    · rw [hif, if_pos h, State.reg_setFlag_ne _ _ _ _ _ hne.symm, hcount,
        show min n (32 - s.recentErrs l) = 32 - s.recentErrs l by omega]
      exact ⟨rfl, t.flag_setFlag_same _ _ _ hwt (by decide)⟩

theorem checkBit_regs {l a i : Nat} (h : CheckBit l a i) : a ∈ [aLN_TEST l, aLN_ERRCNT l] := by
  rcases h with rfl | ⟨rfl, _⟩ <;> simp

/-- A report of a checker counts its errors and leaves SYNC set (R168). -/
theorem execCheckerSync_counts (s : State) (l : Fin 64) (errors : Nat) (hw : s.regsWf = true)
    (ho : s.flag (aLN_STATUS l) 14 = true) (he : s.flag (aLN_TEST l) 2 = true) :
    ∃ u, exec (.checkerSync l errors) s = .next u ∧ u.flag (aLN_TEST l) 14 = true
      ∧ RegsKept s u [aLN_TEST l, aLN_ERRCNT l]
      ∧ (s.checking l = false → u.reg (aLN_ERRCNT l) = s.reg (aLN_ERRCNT l))
      ∧ (s.checking l = true → s.recentErrs l + errors < 32 → u.reg (aLN_ERRCNT l) = s.errCount l errors)
      ∧ u = { s with regs := u.regs, laneErrs := u.laneErrs } := by
  obtain ⟨t, ht⟩ : ∃ t, t = s.countErrors l errors := ⟨_, rfl⟩
  have hwrites : State.WritesOnly (CheckBit l) s t := ht ▸ s.countErrors_writes l errors
  have hset : State.WritesOnly (CheckBit l) t (t.setFlag (aLN_TEST l) 14 true) := .setFlag t _ _ _ (.inr ⟨rfl, rfl⟩)
  have herr : (t.setFlag (aLN_TEST l) 14 true).reg (aLN_ERRCNT l) = t.reg (aLN_ERRCNT l) :=
    t.reg_setFlag_ne _ _ _ _ (by simp only [aLN_TEST, aLN_ERRCNT]; omega)
  refine ⟨t.setFlag (aLN_TEST l) 14 true, (if_pos ⟨ho, .inl he⟩).trans (by rw [ht]),
    t.flag_setFlag_same _ _ _ (hwrites.wf hw) (by decide),
    ((State.WritesOnly.composes _).trans hwrites hset).regsKept hw fun _ _ => checkBit_regs, fun hc => ?_, fun hc h => ?_, ?_⟩
  · rw [herr, ht, s.countErrors_idle l errors (.inl hc)]
  · rw [herr]
    exact ((s.countErrors_counts l errors hw hc t ht).1 h).1
  · rw [ht]
    exact congrArg (fun x : State => x.setFlag (aLN_TEST l) 14 true) (s.countErrors_frame l errors)

/-- A checker that loses its synchronisation counts the errors that declare it (R168). -/
theorem execCheckerSyncLoss_counts (s : State) (l : Fin 64) (hw : s.regsWf = true) (hc : s.checking l = true) :
    ∃ u, exec (.checkerSyncLoss l) s = .next u ∧ u.flag (aLN_TEST l) 14 = false
      ∧ u.reg (aLN_ERRCNT l) = s.errCount l (32 - s.recentErrs l) ∧ RegsKept s u [aLN_TEST l, aLN_ERRCNT l]
      ∧ u = { s with regs := u.regs, laneErrs := u.laneErrs } := by
  obtain ⟨hcount, hsync⟩ := (s.countErrors_counts l 32 hw hc _ rfl).2 (by decide) (by omega)
  exact ⟨s.countErrors l 32, if_pos hc, hsync, hcount, (s.countErrors_writes l 32).regsKept hw fun _ _ => checkBit_regs,
    s.countErrors_frame l 32⟩

/-! Writes of LN_TEST and LN_INJECT -/

/-- A word of 32 bits has no bits above them to drop. -/
theorem setWidth_and_low32 (v : BitVec 32) : (v.setWidth 64 &&& 0xFFFFFFFF : Word) = v.setWidth 64 := by
  have hv := v.isLt
  apply BitVec.eq_of_toNat_eq
  rw [BitVec.toNat_and, BitVec.toNat_setWidth_of_le (by omega)]
  exact (Nat.and_two_pow_sub_one_eq_mod v.toNat 32).trans (Nat.mod_eq_of_lt hv)

theorem State.applyWrite_lnTest (s : State) (l : Fin 64) (v : BitVec 32) :
    s.applyWrite (aLN_TEST l) (v.setWidth 64) = s.testWrite l (v.setWidth 64) := by
  have hrows : ∀ l : Fin 64, (regLookup (aLN_TEST l)).map (fun r => (r.1.name, r.1.wide, r.2.1))
      = some (.LN_TEST, false, l.val) := by decide +kernel
  obtain ⟨row, j, hlook, hname, hwide⟩ := regLookup_row (hrows l)
  rw [State.applyWrite, hlook]
  dsimp only
  rw [hname, hwide, if_neg (by decide), setWidth_and_low32]

theorem State.applyWrite_lnInject (s : State) (l : Fin 64) (v : BitVec 32) :
    s.applyWrite (aLN_INJECT l) (v.setWidth 64) = s.injectWrite l (v.setWidth 64) := by
  have hrows : ∀ l : Fin 64, (regLookup (aLN_INJECT l)).map (fun r => (r.1.name, r.1.wide, r.2.1))
      = some (.LN_INJECT, false, l.val) := by decide +kernel
  obtain ⟨row, j, hlook, hname, hwide⟩ := regLookup_row (hrows l)
  rw [State.applyWrite, hlook]
  dsimp only
  rw [hname, hwide, if_neg (by decide), setWidth_and_low32]

/-! Injections (R174, R175) -/

/-- LN_INJECT holds what was written, with GO as it acts. -/
def State.injectNoted (s : State) (l : Nat) (v : Word) (go : Bool) : State :=
  s.setReg (aLN_INJECT l) (putBits (v &&& 0x3FFFF) 3 1 (bit go))

theorem State.injectNoted_shows (s : State) (l : Nat) (v : Word) (go : Bool) (hw : sparseWf regReset s.regs = true) (u : State)
    (hu : u = s.injectNoted l v go) : u.flag (aLN_INJECT l) 3 = go ∧ u.fld (aLN_INJECT l) 12 6 = getBits v 12 6
      ∧ RegsKept s u [aLN_INJECT l] ∧ u = { s with regs := u.regs } := by
  subst hu
  have hreg : (s.injectNoted l v go).reg (aLN_INJECT l) = putBits (v &&& 0x3FFFF) 3 1 (bit go) := s.reg_setReg_same _ _ hw
  refine ⟨?_, ?_, fun a ha => s.reg_setReg_ne _ _ _ (by simpa using ha), rfl⟩
  · rw [State.flag, hreg, getLsbD_putBits]
    cases go <;> rfl
  · rw [State.fld, hreg, getBits_putBits_disjoint _ _ _ _ _ _ (by omega)]
    refine getBits_congr fun i h1 h2 => ?_
    have hmask : (0x3FFFF : Word).getLsbD i = true := by
      interval_cases i <;> rfl
    rw [BitVec.getLsbD_and, hmask, Bool.and_true]

/-- What the injection and the checker of a lane read is not LN_INJECT. -/
theorem State.injectNoted_keeps (s : State) (l : Nat) (v : Word) (go : Bool) (u : State) (hu : u = s.injectNoted l v go) :
    u.injectable l false = s.injectable l false ∧ u.checking l = s.checking l ∧ u.recentErrs l = s.recentErrs l
    ∧ u.reg (aLN_ERRCNT l) = s.reg (aLN_ERRCNT l) := by
  have hreg : ∀ a, a ≠ aLN_INJECT l → u.reg a = s.reg a := fun a ha => hu ▸ s.reg_setReg_ne _ _ _ ha
  have hstatus : ∀ i, u.flag (aLN_STATUS l) i = s.flag (aLN_STATUS l) i := fun i =>
    congrArg (BitVec.getLsbD · i) (hreg _ (by simp only [aLN_STATUS, aLN_INJECT]; omega))
  have htest : ∀ i, u.flag (aLN_TEST l) i = s.flag (aLN_TEST l) i := fun i =>
    congrArg (BitVec.getLsbD · i) (hreg _ (by simp only [aLN_TEST, aLN_INJECT]; omega))
  have hhead : u.head (u.headOf l) = s.head (s.headOf l) := by
    have hlayout : u.layout = s.layout := by
      rw [State.layout, State.layout, State.fld, hreg _ (by simp only [aMOD_STRAP, aLN_INJECT]; omega), State.fld]
    rw [State.headOf, State.headOf, hlayout, hu]
    rfl
  have herrs : u.errsOf l = s.errsOf l := hu ▸ rfl
  refine ⟨?_, ?_, ?_, hreg _ (by simp only [aLN_ERRCNT, aLN_INJECT]; omega)⟩
  · show u.generating l = s.generating l
    simp only [State.generating, hstatus, htest, hhead]
  · simp only [State.checking, hstatus, htest]
  · rw [State.recentErrs, State.recentErrs, herrs, hreg _ (by simp only [aLN_BITCNT, aLN_INJECT]; omega)]

/-- GO on the stream of the generator (R174, R175). -/
theorem State.injectWrite_go (s : State) (l : Nat) (v : Word) (h2 : v.getLsbD 2 = false) (h3 : v.getLsbD 3 = true) :
    s.injectWrite l v = if 0 < injectBits v ∧ s.injectable l false = true
      then (s.injectNoted l v true).flipBits l false (injectBits v) else s.injectNoted l v true := by
  obtain ⟨hinj, _⟩ := s.injectNoted_keeps l v true _ rfl
  rw [← hinj, State.injectWrite, h2, h3]
  simp only [Bool.not_false, Bool.true_or, Bool.and_true, true_and]
  rfl

theorem State.injectWrite_stop (s : State) (l : Nat) (v : Word) (h3 : v.getLsbD 3 = false) :
    s.injectWrite l v = s.injectNoted l v false := by
  rw [State.injectWrite, h3]
  exact if_neg (by simp)

/-- A write of LN_INJECT that passes its checks has its effect and no other. -/
theorem State.write_inject (s : State) (p : Path) (l : Fin 64) (v : BitVec 32) (h : WriteOk s p (aLN_INJECT l) 4 (v.setWidth 64))
    (u : State) (hu : s.injectWrite l (v.setWidth 64) = u) (hs : u.snapDue = s.snapDue) :
    s.write32 p (aLN_INJECT l) v = .next u := by
  obtain ⟨hq, _⟩ := id h
  rw [State.write32, s.commandWrite_ok p _ _ _ h, s.applyWrite_lnInject, hu, State.settle_quiet s (hs.trans hq)]

/-- Bits flipped on the generator's stream leave on it, and a synchronised checker counts them. -/
theorem State.flipBits_counts (s : State) (l : Fin 64) (n : Nat) (hn : 0 < n) (hw : sparseWf regReset s.regs = true) (u : State)
    (hu : u = s.flipBits l false n) : u.outputs = s.outputs ++ [.injected l false n] ∧ u.snapDue = s.snapDue
      ∧ (∀ i, u.flag (aLN_INJECT l) i = s.flag (aLN_INJECT l) i)
      ∧ (s.checking l = false → u.reg (aLN_ERRCNT l) = s.reg (aLN_ERRCNT l))
      ∧ (s.checking l = true → s.recentErrs l + n < 32 →
          u.reg (aLN_ERRCNT l) = s.errCount l n ∧ u.flag (aLN_TEST l) 14 = true)
      ∧ (s.checking l = true → 32 ≤ s.recentErrs l + n → u.flag (aLN_TEST l) 14 = false) := by
  have hlane : lane64 l = l := Fin.ext (Nat.mod_eq_of_lt l.isLt)
  obtain ⟨t, ht⟩ : ∃ t, t = s.emit (.injected l false n) := ⟨_, rfl⟩
  have hut : u = t.countErrors l n := hu.trans (by rw [State.flipBits, hlane, ← ht]; rfl)
  have hframe := t.countErrors_frame l n
  have hcounts : s.checking l = true → _ := fun hc =>
    t.countErrors_counts l n (by rw [ht]; exact hw) (by rw [ht]; exact hc) u hut
  refine ⟨?_, ?_, fun i => ?_, fun hc => ?_, fun hc h => ?_, fun hc h => ?_⟩
  · rw [hut, hframe, ht]
    rfl
  · rw [hut, hframe, ht]
    rfl
  · rw [hut, (t.countErrors_writes l n).flag (by rw [ht]; exact hw), ht]
    · rfl
    · rintro (h | ⟨h, _⟩)
      · simp only [aLN_INJECT, aLN_ERRCNT] at h
        omega
      · simp only [aLN_INJECT, aLN_TEST] at h
        omega
  · rw [hut, t.countErrors_idle l n (.inl (by rw [ht]; exact hc)), ht]
    rfl
  · obtain ⟨hcount, hsync⟩ := (hcounts hc).1 (by rw [ht]; exact h)
    exact ⟨hcount.trans (by rw [ht]; rfl), hsync⟩
  · exact ((hcounts hc).2 hn (by rw [ht]; exact h)).2

/-- An injection of some bits with GO (R174, R175). -/
theorem State.inject_bits (s : State) (p : Path) (l : Fin 64) (v : BitVec 32) (n : Nat) (hw : s.regsWf = true)
    (h : WriteOk s p (aLN_INJECT l) 4 (v.setWidth 64)) (h2 : (v.setWidth 64).getLsbD 2 = false)
    (h3 : (v.setWidth 64).getLsbD 3 = true) (hbits : injectBits (v.setWidth 64) = n) (hn : 0 < n) :
    (s.injectable l false = true → ∃ u, s.write32 p (aLN_INJECT l) v = .next u ∧ u.flag (aLN_INJECT l) 3 = true
      ∧ u.outputs = s.outputs ++ [.injected l false n]
      ∧ (s.checking l = false → u.reg (aLN_ERRCNT l) = s.reg (aLN_ERRCNT l))
      ∧ (s.checking l = true → s.recentErrs l + n < 32 →
          u.reg (aLN_ERRCNT l) = s.errCount l n ∧ u.flag (aLN_TEST l) 14 = true)
      ∧ (s.checking l = true → 32 ≤ s.recentErrs l + n → u.flag (aLN_TEST l) 14 = false))
    ∧ (s.injectable l false = false → ∃ u, s.write32 p (aLN_INJECT l) v = .next u ∧ u.flag (aLN_INJECT l) 3 = true
      ∧ RegsKept s u [aLN_INJECT l] ∧ u = { s with regs := u.regs }) := by
  obtain ⟨t, ht⟩ : ∃ t, t = s.injectNoted l (v.setWidth 64) true := ⟨_, rfl⟩
  have hwrite := s.injectWrite_go l (v.setWidth 64) h2 h3
  rw [hbits, ← ht] at hwrite
  obtain ⟨hgo, _, hkept, hframe⟩ := s.injectNoted_shows l (v.setWidth 64) true hw t ht
  obtain ⟨_, hcheck, hrecent, herr⟩ := s.injectNoted_keeps l (v.setWidth 64) true t ht
  have hwt : sparseWf regReset t.regs = true := ht ▸ s.setReg_regsWf _ _ hw
  refine ⟨fun hi => ?_, fun hi => ?_⟩
  · obtain ⟨hout, hsnap, hflag, hcounts⟩ := t.flipBits_counts l n hn hwt _ rfl
    rw [hcheck, hrecent, herr, show t.errCount l n = s.errCount l n by rw [State.errCount, herr, State.errCount]] at hcounts
    exact ⟨_, s.write_inject p l v h _ (hwrite.trans (if_pos ⟨hn, hi⟩)) (hsnap.trans (by rw [hframe])),
      (hflag 3).trans hgo, hout.trans (by rw [hframe]), hcounts⟩
  · have hnone : ¬(0 < n ∧ s.injectable l false = true) := by simp [hi]
    exact ⟨t, s.write_inject p l v h t (hwrite.trans (if_neg hnone)) (by rw [hframe]), hgo, hkept, hframe⟩

end Sys2Proof.Machine

namespace Sys2Proof.Machine

open Sys2Proof.Claims

/-! Lane tests (R169 to R173) -/

/-- The refusal bits of LN_TEST clear where they are written. -/
def State.testCleared (s : State) (l : Nat) (v : Word) : State :=
  let s := if v.getLsbD 12 then s.setFlag (aLN_TEST l) 12 false else s
  if v.getLsbD 13 then s.setFlag (aLN_TEST l) 13 false else s

/-- LN_TEST takes the configuration of a write. -/
def State.testConfigured (s : State) (l : Nat) (v : Word) : State :=
  (s.setFld (aLN_TEST l) 1 11 (getBits v 1 11)).testCleared l v

theorem State.testCleared_writes (s : State) (l : Nat) (v : Word) (w : Nat → Nat → Prop) (h12 : w (aLN_TEST l) 12)
    (h13 : w (aLN_TEST l) 13) : State.WritesOnly w s (s.testCleared l v) := by
  have hP := State.WritesOnly.composes w
  exact hP.andIf (hP.andIf (hP.refl s) (.setFlag _ _ _ _ h12)) (.setFlag _ _ _ _ h13)

theorem State.testCleared_regsOnly (s : State) (l : Nat) (v : Word) : s.RegsOnly (s.testCleared l v) :=
  State.regsOnly_composes.andIf (State.regsOnly_composes.andIf (.refl s) rfl) rfl

/-- The bits of LN_TEST that a write configures or clears. -/
def ConfigBit (l a i : Nat) : Prop := a = aLN_TEST l ∧ 1 ≤ i ∧ i < 14

theorem State.testConfigured_shows (s : State) (l : Nat) (v : Word) (hw : sparseWf regReset s.regs = true) (u : State)
    (hu : u = s.testConfigured l v) :
    State.WritesOnly (ConfigBit l) s u ∧ u = { s with regs := u.regs } ∧ u.fld (aLN_TEST l) 1 11 = getBits v 1 11 := by
  obtain ⟨t, ht⟩ : ∃ t, t = s.setFld (aLN_TEST l) 1 11 (getBits v 1 11) := ⟨_, rfl⟩
  have hut : u = t.testCleared l v := by rw [hu, ht]; rfl
  have hfld : State.WritesOnly (ConfigBit l) s t := ht ▸ .setFld s _ _ _ _ fun i h1 h2 => ⟨rfl, h1, by omega⟩
  have hclear : State.WritesOnly (ConfigBit l) t u :=
    hut ▸ t.testCleared_writes l v _ ⟨rfl, by decide, by decide⟩ ⟨rfl, by decide, by decide⟩
  refine ⟨(State.WritesOnly.composes _).trans hfld hclear, ?_, ?_⟩
  · exact State.regsOnly_composes.trans (by rw [ht]; rfl) (hut ▸ t.testCleared_regsOnly l v)
  · have hhigh : State.WritesOnly (fun _ i => 12 ≤ i) t u := hut ▸ t.testCleared_writes l v _ (by decide) (by decide)
    rw [hhigh.fld (hfld.wf hw) (fun i _ h => by omega), ht, s.fld_setFld_same _ _ _ _ hw (by decide)]
    exact Nat.mod_eq_of_lt (getBits_lt v 1 11)

/-- Whether a test is refused rests on nothing that the write configures. -/
theorem State.testChecks_config {s u : State} {l : Nat} (h : State.WritesOnly (ConfigBit l) s u)
    (hrest : u = { s with regs := u.regs }) (hw : sparseWf regReset s.regs = true) (v : Word) :
    u.testBad l v = s.testBad l v ∧ u.testRefused l v = s.testRefused l v := by
  have hreg : ∀ a, a ≠ aLN_TEST l → u.reg a = s.reg a := fun a ha => h.reg hw fun i hi => ha hi.1
  have husable : ∀ r, u.eqUsable l r = s.eqUsable l r := fun r =>
    congrArg (BitVec.getLsbD · (8 + r)) (hreg _ (by simp only [aLN_STATUS, aLN_TEST]; omega))
  have hlayout : u.layout = s.layout := by
    rw [State.layout, State.layout, State.fld, hreg _ (by simp only [aMOD_STRAP, aLN_TEST]; omega), State.fld]
  have hof : u.headOf l = s.headOf l := by rw [State.headOf, State.headOf, hlayout]
  have hhead : ∀ k, u.head k = s.head k := fun k => by rw [hrest]; rfl
  have hext : ∀ k, u.extCount k = s.extCount k := fun k => by rw [hrest]; rfl
  have hdom : ∀ n, u.domOn n = s.domOn n := fun n => by rw [hrest]; rfl
  have hperst : ∀ k, u.perstHigh k = s.perstHigh k := fun k => by
    rw [State.perstHigh, State.perstPin, hlayout, State.flag, hreg _ (by simp only [aMOD_PERST, aLN_TEST]; omega)]
    rfl
  constructor
  · simp only [State.testBad, husable]
  · simp only [State.testRefused, hof, hlayout, hhead, hext, hdom, hperst]

/-- A refused test shows why, and nothing else comes of it. -/
def State.testDenied (s : State) (l : Nat) (bad busy : Bool) : State :=
  (s.markIf bad (aLN_TEST l) 13).markIf busy (aLN_TEST l) 12

/-- ENABLE is checked against the configuration that comes with it. -/
theorem State.testWrite_enable (s : State) (l : Nat) (v : Word) (hw : sparseWf regReset s.regs = true)
    (h0 : s.flag (aLN_TEST l) 0 = false) (hv : v.getLsbD 0 = true) (t : State) (ht : t = s.testConfigured l v) :
    s.testWrite l v = if (s.testBad l v || s.testRefused l v) = true then t.testDenied l (s.testBad l v) (s.testRefused l v)
      else t.testStart l v := by
  obtain ⟨hwrites, hrest, _⟩ := s.testConfigured_shows l v hw t ht
  obtain ⟨hbad, hbusy⟩ := State.testChecks_config hwrites hrest hw v
  rw [← hbad, ← hbusy, State.testWrite, if_neg (by simp [h0])]
  extract_lets s1 s2 s3 bad busy s4 s5
  have h3 : s3 = t := ht ▸ rfl
  have hden : s5 = t.testDenied l (t.testBad l v) (t.testRefused l v) := h3 ▸ rfl
  have hor : (bad || busy) = (t.testBad l v || t.testRefused l v) := by rw [← h3]
  rw [if_neg (by rw [hv]; decide), hor, hden]
  split
  · rfl
  · rename_i hno
    obtain ⟨hb, hr⟩ : t.testBad l v = false ∧ t.testRefused l v = false := by simpa using hno
    have hfree : t.testDenied l false false = t := rfl
    rw [hb, hr, hfree]

/-- A lane is held by its test resources, and its checker remembers no error (R172). -/
def State.testHeld (s : State) (m : Nat) : State :=
  { s.setFlag (aLN_STATUS m) 14 true with laneErrs := sparsePut (fun _ => []) s.laneErrs m [] }

/-- Its counters start at 0, without SYNC. -/
theorem State.testOwn_eq (s : State) (m : Nat) : s.testOwn m =
    (((s.testHeld m).setReg (aLN_ERRCNT m) 0).setReg (aLN_BITCNT m) 0).setFlag (aLN_TEST m) 14 false := rfl

/-- What the test of a lane shows while it runs at a rate (R172). -/
structure State.TestRuns (u : State) (l rate : Nat) : Prop where
  owned : u.flag (aLN_STATUS l) 14 = true
  rate : u.fld (aLN_STATUS l) 2 3 = rate
  errors : u.reg (aLN_ERRCNT l) = 0
  bits : u.reg (aLN_BITCNT l) = 0

/-- What starting the test of lane `m` writes: registers of that lane, and of its LN_TEST only SYNC. -/
def StartBit (m a i : Nat) : Prop :=
  a = aLN_STATUS m ∨ a = aLN_ERRCNT m ∨ a = aLN_BITCNT m ∨ (a = aLN_TEST m ∧ i = 14)

/-- A lane becomes test-owned and runs at a rate. -/
def State.testLane (s : State) (m rate : Nat) : State := (s.testOwn m).testAt m rate

theorem State.testAt_regs (s : State) (m rate : Nat) : (s.testAt m rate).regs = (s.setFld (aLN_STATUS m) 2 3 rate).regs := by
  unfold State.testAt
  dsimp only
  split <;> rfl

theorem State.testOwn_writes (s : State) (m : Nat) : State.WritesOnly (StartBit m) s (s.testOwn m) := by
  have hP := State.WritesOnly.composes (StartBit m)
  have hheld : State.WritesOnly (StartBit m) s (s.testHeld m) :=
    hP.trans (.setFlag s _ _ true (.inl rfl)) (.of_regs rfl)
  have herrors := hP.trans hheld (.setReg _ (aLN_ERRCNT m) 0 fun _ => .inr (.inl rfl))
  have hbits := hP.trans herrors (.setReg _ (aLN_BITCNT m) 0 fun _ => .inr (.inr (.inl rfl)))
  exact hP.trans hbits (.setFlag _ _ _ _ (.inr (.inr (.inr ⟨rfl, rfl⟩))))

theorem State.testLane_writes (s : State) (m rate : Nat) : State.WritesOnly (StartBit m) s (s.testLane m rate) := by
  have hP := State.WritesOnly.composes (StartBit m)
  have hshown := hP.trans (s.testOwn_writes m) (.setFld _ (aLN_STATUS m) 2 3 rate fun _ _ _ => .inl rfl)
  exact hP.trans hshown (.of_regs (State.testAt_regs _ m rate))

theorem State.testOwn_shows (s : State) (m : Nat) (hw : sparseWf regReset s.regs = true) :
    (s.testOwn m).flag (aLN_STATUS m) 14 = true ∧ (s.testOwn m).reg (aLN_ERRCNT m) = 0
      ∧ (s.testOwn m).reg (aLN_BITCNT m) = 0 := by
  have hwx : sparseWf regReset (s.testHeld m).regs = true := s.setFlag_regsWf _ _ _ hw
  have hown : (s.testHeld m).flag (aLN_STATUS m) 14 = true := s.flag_setFlag_same _ _ _ hw (by decide)
  rw [s.testOwn_eq, State.flag]
  refine ⟨?_, ?_, ?_⟩
  · rw [State.reg_setFlag_ne, State.reg_setReg_ne, State.reg_setReg_ne]
    · exact hown
    all_goals simp only [aLN_STATUS, aLN_TEST, aLN_ERRCNT, aLN_BITCNT]; omega
  · rw [State.reg_setFlag_ne, State.reg_setReg_ne]
    · exact State.reg_setReg_same _ _ _ hwx
    all_goals simp only [aLN_TEST, aLN_ERRCNT, aLN_BITCNT]; omega
  · rw [State.reg_setFlag_ne]
    · exact State.reg_setReg_same _ _ _ (State.setReg_regsWf _ _ _ hwx)
    · simp only [aLN_TEST, aLN_BITCNT]; omega

theorem State.testLane_runs (s : State) (m rate : Nat) (hr : rate < 8) (hw : sparseWf regReset s.regs = true) :
    (s.testLane m rate).TestRuns m rate := by
  obtain ⟨hown, herr, hbit⟩ := s.testOwn_shows m hw
  have hwo : sparseWf regReset (s.testOwn m).regs = true := (s.testOwn_writes m).wf hw
  have hreg : ∀ a, (s.testLane m rate).reg a = ((s.testOwn m).setFld (aLN_STATUS m) 2 3 rate).reg a :=
    State.reg_congr (State.testAt_regs _ m rate)
  refine ⟨?_, ?_, ?_, ?_⟩
  · rw [State.flag, hreg]
    exact (State.flag_setFld_other _ _ _ _ _ _ hwo (by decide)).trans hown
  · rw [State.fld, hreg]
    exact (State.fld_setFld_same _ _ _ _ _ hwo (by decide)).trans (Nat.mod_eq_of_lt hr)
  · rw [hreg, State.reg_setFld_ne _ _ _ _ _ _ (by simp only [aLN_ERRCNT, aLN_STATUS]; omega), herr]
  · rw [hreg, State.reg_setFld_ne _ _ _ _ _ _ (by simp only [aLN_BITCNT, aLN_STATUS]; omega), hbit]

/-- The test of another lane leaves a running one as it is. -/
theorem State.TestRuns.other {s : State} {l rate : Nat} (h : s.TestRuns l rate) (hr : rate < 8) (m : Nat)
    (hw : sparseWf regReset s.regs = true) : (s.testLane m rate).TestRuns l rate := by
  by_cases hm : m = l
  · rw [hm]
    exact s.testLane_runs l rate hr hw
  · have hreg : ∀ a, (a = aLN_STATUS l ∨ a = aLN_ERRCNT l ∨ a = aLN_BITCNT l) → (s.testLane m rate).reg a = s.reg a := by
      refine fun a ha => (s.testLane_writes m rate).reg hw fun i hi => ?_
      simp only [StartBit, aLN_STATUS, aLN_ERRCNT, aLN_BITCNT, aLN_TEST] at ha hi
      omega
    obtain ⟨hown, hrate, herr, hbit⟩ := h
    refine ⟨?_, ?_, ?_, ?_⟩
    · rw [State.flag, hreg _ (.inl rfl)]
      exact hown
    · rw [State.fld, hreg _ (.inl rfl)]
      exact hrate
    · rw [hreg _ (.inr (.inl rfl)), herr]
    · rw [hreg _ (.inr (.inr rfl)), hbit]

/-- Starting tests changes registers, the checkers' memory, and what the lanes have in force and report. -/
def State.TestOnly (s u : State) : Prop :=
  u = { s with regs := u.regs, laneErrs := u.laneErrs, laneEq := u.laneEq, outputs := u.outputs }

theorem State.testOnly_composes : Composes State.TestOnly where
  refl _ := rfl
  trans {s t u} h k := by
    unfold State.TestOnly at h k ⊢
    rw [k, h]

theorem State.testLane_only (s : State) (m rate : Nat) : s.TestOnly (s.testLane m rate) := by
  have hreg : ∀ (t : State) a v, s.TestOnly t → s.TestOnly (t.setReg a v) := fun t a v h =>
    State.testOnly_composes.trans h rfl
  have hown : s.TestOnly (s.testOwn m) := hreg _ _ _ (hreg _ _ _ (hreg _ _ _ rfl))
  exact State.testOnly_composes.andIf (hreg _ _ _ hown) rfl

/-- The tests of some lanes have started: one of them runs, and what stays of LN_TEST and elsewhere. -/
theorem State.testLanes_run (s : State) (ls : List Nat) (l rate : Nat) (hl : l ∈ ls) (hr : rate < 8)
    (hw : sparseWf regReset s.regs = true) (u : State) (hu : u = ls.foldl (fun s m => s.testLane m rate) s) :
    u.TestRuns l rate ∧ s.TestOnly u ∧ (∀ i, i ≠ 14 → u.flag (aLN_TEST l) i = s.flag (aLN_TEST l) i) := by
  subst hu
  refine ⟨?_, State.testOnly_composes.andFold (.refl s) fun t m => t.testLane_only m rate, fun i hi => ?_⟩
  · exact foldl_establishes (W := fun t : State => sparseWf regReset t.regs = true) (Q := fun t => t.TestRuns l rate) hl hw
      (fun t m ht => (t.testLane_writes m rate).wf ht) (fun t ht => t.testLane_runs l rate hr ht)
      fun t m ht hq => hq.other hr m ht
  · have hP := State.WritesOnly.composes fun a i => a % 64 = 8 → i = 14
    refine (hP.andFold (hP.refl s) fun t m => (t.testLane_writes m rate).mono fun a i h => ?_).flag hw fun h => hi (h ?_)
    · simp only [StartBit, aLN_STATUS, aLN_ERRCNT, aLN_BITCNT, aLN_TEST] at h
      omega
    · simp only [aLN_TEST]
      omega

/-- A test that starts on a lane: the lane alone, or in far-end lead every lane of its head (R170, R172). -/
theorem State.testStart_shows (s : State) (l : Nat) (v : Word)
    (hlead : getBits v 6 3 = 3 → l ∈ headLanes s.layout (s.headOf l))
    (hw : sparseWf regReset s.regs = true) (u : State) (hu : u = s.testStart l v) :
    u.TestRuns l (getBits v 9 3) ∧ u.flag (aLN_TEST l) 0 = true ∧ u.fld (aLN_TEST l) 1 11 = s.fld (aLN_TEST l) 1 11
    ∧ u.snapDue = s.snapDue ∧ (getBits v 6 3 = 3 → (u.head (s.headOf l)).link = .loopback)
    ∧ (getBits v 6 3 ≠ 3 → u.heads = s.heads) := by
  obtain ⟨t, ht⟩ : ∃ t, t = s.setFlag (aLN_TEST l) 0 true := ⟨_, rfl⟩
  have hset : State.WritesOnly (fun a i => a = aLN_TEST l ∧ i = 0) s t := ht ▸ .setFlag s _ _ _ ⟨rfl, rfl⟩
  have hon : t.flag (aLN_TEST l) 0 = true := ht ▸ s.flag_setFlag_same _ _ _ hw (by decide)
  have hcfg : t.fld (aLN_TEST l) 1 11 = s.fld (aLN_TEST l) 1 11 := hset.fld hw fun i h1 _ h => by
    obtain ⟨_, hi⟩ := h
    omega
  have hlayout : t.layout = s.layout := hset.fld hw fun i _ _ h => by
    obtain ⟨ha, _⟩ := h
    simp only [aMOD_STRAP, aLN_TEST] at ha
    omega
  have hruns : ∀ ls : List Nat, l ∈ ls → ∀ x, x = ls.foldl (fun s m => s.testLane m (getBits v 9 3)) t →
      x.TestRuns l (getBits v 9 3) ∧ x.flag (aLN_TEST l) 0 = true ∧ x.fld (aLN_TEST l) 1 11 = s.fld (aLN_TEST l) 1 11
      ∧ t.TestOnly x := fun ls hl x hx => by
    obtain ⟨hrun, honly, hflag⟩ := t.testLanes_run ls l _ hl (getBits_lt v 9 3) (hset.wf hw) x hx
    exact ⟨hrun, (hflag 0 (by decide)).trans hon, (getBits_congr fun i _ h => hflag i (by omega)).trans hcfg, honly⟩
  by_cases h3 : getBits v 6 3 = 3
  · obtain ⟨x, hx⟩ : ∃ x, x = (headLanes s.layout (s.headOf l)).foldl (fun s m => s.testLane m (getBits v 9 3)) t :=
      ⟨_, rfl⟩
    obtain ⟨hrun, hon, hcfg, honly⟩ := hruns _ (hlead h3) x hx
    obtain ⟨y, hy⟩ : ∃ y, y = x.setHead (s.headOf l) { x.head (s.headOf l) with link := .loopback } := ⟨_, rfl⟩
    obtain ⟨n, hfollow⟩ := y.cdatFollow_changes (s.headOf l) (t.head (s.headOf l)).cap
    have huy : u = y.setHead (s.headOf l) { y.head (s.headOf l) with cdatSeq := n } := by
      rw [← hfollow, hu, hy, hx, ← hlayout, ht]
      exact if_pos h3
    have hregs : u.regs = x.regs := by rw [huy, hy]; rfl
    have hreg : ∀ a, u.reg a = x.reg a := State.reg_congr hregs
    obtain ⟨hown, hrate, herr, hbit⟩ := hrun
    refine ⟨⟨?_, ?_, (hreg _).trans herr, (hreg _).trans hbit⟩, ?_, ?_, ?_, fun _ => ?_, fun hn => absurd h3 hn⟩
    · rw [State.flag, hreg]
      exact hown
    · rw [State.fld, hreg]
      exact hrate
    · rw [State.flag, hreg]
      exact hon
    · rw [State.fld, hreg]
      exact hcfg
    · rw [huy, hy, honly, ht]
      rfl
    · rw [huy, State.head_setHead_same, hy, State.head_setHead_same]
  · have hux : u = [l].foldl (fun s m => s.testLane m (getBits v 9 3)) t := by
      rw [hu, ht]
      exact if_neg h3
    obtain ⟨hrun, hon, hcfg, honly⟩ := hruns [l] (List.mem_singleton.mpr rfl) u hux
    refine ⟨hrun, hon, hcfg, ?_, fun h => absurd h h3, fun _ => ?_⟩
    all_goals rw [honly, ht]; rfl

/-! The end of a test (R170) -/

/-- What the end of a lane's test writes: its LN_STATUS and SYNC. -/
def FreeBit (m a i : Nat) : Prop := a = aLN_STATUS m ∨ (a = aLN_TEST m ∧ i = 14)

theorem State.testFree_writes (s : State) (m : Nat) : State.WritesOnly (FreeBit m) s (s.testFree m) :=
  (State.WritesOnly.composes _).trans (.setFlag s _ _ _ (.inl rfl)) (.setFlag _ _ _ _ (.inr ⟨rfl, rfl⟩))

theorem State.testFree_frees (s : State) (m : Nat) (hw : sparseWf regReset s.regs = true) :
    (s.testFree m).flag (aLN_STATUS m) 14 = false := by
  rw [State.testFree, State.flag, State.reg_setFlag_ne _ _ _ _ _ (by simp only [aLN_STATUS, aLN_TEST]; omega)]
  exact s.flag_setFlag_same _ _ _ hw (by decide)

/-- Outside far-end lead the lane is free again, and nothing beyond its own registers changes. -/
theorem State.testEnd_single (s : State) (l : Nat) (h : s.fld (aLN_TEST l) 6 3 ≠ 3) (hw : sparseWf regReset s.regs = true)
    (u : State) (hu : u = s.testEnd l) : u.flag (aLN_TEST l) 0 = false ∧ u.flag (aLN_STATUS l) 14 = false
      ∧ RegsKept s u [aLN_TEST l, aLN_STATUS l] ∧ u = { s with regs := u.regs } := by
  obtain ⟨t, ht⟩ : ∃ t, t = s.setFlag (aLN_TEST l) 0 false := ⟨_, rfl⟩
  have hut : u = (t.testFree l).setFld (aLN_STATUS l) 2 3 0 := by
    rw [hu, ht]
    exact if_neg h
  have hwt : sparseWf regReset t.regs = true := ht ▸ s.setFlag_regsWf _ _ _ hw
  have hset : State.WritesOnly (FreeBit l) (t.testFree l) u := hut ▸ .setFld _ _ _ _ _ fun _ _ _ => .inl rfl
  have hfree : State.WritesOnly (FreeBit l) t u := (State.WritesOnly.composes _).trans (t.testFree_writes l) hset
  have hkept : RegsKept t u [aLN_TEST l, aLN_STATUS l] := hfree.regsKept hwt fun a i hi => by
    rcases hi with rfl | ⟨rfl, _⟩ <;> simp
  refine ⟨?_, ?_, fun a ha => (hkept a ha).trans ?_, ?_⟩
  · refine (hfree.flag hwt ?_).trans (ht ▸ s.flag_setFlag_same _ _ _ hw (by decide))
    simp only [FreeBit, aLN_TEST, aLN_STATUS]
    omega
  · rw [hut]
    exact (State.flag_setFld_other _ _ _ _ _ _ ((t.testFree_writes l).wf hwt) (by decide)).trans (t.testFree_frees l hwt)
  · rw [ht]
    exact s.reg_setFlag_ne _ _ _ _ fun h => ha (h ▸ List.mem_cons_self)
  · rw [hut, ht]
    rfl

/-- The end of far-end lead frees every lane of the head, which returns through Detect. -/
theorem State.testEnd_lead (s : State) (l : Nat) (h : s.fld (aLN_TEST l) 6 3 = 3) (hw : sparseWf regReset s.regs = true)
    (u : State) (hu : u = s.testEnd l) : u.flag (aLN_TEST l) 0 = false
      ∧ (∀ i ∈ headLanes s.layout (s.headOf l), u.flag (aLN_STATUS i) 14 = false)
      ∧ (u.head (s.headOf l)).link = .detect ∧ (∀ j, j ≠ s.headOf l → u.head j = s.head j)
      ∧ u.snapDue = s.snapDue := by
  obtain ⟨t, ht⟩ : ∃ t, t = s.setFlag (aLN_TEST l) 0 false := ⟨_, rfl⟩
  have hwt : sparseWf regReset t.regs = true := ht ▸ s.setFlag_regsWf _ _ _ hw
  have hlayout : t.layout = s.layout := by
    rw [State.layout, State.fld, ht, State.reg_setFlag_ne _ _ _ _ _ (by simp only [aMOD_STRAP, aLN_TEST]; omega)]
    rfl
  obtain ⟨x, hx⟩ : ∃ x, x = (headLanes s.layout (s.headOf l)).foldl (fun s i => s.testFree i) t := ⟨_, rfl⟩
  obtain ⟨y, hy⟩ : ∃ y, y = x.laneStatus (s.headOf l) [] 0 [] false := ⟨_, rfl⟩
  have huy : u = y.setHead (s.headOf l)
      { y.head (s.headOf l) with link := .detect, lanes := [], reversed := false, rate := 0 } := by
    rw [hu, hy, hx, ← hlayout, ht]
    exact if_pos h
  have hP := State.WritesOnly.composes fun a i => ∃ m, FreeBit m a i
  have hfold : State.WritesOnly (fun a i => ∃ m, FreeBit m a i) t x := hx ▸ hP.andFold (hP.refl t) fun t m =>
    (t.testFree_writes m).mono fun _ _ hi => ⟨m, hi⟩
  have hbits : State.WritesOnly LinkBit x y := hy ▸ x.laneStatus_writes _ _ _ _ _
  have hwx : sparseWf regReset x.regs = true := hfold.wf hwt
  have hflag : ∀ a i, u.flag a i = y.flag a i := fun a i => by rw [huy]; rfl
  have hyt : y = { t with regs := y.regs } := by
    refine State.regsOnly_composes.trans ?_ (hy ▸ x.laneStatus_regsOnly _ _ _ _ _)
    rw [hx]
    exact State.regsOnly_composes.andFold (.refl t) fun _ _ => rfl
  refine ⟨?_, fun i hi => ?_, ?_, fun j hj => ?_, ?_⟩
  · rw [hflag, hbits.flag hwx (not_linkBit (by simp only [aLN_TEST]; omega) 0), hfold.flag hwt, ht]
    · exact s.flag_setFlag_same _ _ _ hw (by decide)
    · rintro ⟨m, hm⟩
      simp only [FreeBit, aLN_TEST, aLN_STATUS] at hm
      omega
  · rw [hflag, hbits.flag hwx (by simp [LinkBit]), hx]
    refine foldl_establishes (W := fun t : State => sparseWf regReset t.regs = true)
      (Q := fun t : State => t.flag (aLN_STATUS i) 14 = false) hi hwt (fun t m => (t.testFree_writes m).wf)
      (fun t ht => t.testFree_frees i ht) fun t m ht hq => ?_
    by_cases hm : m = i
    · rw [hm]
      exact t.testFree_frees i ht
    · refine ((t.testFree_writes m).flag ht ?_).trans hq
      simp only [FreeBit, aLN_STATUS, aLN_TEST]
      omega
  · rw [huy, State.head_setHead_same]
  · rw [huy, State.head_setHead_ne _ _ _ _ hj, hyt, ht]
    rfl
  · rw [huy, hyt, ht]
    rfl

/-! The commands -/

/-- A write of LN_TEST that passes its checks has its effect and no other. -/
theorem State.write_test (s : State) (p : Path) (l : Fin 64) (v : BitVec 32) (h : WriteOk s p (aLN_TEST l) 4 (v.setWidth 64))
    (u : State) (hu : s.testWrite l (v.setWidth 64) = u) (hs : u.snapDue = s.snapDue) :
    s.write32 p (aLN_TEST l) v = .next u := by
  obtain ⟨hq, _⟩ := id h
  rw [State.write32, s.commandWrite_ok p _ _ _ h, s.applyWrite_lnTest, hu, State.settle_quiet s (hs.trans hq)]

theorem execLnTestEnable_starts (s : State) (p : Path) (l : Fin 64) (v : BitVec 32) (w : Word) (hwv : w = v.setWidth 64)
    (hw : s.regsWf = true) (h : WriteOk s p (aLN_TEST l) 4 w) (h0 : s.flag (aLN_TEST l) 0 = false) (hv : w.getLsbD 0 = true)
    (hbad : s.testBad l w = false) (hbusy : s.testRefused l w = false) :
    ∃ u, exec (.lnTestEnable p l v) s = .next u ∧ u.TestRuns l (getBits w 9 3) ∧ u.flag (aLN_TEST l) 0 = true
      ∧ u.fld (aLN_TEST l) 1 11 = getBits w 1 11 ∧ (getBits w 6 3 = 3 → (u.head (s.headOf l)).link = .loopback)
      ∧ (getBits w 6 3 ≠ 3 → u.heads = s.heads) := by
  subst hwv
  obtain ⟨t, ht⟩ : ∃ t, t = s.testConfigured l (v.setWidth 64) := ⟨_, rfl⟩
  obtain ⟨hwrites, hrest, hcfg⟩ := s.testConfigured_shows l _ hw t ht
  have hlayout : t.layout = s.layout := hwrites.fld hw fun i _ _ hi => by
    obtain ⟨ha, _⟩ := hi
    simp only [aMOD_STRAP, aLN_TEST] at ha
    omega
  have hof : t.headOf l = s.headOf l := by rw [State.headOf, State.headOf, hlayout]
  have hlead : getBits (v.setWidth 64) 6 3 = 3 → l.val ∈ headLanes t.layout (t.headOf l) := fun h3 => by
    rw [State.testRefused, if_pos h3] at hbusy
    simp only [Bool.not_eq_false', Bool.and_eq_true, beq_iff_eq] at hbusy
    obtain ⟨⟨hfirst, _⟩, _⟩ := hbusy
    rw [hof, hlayout]
    exact List.mem_of_head? hfirst
  obtain ⟨hruns, hon, hfld, hsnap, hloop, hheads⟩ := t.testStart_shows l _ hlead (hwrites.wf hw) _ rfl
  have hwrite : s.testWrite l (v.setWidth 64) = t.testStart l (v.setWidth 64) :=
    (s.testWrite_enable l _ hw h0 hv t ht).trans (if_neg (by simp [hbad, hbusy]))
  refine ⟨_, s.write_test p l v h _ hwrite (hsnap.trans (by rw [hrest])), hruns, hon, hfld.trans hcfg, hof ▸ hloop,
    fun h3 => (hheads h3).trans (by rw [hrest])⟩

theorem execLnTestEnable_refused (s : State) (p : Path) (l : Fin 64) (v : BitVec 32) (w : Word) (hwv : w = v.setWidth 64)
    (hw : s.regsWf = true) (h : WriteOk s p (aLN_TEST l) 4 w) (h0 : s.flag (aLN_TEST l) 0 = false) (hv : w.getLsbD 0 = true)
    (hno : s.testRefused l w = true ∨ s.testBad l w = true) :
    ∃ u, exec (.lnTestEnable p l v) s = .next u ∧ u.flag (aLN_TEST l) 0 = false ∧ RegsKept s u [aLN_TEST l]
      ∧ (s.testRefused l w = true → u.flag (aLN_TEST l) 12 = true) ∧ (s.testBad l w = true → u.flag (aLN_TEST l) 13 = true)
      ∧ u = { s with regs := u.regs } := by
  subst hwv
  obtain ⟨t, ht⟩ : ∃ t, t = s.testConfigured l (v.setWidth 64) := ⟨_, rfl⟩
  obtain ⟨bad, hbad⟩ : ∃ b, b = s.testBad l (v.setWidth 64) := ⟨_, rfl⟩
  obtain ⟨busy, hbusy⟩ : ∃ b, b = s.testRefused l (v.setWidth 64) := ⟨_, rfl⟩
  obtain ⟨hwrites, hrest, _⟩ := s.testConfigured_shows l _ hw t ht
  obtain ⟨hflag1, hkept1, hwf1, hrest1⟩ := t.markIf_marks bad (aLN_TEST l) 13 (hwrites.wf hw) (by decide)
  obtain ⟨hflag2, hkept2, _, hrest2⟩ := State.markIf_marks _ busy (aLN_TEST l) 12 hwf1 (by decide)
  have hframe : t.testDenied l bad busy = { s with regs := (t.testDenied l bad busy).regs } :=
    State.regsOnly_composes.trans hrest (State.regsOnly_composes.trans hrest1 hrest2)
  have hwrite : s.testWrite l (v.setWidth 64) = t.testDenied l bad busy := by
    rw [s.testWrite_enable l _ hw h0 hv t ht, ← hbad, ← hbusy]
    rw [← hbad, ← hbusy] at hno
    exact if_pos (by rcases hno with h | h <;> simp [h])
  have hbit : ∀ i, (t.testDenied l bad busy).flag (aLN_TEST l) i
      = (decide (i = 12) && busy || (decide (i = 13) && bad || t.flag (aLN_TEST l) i)) :=
    fun i => (hflag2 i).trans (by rw [hflag1])
  rw [← hbad, ← hbusy]
  refine ⟨_, s.write_test p l v h _ hwrite (by rw [hframe]), ?_, fun a ha => ?_, fun hb => ?_, fun hb => ?_, hframe⟩
  · rw [hbit, hwrites.flag hw (by simp [ConfigBit]), h0]
    rfl
  · exact (hkept2 a ha).trans ((hkept1 a ha).trans (hwrites.regsKept hw (fun _ _ hi => by simp [hi.1]) a ha))
  · rw [hbit, hb]
    rfl
  · rw [hbit, hb]
    simp

theorem State.testWrite_disable (s : State) (l : Nat) (v : Word) (h0 : s.flag (aLN_TEST l) 0 = true) (hv : v.getLsbD 0 = false) :
    s.testWrite l v = s.testEnd l := (if_pos h0).trans (if_neg (by rw [hv]; decide))

/-- One bit for a single injection, the length written for a burst, and none for a rate (R174). -/
theorem injectBits_eq (v : Word) : (getBits v 0 2 = 1 → injectBits v = 1)
    ∧ (getBits v 0 2 = 2 → injectBits v = max 1 (getBits v 4 8)) ∧ (getBits v 0 2 = 3 → injectBits v = 0) := by
  refine ⟨fun h => ?_, fun h => ?_, fun h => ?_⟩ <;> simp only [injectBits, h]

/-- Settles O46: each clause by the lemma on its command. -/
theorem laneTests : Obligations.LaneTests := by
  intro s p l v w hw hwv recent plus
  refine ⟨fun h h0 hv hbad hbusy => ?_, execLnTestEnable_refused s p l v w hwv hw, fun h h0 hv h3 => ?_, fun h h0 hv h3 => ?_,
    fun i n hi h h2 h3 => ?_, fun ht h h2 h3 => ?_, fun h h3 => ?_, fun hgo ht => if_pos ⟨hgo, ht⟩,
    fun errors ho he => execCheckerSync_counts s l errors hw ho he, fun hc => execCheckerSyncLoss_counts s l hw hc,
    fun hc => if_neg (by simp [hc]), fun hb => if_pos hb⟩
  · obtain ⟨u, hexec, ⟨hown, hrate, herr, hbit⟩, hon, hcfg, hheads⟩ :=
      execLnTestEnable_starts s p l v w hwv hw h h0 hv hbad hbusy
    exact ⟨u, hexec, hon, hcfg, hown, hrate, herr, hbit, hheads⟩
  · subst hwv
    have hend := s.testEnd_single l h3 hw _ rfl
    obtain ⟨_, _, _, hframe⟩ := id hend
    exact ⟨_, s.write_test p l v h _ (s.testWrite_disable l _ h0 hv) (by rw [hframe]), hend⟩
  · subst hwv
    obtain ⟨hoff, hfree, hlink, hothers, hsnap⟩ := s.testEnd_lead l h3 hw _ rfl
    exact ⟨_, s.write_test p l v h _ (s.testWrite_disable l _ h0 hv) hsnap, hoff, hfree, hlink, hothers⟩
  · subst hwv
    obtain ⟨hsingle, hburst, _⟩ := injectBits_eq (v.setWidth 64)
    have hbits : exec i s = s.write32 p (aLN_INJECT l) v ∧ injectBits (v.setWidth 64) = n ∧ 0 < n := by
      rcases hi with ⟨rfl, ht, rfl⟩ | ⟨rfl, ht, rfl⟩
      · exact ⟨rfl, hsingle ht, by decide⟩
      · exact ⟨rfl, hburst ht, by omega⟩
    obtain ⟨hexec, hn, hpos⟩ := hbits
    rw [hexec]
    exact s.inject_bits p l v n hw h h2 h3 hn hpos
  · subst hwv
    obtain ⟨_, _, hrate⟩ := injectBits_eq (v.setWidth 64)
    obtain ⟨hgo, hexp, hkept, hframe⟩ := s.injectNoted_shows l (v.setWidth 64) true hw _ rfl
    have hwrite := (s.injectWrite_go l _ h2 h3).trans (if_neg (by simp [hrate ht]))
    exact ⟨_, s.write_inject p l v h _ hwrite (by rw [hframe]), hgo, hexp, hkept, hframe⟩
  · subst hwv
    obtain ⟨hgo, _, hkept, hframe⟩ := s.injectNoted_shows l (v.setWidth 64) false hw _ rfl
    exact ⟨_, s.write_inject p l v h _ (s.injectWrite_stop l _ h3) (by rw [hframe]), hgo, hkept, hframe⟩

end Sys2Proof.Machine

namespace Sys2Proof.Machine

open Sys2Proof.Claims

/-! What no operation changes but those of fuses, grants, reset and supply: the waiting commands, the fuses and the grants -/

/-- The waiting commands, the fuses and the grants are as they were. -/
@[simp, reducible] def State.Steady (s u : State) : Prop :=
  u.pending = s.pending ∧ u.otp.words = s.otp.words ∧ u.grants = s.grants

theorem FaultFrame.steady {s u : State} (h : FaultFrame s u) : s.Steady u := ⟨h.pending, congrArg Otp.words h.otp, h.grants⟩

@[simp] theorem State.pending_ite (c : Prop) [Decidable c] (t u : State) :
    (if c then t else u).pending = if c then t.pending else u.pending := apply_ite State.pending c t u
@[simp] theorem State.otp_ite (c : Prop) [Decidable c] (t u : State) :
    (if c then t else u).otp = if c then t.otp else u.otp := apply_ite State.otp c t u
@[simp] theorem State.grants_ite (c : Prop) [Decidable c] (t u : State) :
    (if c then t else u).grants = if c then t.grants else u.grants := apply_ite State.grants c t u
@[simp] theorem State.words_ite (c : Prop) [Decidable c] (t u : Otp) :
    (if c then t else u).words = if c then t.words else u.words := apply_ite Otp.words c t u

/-- A part that no step of a fold changes. -/
theorem foldl_unchanged {σ α β : Type} (p : σ → β) (f : σ → α → σ) (l : List α) (s : σ)
    (h : ∀ s a, p (f s a) = p s) : p (l.foldl f s) = p s := by
  induction l generalizing s with
  | nil => rfl
  | cons a l ih => rw [List.foldl_cons, ih, h]

@[simp] theorem State.pending_foldl {α : Type} (f : State → α → State) (l : List α) (s : State)
    (h : ∀ s a, (f s a).pending = s.pending) : (l.foldl f s).pending = s.pending := foldl_unchanged State.pending f l s h
@[simp] theorem State.words_foldl {α : Type} (f : State → α → State) (l : List α) (s : State)
    (h : ∀ s a, (f s a).otp.words = s.otp.words) : (l.foldl f s).otp.words = s.otp.words :=
  foldl_unchanged (fun s : State => s.otp.words) f l s h
@[simp] theorem State.grants_foldl {α : Type} (f : State → α → State) (l : List α) (s : State)
    (h : ∀ s a, (f s a).grants = s.grants) : (l.foldl f s).grants = s.grants := foldl_unchanged State.grants f l s h

theorem State.steady_composes : Composes State.Steady where
  refl _ := ⟨rfl, rfl, rfl⟩
  trans h k := ⟨k.1.trans h.1, k.2.1.trans h.2.1, k.2.2.trans h.2.2⟩

theorem State.steady_foldl {α : Type} (s : State) (f : State → α → State) (l : List α)
    (hf : ∀ (t : State) x, t.Steady (f t x)) : s.Steady (l.foldl f s) :=
  State.steady_composes.andFold (State.steady_composes.refl s) hf

/-- A fold over a state and a value that it collects. -/
theorem State.steady_foldl_pair {α β : Type} (f : State × β → α → State × β) (l : List α) (p : State × β)
    (hf : ∀ (p : State × β) x, p.1.Steady (f p x).1) : p.1.Steady (l.foldl f p).1 := by
  induction l generalizing p with
  | nil => exact State.steady_composes.refl p.1
  | cons x l ih => exact State.steady_composes.trans (hf p x) (ih (f p x))

variable (s : State)

/-! Machine/Ops -/

@[simp] theorem State.steady_setReg (a : Nat) (v : Word) : s.Steady (s.setReg a v) := (FaultFrame.setReg s _ _).steady
@[simp] theorem State.steady_setFld (a lo n x : Nat) : s.Steady (s.setFld a lo n x) := (FaultFrame.setFld s _ _ _ _).steady
@[simp] theorem State.steady_setFlag (a i : Nat) (b : Bool) : s.Steady (s.setFlag a i b) := (FaultFrame.setFlag s _ _ _).steady
@[simp] theorem State.steady_bump (a lo n k : Nat) : s.Steady (s.bump a lo n k) := (FaultFrame.bump s _ _ _ _).steady
@[simp] theorem State.steady_freeNext : s.Steady s.freeNext := by simp [State.freeNext]
@[simp] theorem State.steady_emit (o : Output) : s.Steady (s.emit o) := (FaultFrame.emit s _).steady
@[simp] theorem State.steady_emitAll (os : List Output) : s.Steady (s.emitAll os) := by simp [State.emitAll]
@[simp] theorem State.steady_setThread (t : Fin 8) (x : Thread) : s.Steady (s.setThread t x) :=
  (FaultFrame.setThread s _ _).steady
@[simp] theorem State.steady_setCar (c : Fin 32) (x : Carriage) : s.Steady (s.setCar c x) := (FaultFrame.setCar s _ _).steady
@[simp] theorem State.steady_setSeal (i : Fin 4) (x : Seal) : s.Steady (s.setSeal i x) := (FaultFrame.setSeal s _ _).steady
@[simp] theorem State.steady_setOuting (i : Fin 8) (x : Outing) : s.Steady (s.setOuting i x) :=
  (FaultFrame.setOuting s _ _).steady
@[simp] theorem State.steady_setHead (k : Fin 16) (x : Head) : s.Steady (s.setHead k x) := (FaultFrame.setHead s _ _).steady
@[simp] theorem State.steady_setChan (c : Fin 32) (x : Channel) : s.Steady (s.setChan c x) := by simp [State.setChan]
@[simp] theorem State.steady_setDom (n : Fin 64) (x : Domain) : s.Steady (s.setDom n x) := by simp [State.setDom]
@[simp] theorem State.steady_setEvents (t : Fin 8) (m : BitVec 16) : s.Steady (s.setEvents t m) :=
  (FaultFrame.setEvents s _ _).steady
@[simp] theorem State.steady_notify (b : Nat) : s.Steady (s.notify b) := (FaultFrame.notify s _).steady
@[simp] theorem State.steady_toFm (log : EventLog) (r : Record) : s.Steady (s.toFm log r) := (FaultFrame.toFm s _ _).steady
@[simp] theorem State.steady_toHead (k : Fin 16) (log : EventLog) (r : Record) : s.Steady (s.toHead k log r) :=
  (FaultFrame.toHead s _ _ _).steady
@[simp] theorem State.steady_toHeads (ks : List (Fin 16)) (log : EventLog) (r : Record) : s.Steady (s.toHeads ks log r) :=
  (FaultFrame.toHeads s _ _ _).steady
@[simp] theorem State.steady_toHeadAndFm (k : Fin 16) (log : EventLog) (r : Record) : s.Steady (s.toHeadAndFm k log r) :=
  (FaultFrame.toHeadAndFm s _ _ _).steady
@[simp] theorem State.steady_toAll (log : EventLog) (r : Record) : s.Steady (s.toAll log r) := (FaultFrame.toAll s _ _).steady

/-! Machine/Faults -/

@[simp] theorem State.steady_tcDisarm (n : Nat) : s.Steady (s.tcDisarm n) := (FaultFrame.tcDisarm s _).steady
@[simp] theorem State.steady_tcFree (n : Nat) : s.Steady (s.tcFree n) := (FaultFrame.tcFree s _).steady
@[simp] theorem State.steady_snapTrigger (b comp severe : Nat) : s.Steady (s.snapTrigger b comp severe) :=
  (FaultFrame.snapTrigger s _ _ _).steady
@[simp] theorem State.steady_snapRearm : s.Steady s.snapRearm := by simp [State.snapRearm]
@[simp] theorem State.steady_aliveStop (cause : Nat) : s.Steady (s.aliveStop cause) := (FaultFrame.aliveStop s _).steady
@[simp] theorem State.steady_dropRequest (n : WaitCond) : s.Steady (s.dropRequest n) := (FaultFrame.dropRequest s _).steady
@[simp] theorem State.steady_haltThread (t : Fin 8) : s.Steady (s.haltThread t) := (FaultFrame.haltThread s _).steady
@[simp] theorem State.steady_haltAll : s.Steady s.haltAll := (FaultFrame.haltAll s).steady
@[simp] theorem State.steady_writeProgress (c : Fin 32) (desc entry done : Nat) (acc : Word) :
    s.Steady (s.writeProgress c desc entry done acc) := (FaultFrame.writeProgress s _ _ _ _ _).steady
@[simp] theorem State.steady_carEvent (c : Fin 32) : s.Steady (s.carEvent c) := (FaultFrame.carEvent s _).steady
@[simp] theorem State.steady_carStopBy (c : Fin 32) (code src : Nat) : s.Steady (s.carStopBy c code src) :=
  (FaultFrame.carStopBy s _ _ _).steady
@[simp] theorem State.steady_carStop (c : Fin 32) (code : Nat) : s.Steady (s.carStop c code) :=
  (FaultFrame.carStop s _ _).steady
@[simp] theorem State.steady_carStopAtLine (c : Fin 32) (code src : Nat) : s.Steady (s.carStopAtLine c code src) :=
  (FaultFrame.carStopAtLine s _ _ _).steady
@[simp] theorem State.steady_carUnreserve (c : Fin 32) : s.Steady (s.carUnreserve c) := (FaultFrame.carUnreserve s _).steady
@[simp] theorem State.steady_sealRecord (i : Fin 4) (outcome : Nat) : s.Steady (s.sealRecord i outcome) :=
  (FaultFrame.sealRecord s _ _).steady
@[simp] theorem State.steady_sealFail (i : Fin 4) (reason : Nat) : s.Steady (s.sealFail i reason).1 :=
  (FaultFrame.sealFail s _ _).steady
@[simp] theorem State.steady_carPost (c : Fin 32) : s.Steady (s.carPost c) := (FaultFrame.carPost s _).steady
@[simp] theorem State.steady_outingAbsent (i : Fin 8) (reason bound : Nat) (post : Bool) :
    s.Steady (s.outingAbsent i reason bound post).1 := (FaultFrame.outingAbsent s _ _ _ _).steady
@[simp] theorem State.steady_thermalRecord (src layer stage frac : Nat) : s.Steady (s.thermalRecord src layer stage frac) :=
  (FaultFrame.thermalRecord s _ _ _ _).steady
@[simp] theorem State.steady_beginShutdown (src layer : Nat) : s.Steady (s.beginShutdown src layer).1 :=
  (FaultFrame.beginShutdown s _ _).steady
@[simp] theorem State.steady_headFreeze (k : Fin 16) (reason addr stamp windowMs until_ : Nat) :
    s.Steady (s.headFreeze k reason addr stamp windowMs until_) := (FaultFrame.headFreeze s _ _ _ _ _ _).steady
@[simp] theorem State.steady_freezeMaster (src : Nat) (n : Master) : s.Steady (s.freezeMaster src n) :=
  (FaultFrame.freezeMaster s _ _).steady
@[simp] theorem State.steady_fenceUnit (src : Nat) (noFreeze : Bool) (n : Master) : s.Steady (s.fenceUnit src noFreeze n) :=
  (FaultFrame.fenceUnit s _ _ _).steady
@[simp] theorem State.steady_notifyFault (src : Nat) : s.Steady (s.notifyFault src) := (FaultFrame.notifyFault s _).steady
@[simp] theorem State.steady_latchFirst (e : FaultEvent) : s.Steady (s.latchFirst e) := (FaultFrame.latchFirst s _).steady
@[simp] theorem State.steady_countEvent (src : Nat) : s.Steady (s.countEvent src).1 := (FaultFrame.countEvent s _).steady
@[simp] theorem State.steady_raiseOne (e : FaultEvent) : s.Steady (s.raiseOne e).1 := (FaultFrame.raiseOne s _).steady
@[simp] theorem State.steady_raiseAll (n : Nat) (m : List FaultEvent) : s.Steady (s.raiseAll n m) :=
  (FaultFrame.raiseAll s _ _).steady
@[simp] theorem State.steady_raiseList (es : List FaultEvent) : s.Steady (s.raiseList es) := (FaultFrame.raiseList s _).steady
@[simp] theorem State.steady_raise (src idx val : Nat) : s.Steady (s.raise src idx val) := (FaultFrame.raise s _ _ _).steady
@[simp] theorem State.steady_raiseBy (src idx val : Nat) (m : Master) : s.Steady (s.raiseBy src idx val m) :=
  (FaultFrame.raiseBy s _ _ _ _).steady
@[simp] theorem State.steady_headViolation (k : Fin 16) (reason addr stamp : Nat) :
    s.Steady (s.headViolation k reason addr stamp) := (FaultFrame.headViolation s _ _ _ _).steady
@[simp] theorem State.steady_threadViolation (t : Fin 8) (reason : Nat) (word : Word) (addr : Nat) (bus : Bool) :
    s.Steady (s.threadViolation t reason word addr bus) := (FaultFrame.threadViolation s _ _ _ _ _).steady
@[simp] theorem State.steady_carriageViolation (c : Fin 32) (addr : Nat) : s.Steady (s.carriageViolation c addr) :=
  (FaultFrame.carriageViolation s _ _).steady

/-! Machine/Regulation -/

@[simp] theorem State.steady_refloor : s.Steady s.refloor := by simp [State.refloor]

@[simp] theorem State.steady_commitRegulation (floor : Nat) : s.Steady (s.commitRegulation floor) := by
  unfold State.commitRegulation
  split
  · simp
  · split
    · simp
    · refine State.steady_composes.trans (s.steady_foldl _ _ fun t p => ?_) ⟨rfl, rfl, rfl⟩
      simp

@[simp] theorem State.steady_setBucket (m x : Nat) : s.Steady (s.setBucket m x) := by simp [State.setBucket]

/-! Machine/Halts -/

@[simp] theorem State.steady_countHeld (c : Fin 32) (src : Src) : s.Steady (s.countHeld c src) := by
  unfold State.countHeld
  split <;> simp
@[simp] theorem State.steady_holdReads (c : Fin 32) : s.Steady (s.holdReads c) := by simp [State.holdReads]
@[simp] theorem State.steady_openHalt : s.Steady s.openHalt := by simp [State.openHalt]
@[simp] theorem State.steady_haltDue : s.Steady s.haltDue := by simp [State.haltDue]
@[simp] theorem State.steady_haltRecord (src oldPhase newPhase : Nat) (oldD newD : Bool) (cause : Nat) :
    s.Steady (s.haltRecord src oldPhase newPhase oldD newD cause) := by
  simp [State.haltRecord]
@[simp] theorem State.steady_setPlacement (phase : Nat) (dbl thermal : Bool) (cause : Nat) :
    s.Steady (s.setPlacement phase dbl thermal cause) := by
  simp [State.setPlacement]
@[simp] theorem State.steady_applyHaltCtrl (v : Word) : s.Steady (s.applyHaltCtrl v) := by simp [State.applyHaltCtrl]
@[simp] theorem State.steady_setThermalDouble (b : Bool) : s.Steady (s.setThermalDouble b) := by simp [State.setThermalDouble]

/-! Machine/TimeOps -/

@[simp] theorem State.steady_timeEvent (b : Nat) : s.Steady (s.timeEvent b) := by simp [State.timeEvent]
@[simp] theorem State.steady_timeChange (bits : List Nat) : s.Steady (s.timeChange bits) := by simp [State.timeChange]
@[simp] theorem State.steady_retrust : s.Steady s.retrust := by simp [State.retrust]
@[simp] theorem State.steady_loseSource : s.Steady s.loseSource := by simp [State.loseSource]
@[simp] theorem State.steady_loseTline : s.Steady s.loseTline := by simp [State.loseTline]
@[simp] theorem State.steady_losePtm : s.Steady s.losePtm := by simp [State.losePtm]
@[simp] theorem State.steady_startCorr (k : CorrKind) (e : Int) : s.Steady (s.startCorr k e) := by
  unfold State.startCorr
  split <;> simp
@[simp] theorem State.steady_endCorr : s.Steady s.endCorr := by simp [State.endCorr]
@[simp] theorem State.steady_loopCorrect : s.Steady s.loopCorrect := by simp [State.loopCorrect]

@[simp] theorem State.steady_measure (e : Int) : s.Steady (s.measure e) := by
  unfold State.measure
  dsimp only
  (repeat' split) <;> simp

@[simp] theorem State.steady_stepDisarmed (n : Fin 64) : s.Steady (s.stepDisarmed n).1 := by
  unfold State.stepDisarmed
  dsimp only
  (repeat' split) <;> simp

@[simp] theorem State.steady_enterHold : s.Steady s.enterHold := by
  obtain ⟨v, ns, es, h⟩ := s.enterHold_eq
  have hd := (State.setReg { s with tu := s.tu.hold } aTU_DISARMED v).faultFrame_disarmAll ns |>.steady
  simp_all

@[simp] theorem State.steady_confirm : s.Steady s.confirm := by
  unfold State.confirm
  dsimp only
  (repeat' split) <;> simp

/-! Machine/Strobe -/

@[simp] theorem State.steady_makePending (a : Nat) (v : Word) : s.Steady (s.makePending a v) := by simp [State.makePending]
@[simp] theorem State.steady_dropPending (a : Nat) : s.Steady (s.dropPending a) := by simp [State.dropPending]

@[simp] theorem State.steady_applyEq (a : Nat) (v : Word) : s.Steady (s.applyEq a v) := by
  unfold State.applyEq
  dsimp only
  (repeat' split) <;> simp

@[simp] theorem State.steady_applySrcCfg (a : Nat) (v : Word) : s.Steady (s.applySrcCfg a v) := by
  obtain h | ⟨w, h⟩ := s.applySrcCfg_cases a v <;> simp [h]
@[simp] theorem State.steady_applyArray (v : Word) : s.Steady (s.applyArray v) := by simp [State.applyArray]
@[simp] theorem State.steady_rangedField (a lo n x low high : Nat) : s.Steady (s.rangedField a lo n x low high).1 := by
  unfold State.rangedField
  split <;> simp
@[simp] theorem State.steady_intBadCfg (a : Nat) : s.Steady (s.intBadCfg a) := by simp [State.intBadCfg]
@[simp] theorem State.steady_applyScrub (v : Word) : s.Steady (s.applyScrub v) := by simp [State.applyScrub]
@[simp] theorem State.steady_applyHard (v : Word) : s.Steady (s.applyHard v) := by simp [State.applyHard]

@[simp] theorem State.steady_applyTuCtrl (v : Word) : s.Steady (s.applyTuCtrl v) := by
  unfold State.applyTuCtrl
  dsimp only
  (repeat' split) <;> simp

@[simp] theorem State.steady_applyLaneCtrl (v : Word) : s.Steady (s.applyLaneCtrl v) := by simp [State.applyLaneCtrl]

@[simp] theorem State.steady_applyOne (a : Nat) (v : Word) : s.Steady (s.applyOne a v) := by
  unfold State.applyOne
  dsimp only
  split <;> simp

@[simp] theorem State.steady_applyGroup (g floor : Nat) : s.Steady (s.applyGroup g floor) := by simp [State.applyGroup]
@[simp] theorem State.steady_strobeMarks (g : Nat) (held : Bool) : s.Steady (s.strobeMarks g held) := by
  simp [State.strobeMarks]

@[simp] theorem State.steady_strobe (mask : Nat) (late : Bool) : s.Steady (s.strobe mask late).1 := by
  unfold State.strobe
  refine State.steady_composes.trans (t := if s.strobeCycle = s.cyc + 1 then s
    else { s with strobeCycle := s.cyc + 1, strobeDone := 0, strobeHeld := 0 }) (by simp) ?_
  refine State.steady_foldl_pair _ _ (_, 0) fun p g => ?_
  dsimp only
  split <;> split <;> simp

@[simp] theorem State.steady_discard (mask : Nat) : s.Steady (s.discard mask) := by simp [State.discard]

/-! Machine/View -/

@[simp] theorem State.steady_readEffects (a : Nat) : s.Steady (s.readEffects a) := by
  unfold State.readEffects
  split <;> simp

/-! Machine/Snapshot -/

@[simp] theorem State.steady_takeSnapshot (before : State) : s.Steady (s.takeSnapshot before) := by
  exact State.steady_composes.trans (t := { s with snapDue := false }) (by simp) (State.steady_foldl _ _ _ fun t p => by simp)
@[simp] theorem State.steady_settle (b : State) : s.Steady (State.settle b s) := by
  simp [State.settle]

/-! Machine/Operands -/

@[simp] theorem State.steady_setGpr (t : Fin 8) (r : BitVec 4) (v : Word) : s.Steady (s.setGpr t r v) := by simp [State.setGpr]

/-! Machine/Flags -/

@[simp] theorem State.steady_setFlags (t : Fin 8) (z n c : Bool) : s.Steady (s.setFlags t z n c) := by simp [State.setFlags]
@[simp] theorem State.steady_setZ (t : Fin 8) (z : Bool) : s.Steady (s.setZ t z) := by simp [State.setZ]
@[simp] theorem State.steady_setL (t : Fin 8) (l : Bool) : s.Steady (s.setL t l) := by simp [State.setL]
@[simp] theorem State.steady_aluFlags (t : Fin 8) (op : AluOp) (x y : Word) : s.Steady (s.aluFlags t op x y) := by
  simp [State.aluFlags]
@[simp] theorem State.steady_putResult (t : Fin 8) (d : BitVec 4) (index status extra : Nat) :
    s.Steady (s.putResult t d index status extra) := by
  simp [State.putResult]

/-! Machine/Comparators -/

@[simp] theorem State.steady_setAux (pin owner func : Nat) : s.Steady (s.setAux pin owner func) := by simp [State.setAux]
@[simp] theorem State.steady_auxPulse (pin : Nat) : s.Steady (s.auxPulse pin) := by simp [State.auxPulse]
@[simp] theorem State.steady_tcGovern (n : Fin 64) : s.Steady (s.tcGovern n) := by simp [State.tcGovern]
@[simp] theorem State.steady_tcArm (n : Fin 64) (owner : Nat) (value : Word) (tol target index : Nat) :
    s.Steady (s.tcArm n owner value tol target index).1 := by
  simp [State.tcArm]
@[simp] theorem State.steady_tcCtrlApply (n : Fin 64) (v : Word) : s.Steady (s.tcCtrlApply n v) := by simp [State.tcCtrlApply]
@[simp] theorem State.steady_tcValueApply (n : Fin 64) (v : Word) : s.Steady (s.tcValueApply n v) := by
  simp [State.tcValueApply]
@[simp] theorem State.steady_auxRelease (pin : Nat) : s.Steady (s.auxRelease pin) := by simp [State.auxRelease]

@[simp] theorem State.steady_ownComparator (owner index : Nat) (release : Bool) :
    s.Steady (s.ownComparator owner index release).1 := by
  unfold State.ownComparator
  cases release <;> simp [apply_ite Prod.fst]
  split <;> simp

@[simp] theorem State.steady_ownAux (owner index func : Nat) (release : Bool) :
    s.Steady (s.ownAux owner index func release).1 := by
  simp [State.ownAux, apply_ite Prod.fst]

@[simp] theorem State.steady_ownRequest (owner : Nat) (v : Word) : s.Steady (s.ownRequest owner v) := by
  unfold State.ownRequest
  dsimp only
  (repeat' split) <;> simp

/-! Machine/Otp -/

@[simp] theorem State.steady_putDigest (a : Nat) (d : List Byte) : s.Steady (s.putDigest a d) := by
  exact s.steady_foldl _ _ fun t j => by simp

@[simp] theorem State.steady_otpRefresh : s.Steady s.otpRefresh := by
  have hP := State.steady_composes
  have hset : ∀ (t : State) (a : Nat) (v : Word), t.Steady (t.setReg a v) := fun _ _ _ => ⟨rfl, rfl, rfl⟩
  unfold State.otpRefresh
  exact hP.trans (hP.trans (hP.trans (hP.trans (hP.trans (hP.trans (hP.trans (s.steady_foldl _ _ fun t j => hset t _ _)
    (hset _ _ _)) (hset _ _ _)) (hset _ _ _)) (hset _ _ _)) (hset _ _ _)) (State.steady_putDigest _ _ _))
    (State.steady_raiseList _ _)

@[simp] theorem State.steady_otpClassEvents (ws : List Nat) : s.Steady (s.otpClassEvents ws) := by simp [State.otpClassEvents]

@[simp] theorem State.steady_supplyWatch : s.Steady s.supplyWatch := by
  unfold State.supplyWatch
  dsimp only
  split <;> simp

@[simp] theorem State.steady_otpResult (status st : Nat) (drift : Bool) : s.Steady (s.otpResult status st drift) := by
  simp [State.otpResult]
@[simp] theorem State.steady_otpStart (op word : Nat) (data : Word) (ws : List Nat) : s.Steady (s.otpStart op word data ws) := by
  simp [State.otpStart]

@[simp] theorem State.steady_otpCommand (op word : Nat) : s.Steady (s.otpCommand op word) := by
  unfold State.otpCommand
  dsimp only
  (repeat' split) <;> simp

@[simp] theorem State.steady_readDone (c : OtpCmd) (sensed : List OtpSense) : s.Steady (s.readDone c sensed) := by
  simp [State.readDone]

/-! Machine/Lanes -/

@[simp] theorem State.steady_cdatFollow (k : Fin 16) (before : Nat) : s.Steady (s.cdatFollow k before) := by
  simp [State.cdatFollow]
@[simp] theorem State.steady_laneStatus (k : Nat) (lanes : List (Fin 64)) (rate : Nat) (inv : List (Fin 64)) (rev : Bool) :
    s.Steady (s.laneStatus k lanes rate inv rev) := by
  simp [State.laneStatus]
@[simp] theorem State.steady_dropReads (k : Fin 16) : s.Steady (s.dropReads k) := by simp [State.dropReads]
@[simp] theorem State.steady_headDown (k : Fin 16) (cause : Nat) (next : LinkState) : s.Steady (s.headDown k cause next) := by
  simp [State.headDown]

@[simp] theorem State.steady_headUp (k : Fin 16) (rate : Nat) : s.Steady (s.headUp k rate) := by
  have hP := State.steady_composes
  unfold State.headUp
  refine hP.trans (hP.trans (hP.trans (hP.andFold (t := s.setHead k _) ?_ fun t l => ?_)
    (t := State.setReg _ _ _) ⟨rfl, rfl, rfl⟩) (State.steady_cdatFollow _ _ _)) (State.steady_notify _ _) <;> simp

@[simp] theorem State.steady_laneEnter (l r : Nat) : s.Steady (s.laneEnter l r) := by simp [State.laneEnter]
@[simp] theorem State.steady_lanesEnter (lanes : List (Fin 64)) (above top : Nat) : s.Steady (s.lanesEnter lanes above top) := by
  simp [State.lanesEnter]
@[simp] theorem State.steady_testOwn (l : Nat) : s.Steady (s.testOwn l) := by simp [State.testOwn]
@[simp] theorem State.steady_testFree (l : Nat) : s.Steady (s.testFree l) := by simp [State.testFree]
@[simp] theorem State.steady_testAt (l rate : Nat) : s.Steady (s.testAt l rate) := by simp [State.testAt]
@[simp] theorem State.steady_testStart (l : Nat) (v : Word) : s.Steady (s.testStart l v) := by simp [State.testStart]
@[simp] theorem State.steady_testEnd (l : Nat) : s.Steady (s.testEnd l) := by simp [State.testEnd]
@[simp] theorem State.steady_testWrite (l : Nat) (v : Word) : s.Steady (s.testWrite l v) := by simp [State.testWrite]
@[simp] theorem State.steady_setErrs (l : Nat) (ps : List Nat) : s.Steady (s.setErrs l ps) := by simp [State.setErrs]
@[simp] theorem State.steady_countErrors (l n : Nat) : s.Steady (s.countErrors l n) := by simp [State.countErrors]
@[simp] theorem State.steady_flipBits (l : Nat) (mission : Bool) (n : Nat) : s.Steady (s.flipBits l mission n) := by
  simp [State.flipBits]
@[simp] theorem State.steady_injectWrite (l : Nat) (v : Word) : s.Steady (s.injectWrite l v) := by simp [State.injectWrite]
@[simp] theorem State.steady_laneCycle (l : Nat) : s.Steady (s.laneCycle l) := by simp [State.laneCycle]

/-! Machine/PowerOps -/

@[simp] theorem State.steady_judge (r : PwrReq) (n : Fin 64) : s.Steady (s.judge r n).1 := by
  unfold State.judge
  dsimp only
  (repeat' split) <;> simp

@[simp] theorem State.steady_finishRequest (r : PwrReq) (rest : List PwrReq) : s.Steady (s.finishRequest r rest) := by
  simp [State.finishRequest]
@[simp] theorem State.steady_startRequest (r : PwrReq) : s.Steady (s.startRequest r).1 := by
  exact State.steady_foldl_pair (fun (p : State × BitVec 64) n => let q := p.1.judge r n; (q.1, p.2 ||| q.2)) _ (s, 0)
    fun p n => p.1.steady_judge r n

@[simp] theorem State.steady_pumpPower (n : Nat) : s.Steady (s.pumpPower n) := by
  induction n generalizing s with
  | zero => exact State.steady_composes.refl s
  | succ n ih =>
    unfold State.pumpPower
    split
    · simp
    · simp [ih]

@[simp] theorem State.steady_pump : s.Steady s.pump := by simp [State.pump]
@[simp] theorem State.steady_queuePower (target : DomState) (mask : BitVec 64) (thread : Bool) :
    s.Steady (s.queuePower target mask thread).1 := by
  simp [State.queuePower]

@[simp] theorem State.steady_wake (n src : Nat) : s.Steady (s.wake n src) := by
  unfold State.wake
  dsimp only
  (repeat' split) <;> simp

/-! Machine/Wear -/

@[simp] theorem State.steady_wearCheck (n : Fin 18) : s.Steady (s.wearCheck n) := by simp [State.wearCheck]
@[simp] theorem State.steady_wearSample (n : Fin 18) (x : Nat) : s.Steady (s.wearSample n x) := by simp [State.wearSample]

/-! Machine/RegWrite -/

@[simp] theorem State.steady_dropWrite (p : Path) (a : Nat) (again : Bool) : s.Steady (s.dropWrite p a again) := by
  simp [State.dropWrite]
@[simp] theorem State.steady_busError (p : Path) (a : Nat) : s.Steady (s.busError p a) := by simp [State.busError]
@[simp] theorem State.steady_ttThaw (v : Word) : s.Steady (s.ttThaw v) := by simp [State.ttThaw]
@[simp] theorem State.steady_carThaw (v : Word) : s.Steady (s.carThaw v) := by simp [State.carThaw]
@[simp] theorem State.steady_startFlush : s.Steady s.startFlush := by simp [State.startFlush]
@[simp] theorem State.steady_startRepair (v : Word) : s.Steady (s.startRepair v) := by simp [State.startRepair]
@[simp] theorem State.steady_retirePage (v : Word) : s.Steady (s.retirePage v) := by simp [State.retirePage]
@[simp] theorem State.steady_mgmtPower (v : Word) : s.Steady (s.mgmtPower v) := by simp [State.mgmtPower]
@[simp] theorem State.steady_snapCtrl (v : Word) : s.Steady (s.snapCtrl v) := by simp [State.snapCtrl]
@[simp] theorem State.steady_openService (v : Word) : s.Steady (s.openService v) := by simp [State.openService]
@[simp] theorem State.steady_wearBase (n : Nat) (v : Word) : s.Steady (s.wearBase n v) := by
  unfold State.wearBase
  split <;> simp
@[simp] theorem State.steady_tuAck (v : Word) : s.Steady (s.tuAck v) := by simp [State.tuAck]
@[simp] theorem State.steady_plainWrite (row : RegRow) (a : Nat) (v : Word) : s.Steady (s.plainWrite row a v) := by
  simp [State.plainWrite]

@[simp] theorem State.steady_applyWrite (a : Nat) (value : Word) : s.Steady (s.applyWrite a value) := by
  unfold State.applyWrite
  dsimp only
  (repeat' split) <;> simp

@[simp] theorem State.steady_dropViolation (p : Path) (a : Nat) (again : Bool) : s.Steady (s.dropViolation p a again) := by
  unfold State.dropViolation
  split <;> simp
@[simp] theorem State.steady_writeReg (p : Path) (a width : Nat) (v : Word) : s.Steady (s.writeReg p a width v).1 := by
  unfold State.writeReg
  split <;> simp
@[simp] theorem State.steady_readReg (p : Path) (a width : Nat) : s.Steady (s.readReg p a width).1 := by
  unfold State.readReg
  split <;> simp

/-! Machine/Issue -/

@[simp] theorem State.steady_countIssue (t : Fin 8) (cycles : Nat) : s.Steady (s.countIssue t cycles) := by
  simp [State.countIssue]
@[simp] theorem State.steady_advance (t : Fin 8) : s.Steady (s.advance t) := by simp [State.advance]

@[simp] theorem State.steady_issue (t : Fin 8) (op : Nat) (f : InsnFields) (cycles : Nat) (body : State → State)
    (h : ∀ s : State, s.Steady (body s)) : s.Steady (s.issue t op f cycles body) := by
  have hb := h (s.countIssue t cycles)
  simp_all [State.issue]

@[simp] theorem State.steady_plain (t : Fin 8) (op : Nat) (f : InsnFields) (cycles : Nat) (body : State → State)
    (h : ∀ s : State, s.Steady (body s)) : s.Steady (s.plain t op f cycles body) :=
  State.steady_issue s t op f cycles _ fun u => by simpa using h u
@[simp] theorem State.steady_outOfRange (t : Fin 8) (op : Nat) (f : InsnFields) (a : Nat) :
    s.Steady (s.outOfRange t op f a) := by
  simp [State.outOfRange]
@[simp] theorem State.steady_enterWait (t : Fin 8) (w : WaitCond) : s.Steady (s.enterWait t w) := by simp [State.enterWait]
@[simp] theorem State.steady_leaveWait (t : Fin 8) : s.Steady (s.leaveWait t) := by simp [State.leaveWait]
@[simp] theorem State.steady_twaitLeave (now : Nat) (t : Fin 8) : s.Steady (s.twaitLeave now t) := by
  unfold State.twaitLeave
  split <;> simp
@[simp] theorem State.steady_endBlocked (t : Fin 8) : s.Steady (s.endBlocked t) := by simp [State.endBlocked]

@[simp] theorem State.steady_storeWord (a : Nat) : s.Steady (s.storeWord a).1 := by
  unfold State.storeWord
  split
  · simp
  · split <;> simp

@[simp] theorem State.steady_dlost (t : Fin 8) : s.Steady (s.dlost t) := by simp [State.dlost]
@[simp] theorem State.steady_sramLost (memory addr dpa : Nat) : s.Steady (s.sramLost memory addr dpa) := by
  simp [State.sramLost]
@[simp] theorem State.steady_tableCheck (chk : SramCheck) (addr : Nat) : s.Steady (s.tableCheck chk addr) := by
  unfold State.tableCheck
  split <;> simp
@[simp] theorem State.steady_setGranule (g : Nat) : s.Steady (s.setGranule g) := (FaultFrame.setGranule s _).steady
@[simp] theorem State.steady_sealCheck (i : Fin 4) : s.Steady (s.sealCheck i) := (FaultFrame.sealCheck s _).steady
@[simp] theorem State.steady_releaseHeld (i : Fin 4) : s.Steady (s.releaseHeld i) := (FaultFrame.releaseHeld s _).steady
@[simp] theorem State.steady_spanDamaged (span : Nat) : s.Steady (s.spanDamaged span) := by simp [State.spanDamaged]

@[simp] theorem State.steady_lineFails (t : Fin 8) (a : Nat) (bothFail : Bool) : s.Steady (s.lineFails t a bothFail).1 := by
  unfold State.lineFails
  dsimp only
  (repeat' split) <;> simp

@[simp] theorem State.steady_loadValue (t : Fin 8) (a width : Nat) (checkFails bothFail : Bool) :
    s.Steady (s.loadValue t a width checkFails bothFail).1 := by
  unfold State.loadValue
  dsimp only
  (repeat' split) <;> simp

@[simp] theorem State.steady_storeValue (a width : Nat) (v : Word) : s.Steady (s.storeValue a width v) := by
  simp [State.storeValue]

/-! Machine/CarriageOps -/

@[simp] theorem State.steady_carStart (c : Fin 32) (desc entry done : Nat) (acc : Word) :
    s.Steady (s.carStart c desc entry done acc) := by
  simp [State.carStart]

@[simp] theorem State.steady_carLaunch (c : Fin 32) (chain : Word) (t : Fin 8) : s.Steady (s.carLaunch c chain t).1 := by
  unfold State.carLaunch
  dsimp only
  (repeat' split) <;> simp

@[simp] theorem State.steady_carReserve (c : Fin 32) (t : Fin 8) : s.Steady (s.carReserve c t) := by simp [State.carReserve]

@[simp] theorem State.steady_sealArm (i : Fin 4) (a : Nat) (t : Fin 8) : s.Steady (s.sealArm i a t).1 := by
  unfold State.sealArm
  dsimp only
  (repeat' split) <;> simp

@[simp] theorem State.steady_sealCancel (i : Fin 4) : s.Steady (s.sealCancel i).1 := by
  unfold State.sealCancel
  dsimp only
  split <;> simp

@[simp] theorem State.steady_outingArm (index a : Nat) (t : Fin 8) : s.Steady (s.outingArm index a t).1 := by
  unfold State.outingArm
  dsimp only
  (repeat' split) <;> simp

@[simp] theorem State.steady_outingCancel (index : Nat) : s.Steady (s.outingCancel index).1 := by
  unfold State.outingCancel
  split <;> simp

/-! Machine/CriostTime -/

@[simp] theorem State.steady_landWrite (w : QWrite) : s.Steady (s.landWrite w) := by simp [State.landWrite]

@[simp] theorem State.steady_crdBegin : s.Steady s.crdBegin := by
  refine s.steady_foldl _ _ fun u t => ?_
  dsimp only
  split <;> simp

@[simp] theorem State.steady_afterQueue : s.Steady s.afterQueue := by simp [State.afterQueue]
@[simp] theorem State.steady_configBusError (t : Fin 8) (op : Nat) (f : InsnFields) (a : Nat) :
    s.Steady (s.configBusError t op f a) := by
  simp [State.configBusError]

@[simp] theorem State.steady_armForImage (index : Nat) (value : Word) (tol target tindex : Nat) (period : Option Nat) :
    s.Steady (s.armForImage index value tol target tindex period).1 := by
  unfold State.armForImage
  dsimp only
  (repeat' split) <;> simp

@[simp] theorem State.steady_armResult (t : Fin 8) (f : InsnFields) (target tindex : Nat) (period : Option Nat) :
    s.Steady (s.armResult t f target tindex period) := by
  simp [State.armResult]
@[simp] theorem State.steady_disarmInsn (t : Fin 8) (f : InsnFields) : s.Steady (s.disarmInsn t f) := by simp [State.disarmInsn]

/-! Machine/CriostSystem -/

@[simp] theorem State.steady_carResult (t : Fin 8) (d : BitVec 4) (c : Fin 32) (status : Nat) :
    s.Steady (s.carResult t d c status) := by
  simp [State.carResult]
@[simp] theorem State.steady_cwaitLeave (c : Fin 32) (t : Fin 8) : s.Steady (s.cwaitLeave c t) := by
  unfold State.cwaitLeave
  split <;> simp
@[simp] theorem State.steady_snapInsn (t : Fin 8) (f : InsnFields) : s.Steady (s.snapInsn t f) := by simp [State.snapInsn]
@[simp] theorem State.steady_sealInsn (t : Fin 8) (f : InsnFields) : s.Steady (s.sealInsn t f) := by simp [State.sealInsn]
@[simp] theorem State.steady_outingInsn (t : Fin 8) (f : InsnFields) : s.Steady (s.outingInsn t f) := by simp [State.outingInsn]
@[simp] theorem State.steady_faultInsn (t : Fin 8) (f : InsnFields) : s.Steady (s.faultInsn t f) := by simp [State.faultInsn]

/-! Machine/Accesses -/

@[simp] theorem State.steady_readAnswer (p : Path) (a width : Nat) : s.Steady (s.readAnswer p a width) := by
  have h := s.steady_readReg p a width
  unfold State.readAnswer
  split <;> simp_all

@[simp] theorem State.steady_reply (p : Path) (status : String) (payload : List Byte) : s.Steady (s.reply p status payload) := by
  simp [State.reply]

/-! Machine/Descriptors -/

@[simp] theorem State.steady_carAdvance (c : Fin 32) (n : Nat) : s.Steady (s.carAdvance c n) :=
  (FaultFrame.carAdvance s _ _).steady
@[simp] theorem State.steady_listMove (c : Fin 32) (d : Desc) (n : Nat) : s.Steady (s.listMove c d n) :=
  (FaultFrame.listMove s _ _ _).steady
@[simp] theorem State.steady_carSend (c : Fin 32) : s.Steady (s.carSend c) := (FaultFrame.carSend s _).steady
@[simp] theorem State.steady_carRetire (c : Fin 32) (n : Nat) : s.Steady (s.carRetire c n) :=
  (FaultFrame.carRetire s _ _).steady
@[simp] theorem State.steady_carAhead (c : Fin 32) (d : Desc) (n : Nat) : s.Steady (s.carAhead c d n) :=
  (FaultFrame.carAhead s _ _ _).steady
@[simp] theorem State.steady_carRun (c : Fin 32) (n : Nat) : s.Steady (s.carRun c n) := (FaultFrame.carRun s _ _).steady
@[simp] theorem State.steady_sweepMove (c : Fin 32) (i : Fin 4) (first n fuel : Nat) : s.Steady (s.sweepMove c i first n fuel) :=
  (FaultFrame.sweepMove s _ _ _ _ _).steady
@[simp] theorem State.steady_carGo (c : Fin 32) : s.Steady (s.carGo c) := (FaultFrame.carGo s _).steady
@[simp] theorem State.steady_holdFill (i : Fin 4) : s.Steady (s.holdFill i) := (FaultFrame.holdFill s _).steady
@[simp] theorem State.steady_granuleDone (i : Fin 4) (g : Nat) (hold : Bool) (got : List (Nat × LineVal)) :
    s.Steady (s.granuleDone i g hold got) := (FaultFrame.granuleDone s _ _ _ _).steady
@[simp] theorem State.steady_holdGot (i : Fin 4) (line : Nat) (v : LineVal) : s.Steady (s.holdGot i line v) := by
  simp [State.holdGot]
@[simp] theorem State.steady_stagedPut (i : Fin 4) (line : Nat) : s.Steady (s.stagedPut i line) := by simp [State.stagedPut]
@[simp] theorem State.steady_sweepStaged (c : Fin 32) (got : List (Nat × LineVal)) : s.Steady (s.sweepStaged c got) :=
  (FaultFrame.sweepStaged s _ _).steady
@[simp] theorem State.steady_carGot (c : Fin 32) (run line : Nat) (v : LineVal) : s.Steady (s.carGot c run line v) :=
  (FaultFrame.carGot s _ _ _ _).steady

@[simp] theorem State.steady_carPut (c : Fin 32) (run line : Nat) : s.Steady (s.carPut c run line) := by
  unfold State.carPut
  dsimp only
  (repeat' split) <;> simp

@[simp] theorem State.steady_carReread (c : Fin 32) (i : Nat) (p : Piece) : s.Steady (s.carReread c i p) := by
  unfold State.carReread
  dsimp only
  split <;> simp

@[simp] theorem State.steady_carRestart (c : Fin 32) : s.Steady (s.carRestart c) := by
  unfold State.carRestart
  dsimp only
  (repeat' split) <;> simp

@[simp] theorem State.steady_descStart (c : Fin 32) (op : Nat) (body : State → Desc → State)
    (h : ∀ (s : State) d, s.Steady (body s d)) : s.Steady (s.descStart c op body) := by
  unfold State.descStart
  dsimp only
  iterate 5
    split
    · simp
  split
  · simp
  · exact State.steady_composes.trans (s.steady_setCar c _) (h _ _)

@[simp] theorem State.steady_moveStart (c : Fin 32) (op : Nat) : s.Steady (s.moveStart c op) := by simp [State.moveStart]
@[simp] theorem State.steady_descComplete (c : Fin 32) (d : Desc) : s.Steady (s.descComplete c d) := by
  simp [State.descComplete]
@[simp] theorem State.steady_sweepDamage (c : Fin 32) (bitmapFails : Bool) : s.Steady (s.sweepDamage c bitmapFails) := by
  unfold State.sweepDamage
  split <;> simp
@[simp] theorem State.steady_waittStart (c : Fin 32) (d : Desc) : s.Steady (s.waittStart c d) := by
  unfold State.waittStart
  split <;> simp
@[simp] theorem State.steady_waittExternal (c : Fin 32) (d : Desc) : s.Steady (s.waittExternal c d) := by
  simp [State.waittExternal]

@[simp] theorem State.steady_notifyRollcall (c : Fin 32) (d : Desc) : s.Steady (s.notifyRollcall c d) := by
  unfold State.notifyRollcall
  dsimp only
  split <;> simp

@[simp] theorem State.steady_notifyActions (c : Fin 32) (d : Desc) : s.Steady (s.notifyActions c d) := by
  unfold State.notifyActions
  dsimp only
  (repeat' split) <;> simp

@[simp] theorem State.steady_peerDone (c : Fin 32) (d : Desc) (i : Nat) (p : Piece) (status : UioStatus) (poisoned : Bool)
    (data : List Byte) :
    s.Steady (s.peerDone c d i p status poisoned data) := by
  simp [State.peerDone]

@[simp] theorem State.steady_postDone (c : Fin 32) (status : UioStatus) : s.Steady (s.postDone c status) := by
  unfold State.postDone
  dsimp only
  (repeat' split) <;> simp

/-! Machine/Place -/

@[simp] theorem State.steady_storeLine (l : Nat) (v : LineVal) : s.Steady (s.storeLine l v) := by simp [State.storeLine]
@[simp] theorem State.steady_fillSlots (slots : List (Nat × Nat)) (poison : Bool) : s.Steady (s.fillSlots slots poison) := by
  simp [State.fillSlots]

/-! Machine/LinkOps -/

@[simp] theorem State.steady_dropStandins (c : Nat) : s.Steady (s.dropStandins c) := by simp [State.dropStandins]
@[simp] theorem State.steady_dropMeasures (c : Nat) : s.Steady (s.dropMeasures c) := by simp [State.dropMeasures]
@[simp] theorem State.steady_channelFault (c : Fin 32) (cause : Nat) : s.Steady (s.channelFault c cause) := by
  simp [State.channelFault]
@[simp] theorem State.steady_setTap (i t : Nat) : s.Steady (s.setTap i t) := by simp [State.setTap]
@[simp] theorem State.steady_killTap (i : Nat) : s.Steady (s.killTap i) := by simp [State.killTap]
@[simp] theorem State.steady_markDead (c w : Nat) : s.Steady (s.markDead c w) := by simp [State.markDead]
@[simp] theorem State.steady_setSpare (c j wire : Nat) (temp : Bool) : s.Steady (s.setSpare c j wire temp) := by
  simp [State.setSpare]
@[simp] theorem State.steady_setCaSpare (c j wire : Nat) (temp : Bool) : s.Steady (s.setCaSpare c j wire temp) := by
  simp [State.setCaSpare]
@[simp] theorem State.steady_refreshWires (c : Nat) : s.Steady (s.refreshWires c) := by simp [State.refreshWires]
@[simp] theorem State.steady_enterLimp (c : Fin 32) : s.Steady (s.enterLimp c) := by simp [State.enterLimp]
@[simp] theorem State.steady_deadStage (c : Fin 32) (w : Nat) : s.Steady (s.deadStage c w) := by simp [State.deadStage]
@[simp] theorem State.steady_deadDq (c : Fin 32) (w : Nat) : s.Steady (s.deadDq c w) := by simp [State.deadDq]
@[simp] theorem State.steady_flagWire (c : Fin 32) (symbol : Nat) : s.Steady (s.flagWire c symbol) := by simp [State.flagWire]

/-! Machine/Media -/

@[simp] theorem State.steady_mediaRecord (line : Nat) (log : EventLog) (r : Record) : s.Steady (s.mediaRecord line log r) := by
  simp [State.mediaRecord]
@[simp] theorem State.steady_ueAdd (e : UeEntry) : s.Steady (s.ueAdd e) := by simp [State.ueAdd]
@[simp] theorem State.steady_ueClear (line : Nat) : s.Steady (s.ueClear line) := by simp [State.ueClear]
@[simp] theorem State.steady_logUe (line source : Nat) (master : Byte) (written : Bool) (stamp : Nat) :
    s.Steady (s.logUe line source master written stamp) := by
  simp [State.logUe]
@[simp] theorem State.steady_setJPlace (n : Nat) (p : JPlace) : s.Steady (s.setJPlace n p) := by simp [State.setJPlace]
@[simp] theorem State.steady_dropEntries (ns : List Nat) : s.Steady (s.dropEntries ns) := by simp [State.dropEntries]

@[simp] theorem State.steady_refill (c : Fin 32) (n : Nat) : s.Steady (s.refill c n) := by
  induction n generalizing s with
  | zero => exact State.steady_composes.refl s
  | succ n ih =>
    unfold State.refill
    dsimp only
    split
    · simp
    · exact State.steady_composes.trans (by simp) (ih _)

@[simp] theorem State.steady_journalAdd (line : Nat) (v : LineVal) (mask : BitVec 64) (src : Option Src) (stamp : Nat)
    (place : JPlace) :
    s.Steady (s.journalAdd line v mask src stamp place) := by
  simp [State.journalAdd]

@[simp] theorem State.steady_journalGo (n : Nat) : s.Steady (s.journalGo n) := by
  unfold State.journalGo
  dsimp only
  (repeat' split) <;> simp

@[simp] theorem State.steady_replayLost (line : Nat) : s.Steady (s.replayLost line) := by
  unfold State.replayLost
  split <;> simp

@[simp] theorem State.steady_journalPush (line : Nat) (v : LineVal) (mask : BitVec 64) (src : Option Src) (stamp : Nat) :
    s.Steady (s.journalPush line v mask src stamp) := by
  unfold State.journalPush
  split <;> simp

@[simp] theorem State.steady_writeBack (line : Nat) : s.Steady (s.writeBack line) := by
  unfold State.writeBack
  split <;> simp
@[simp] theorem State.steady_hardLine (e : CeEntry) : s.Steady (s.hardLine e) := by simp [State.hardLine]
@[simp] theorem State.steady_ceAdd (line : Nat) (fixed : List Nat) (scrub : Bool) : s.Steady (s.ceAdd line fixed scrub) := by
  simp [State.ceAdd]
@[simp] theorem State.steady_trackSymbols (c : Fin 32) (fixed : List Nat) : s.Steady (s.trackSymbols c fixed) := by
  simp [State.trackSymbols]
@[simp] theorem State.steady_countCorrected (c : Fin 32) (line : Nat) (fixed : List Nat) (scrub : Bool) :
    s.Steady (s.countCorrected c line fixed scrub) := by
  simp [State.countCorrected]
@[simp] theorem State.steady_corrected (c : Fin 32) (line : Nat) (v : LineVal) (fixed : List Nat) (scrub : Bool) :
    s.Steady (s.corrected c line v fixed scrub) := by
  simp [State.corrected]
@[simp] theorem State.steady_uncorrectable (c : Fin 32) (line source : Nat) (master : Byte) (stamp : Nat) :
    s.Steady (s.uncorrectable c line source master stamp) := by
  simp [State.uncorrectable]

/-! Machine/PathOps -/

@[simp] theorem State.steady_respondRead (r : Req) (v : LineVal) : s.Steady (s.respondRead r v) :=
  (FaultFrame.respondRead s _ _).steady
@[simp] theorem State.steady_uioLine (k : Fin 16) (tag : Nat) : s.Steady (s.uioLine k tag) := by
  unfold State.uioLine
  split <;> simp
@[simp] theorem State.steady_fillLine (block : Nat) : s.Steady (s.fillLine block) := by simp [State.fillLine]

@[simp] theorem State.steady_respondWrite (r : Req) : s.Steady (s.respondWrite r) := by
  unfold State.respondWrite
  dsimp only
  (repeat' split) <;> simp

@[simp] theorem State.steady_respondRefused (k : Fin 16) (r : Req) : s.Steady (s.respondRefused k r) := by
  unfold State.respondRefused
  dsimp only
  (repeat' split) <;> simp

@[simp] theorem State.steady_countLookup (hit : Bool) : s.Steady (s.countLookup hit) := by simp [State.countLookup]
@[simp] theorem State.steady_touch (line : Nat) : s.Steady (s.touch line) := by
  unfold State.touch
  split <;> simp

/-- A line installed changes the cache and the power requests alone. -/
theorem State.steady_install (n : CacheLine) (t : State) (h : s.install n = .done t) : s.Steady t := by
  simp only [State.install] at h
  split_ifs at h
  · exact Install.done.inj h ▸ ⟨rfl, rfl, rfl⟩
  · split at h
    · cases h
    · split_ifs at h
      exact Install.done.inj h ▸ by simp

@[simp] theorem State.steady_installClean (n : CacheLine) : s.Steady (s.installClean n) := by
  unfold State.installClean
  split
  · next t h => exact s.steady_install n t h
  · simp
  · simp

@[simp] theorem State.steady_cacheWrite (line : Nat) (v : LineVal) (m : BitVec 64) : s.Steady (s.cacheWrite line v m) := by
  simp [State.cacheWrite]

@[simp] theorem State.steady_tryInstall (n : Nat) : s.Steady (s.tryInstall n) := by
  unfold State.tryInstall
  split
  · simp
  · split
    · simp
    · split
      · next t h => exact State.steady_composes.trans (s.steady_install _ t h) (by simp)
      · simp
      · simp

@[simp] theorem State.steady_retryInstalls : s.Steady s.retryInstalls := by simp [State.retryInstalls]
@[simp] theorem State.steady_wakeFor (line : Nat) (src : Src) : s.Steady (s.wakeFor line src) := by simp [State.wakeFor]
@[simp] theorem State.steady_deliver (r : Req) (v : LineVal) : s.Steady (s.deliver r v) := by
  unfold State.deliver
  split <;> simp
@[simp] theorem State.steady_deliverPoison (r : Req) : s.Steady (s.deliverPoison r) := by simp [State.deliverPoison]

@[simp] theorem State.steady_toPool (r : Req) : s.Steady (s.toPool r) := by
  unfold State.toPool
  dsimp only
  (repeat' split) <;> simp

@[simp] theorem State.steady_miss (r : Req) : s.Steady (s.miss r) := by
  unfold State.miss
  dsimp only
  split <;> simp

@[simp] theorem State.steady_cacheFails (l : CacheLine) (master : Byte) (stamp : Nat) :
    s.Steady (s.cacheFails l master stamp) := by
  simp [State.cacheFails]

@[simp] theorem State.steady_lookupReq (r : Req) (checkFails : Bool) : s.Steady (s.lookupReq r checkFails) := by
  unfold State.lookupReq
  dsimp only
  (repeat' split) <;> simp

@[simp] theorem State.steady_journalWrite (r : Req) : s.Steady (s.journalWrite r) := by simp [State.journalWrite]
@[simp] theorem State.steady_hostWrite (r : Req) : s.Steady (s.hostWrite r) := by
  unfold State.hostWrite
  split <;> simp

@[simp] theorem State.steady_acceptWrite (r : Req) : s.Steady (s.acceptWrite r) := by
  unfold State.acceptWrite
  dsimp only
  split <;> simp

/-! Machine/Admission -/

@[simp] theorem State.steady_chargeLine (m : Nat) (a : Admission) : s.Steady (s.chargeLine m a) := by
  unfold State.chargeLine
  split <;> simp
@[simp] theorem State.steady_fillBuckets : s.Steady s.fillBuckets := by simp [State.fillBuckets]

/-! Machine/MemCmds -/

@[simp] theorem State.steady_passNow (k : Fin 16) (r : Req) : s.Steady (s.passNow k r) := by
  unfold State.passNow
  dsimp only
  (repeat' split) <;> simp

@[simp] theorem State.steady_extentRead (chk : SramCheck) : s.Steady (s.extentRead chk) := by simp [State.extentRead]

@[simp] theorem State.steady_arrive (k : Fin 16) (addr : Nat) (rs : List Req) (extents : SramCheck) :
    s.Steady (s.arrive k addr rs extents) := by
  unfold State.arrive
  split <;> simp

@[simp] theorem State.steady_memRequest (k : Fin 16) (kind : ReqKind) (addr : Nat) (data : Line) (mask : BitVec 64)
    (tag : Nat) (extents : SramCheck) :
    s.Steady (s.memRequest k kind addr data mask tag extents) := by
  simp [State.memRequest]

@[simp] theorem State.steady_dropPort (r : Req) : s.Steady (s.dropPort r) := by simp [State.dropPort]
@[simp] theorem State.steady_admitHead (k : Fin 16) (r : Req) (a : Admission) (cacheFails : Bool) :
    s.Steady (s.admitHead k r a cacheFails) := by
  simp [State.admitHead]
@[simp] theorem State.steady_stagingLost (i : Fin 4) (granule : Nat) : s.Steady (s.stagingLost i granule) := by
  simp [State.stagingLost]
@[simp] theorem State.steady_refuseHeld (k : Fin 16) (rs : List Req) : s.Steady (s.refuseHeld k rs) := by
  refine State.steady_foldl_pair _ _ (s, []) fun p r => ?_
  split <;> simp

@[simp] theorem State.steady_flushSome (ls : List Nat) : s.Steady (s.flushSome ls) := by
  induction ls generalizing s with
  | nil => exact ⟨rfl, rfl, rfl⟩
  | cons l ls ih => simp [State.flushSome, ih]

/-! Machine/ChannelCmds -/

@[simp] theorem State.steady_issueRead (c : Fin 32) (b : Nat) (r : PickReq) : s.Steady (s.issueRead c b r) := by
  simp [State.issueRead]
@[simp] theorem State.steady_issueWrite (c : Fin 32) (b : Nat) (r : PickReq) : s.Steady (s.issueWrite c b r) := by
  simp [State.issueWrite]

@[simp] theorem State.steady_journalCheck (chk : SramCheck) (n : Nat) : s.Steady (s.journalCheck chk n) := by
  unfold State.journalCheck
  dsimp only
  (repeat' split) <;> simp

@[simp] theorem State.steady_preclose (c : Fin 32) : s.Steady (s.preclose c) := by simp [State.preclose]
@[simp] theorem State.steady_dropPool (c : Fin 32) (i : Nat) : s.Steady (s.dropPool c i) := by simp [State.dropPool]
@[simp] theorem State.steady_scrubLost (c : Fin 32) (line : Nat) : s.Steady (s.scrubLost c line) := by simp [State.scrubLost]
@[simp] theorem State.steady_decoded (c : Fin 32) (r : Req) (d : Decoded) : s.Steady (s.decoded c r d) := by
  unfold State.decoded
  split <;> simp
@[simp] theorem State.steady_noteDecode (c : Fin 32) (bad : Bool) : s.Steady (s.noteDecode c bad) := by simp [State.noteDecode]

/-! Machine/LinkCmds -/

@[simp] theorem State.steady_fixedReject (i : Nat) : s.Steady (s.fixedReject i) := by simp [State.fixedReject]

@[simp] theorem State.steady_trainWire (c w : Nat) (sweep : List (Nat × BitVec 32)) (fixed : Bool) :
    s.Steady (s.trainWire c w sweep fixed) := by
  unfold State.trainWire
  dsimp only
  (repeat' split) <;> simp

@[simp] theorem State.steady_assignDq (c : Fin 32) : s.Steady (s.assignDq c) := by simp [State.assignDq]

@[simp] theorem State.steady_trainDq (c : Fin 32) (sweep : List (Nat × BitVec 32)) (fixed : Bool) :
    s.Steady (s.trainDq c sweep fixed).1 := by
  unfold State.trainDq
  dsimp only
  (repeat' split) <;> simp

@[simp] theorem State.steady_trainCa (c : Fin 32) (sweep : List (Nat × BitVec 32)) (fixed : Bool) :
    s.Steady (s.trainCa c sweep fixed).1 := by
  simp [State.trainCa]

@[simp] theorem State.steady_setSiBlocks (n : Nat) (bs : List Nat) : s.Steady (s.setSiBlocks n bs) := by
  have hP := State.steady_composes
  unfold State.setSiBlocks
  refine hP.trans (hP.andFold (hP.refl s) fun t q => ?_) ⟨rfl, rfl, rfl⟩
  simp

@[simp] theorem State.steady_siForm (n : Nat) : s.Steady (s.siForm n) := by simp [State.siForm]
@[simp] theorem State.steady_siBegin (n : Nat) (c : Fin 32) : s.Steady (s.siBegin n c) := by simp [State.siBegin]
@[simp] theorem State.steady_replayRecord (c : Fin 32) (outcome entries reads : Nat) :
    s.Steady (s.replayRecord c outcome entries reads) := by
  simp [State.replayRecord]

@[simp] theorem State.steady_giveUp (c : Fin 32) : s.Steady (s.giveUp c).1 := by
  have h : ∀ (t : State) (l : Nat), t.Steady ((match t.place l with
      | some p => t.storeLine p.2 poisonLine
      | none => t).logUe l 5 0xFF true 0) := fun t l => by split <;> simp
  unfold State.giveUp
  dsimp only
  refine State.steady_composes.andFold (State.steady_composes.andFold ?_ h) fun t e => ?_
  · simp
  · split <;> simp

@[simp] theorem State.steady_loseChannel (c : Fin 32) : s.Steady (s.loseChannel c) := by
  unfold State.loseChannel
  dsimp only
  split <;> simp

@[simp] theorem State.steady_poisonSlots (n : Nat) (slots : List Nat) : s.Steady (s.poisonSlots n slots) := by
  simp [State.poisonSlots]
@[simp] theorem State.steady_dropLines (gone : Nat → Bool) : s.Steady (s.dropLines gone) := by simp [State.dropLines]

@[simp] theorem State.steady_siFill (n : Nat) : s.Steady (s.siFill n) := by
  unfold State.siFill
  dsimp only
  (repeat' split) <;> simp

@[simp] theorem State.steady_replayEntry (e : JEntry) : s.Steady (s.replayEntry e) := by
  unfold State.replayEntry
  split <;> simp

@[simp] theorem State.steady_copyChecks (es : List JEntry) (copies : List (Nat × SramCheck)) :
    s.Steady (s.copyChecks es copies) := by
  refine s.steady_foldl _ _ fun t p => ?_
  split
  · simp
  · dsimp only
    split <;> simp

@[simp] theorem State.steady_replayFails (c : Fin 32) : s.Steady (s.replayFails c) := by simp [State.replayFails]
@[simp] theorem State.steady_replay (c : Fin 32) : s.Steady (s.replay c) := by simp [State.replay]
@[simp] theorem State.steady_applyTaps (key base : Nat) : s.Steady (s.applyTaps key base) := by simp [State.applyTaps]
@[simp] theorem State.steady_beginMeasure (key w spare : Nat) : s.Steady (s.beginMeasure key w spare) := by
  simp [State.beginMeasure]
@[simp] theorem State.steady_recalStop (a i idx val : Nat) : s.Steady (s.recalStop a i idx val) := by simp [State.recalStop]

@[simp] theorem State.steady_changeDq (c : Fin 32) : s.Steady (s.changeDq c) := by
  have hP := State.steady_composes
  have h0 : s.Steady (if (s.applyTaps c (100 * c)).links.limpDue.contains c.val then (s.applyTaps c (100 * c)).enterLimp c
      else s.applyTaps c (100 * c)) := hP.andIf (s.steady_applyTaps _ _) (State.steady_enterLimp _ c)
  unfold State.changeDq
  dsimp only
  generalize hu : State.refreshWires (List.foldl _ _ _) c = u
  have hs : s.Steady u := hu ▸ hP.trans (hP.andFold (hP.andFold (h0) fun t j => by split <;> simp)
    fun t p => by simp) (State.steady_refreshWires _ _)
  refine hP.trans hs ?_
  split
  · simp
  · split
    · simp
    · split <;> simp

@[simp] theorem State.steady_changeCa (c : Fin 32) : s.Steady (s.changeCa c) := by
  have hP := State.steady_composes
  unfold State.changeCa
  dsimp only
  generalize hu : State.refreshWires (List.foldl _ _ _) c = u
  have hs : s.Steady u := hu ▸ hP.trans (hP.andFold (hP.andFold (s.steady_applyTaps _ _) fun t j => by split <;> simp)
    fun t p => by simp) (State.steady_refreshWires _ _)
  refine hP.trans hs ?_
  split
  · simp
  · split
    · simp
    · split <;> simp

@[simp] theorem State.steady_refreshExpress (d l : Nat) : s.Steady (s.refreshExpress d l) := by simp [State.refreshExpress]

@[simp] theorem State.steady_sweepEnds (c : Fin 32) (w : Nat) (p : BitVec 32) : s.Steady (s.sweepEnds c w p) := by
  unfold State.sweepEnds
  dsimp only
  (repeat' split) <;> simp

/-! Machine/ScrubCmds -/

@[simp] theorem State.steady_scrubAdvance : s.Steady s.scrubAdvance := by
  unfold State.scrubAdvance
  dsimp only
  (repeat' split) <;> simp

@[simp] theorem State.steady_repairLine (c : Fin 32) (line : Nat) (errors : List (Nat × Byte)) :
    s.Steady (s.repairLine c line errors) := by
  unfold State.repairLine
  split <;> simp

/-! Machine/Capacity -/

@[simp] theorem State.steady_dcRecord (k : Fin 16) (event dpa len tag : Nat) : s.Steady (s.dcRecord k event dpa len tag) := by
  simp [State.dcRecord]
@[simp] theorem State.steady_putAt (line : Nat) (v : LineVal) : s.Steady (s.putAt line v) := by
  unfold State.putAt
  split <;> simp

@[simp] theorem State.steady_passQuick (k : Fin 16) (n : Nat) : s.Steady (s.passQuick k n) := by
  induction n generalizing s with
  | zero => exact State.steady_composes.refl s
  | succ n ih =>
    unfold State.passQuick
    split
    · simp [ih]
    · simp

@[simp] theorem State.steady_unfreeze (k : Fin 16) : s.Steady (s.unfreeze k) := by simp [State.unfreeze]

/-! Machine/Mailbox -/

@[simp] theorem State.steady_mediaWrite (line : Nat) (v : LineVal) : s.Steady (s.mediaWrite line v) := by
  unfold State.mediaWrite
  split <;> simp

@[simp] theorem State.steady_mediaCommand (k : Fin 16) (dpa : Nat) (act : State → State) (h : ∀ s : State, s.Steady (act s)) :
    s.Steady (s.mediaCommand k dpa act) := by
  have ha := h s
  simp_all [State.mediaCommand]

@[simp] theorem State.steady_dvsecRead (k : Fin 16) (off : Nat) : s.Steady (s.dvsecRead k off).1 := by
  unfold State.dvsecRead
  dsimp only
  (repeat' split) <;> simp

/-! Machine/Image -/

@[simp] theorem State.steady_overwrite (line : Nat) (v : LineVal) : s.Steady (s.overwrite line v) := by simp [State.overwrite]
@[simp] theorem State.steady_stageWrite (off : Nat) (data : List Byte) : s.Steady (s.stageWrite off data) := by
  simp [State.stageWrite]
@[simp] theorem State.steady_dropStage : s.Steady s.dropStage := by simp [State.dropStage]
@[simp] theorem State.steady_startStep (n : Nat) : s.Steady (s.startStep n) := by simp [State.startStep]
@[simp] theorem State.steady_copyImage : s.Steady s.copyImage := by simp [State.copyImage]
@[simp] theorem State.steady_loadStore : s.Steady s.loadStore := by simp [State.loadStore]
@[simp] theorem State.steady_recordImage : s.Steady s.recordImage := by simp [State.recordImage]
@[simp] theorem State.steady_clearThreadRegs (t : Fin 8) : s.Steady (s.clearThreadRegs t) := by simp [State.clearThreadRegs]
@[simp] theorem State.steady_releaseThreads : s.Steady s.releaseThreads := by simp [State.releaseThreads]

/-! Machine/Attest -/

@[simp] theorem State.steady_setTranscript (ch : Path) (t : List Byte) : s.Steady (s.setTranscript ch t) := by
  unfold State.setTranscript
  split <;> simp
@[simp] theorem State.steady_spdmAnswer (ch : Path) (request : List Byte) (code : Byte) (payload : List Byte) :
    s.Steady (s.spdmAnswer ch request code payload) := by
  simp [State.spdmAnswer]
@[simp] theorem State.steady_spdmError (ch : Path) (code : Byte) : s.Steady (s.spdmError ch code) := by simp [State.spdmError]
@[simp] theorem State.steady_spdmSigned (ch : Path) (request : List Byte) (code : Byte) (body : List Byte) :
    s.Steady (s.spdmSigned ch request code body) := by
  simp [State.spdmSigned]

/-! Machine/CriostAlu -/

@[simp] theorem State.steady_fetchLine (t : Fin 8) : s.Steady (s.fetchLine t) := by simp [State.fetchLine]
@[simp] theorem State.steady_arith (t : Fin 8) (code : Nat) (f : InsnFields) (cycles : Nat) (op : AluOp) :
    s.Steady (s.arith t code f cycles op) := by
  simp [State.arith]
@[simp] theorem State.steady_refetchFails (a : Nat) : s.Steady (s.refetchFails a) := by simp [State.refetchFails]

@[simp] theorem State.steady_loadInsn (t : Fin 8) (op : Nat) (f : InsnFields) (width : Nat)
    (signed checkFails bothFail : Bool) :
    s.Steady (s.loadInsn t op f width signed checkFails bothFail) := by
  simp [State.loadInsn]

@[simp] theorem State.steady_storeInsn (t : Fin 8) (op : Nat) (f : InsnFields) (width : Nat) :
    s.Steady (s.storeInsn t op f width) := by
  simp [State.storeInsn]
@[simp] theorem State.steady_jump (t : Fin 8) (op : Nat) (f : InsnFields) (target : Nat) (push : Bool) :
    s.Steady (s.jump t op f target push) := by
  simp [State.jump]

/-! Machine/Firing -/

@[simp] theorem State.steady_wakeThreads (mask : BitVec 8) : s.Steady (s.wakeThreads mask) := by simp [State.wakeThreads]
@[simp] theorem State.steady_releaseCar (c : Fin 32) : s.Steady (s.releaseCar c) := by simp [State.releaseCar]
@[simp] theorem State.steady_endWaitt (c : Fin 32) (n : Nat) (late : Bool) : s.Steady (s.endWaitt c n late) := by
  simp [State.endWaitt]
@[simp] theorem State.steady_sealPulses (i : Nat) : s.Steady (s.sealPulses i) := by simp [State.sealPulses]

@[simp] theorem State.steady_sealBoundary (i : Fin 4) (late : Bool) : s.Steady (s.sealBoundary i late) := by
  have hP := State.steady_composes
  unfold State.sealBoundary
  dsimp only
  split
  · refine hP.trans (hP.trans (hP.andFold (s.steady_setSeal i _) fun t p => t.steady_setCar _ _) (State.steady_sealPulses _ _))
      (State.steady_sealCheck _ _)
  · simp

@[simp] theorem State.steady_outingLaunch (i : Fin 8) (late : Bool) : s.Steady (s.outingLaunch i late) := by
  simp [State.outingLaunch]

@[simp] theorem State.steady_tcAct (n : Fin 64) (target index : Nat) (late : Bool) : s.Steady (s.tcAct n target index late) := by
  unfold State.tcAct
  split
  · split <;> simp
  · split
    · split <;> simp
    · simp
  · simp
  · split <;> simp
  · split <;> simp
  · split <;> simp
  · split <;> simp
  · simp

@[simp] theorem State.steady_tcRefuse (n : Fin 64) (target index : Nat) : s.Steady (s.tcRefuse n target index).1 := by
  unfold State.tcRefuse
  split
  · split
    · split <;> simp
    · simp
  · split
    · split <;> simp
    · simp
  · split
    · split <;> simp
    · simp
  · simp

@[simp] theorem State.steady_tcAdvance (n : Fin 64) : s.Steady (s.tcAdvance n) := by simp [State.tcAdvance]
@[simp] theorem State.steady_tcFire (n : Fin 64) (late : Bool) : s.Steady (s.tcFire n late) := by simp [State.tcFire]

@[simp] theorem State.steady_fireSpan (old new : Nat) (halt : State → State) (h : ∀ s : State, s.Steady (halt s)) :
    s.Steady (s.fireSpan old new halt) := by
  have hf : ∀ (t : State) (due : List (Fin 64)) (ts : List Nat), t.Steady (t.fireThose due new ts) := fun t due ts =>
    t.steady_foldl _ _ fun u n => by split <;> simp
  have ht : ∀ t : State, t.Steady ((List.finRange 8).foldl (fun s t => s.twaitLeave new t) t) := fun t =>
    t.steady_foldl _ _ fun u n => by simp
  rw [State.fireSpan_eq]
  have hP := State.steady_composes
  exact hP.trans (hP.trans (hP.trans (hP.trans (hP.trans (hf _ _ _) (hf _ _ _)) (h _)) (hf _ _ _)) (ht _)) (hf _ _ _)

/-! Machine/Thermal -/

@[simp] theorem State.steady_sense (n i : Nat) (r : Option (BitVec 10)) : s.Steady (s.sense n i r).1 := by
  unfold State.sense
  dsimp only
  (repeat' split) <;> simp

@[simp] theorem State.steady_senseAll (n : Nat) (readings : List (Option (BitVec 10))) : s.Steady (s.senseAll n readings).1 := by
  exact State.steady_foldl_pair _ _ (s, []) fun p q => p.1.steady_sense n q.1 _
@[simp] theorem State.steady_powerRestart (n : Nat) : s.Steady (s.powerRestart n) := by simp [State.powerRestart]

@[simp] theorem State.steady_witness (n : Nat) : s.Steady (s.witness n).1 := by
  unfold State.witness
  dsimp only
  (repeat' split) <;> simp

@[simp] theorem State.steady_markDispute (n : Nat) (b : Bool) : s.Steady (s.markDispute n b) := by
  refine State.steady_composes.trans (s.steady_foldl (fun s i => s.setFlag (aTH_SENSOR i) 11 b) (layerSensors n) fun t i => ?_)
    ⟨rfl, rfl, rfl⟩
  simp

@[simp] theorem State.steady_setCalm (n x : Nat) : s.Steady (s.setCalm n x) := by simp [State.setCalm]

@[simp] theorem State.steady_judgeDispute (n hs : Nat) (ws : List Nat) : s.Steady (s.judgeDispute n hs ws).1 := by
  unfold State.judgeDispute
  dsimp only
  (repeat' split) <;> simp

@[simp] theorem State.steady_coolWatch : s.Steady s.coolWatch := by simp [State.coolWatch]
@[simp] theorem State.steady_setGov (n : Nat) (g : Nat × Nat) : s.Steady (s.setGov n g) := by simp [State.setGov]
@[simp] theorem State.steady_setHot : s.Steady s.setHot := by simp [State.setHot]
@[simp] theorem State.steady_sleepAll : s.Steady s.sleepAll := by simp [State.sleepAll]
@[simp] theorem State.steady_domainsOff (keepStore : Bool) : s.Steady (s.domainsOff keepStore) := by simp [State.domainsOff]
@[simp] theorem State.steady_linksDown : s.Steady s.linksDown := by simp [State.linksDown]

@[simp] theorem State.steady_forceShutdown : s.Steady s.forceShutdown := by
  unfold State.forceShutdown
  dsimp only
  split <;> simp

@[simp] theorem State.steady_thermPin : s.Steady s.thermPin := by simp [State.thermPin]
@[simp] theorem State.steady_doubleStage (n : Nat) : s.Steady (s.doubleStage n) := by simp [State.doubleStage]
@[simp] theorem State.steady_requestStage (n : Nat) : s.Steady (s.requestStage n) := by simp [State.requestStage]
@[simp] theorem State.steady_enforceStage (entered : Bool) : s.Steady (s.enforceStage entered) := by simp [State.enforceStage]
@[simp] theorem State.steady_shutStage (n g : Nat) (entered : Bool) : s.Steady (s.shutStage n g entered) := by
  simp [State.shutStage]

@[simp] theorem State.steady_evaluate (n : Fin 18) (readings : List (Option (BitVec 10))) :
    s.Steady (s.evaluate n readings) := by
  unfold State.evaluate
  dsimp only
  (repeat' split) <;> simp

/-! Machine/PowerCmds -/

@[simp] theorem State.steady_entryWork (n : Nat) : s.Steady (s.entryWork n) := by simp [State.entryWork]

@[simp] theorem State.steady_reach (n : Nat) (target : DomState) (kept : BitVec 16) : s.Steady (s.reach n target kept) := by
  unfold State.reach
  split
  · simp
  · split
    · refine s.steady_foldl _ _ fun t c => ?_
      split <;> simp
    · simp

@[simp] theorem State.steady_sweepReport (n : Nat) (bad : BitVec 16) : s.Steady (s.sweepReport n bad) := by
  simp [State.sweepReport]

@[simp] theorem State.steady_woken (n : Fin 64) (src : Nat) : s.Steady (s.woken n src) := by
  unfold State.woken
  dsimp only
  generalize hu : List.foldl _ (s.setDom n _) _ = u
  have hs : s.Steady u := hu ▸ State.steady_composes.andFold (s.steady_setDom n _) fun t c => by split <;> simp
  simpa using hs

@[simp] theorem State.steady_wakeTrain (sweep : List (Nat × BitVec 32)) (c : Fin 32) : s.Steady (s.wakeTrain sweep c) := by
  simp [State.wakeTrain]
@[simp] theorem State.steady_zeroChannels (cs : List Nat) : s.Steady (s.zeroChannels cs) := by simp [State.zeroChannels]

/-! Machine/Startup -/

@[simp] theorem State.steady_supplyReading (r : SupplyReading) : s.Steady (s.supplyReading r) := by simp [State.supplyReading]

@[simp] theorem State.steady_bootClock (n : Nat) (edges : BitVec 4) : s.Steady (s.bootClock n edges) := by
  unfold State.bootClock
  dsimp only
  split <;> simp

@[simp] theorem State.steady_bootChannel (c : Fin 32) (sweep : List (Nat × BitVec 32)) : s.Steady (s.bootChannel c sweep) := by
  simp [State.bootChannel]

@[simp] theorem State.steady_bootExpress (d l : Nat) (sweep : List (Nat × BitVec 32)) : s.Steady (s.bootExpress d l sweep) := by
  refine State.steady_composes.trans (State.steady_foldl _ _ _ fun t w => ?_) (State.steady_refreshExpress _ _ _)
  dsimp only
  split
  · simp
  · split
    · simp
    · split <;> simp

@[simp] theorem State.steady_bootStandin (n : Nat) : s.Steady (s.bootStandin n) := by simp [State.bootStandin]

@[simp] theorem State.steady_bootTrain (sweep : List (Nat × BitVec 32)) (clocks : List (Nat × BitVec 4)) :
    s.Steady (s.bootTrain sweep clocks) := by
  have hP := State.steady_composes
  unfold State.bootTrain
  refine hP.trans (hP.andFold (hP.andFold (hP.andFold (hP.refl s) fun t n => ?_) fun t c => t.steady_bootChannel c sweep)
    fun t i => t.steady_bootExpress _ _ sweep) (State.steady_setFlag _ _ _ _)
  split <;> simp

@[simp] theorem State.steady_bootFill : s.Steady s.bootFill := by simp [State.bootFill]

@[simp] theorem State.steady_startLanes : s.Steady s.startLanes := by
  unfold State.startLanes
  dsimp only
  split <;> simp

/-! Machine/TimeCmds -/

@[simp] theorem State.steady_stepHalt : s.Steady s.stepHalt := by
  unfold State.stepHalt
  split <;> simp
@[simp] theorem State.steady_aliveBeat : s.Steady s.aliveBeat := by simp [State.aliveBeat]
@[simp] theorem State.steady_rackBeat : s.Steady s.rackBeat := by simp [State.rackBeat]
@[simp] theorem State.steady_loadRt (target : Nat) (set_ : Bool) : s.Steady (s.loadRt target set_) := by simp [State.loadRt]
@[simp] theorem State.steady_announcedMark (stamp : Int) (ann : Nat) : s.Steady (s.announcedMark stamp ann) := by
  simp [State.announcedMark]
@[simp] theorem State.steady_dropFrame : s.Steady s.dropFrame := by simp [State.dropFrame]
@[simp] theorem State.steady_acquireTline (base : Nat) : s.Steady (s.acquireTline base) := by simp [State.acquireTline]
@[simp] theorem State.steady_showFrame (domain flags : BitVec 16) : s.Steady (s.showFrame domain flags) := by
  simp [State.showFrame]
@[simp] theorem State.steady_acceptFrame (r : Nat) (domain flags : BitVec 16) : s.Steady (s.acceptFrame r domain flags) := by
  simp [State.acceptFrame]
@[simp] theorem State.steady_acquirePtm : s.Steady s.acquirePtm := by simp [State.acquirePtm]
@[simp] theorem State.steady_usePtm (source : Nat) (e : Int) (first : Bool) : s.Steady (s.usePtm source e first) := by
  simp [State.usePtm]

@[simp] theorem State.steady_ptmAnswer (source : Nat) : s.Steady (s.ptmAnswer source) := by
  unfold State.ptmAnswer
  dsimp only
  split <;> simp

end Sys2Proof.Machine

namespace Sys2Proof.Machine

open Sys2Proof.Claims

/-! The same of every command, by the operations that it is made of -/

/-- A command that completes leaves the waiting commands, the fuses and the grants as they were. -/
def State.Ends (s : State) (o : Host.Outcome State Fault Refusal) : Prop := ∀ t, o = .next t → s.Steady t

@[simp] theorem State.ends_next (s t : State) : s.Ends (.next t) ↔ s.Steady t := by simp [State.Ends]
@[simp] theorem State.ends_ite (s : State) (c : Prop) [Decidable c] (o p : Host.Outcome State Fault Refusal) :
    s.Ends (if c then o else p) ↔ if c then s.Ends o else s.Ends p := by split <;> rfl

variable (s : State)

@[simp] theorem State.ends_finish (b t : State) : s.Ends (finish b t) ↔ s.Steady t := by simp [finish]

/-! Machine/Halts -/

theorem execHaltActStop_steady : s.Ends (execHaltActStop s) := by simp [execHaltActStop]
theorem execHaltOpen_steady : s.Ends (execHaltOpen s) := by
  unfold execHaltOpen
  split <;> simp
theorem execHaltRefab_steady : s.Ends (execHaltRefab s) := by
  unfold execHaltRefab
  split <;> simp
theorem execHaltWindowEnd_steady : s.Ends (execHaltWindowEnd s) := by
  unfold execHaltWindowEnd
  split <;> simp
theorem execDeferredHaltOpen_steady : s.Ends (execDeferredHaltOpen s) := by simp [execDeferredHaltOpen]
theorem execFallbackCommit_steady : s.Ends (execFallbackCommit s) := by simp [execFallbackCommit]

/-! Machine/Snapshot -/

theorem execFallbackHalt_steady : s.Ends (execFallbackHalt s) := by simp [execFallbackHalt]

/-! Machine/Otp -/

theorem execIdentityDerived_steady : s.Ends (execIdentityDerived s) := by simp [execIdentityDerived]

/-! Machine/Lanes -/

theorem execLinkTrainingStart_steady (k : Fin 16) (undetected skewed : List (Fin 64)) (reversed : Bool)
    (inverted : List (Fin 64)) (compliance : Bool) :
    s.Ends (execLinkTrainingStart k undetected skewed reversed s inverted compliance) := by
  have hP := State.steady_composes
  unfold execLinkTrainingStart
  dsimp only
  split
  · simp
  · generalize hu : State.raiseList (List.foldl _ s _) _ = u
    have hs : s.Steady u := hu ▸ hP.trans (s.steady_foldl _ _ fun t l => t.steady_setFlag _ _ _) (State.steady_raiseList _ _)
    split
    · simpa using hs
    · split <;> simpa using hs

theorem execLinkUp_steady (k : Fin 16) (rate : BitVec 3) (precode : List (Fin 64)) : s.Ends (execLinkUp k rate s precode) := by
  simp [execLinkUp]
theorem execDirectedSpeedChange_steady (k : Fin 16) : s.Ends (execDirectedSpeedChange k s) := by simp [execDirectedSpeedChange]

theorem execSpeedChangeComplete_steady (k : Fin 16) (rate : BitVec 3) (precode : List (Fin 64)) :
    s.Ends (execSpeedChangeComplete k rate s precode) := by
  have hP := State.steady_composes
  unfold execSpeedChangeComplete
  dsimp only
  split
  · simp
  · exact (s.ends_next _).mpr (hP.trans (hP.andFold (s.steady_setHead k _) fun t l => t.steady_setFld _ _ _ _)
      (State.steady_cdatFollow _ _ _))

theorem execLinkRecoveryEntry_steady (k : Fin 16) : s.Ends (execLinkRecoveryEntry k s) := by simp [execLinkRecoveryEntry]
theorem execLinkRecoveryExit_steady (k : Fin 16) : s.Ends (execLinkRecoveryExit k s) := by simp [execLinkRecoveryExit]
theorem execDeskewDriftOverflow_steady (l : Fin 64) : s.Ends (execDeskewDriftOverflow l s) := by simp [execDeskewDriftOverflow]
theorem execRecoveryFailure_steady (k : Fin 16) : s.Ends (execRecoveryFailure k s) := by simp [execRecoveryFailure]
theorem execHotReset_steady (k : Fin 16) : s.Ends (execHotReset k s) := by simp [execHotReset]
theorem execLinkDisable_steady (k : Fin 16) : s.Ends (execLinkDisable k s) := by simp [execLinkDisable]
theorem execLoopbackFollowerEntry_steady (k : Fin 16) : s.Ends (execLoopbackFollowerEntry k s) := by
  simp [execLoopbackFollowerEntry]

theorem execPerstNAssert_steady (m : Fin 16) : s.Ends (execPerstNAssert m s) := by
  unfold execPerstNAssert
  dsimp only
  split <;> simp

theorem execPerstNDeassert_steady (m : Fin 16) : s.Ends (execPerstNDeassert m s) := by simp [execPerstNDeassert]
theorem execFlitCrcFail_steady (k : Fin 16) : s.Ends (execFlitCrcFail k s) := by simp [execFlitCrcFail]
theorem execEqPhase3Request_steady (l : Fin 64) (r : Fin 5) (request : EqRequest) :
    s.Ends (execEqPhase3Request l r request s) := by
  simp [execEqPhase3Request]
theorem execEqRedoRequest_steady (l : Fin 64) (r : Fin 5) : s.Ends (execEqRedoRequest l r s) := by simp [execEqRedoRequest]
theorem execEqBypassRequest_steady (k : Fin 16) : s.Ends (execEqBypassRequest k s) := by simp [execEqBypassRequest]
theorem execEqDigestDone_steady : s.Ends (execEqDigestDone s) := by simp [execEqDigestDone]
theorem execLosAssert_steady (l : Fin 64) (linkIdle : Bool) : s.Ends (execLosAssert l linkIdle s) := by simp [execLosAssert]
theorem execLosDeassert_steady (l : Fin 64) : s.Ends (execLosDeassert l s) := by simp [execLosDeassert]
theorem execLolAssert_steady (l : Fin 64) (linkIdle : Bool) : s.Ends (execLolAssert l s linkIdle) := by simp [execLolAssert]
theorem execLolDeassert_steady (l : Fin 64) : s.Ends (execLolDeassert l s) := by simp [execLolDeassert]
theorem execInjectDone_steady (l : Fin 64) : s.Ends (execInjectDone l s) := by simp [execInjectDone]
theorem execCheckerSync_steady (l : Fin 64) (errors : Nat) : s.Ends (execCheckerSync l s errors) := by simp [execCheckerSync]
theorem execCheckerSyncLoss_steady (l : Fin 64) : s.Ends (execCheckerSyncLoss l s) := by simp [execCheckerSyncLoss]

/-! Machine/RegWrite -/

@[simp] theorem State.steady_commandWrite (p : Path) (a width : Nat) (v : Word) : s.Ends (s.commandWrite p a width v) := by
  simp [State.commandWrite]

/-! Machine/CriostTime -/

theorem execCrd_steady (t : Fin 8) (f : InsnFields) : s.Ends (execCrd t f s) := by simp [execCrd]
theorem execCrdReturn_steady (t : Fin 8) : s.Ends (execCrdReturn t s) := by
  unfold execCrdReturn
  split <;> simp

theorem execCwr_steady (t : Fin 8) (f : InsnFields) : s.Ends (execCwr t f s) := by
  refine (s.ends_finish s _).mpr (s.steady_issue _ _ _ _ _ fun u => ?_)
  dsimp only
  split <;> simp

theorem execCwrQueueEntryFree_steady : s.Ends (execCwrQueueEntryFree s) := by
  unfold execCwrQueueEntryFree
  split <;> simp
theorem execCwrDelivery_steady : s.Ends (execCwrDelivery s) := by
  unfold execCwrDelivery
  split <;> simp
theorem execUpd_steady (t : Fin 8) (f : InsnFields) : s.Ends (execUpd t f s) := by simp [execUpd]
theorem execUpdExecute_steady (t : Fin 8) : s.Ends (execUpdExecute t s) := by
  unfold execUpdExecute
  split <;> simp
theorem execUpdt_steady (t : Fin 8) (f : InsnFields) : s.Ends (execUpdt t f s) := by simp [execUpdt]
theorem execTnow_steady (t : Fin 8) (f : InsnFields) : s.Ends (execTnow t f s) := by simp [execTnow]
theorem execTwait_steady (t : Fin 8) (f : InsnFields) : s.Ends (execTwait t f s) := by simp [execTwait]
theorem execTwaitEnd_steady (t : Fin 8) : s.Ends (execTwaitEnd t s) := by simp [execTwaitEnd]
theorem execTarm_steady (t : Fin 8) (f : InsnFields) : s.Ends (execTarm t f s) := by simp [execTarm]
theorem execTdisarm_steady (t : Fin 8) (f : InsnFields) : s.Ends (execTdisarm t f s) := by simp [execTdisarm]
theorem execTdisarmFree_steady (t : Fin 8) (f : InsnFields) : s.Ends (execTdisarmFree t f s) := by simp [execTdisarmFree]
theorem execTtrust_steady (t : Fin 8) (f : InsnFields) : s.Ends (execTtrust t f s) := by simp [execTtrust]
theorem execEwait_steady (t : Fin 8) (f : InsnFields) : s.Ends (execEwait t f s) := by simp [execEwait]
theorem execEwaitEnd_steady (t : Fin 8) : s.Ends (execEwaitEnd t s) := by
  unfold execEwaitEnd
  split <;> simp
theorem execEsig_steady (t : Fin 8) (f : InsnFields) : s.Ends (execEsig t f s) := by
  refine (s.ends_finish s _).mpr (s.steady_plain _ _ _ _ _ fun u => ?_)
  split <;> simp
theorem execEclr_steady (t : Fin 8) (f : InsnFields) : s.Ends (execEclr t f s) := by simp [execEclr]

/-! Machine/CriostSystem -/

theorem execClaunch_steady (t : Fin 8) (f : InsnFields) : s.Ends (execClaunch t f s) := by
  refine (s.ends_finish s _).mpr (s.steady_plain _ _ _ _ _ fun u => ?_)
  dsimp only
  split
  · simp
  · split
    · simp
    · split <;> simp

theorem execCwait_steady (t : Fin 8) (f : InsnFields) : s.Ends (execCwait t f s) := by
  refine (s.ends_finish s _).mpr (s.steady_issue _ _ _ _ _ fun u => ?_)
  dsimp only
  split <;> simp

theorem execCwaitEnd_steady (c : Fin 32) : s.Ends (execCwaitEnd c s) := by simp [execCwaitEnd]

theorem execCstat_steady (t : Fin 8) (f : InsnFields) : s.Ends (execCstat t f s) := by
  refine (s.ends_finish s _).mpr (s.steady_plain _ _ _ _ _ fun u => ?_)
  dsimp only
  split <;> simp

theorem execCabort_steady (t : Fin 8) (f : InsnFields) : s.Ends (execCabort t f s) := by
  refine (s.ends_finish s _).mpr (s.steady_plain _ _ _ _ _ fun u => ?_)
  dsimp only
  split
  · split <;> simp
  · simp

theorem execPreq_steady (t : Fin 8) (f : InsnFields) : s.Ends (execPreq t f s) := by simp [execPreq]

theorem execPreqComplete_steady (t : Fin 8) : s.Ends (execPreqComplete t s) := by
  unfold execPreqComplete
  dsimp only
  (repeat' split) <;> simp

theorem execSnap_steady (t : Fin 8) (f : InsnFields) : s.Ends (execSnap t f s) := by simp [execSnap]
theorem execSnapRe_steady (t : Fin 8) (f : InsnFields) : s.Ends (execSnapRe t f s) := by simp [execSnapRe]
theorem execSealArm_steady (t : Fin 8) (f : InsnFields) : s.Ends (execSealArm t f s) := by simp [execSealArm]
theorem execSealCancel_steady (t : Fin 8) (f : InsnFields) : s.Ends (execSealCancel t f s) := by simp [execSealCancel]
theorem execSealRead_steady (t : Fin 8) (f : InsnFields) : s.Ends (execSealRead t f s) := by simp [execSealRead]
theorem execOutingArm_steady (t : Fin 8) (f : InsnFields) : s.Ends (execOutingArm t f s) := by simp [execOutingArm]
theorem execOutingCancel_steady (t : Fin 8) (f : InsnFields) : s.Ends (execOutingCancel t f s) := by simp [execOutingCancel]
theorem execFault_steady (t : Fin 8) (f : InsnFields) : s.Ends (execFault t f s) := by simp [execFault]
theorem execFaultWithStop_steady (t : Fin 8) (f : InsnFields) : s.Ends (execFaultWithStop t f s) := by simp [execFaultWithStop]

/-! Machine/Accesses -/

@[simp] theorem State.steady_write32 (p : Path) (a : Nat) (v : BitVec 32) : s.Ends (s.write32 p a v) := by simp [State.write32]
theorem execTcCtrlWrite_steady (p : Path) (n : Fin 64) (value : BitVec 32) : s.Ends (execTcCtrlWrite p n value s) := by
  simp [execTcCtrlWrite]
theorem execTcValueWrite_steady (p : Path) (n : Fin 64) (value : Word) : s.Ends (execTcValueWrite p n value s) := by
  simp [execTcValueWrite]
theorem execTuAckWrite_steady (p : Path) (value : BitVec 32) : s.Ends (execTuAckWrite p value s) := by simp [execTuAckWrite]
theorem execTtHaltWrite_steady (p : Path) (value : BitVec 32) : s.Ends (execTtHaltWrite p value s) := by simp [execTtHaltWrite]
theorem execTtThawWrite_steady (p : Path) (value : BitVec 32) : s.Ends (execTtThawWrite p value s) := by simp [execTtThawWrite]
theorem execCarThaw_steady (p : Path) (value : BitVec 32) : s.Ends (execCarThaw p value s) := by simp [execCarThaw]
theorem execLnTestEnable_steady (p : Path) (l : Fin 64) (value : BitVec 32) : s.Ends (execLnTestEnable p l value s) := by
  simp [execLnTestEnable]
theorem execLnTestDisable_steady (p : Path) (l : Fin 64) (value : BitVec 32) : s.Ends (execLnTestDisable p l value s) := by
  simp [execLnTestDisable]
theorem execInjectSingle_steady (p : Path) (l : Fin 64) (value : BitVec 32) : s.Ends (execInjectSingle p l value s) := by
  simp [execInjectSingle]
theorem execInjectBurst_steady (p : Path) (l : Fin 64) (value : BitVec 32) : s.Ends (execInjectBurst p l value s) := by
  simp [execInjectBurst]
theorem execInjectRate_steady (p : Path) (l : Fin 64) (value : BitVec 32) : s.Ends (execInjectRate p l value s) := by
  simp [execInjectRate]
theorem execInjectStop_steady (p : Path) (l : Fin 64) (value : BitVec 32) : s.Ends (execInjectStop p l value s) := by
  simp [execInjectStop]
theorem execLcFlush_steady (p : Path) (value : BitVec 32) : s.Ends (execLcFlush p value s) := by simp [execLcFlush]
theorem execRowRepair_steady (p : Path) (value : BitVec 32) : s.Ends (execRowRepair p value s) := by simp [execRowRepair]
theorem execRetirePage_steady (p : Path) (value : Word) : s.Ends (execRetirePage p value s) := by simp [execRetirePage]
theorem execMgmtPowerRequest_steady (p : Path) (value : BitVec 32) : s.Ends (execMgmtPowerRequest p value s) := by
  simp [execMgmtPowerRequest]
@[simp] theorem State.steady_otpCmdWrite (p : Path) (op : Nat) (word : BitVec 9) : s.Ends (s.otpCmdWrite p op word) := by
  simp [State.otpCmdWrite]
theorem execOtpNormalRead_steady (p : Path) (word : BitVec 9) : s.Ends (execOtpNormalRead p word s) := by
  simp [execOtpNormalRead]
theorem execOtpStrictRead_steady (p : Path) (word : BitVec 9) : s.Ends (execOtpStrictRead p word s) := by
  simp [execOtpStrictRead]
theorem execOtpDualRead_steady (p : Path) (word : BitVec 9) : s.Ends (execOtpDualRead p word s) := by simp [execOtpDualRead]
theorem execOtpProgram_steady (p : Path) (word : BitVec 9) : s.Ends (execOtpProgram p word s) := by simp [execOtpProgram]
theorem execOtpRaiseCounter_steady (p : Path) (word : BitVec 9) : s.Ends (execOtpRaiseCounter p word s) := by
  simp [execOtpRaiseCounter]
theorem execCtlUpdNow_steady (p : Path) (value : BitVec 32) : s.Ends (execCtlUpdNow p value s) := by simp [execCtlUpdNow]
theorem execCtlUpdDiscard_steady (p : Path) (value : BitVec 32) : s.Ends (execCtlUpdDiscard p value s) := by
  simp [execCtlUpdDiscard]
theorem execSevereClear_steady (p : Path) (n : Fin 128) (value : BitVec 32) : s.Ends (execSevereClear p n value s) := by
  simp [execSevereClear]
theorem execFcFirstClear_steady (p : Path) (value : BitVec 32) : s.Ends (execFcFirstClear p value s) := by
  simp [execFcFirstClear]
theorem execSnapCtrlFire_steady (p : Path) (value : BitVec 32) : s.Ends (execSnapCtrlFire p value s) := by
  simp [execSnapCtrlFire]
theorem execSnapCtrlRearm_steady (p : Path) (value : BitVec 32) : s.Ends (execSnapCtrlRearm p value s) := by
  simp [execSnapCtrlRearm]
theorem execOwnClaimImg_steady (p : Path) (value : BitVec 32) : s.Ends (execOwnClaimImg p value s) := by simp [execOwnClaimImg]
theorem execOwnReleaseImg_steady (p : Path) (value : BitVec 32) : s.Ends (execOwnReleaseImg p value s) := by
  simp [execOwnReleaseImg]
theorem execOwnClaimFm_steady (p : Path) (value : BitVec 32) : s.Ends (execOwnClaimFm p value s) := by simp [execOwnClaimFm]
theorem execOwnReleaseFm_steady (p : Path) (value : BitVec 32) : s.Ends (execOwnReleaseFm p value s) := by
  simp [execOwnReleaseFm]
theorem execSuOpen_steady (p : Path) (value : BitVec 32) : s.Ends (execSuOpen p value s) := by simp [execSuOpen]
theorem execRegisterWrite_steady (p : Path) (addr width : Nat) (value : Word) :
    s.Ends (execRegisterWrite p addr width value s) := by
  simp [execRegisterWrite]
theorem execRegisterRead_steady (k : Fin 16) (addr width : Nat) : s.Ends (execRegisterRead k addr width s) := by
  simp [execRegisterRead]
theorem execTuRtRead_steady (p : Path) : s.Ends (execTuRtRead p s) := by simp [execTuRtRead]

theorem execReadRegister_steady (p : Path) (addr width : Nat) : s.Ends (execReadRegister p addr width s) := by
  have h := s.steady_readReg p addr width
  unfold execReadRegister
  split
  · simp
  · split <;> simp_all

theorem execWriteRegister_steady (p : Path) (addr width : Nat) (value : Word) :
    s.Ends (execWriteRegister p addr width value s) := by
  have h := s.steady_writeReg p addr width value
  unfold execWriteRegister
  split
  · simp
  · split
    · simp
    · split <;> simp_all

/-! Machine/Descriptors -/

theorem execDescCopy_steady (c : Fin 32) : s.Ends (execDescCopy c s) := by simp [execDescCopy]
theorem execDescFill_steady (c : Fin 32) : s.Ends (execDescFill c s) := by simp [execDescFill]
theorem execDescCmp_steady (c : Fin 32) : s.Ends (execDescCmp c s) := by simp [execDescCmp]
theorem execDescCrc_steady (c : Fin 32) : s.Ends (execDescCrc c s) := by simp [execDescCrc]
theorem execDescGather_steady (c : Fin 32) : s.Ends (execDescGather c s) := by simp [execDescGather]
theorem execDescScatter_steady (c : Fin 32) : s.Ends (execDescScatter c s) := by simp [execDescScatter]
theorem execPeerwr_steady (c : Fin 32) : s.Ends (execPeerwr c s) := by simp [execPeerwr]
theorem execPeerrd_steady (c : Fin 32) : s.Ends (execPeerrd c s) := by simp [execPeerrd]
theorem execSealcopy_steady (c : Fin 32) (bitmapFails : Bool) : s.Ends (execSealcopy c s bitmapFails) := by simp [execSealcopy]
theorem execWaitt_steady (c : Fin 32) : s.Ends (execWaitt c s) := by simp [execWaitt]
theorem execWaittExternal_steady (c : Fin 32) : s.Ends (execWaittExternal c s) := by simp [execWaittExternal]
theorem execNotify_steady (c : Fin 32) : s.Ends (execNotify c s) := by simp [execNotify]
theorem execDescLink_steady (c : Fin 32) : s.Ends (execDescLink c s) := by simp [execDescLink]
theorem execDescEnd_steady (c : Fin 32) : s.Ends (execDescEnd c s) := by simp [execDescEnd]
theorem execDescriptorComplete_steady (c : Fin 32) : s.Ends (execDescriptorComplete c s) := by
  unfold execDescriptorComplete
  split <;> simp

theorem execWaittDeadline_steady (c : Fin 32) : s.Ends (execWaittDeadline c s) := by
  unfold execWaittDeadline
  dsimp only
  split <;> simp

theorem execCarriageTimeout_steady (c : Fin 32) : s.Ends (execCarriageTimeout c s) := by simp [execCarriageTimeout]

theorem execUioCompletion_steady (c : Fin 32) (index : Nat) (status : UioStatus) (poisoned : Bool) (data : List Byte) :
    s.Ends (execUioCompletion c index status poisoned s data) := by
  unfold execUioCompletion
  dsimp only
  (repeat' split) <;> simp

/-! Machine/MemCmds -/

theorem execMemRd_steady (k : Fin 16) (addr tag : Nat) (extents : SramCheck) : s.Ends (execMemRd k addr tag s extents) := by
  simp [execMemRd]
theorem execMemRdData_steady (k : Fin 16) (addr tag : Nat) (extents : SramCheck) :
    s.Ends (execMemRdData k addr tag s extents) := by
  simp [execMemRdData]
theorem execMemInv_steady (k : Fin 16) (addr tag : Nat) (extents : SramCheck) : s.Ends (execMemInv k addr tag s extents) := by
  simp [execMemInv]
theorem execMemSpecRd_steady (k : Fin 16) (addr tag : Nat) (extents : SramCheck) :
    s.Ends (execMemSpecRd k addr tag s extents) := by
  simp [execMemSpecRd]
theorem execMemWr_steady (k : Fin 16) (addr : Nat) (data : Line) (tag : Nat) (extents : SramCheck) :
    s.Ends (execMemWr k addr data tag s extents) := by
  simp [execMemWr]
theorem execMemWrPtl_steady (k : Fin 16) (addr : Nat) (data : Line) (mask : BitVec 64) (tag : Nat) (extents : SramCheck) :
    s.Ends (execMemWrPtl k addr data mask tag s extents) := by
  simp [execMemWrPtl]
theorem execUioMemoryRead_steady (k : Fin 16) (addr tag len : Nat) (extents : SramCheck) :
    s.Ends (execUioMemoryRead k addr tag s len extents) := by
  simp [execUioMemoryRead]

theorem execUioMemoryWrite_steady (k : Fin 16) (addr : Nat) (data : List Byte) (enables tag : Nat) (poisoned : Bool)
    (extents : SramCheck) :
    s.Ends (execUioMemoryWrite k addr data enables tag s poisoned extents) := by
  simp [execUioMemoryWrite]

/-- A request of the carriage class, from a state that has already done what comes before (R264, R389). -/
theorem State.steady_classAdmit (t : State) (rank : Nat) (r : Req) (held : Bool) (go : State → State) (ht : s.Steady t)
    (h : ∀ u : State, u.Steady (go u)) : s.Ends (State.classAdmit s t rank r held go) := by
  have hP := State.steady_composes
  unfold State.classAdmit
  split
  · exact (s.ends_finish s _).mpr (hP.trans ht (t.steady_wakeFor _ _))
  · split
    · exact (s.ends_finish s _).mpr ht
    · split
      · exact (s.ends_finish s _).mpr ht
      · exact (s.ends_finish s _).mpr (hP.trans (hP.trans ht (t.steady_chargeLine _ _)) (h _))

@[simp] theorem State.steady_plainAdmit (rank : Nat) (go : State → State) (h : ∀ u : State, u.Steady (go u)) :
    s.Ends (s.plainAdmit rank go) := by
  unfold State.plainAdmit
  split
  · simp
  · split
    · exact (s.ends_finish s _).mpr (State.steady_composes.trans (s.steady_chargeLine _ _) (h _))
    · simp

@[simp] theorem State.steady_headAdmit (k : Fin 16) (cacheFails : Bool) : s.Ends (s.headAdmit k cacheFails) := by
  unfold State.headAdmit
  dsimp only
  (repeat' split) <;> simp

@[simp] theorem State.steady_carAdmit (c : Fin 32) (cacheFails stagingFails : Bool) :
    s.Ends (s.carAdmit c cacheFails stagingFails) := by
  unfold State.carAdmit
  split
  · simp
  · split
    · simp
    · exact s.steady_classAdmit s _ _ _ _ ⟨rfl, rfl, rfl⟩ fun u => by simp

@[simp] theorem State.steady_holdAdmit (i : Fin 4) (cacheFails : Bool) : s.Ends (s.holdAdmit i cacheFails) := by
  unfold State.holdAdmit
  dsimp only
  split
  · simp
  · exact s.steady_classAdmit _ _ _ _ _ (s.steady_holdFill i) fun u => by simp

@[simp] theorem State.steady_stageAdmit (i : Fin 4) (stagingFails : Bool) : s.Ends (s.stageAdmit i stagingFails) := by
  unfold State.stageAdmit
  split
  · split
    · simp
    · exact s.steady_classAdmit s _ _ _ _ ⟨rfl, rfl, rfl⟩ fun u => by simp
  · simp

@[simp] theorem State.steady_fillAdmit (n : Nat) : s.Ends (s.fillAdmit n) := by simp [State.fillAdmit]

@[simp] theorem State.steady_zeroAdmit (cacheFails : Bool) : s.Ends (s.zeroAdmit cacheFails) := by
  unfold State.zeroAdmit
  split
  · simp
  · exact s.steady_classAdmit s _ _ _ _ ⟨rfl, rfl, rfl⟩ fun u => by simp

@[simp] theorem State.steady_repairAdmit : s.Ends (s.repairAdmit) := by
  unfold State.repairAdmit
  split <;> simp

theorem execRegulationAdmit_steady (who : Requester) (cacheFails stagingFails : Bool) :
    s.Ends (execRegulationAdmit who cacheFails s stagingFails) := by
  unfold execRegulationAdmit
  split <;> simp

theorem execPoolEntryGrant_steady (index : Nat) : s.Ends (execPoolEntryGrant index s) := by
  unfold execPoolEntryGrant
  split <;> simp

theorem execWriteAccept_steady (index : Nat) (bitmapFails : Bool) : s.Ends (execWriteAccept index s bitmapFails) := by
  unfold execWriteAccept
  dsimp only
  (repeat' split) <;> simp

theorem execFreezeWindowEnd_steady (k : Fin 16) : s.Ends (execFreezeWindowEnd k s) := by
  unfold execFreezeWindowEnd
  split <;> simp
theorem execDeviceLoadEval_steady : s.Ends (execDeviceLoadEval s) := by
  exact (s.ends_next _).mpr (s.steady_foldl _ _ fun u k => u.steady_setHead k _)
theorem execLcFlushDone_steady : s.Ends (execLcFlushDone s) := by simp [execLcFlushDone]

theorem execSealHoldCopyDone_steady (i : Fin 4) (granule : Nat) (bitmapFails : Bool) :
    s.Ends (execSealHoldCopyDone i granule s bitmapFails) := by
  unfold execSealHoldCopyDone
  dsimp only
  split <;> simp

/-! Machine/ChannelCmds -/

theorem execChannelCommandPick_steady (c : Fin 32) (repairMap journal : SramCheck) :
    s.Ends (execChannelCommandPick c s repairMap journal) := by
  unfold execChannelCommandPick
  dsimp only
  (repeat' split) <;> simp

theorem execHaltPreclose_steady : s.Ends (execHaltPreclose s) := by simp [execHaltPreclose]

theorem execDramReadData_steady (c : Fin 32) (errors : List (Nat × Byte)) : s.Ends (execDramReadData c errors s) := by
  unfold execDramReadData
  dsimp only
  (repeat' split) <;> simp

theorem execUeRetry_steady (c : Fin 32) (errors : List (Nat × Byte)) : s.Ends (execUeRetry c errors s) := by
  unfold execUeRetry
  dsimp only
  (repeat' split) <;> simp

theorem execDramWriteDone_steady (c : Fin 32) : s.Ends (execDramWriteDone c s) := by
  unfold execDramWriteDone
  dsimp only
  (repeat' split) <;> simp

theorem execCaParityAlert_steady (c : Fin 32) : s.Ends (execCaParityAlert c s) := by simp [execCaParityAlert]

/-! Machine/LinkCmds -/

theorem execStandinFillDone_steady (n : Fin 2) : s.Ends (execStandinFillDone n s) := by simp [execStandinFillDone]

theorem execChannelRetrainDone_steady (c : Fin 32) (sweep : List (Nat × BitVec 32)) :
    s.Ends (execChannelRetrainDone c sweep s) := by
  unfold execChannelRetrainDone
  dsimp only
  (repeat' split) <;> simp

theorem execReplayDone_steady (c : Fin 32) (copies : List (Nat × SramCheck)) : s.Ends (execReplayDone c s copies) := by
  simp [execReplayDone]
theorem execReplaySpill_steady (c : Fin 32) : s.Ends (execReplaySpill c s) := by simp [execReplaySpill]
theorem execReplayLimitExpiry_steady (c : Fin 32) : s.Ends (execReplayLimitExpiry c s) := by simp [execReplayLimitExpiry]
theorem execRecalChangeInstant_steady (c : Fin 32) : s.Ends (execRecalChangeInstant c s) := by
  unfold execRecalChangeInstant
  split <;> simp

theorem execExpressRecalTick_steady (d : Fin 2) (l : Fin 64) : s.Ends (execExpressRecalTick d l s) := by
  unfold execExpressRecalTick
  dsimp only
  (repeat' split) <;> simp

theorem execSweepDone_steady (wire : Nat) (passing : BitVec 32) : s.Ends (execSweepDone wire passing s) := by
  unfold execSweepDone
  dsimp only
  (repeat' split) <;> simp

theorem execMissingClock_steady (n : Fin 17) : s.Ends (execMissingClock n s) := by
  have hP := State.steady_composes
  unfold execMissingClock
  dsimp only
  split
  · simp
  · split
    · simp
    · split
      · simp
      · refine (s.ends_finish s _).mpr (hP.andFold (hP.andFold ?_ fun u c => u.steady_setChan c _)
          fun u c => u.steady_loseChannel c)
        simp

theorem execClockColumnWatch_steady (n : Fin 17) (silent : BitVec 4) : s.Ends (execClockColumnWatch n silent s) := by
  simp [execClockColumnWatch]

/-! Machine/ScrubCmds -/

theorem execScrubRead_steady (retiredA retiredB : Bool) : s.Ends (execScrubRead retiredA retiredB s) := by
  unfold execScrubRead
  dsimp only
  (repeat' split) <;> simp

theorem execScrubLag_steady : s.Ends (execScrubLag s) := by simp [execScrubLag]

theorem execRowRepairDone_steady (errors : List (Nat × List (Nat × Byte))) : s.Ends (execRowRepairDone s errors) := by
  unfold execRowRepairDone
  dsimp only
  (repeat' split) <;> simp

/-! Machine/Capacity -/

@[simp] theorem State.steady_mailbox (k : Fin 16) (body : State → State) (h : ∀ s : State, s.Steady (body s)) :
    s.Ends (s.mailbox k body) := by
  simpa [State.mailbox] using fun _ => h s
@[simp] theorem State.steady_fmCommand (p : Path) (body : State → State) (h : ∀ s : State, s.Steady (body s)) :
    s.Ends (s.fmCommand p body) := by
  simpa [State.fmCommand] using fun _ => h s
theorem execGetDynamicCapacityConfiguration_steady (k : Fin 16) : s.Ends (execGetDynamicCapacityConfiguration k s) := by
  simp [execGetDynamicCapacityConfiguration]
theorem execGetDynamicCapacityExtentList_steady (k : Fin 16) : s.Ends (execGetDynamicCapacityExtentList k s) := by
  simp [execGetDynamicCapacityExtentList]
theorem execAddDynamicCapacityResponse_steady (k : Fin 16) (_dpa _len : Nat) :
    s.Ends (execAddDynamicCapacityResponse k _dpa _len s) := by
  simp [execAddDynamicCapacityResponse]
theorem execGetDcdInfo_steady (p : Path) : s.Ends (execGetDcdInfo p s) := by simp [execGetDcdInfo]

theorem execGetHostDcRegionConfiguration_steady (p : Path) (head : BitVec 8) :
    s.Ends (execGetHostDcRegionConfiguration p head s) := by
  refine s.steady_fmCommand p _ fun u => ?_
  split <;> simp

theorem execSetDcRegionConfiguration_steady (p : Path) (head : BitVec 8) (size : Nat) :
    s.Ends (execSetDcRegionConfiguration p head size s) := by
  refine s.steady_fmCommand p _ fun u => ?_
  split <;> simp

theorem execGetDcRegionExtentLists_steady (p : Path) (head : BitVec 8) : s.Ends (execGetDcRegionExtentLists p head s) := by
  refine s.steady_fmCommand p _ fun u => ?_
  split <;> simp
theorem execZeroFillDone_steady (block : Nat) : s.Ends (execZeroFillDone block s) := by simp [execZeroFillDone]

theorem execThawHead_steady (p : Path) (head : BitVec 8) : s.Ends (execThawHead p head s) := by
  refine s.steady_fmCommand p _ fun u => ?_
  split
  · simp
  · split <;> simp

/-! Machine/Mailbox -/

theorem execGetEventRecords_steady (k : Fin 16) (log : EventLog) (count : Nat) : s.Ends (execGetEventRecords k log count s) := by
  simp [execGetEventRecords]
theorem execClearEventRecords_steady (k : Fin 16) (log : EventLog) (count : Nat) :
    s.Ends (execClearEventRecords k log count s) := by
  simp [execClearEventRecords]
theorem execGetEventInterruptPolicy_steady (k : Fin 16) : s.Ends (execGetEventInterruptPolicy k s) := by
  simp [execGetEventInterruptPolicy]
theorem execSetEventInterruptPolicy_steady (k : Fin 16) (policy : BitVec 32) :
    s.Ends (execSetEventInterruptPolicy k policy s) := by
  simp [execSetEventInterruptPolicy]
theorem execFmEvents_steady (p : Path) (log : EventLog) (clear : Bool) (count : Nat) :
    s.Ends (execFmEvents p log clear count s) := by
  simp [execFmEvents]
theorem execGetTimestamp_steady (k : Fin 16) : s.Ends (execGetTimestamp k s) := by simp [execGetTimestamp]
theorem execSetTimestamp_steady (k : Fin 16) (_value : Word) (_other : Option (BitVec 16)) :
    s.Ends (execSetTimestamp k _value s _other) := by
  simp [execSetTimestamp]
theorem execGetSupportedLogs_steady (k : Fin 16) : s.Ends (execGetSupportedLogs k s) := by simp [execGetSupportedLogs]
theorem execGetLog_steady (k : Fin 16) (commandEffects : Bool) : s.Ends (execGetLog k s commandEffects) := by simp [execGetLog]
theorem execIdentifyMemoryDevice_steady (k : Fin 16) : s.Ends (execIdentifyMemoryDevice k s) := by
  simp [execIdentifyMemoryDevice]
theorem execGetHealthInfo_steady (k : Fin 16) : s.Ends (execGetHealthInfo k s) := by simp [execGetHealthInfo]
theorem execGetPoisonList_steady (k : Fin 16) : s.Ends (execGetPoisonList k s) := by simp [execGetPoisonList]
theorem execInjectPoison_steady (k : Fin 16) (dpa : Nat) : s.Ends (execInjectPoison k dpa s) := by simp [execInjectPoison]
theorem execClearPoison_steady (k : Fin 16) (dpa : Nat) (data : Line) : s.Ends (execClearPoison k dpa data s) := by
  simp [execClearPoison]
theorem execGetHaltTimetable_steady (k : Fin 16) : s.Ends (execGetHaltTimetable k s) := by simp [execGetHaltTimetable]
theorem execGetTimeState_steady (k : Fin 16) : s.Ends (execGetTimeState k s) := by simp [execGetTimeState]
theorem execGetHeadState_steady (k : Fin 16) (head : BitVec 8) : s.Ends (execGetHeadState k head s) := by
  refine s.steady_mailbox k _ fun u => ?_
  split <;> simp
theorem execFmGetHeadState_steady (p : Path) (head : BitVec 8) : s.Ends (execFmGetHeadState p head s) := by
  refine s.steady_fmCommand p _ fun u => ?_
  split <;> simp
theorem execGetFloor_steady (k : Fin 16) : s.Ends (execGetFloor k s) := by simp [execGetFloor]
theorem execGetIdentityKey_steady (k : Fin 16) : s.Ends (execGetIdentityKey k s) := by simp [execGetIdentityKey]
theorem execFmGetIdentityKey_steady (p : Path) : s.Ends (execFmGetIdentityKey p s) := by simp [execFmGetIdentityKey]
theorem execFmInformationAndStatus_steady (p : Path) : s.Ends (execFmInformationAndStatus p s) := by
  simp [execFmInformationAndStatus]
theorem execGetMultiHeadedInfo_steady (p : Path) : s.Ends (execGetMultiHeadedInfo p s) := by simp [execGetMultiHeadedInfo]
theorem execGetHeadInfo_steady (p : Path) (head : BitVec 8) : s.Ends (execGetHeadInfo p head s) := by
  refine s.steady_fmCommand p _ fun u => ?_
  split <;> simp
theorem execCxlIoConfigAccess_steady (k : Fin 16) (access : CfgAccess) : s.Ends (execCxlIoConfigAccess k access s) := by
  unfold execCxlIoConfigAccess
  split <;> simp
theorem execCdatTableAccess_steady (k : Fin 16) : s.Ends (execCdatTableAccess k s) := by simp [execCdatTableAccess]
theorem execI3cEntdaa_steady (addr : BitVec 7) : s.Ends (execI3cEntdaa addr s) := by simp [execI3cEntdaa]
theorem execSetEndpointId_steady (p : Path) (eid : Byte) : s.Ends (execSetEndpointId p eid s) := by
  unfold execSetEndpointId
  split <;> simp

/-! Machine/Image -/

theorem execTransferFw_steady (p : Path) (slot : Byte) (offset : Nat) (data : List Byte) (last : Bool) :
    s.Ends (execTransferFw p slot offset data s last) := by
  simp [execTransferFw]
theorem execGetFwInfo_steady (k : Fin 16) : s.Ends (execGetFwInfo k s) := by simp [execGetFwInfo]
theorem execActivateFw_steady (p : Path) (slot action : Byte) : s.Ends (execActivateFw p s slot action) := by
  simp [execActivateFw]
theorem execImageChecksDone_steady : s.Ends (execImageChecksDone s) := by
  unfold execImageChecksDone
  split <;> simp
theorem execActivationThreadsQuiesced_steady : s.Ends (execActivationThreadsQuiesced s) := by
  unfold execActivationThreadsQuiesced
  split <;> simp
theorem execActivationStopWaitExpiry_steady : s.Ends (execActivationStopWaitExpiry s) := by
  unfold execActivationStopWaitExpiry
  split <;> simp
theorem execImageLoadDone_steady : s.Ends (execImageLoadDone s) := by
  unfold execImageLoadDone
  split <;> simp

/-! Machine/Attest -/

@[simp] theorem State.steady_spdm (ch : Path) (body : State → State) (h : ∀ s : State, s.Steady (body s)) :
    s.Ends (s.spdm ch body) := by
  simpa [State.spdm] using fun _ => h s
theorem execGetVersion_steady (ch : Path) : s.Ends (execGetVersion ch s) := by simp [execGetVersion]
theorem execGetCapabilities_steady (ch : Path) : s.Ends (execGetCapabilities ch s) := by simp [execGetCapabilities]
theorem execNegotiateAlgorithms_steady (ch : Path) (selection : SpdmSelection) :
    s.Ends (execNegotiateAlgorithms ch selection s) := by
  simp [execNegotiateAlgorithms]
theorem execChallenge_steady (ch : Path) (request : List Byte) : s.Ends (execChallenge ch request s) := by
  refine s.steady_spdm ch _ fun u => ?_
  split <;> simp

theorem execGetMeasurements_steady (ch : Path) (index : Byte) (signed : Bool) (request : List Byte) :
    s.Ends (execGetMeasurements ch index signed request s) := by
  refine s.steady_spdm ch _ fun u => ?_
  split <;> simp

theorem execSpdmUnsupportedRequest_steady (ch : Path) (code : Byte) : s.Ends (execSpdmUnsupportedRequest ch code s) := by
  simp [execSpdmUnsupportedRequest]

/-! Machine/CriostAlu -/

theorem execNop_steady (t : Fin 8) (f : InsnFields) (unlisted : Option (BitVec 8)) (fetchFails : Bool) :
    s.Ends (execNop t f s unlisted fetchFails) := by
  simp [execNop]
theorem execStop_steady (t : Fin 8) (f : InsnFields) : s.Ends (execStop t f s) := by simp [execStop]
theorem execYield_steady (t : Fin 8) (f : InsnFields) : s.Ends (execYield t f s) := by simp [execYield]

theorem execYieldEnd_steady (t : Fin 8) : s.Ends (execYieldEnd t s) := by
  unfold execYieldEnd
  dsimp only
  split <;> simp

theorem execAdd_steady (t : Fin 8) (f : InsnFields) : s.Ends (execAdd t f s) := by simp [execAdd]
theorem execSub_steady (t : Fin 8) (f : InsnFields) : s.Ends (execSub t f s) := by simp [execSub]
theorem execAnd_steady (t : Fin 8) (f : InsnFields) : s.Ends (execAnd t f s) := by simp [execAnd]
theorem execOr_steady (t : Fin 8) (f : InsnFields) : s.Ends (execOr t f s) := by simp [execOr]
theorem execXor_steady (t : Fin 8) (f : InsnFields) : s.Ends (execXor t f s) := by simp [execXor]
theorem execShl_steady (t : Fin 8) (f : InsnFields) : s.Ends (execShl t f s) := by simp [execShl]
theorem execShr_steady (t : Fin 8) (f : InsnFields) : s.Ends (execShr t f s) := by simp [execShr]
theorem execSar_steady (t : Fin 8) (f : InsnFields) : s.Ends (execSar t f s) := by simp [execSar]
theorem execMul_steady (t : Fin 8) (f : InsnFields) : s.Ends (execMul t f s) := by simp [execMul]
theorem execCmp_steady (t : Fin 8) (f : InsnFields) : s.Ends (execCmp t f s) := by simp [execCmp]
theorem execMovi_steady (t : Fin 8) (f : InsnFields) : s.Ends (execMovi t f s) := by simp [execMovi]
theorem execMovhi_steady (t : Fin 8) (f : InsnFields) : s.Ends (execMovhi t f s) := by simp [execMovhi]
theorem execAddi_steady (t : Fin 8) (f : InsnFields) : s.Ends (execAddi t f s) := by simp [execAddi]
theorem execLd_steady (t : Fin 8) (f : InsnFields) (checkFails bothFail : Bool) : s.Ends (execLd t f checkFails s bothFail) := by
  simp [execLd]
theorem execSt_steady (t : Fin 8) (f : InsnFields) : s.Ends (execSt t f s) := by simp [execSt]
theorem execLdw_steady (t : Fin 8) (f : InsnFields) (checkFails bothFail : Bool) :
    s.Ends (execLdw t f checkFails s bothFail) := by
  simp [execLdw]
theorem execStw_steady (t : Fin 8) (f : InsnFields) : s.Ends (execStw t f s) := by simp [execStw]
theorem execBr_steady (t : Fin 8) (f : InsnFields) : s.Ends (execBr t f s) := by simp [execBr]
theorem execBc_steady (t : Fin 8) (f : InsnFields) : s.Ends (execBc t f s) := by simp [execBc]
theorem execCall_steady (t : Fin 8) (f : InsnFields) : s.Ends (execCall t f s) := by simp [execCall]

theorem execRet_steady (t : Fin 8) (f : InsnFields) : s.Ends (execRet t f s) := by
  refine (s.ends_finish s _).mpr (s.steady_issue _ _ _ _ _ fun u => ?_)
  dsimp only
  split
  · simp
  · split <;> simp

theorem execBrl_steady (t : Fin 8) (f : InsnFields) : s.Ends (execBrl t f s) := by simp [execBrl]

/-! Machine/Firing -/

theorem execComparatorFire_steady (n : Fin 64) : s.Ends (execComparatorFire n s) := by simp [execComparatorFire]

/-! Machine/Thermal -/

theorem execThermalEvaluation_steady (n : Fin 18) (first : Option (BitVec 10)) (others : List (Option (BitVec 10))) :
    s.Ends (execThermalEvaluation n first others s) := by
  simp [execThermalEvaluation]
theorem execCanaryInterval_steady (n : Fin 18) (flips : Nat) : s.Ends (execCanaryInterval n flips s) := by
  simp [execCanaryInterval]
theorem execGraceExpiry_steady : s.Ends (execGraceExpiry s) := by
  unfold execGraceExpiry
  split <;> simp
theorem execShutdownDrainDone_steady : s.Ends (execShutdownDrainDone s) := by simp [execShutdownDrainDone]

theorem execShutdownPowerDown_steady : s.Ends (execShutdownPowerDown s) := by
  have hd := State.steady_composes.trans s.steady_linksDown (s.linksDown.steady_domainsOff true)
  unfold execShutdownPowerDown
  generalize s.linksDown.domainsOff true = u at hd
  split
  · split
    · exact (s.ends_finish s _).mpr (State.steady_composes.trans hd (by simp))
    · simp
  · simp

theorem execShutdownTimeout_steady : s.Ends (execShutdownTimeout s) := by
  unfold execShutdownTimeout
  split <;> simp

/-! Machine/PowerCmds -/

theorem execDomainTransitionDone_steady (n : Fin 64) : s.Ends (execDomainTransitionDone n s) := by
  unfold execDomainTransitionDone
  split <;> simp
theorem execDomainWakeDone_steady (n : Fin 64) (failed : BitVec 16) : s.Ends (execDomainWakeDone n failed s) := by
  unfold execDomainWakeDone
  split <;> simp

theorem execLayerWakeFillDone_steady (n : Fin 16) (sweep : List (Nat × BitVec 32)) :
    s.Ends (execLayerWakeFillDone n s sweep) := by
  unfold execLayerWakeFillDone
  dsimp only
  split <;> simp

/-! Machine/Startup -/

theorem execPowerUp_steady : s.Ends (execPowerUp s) := by simp [execPowerUp]
@[simp] theorem State.steady_supplyLimit (r : SupplyReading) (flag : Nat) (passed : Bool) :
    s.Ends (s.supplyLimit r flag passed) := by
  simp [State.supplyLimit]
theorem execVinLow_steady (reading : SupplyReading) : s.Ends (execVinLow reading s) := by simp [execVinLow]
theorem execVinHigh_steady (reading : SupplyReading) : s.Ends (execVinHigh reading s) := by simp [execVinHigh]
theorem execAonStartDone_steady (vin iin pin : BitVec 16) (convTemp : Byte) (convOk : Bool) :
    s.Ends (execAonStartDone vin iin pin convTemp s convOk) := by
  simp [execAonStartDone]
theorem execModuleRelease_steady : s.Ends (execModuleRelease s) := by simp [execModuleRelease]
theorem execStrapSample_steady (headcfg : BitVec 2) : s.Ends (execStrapSample headcfg s) := by simp [execStrapSample]
theorem execStackClockReady_steady : s.Ends (execStackClockReady s) := by simp [execStackClockReady]

theorem execBootFillDone_steady (sweep : List (Nat × BitVec 32)) (clocks : List (Nat × BitVec 4)) :
    s.Ends (execBootFillDone sweep clocks s) := by
  have hP := State.steady_composes
  have hf : s.Steady (s.bootTrain sweep clocks).bootFill := hP.trans (s.steady_bootTrain sweep clocks) (State.steady_bootFill _)
  have hend : ∀ f : State, s.Steady f → s.Ends (finish s f.scrubStarts.startLanes) := fun f h =>
    (s.ends_finish s _).mpr (hP.trans (hP.trans h ⟨rfl, rfl, rfl⟩) f.scrubStarts.steady_startLanes)
  by_cases h : s.fld aSU_STATUS 0 4 ≠ 4 ∨ s.pins.held = true
  · rw [show execBootFillDone sweep clocks s = .next s from if_pos h]
    exact (s.ends_next s).mpr (hP.refl s)
  · rw [show execBootFillDone sweep clocks s = finish s (s.bootTrain sweep clocks).bootFill.scrubStarts.startLanes from if_neg h]
    exact hend _ hf

theorem execServiceColumnFail_steady : s.Ends (execServiceColumnFail s) := by simp [execServiceColumnFail]
theorem execCfgCheckStart_steady : s.Ends (execCfgCheckStart s) := by simp [execCfgCheckStart]
theorem execCfgCheckDone_steady : s.Ends (execCfgCheckDone s) := by simp [execCfgCheckDone]

/-! Machine/TimeCmds -/

theorem execCycleMark_steady (sub : BitVec 7) (delay : BitVec 16) : s.Ends (execCycleMark sub s delay) := by
  unfold execCycleMark
  dsimp only
  (repeat' split) <;> simp

theorem execThifinFrame_steady (sync : BitVec 16) (rt : Word) (domain flags crc : BitVec 16) :
    s.Ends (execThifinFrame sync rt domain flags crc s) := by
  simp [execThifinFrame]
theorem execTlineFlat_steady (inFrame : Bool) : s.Ends (execTlineFlat inFrame s) := by simp [execTlineFlat]
theorem execTlineSignalReturn_steady : s.Ends (execTlineSignalReturn s) := by simp [execTlineSignalReturn]
theorem execMarkMissing_steady : s.Ends (execMarkMissing s) := by
  unfold execMarkMissing
  split <;> simp
theorem execPtmDialogueStart_steady : s.Ends (execPtmDialogueStart s) := by simp [execPtmDialogueStart]

theorem execPtmDialogueComplete_steady (answer : Option (Word × BitVec 8)) : s.Ends (execPtmDialogueComplete answer s) := by
  unfold execPtmDialogueComplete
  dsimp only
  (repeat' split) <;> simp

theorem execCorrectionComplete_steady : s.Ends (execCorrectionComplete s) := by simp [execCorrectionComplete]
theorem cycleTrust_steady : s.Ends (cycleTrust s) := by simp [cycleTrust]
theorem execBoundOverLimit_steady : s.Ends (execBoundOverLimit s) := by simp [execBoundOverLimit]
theorem execAliveToggle_steady : s.Ends (execAliveToggle s) := by simp [execAliveToggle]
theorem execRackCyclePulse_steady : s.Ends (execRackCyclePulse s) := by simp [execRackCyclePulse]

theorem execAuxPulseEnd_steady (pin : Fin 2) : s.Ends (execAuxPulseEnd pin s) := by
  unfold execAuxPulseEnd
  dsimp only
  split <;> simp

theorem execAuxARisingEdge_steady (width8ns : Bool) : s.Ends (execAuxARisingEdge width8ns s) := by simp [execAuxARisingEdge]
theorem execMgmtVendorMessage_steady : s.Ends (execMgmtVendorMessage s) := by simp [execMgmtVendorMessage]
theorem execWatchdogExpiry_steady : s.Ends (execWatchdogExpiry s) := by simp [execWatchdogExpiry]

end Sys2Proof.Machine

namespace Sys2Proof.Machine

open Sys2Proof.Claims

/-! The commands that change the fuses or the grants -/

theorem State.blow_frame (s : State) (ws : List (Nat × Word)) (xs : List OtpSense) :
    (s.blow ws xs).1.pending = s.pending ∧ (s.blow ws xs).1.grants = s.grants := by
  induction ws generalizing s xs with
  | nil => exact ⟨rfl, rfl⟩
  | cons w ws ih =>
    unfold State.blow
    dsimp only
    split
    · split
      · exact ⟨rfl, rfl⟩
      · exact ih _ _
    · exact ⟨rfl, rfl⟩

theorem execOtpCommandDone_frame (s : State) (sensed : List OtpSense) (t : State) (h : execOtpCommandDone sensed s = .next t) :
    t.pending = s.pending ∧ t.grants = s.grants := by
  have hblow : ∀ (u : State) (c : OtpCmd), (u.blowDone c sensed).pending = u.pending
      ∧ (u.blowDone c sensed).grants = u.grants := by
    intro u c
    unfold State.blowDone
    dsimp only
    have hb := u.blow_frame (if c.op = 4
      then c.raise.map (fun w => (w, BitVec.ofNat 64 (0xA5A5A5A500000000 + (w - 192) + 1))) else [(c.word, c.data)]) sensed
    split <;> simp_all
  unfold execOtpCommandDone at h
  split at h
  · cases h; exact ⟨rfl, rfl⟩
  · cases h
    have := hblow
    split <;> simp_all

theorem execOtpBootReadDone_frame (s : State) (sensed : List (Nat × OtpSense)) (t : State)
    (h : execOtpBootReadDone sensed s = .next t) : t.pending = s.pending ∧ t.grants = s.grants := by
  unfold execOtpBootReadDone at h
  split at h
  · cases h; exact ⟨rfl, rfl⟩
  · dsimp only at h
    generalize hu : State.otpRefresh _ = u at h
    have hp : u.pending = s.pending := hu ▸ (State.steady_otpRefresh _).1.trans (State.steady_otpClassEvents _ _).1
    have hg : u.grants = s.grants := hu ▸ (State.steady_otpRefresh _).2.2.trans (State.steady_otpClassEvents _ _).2.2
    generalize List.filter _ (List.range 128) = bad at h
    cases h
    simp [hp, hg]

theorem execPwrGoodRelease_pending (s : State) (r : Bool) (t : State) (h : execPwrGoodRelease s r = .next t) :
    t.pending = s.pending := by
  unfold execPwrGoodRelease at h
  cases h
  split <;> rfl

theorem execPowerLoss_pending (s : State) (t : State) (h : execPowerLoss s = .next t) : t.pending = s.pending := by
  unfold execPowerLoss at h
  split at h <;> cases h <;> rfl

theorem execModuleReset_frame (s : State) (t : State) (h : execModuleReset s = .next t) :
    t.pending = s.pending ∧ t.otp.words = s.otp.words := by
  have hd : ∀ cs : List Nat, s.Steady (cs.foldl State.dropMeasures s.losePtm) := fun cs =>
    State.steady_composes.andFold s.steady_losePtm fun u c => u.steady_dropMeasures c
  have hm : s.moduleReset.pending = s.pending ∧ s.moduleReset.otp.words = s.otp.words := by
    unfold State.moduleReset
    have := hd
    simp_all
  unfold execModuleReset at h
  cases h
  split <;> simp_all

theorem State.releaseBlock_frame (s : State) (k b : Nat) :
    (s.releaseBlock k b).pending = s.pending ∧ (s.releaseBlock k b).otp.words = s.otp.words := by
  unfold State.releaseBlock State.siTake
  dsimp only
  split
  · exact ⟨rfl, rfl⟩
  · split
    · next h =>
      split at h
      · cases h
        simp
      · cases h
    · exact ⟨rfl, rfl⟩

theorem State.release_frame (s : State) (k : Fin 16) (event dpa len : Nat) :
    (s.release k event dpa len).1.pending = s.pending ∧ (s.release k event dpa len).1.otp.words = s.otp.words := by
  unfold State.release
  split
  · exact ⟨rfl, rfl⟩
  · split
    · simp [State.releaseBlock_frame]
    · exact ⟨rfl, rfl⟩

theorem State.mailbox_cases {s t : State} {k : Fin 16} {body : State → State} (h : s.mailbox k body = .next t) :
    t = State.settle s (body s) ∨ t = s := by
  unfold State.mailbox at h
  split at h <;> cases h
  · exact .inl rfl
  · exact .inr rfl

theorem State.fmCommand_cases {s t : State} {p : Path} {body : State → State} (h : s.fmCommand p body = .next t) :
    t = State.settle s (body s) ∨ t = s := by
  unfold State.fmCommand at h
  split at h <;> cases h
  · exact .inl rfl
  · exact .inr rfl

theorem execReleaseDynamicCapacity_frame (s : State) (k : Fin 16) (dpa len : Nat) (t : State)
    (h : execReleaseDynamicCapacity k dpa len s = .next t) : t.pending = s.pending ∧ t.otp.words = s.otp.words := by
  obtain rfl | rfl := State.mailbox_cases h
  · split <;> simp [State.release_frame]
  · exact ⟨rfl, rfl⟩

theorem execInitiateDynamicCapacityRelease_frame (s : State) (p : Path) (x : BitVec 8) (dpa len : Nat) (t : State)
    (h : execInitiateDynamicCapacityRelease p x dpa len s = .next t) :
    t.pending = s.pending ∧ t.otp.words = s.otp.words := by
  obtain rfl | rfl := State.fmCommand_cases h
  · split
    · simp
    · split <;> simp [State.release_frame]
  · exact ⟨rfl, rfl⟩

theorem execInitiateDynamicCapacityAdd_frame (s : State) (p : Path) (x : BitVec 8) (dpa len tag : Nat) (t : State)
    (h : execInitiateDynamicCapacityAdd p x dpa len tag s = .next t) :
    t.pending = s.pending ∧ t.otp.words = s.otp.words := by
  obtain rfl | rfl := State.fmCommand_cases h
  · split
    · simp
    · split
      · simp
      · simp [State.grantBlocks]
  · exact ⟨rfl, rfl⟩

end Sys2Proof.Machine

namespace Sys2Proof.Machine

open Sys2Proof.Claims

/-- The commands that change the fuses or the grants (R182, R183, R532, R541, R631). -/
inductive ChangesHoldings : Instr → Prop where
  | otpCommandDone x : ChangesHoldings (.otpCommandDone x)
  | otpBootReadDone x : ChangesHoldings (.otpBootReadDone x)
  | pwrGoodRelease r : ChangesHoldings (.pwrGoodRelease r)
  | powerLoss : ChangesHoldings .powerLoss
  | moduleReset : ChangesHoldings .moduleReset
  | releaseDynamicCapacity k a n : ChangesHoldings (.releaseDynamicCapacity k a n)
  | initiateDynamicCapacityAdd p x a n g : ChangesHoldings (.initiateDynamicCapacityAdd p x a n g)
  | initiateDynamicCapacityRelease p x a n : ChangesHoldings (.initiateDynamicCapacityRelease p x a n)

/-- Every other command leaves the queue, the fuses and the grants as they were. -/
theorem exec_ends (i : Instr) (s : State) (h : ¬ChangesHoldings i) : s.Ends (exec i s) := by
  cases i with
  | nop _ _ _ _ => exact execNop_steady s _ _ _ _
  | stop _ _ => exact execStop_steady s _ _
  | yield _ _ => exact execYield_steady s _ _
  | yieldEnd _ => exact execYieldEnd_steady s _
  | add _ _ => exact execAdd_steady s _ _
  | sub _ _ => exact execSub_steady s _ _
  | and _ _ => exact execAnd_steady s _ _
  | or _ _ => exact execOr_steady s _ _
  | xor _ _ => exact execXor_steady s _ _
  | shl _ _ => exact execShl_steady s _ _
  | shr _ _ => exact execShr_steady s _ _
  | sar _ _ => exact execSar_steady s _ _
  | mul _ _ => exact execMul_steady s _ _
  | cmp _ _ => exact execCmp_steady s _ _
  | movi _ _ => exact execMovi_steady s _ _
  | movhi _ _ => exact execMovhi_steady s _ _
  | addi _ _ => exact execAddi_steady s _ _
  | ld _ _ _ _ => exact execLd_steady s _ _ _ _
  | st _ _ => exact execSt_steady s _ _
  | ldw _ _ _ _ => exact execLdw_steady s _ _ _ _
  | stw _ _ => exact execStw_steady s _ _
  | br _ _ => exact execBr_steady s _ _
  | bc _ _ => exact execBc_steady s _ _
  | call _ _ => exact execCall_steady s _ _
  | ret _ _ => exact execRet_steady s _ _
  | brl _ _ => exact execBrl_steady s _ _
  | crd _ _ => exact execCrd_steady s _ _
  | crdReturn _ => exact execCrdReturn_steady s _
  | cwr _ _ => exact execCwr_steady s _ _
  | cwrQueueEntryFree => exact execCwrQueueEntryFree_steady s
  | cwrDelivery => exact execCwrDelivery_steady s
  | upd _ _ => exact execUpd_steady s _ _
  | updExecute _ => exact execUpdExecute_steady s _
  | updt _ _ => exact execUpdt_steady s _ _
  | tnow _ _ => exact execTnow_steady s _ _
  | twait _ _ => exact execTwait_steady s _ _
  | twaitEnd _ => exact execTwaitEnd_steady s _
  | tarm _ _ => exact execTarm_steady s _ _
  | tdisarm _ _ => exact execTdisarm_steady s _ _
  | tdisarmFree _ _ => exact execTdisarmFree_steady s _ _
  | ttrust _ _ => exact execTtrust_steady s _ _
  | claunch _ _ => exact execClaunch_steady s _ _
  | cwait _ _ => exact execCwait_steady s _ _
  | cwaitEnd _ => exact execCwaitEnd_steady s _
  | cstat _ _ => exact execCstat_steady s _ _
  | cabort _ _ => exact execCabort_steady s _ _
  | ewait _ _ => exact execEwait_steady s _ _
  | ewaitEnd _ => exact execEwaitEnd_steady s _
  | esig _ _ => exact execEsig_steady s _ _
  | eclr _ _ => exact execEclr_steady s _ _
  | preq _ _ => exact execPreq_steady s _ _
  | preqComplete _ => exact execPreqComplete_steady s _
  | snap _ _ => exact execSnap_steady s _ _
  | snapRe _ _ => exact execSnapRe_steady s _ _
  | sealArm _ _ => exact execSealArm_steady s _ _
  | sealCancel _ _ => exact execSealCancel_steady s _ _
  | sealRead _ _ => exact execSealRead_steady s _ _
  | outingArm _ _ => exact execOutingArm_steady s _ _
  | outingCancel _ _ => exact execOutingCancel_steady s _ _
  | fault _ _ => exact execFault_steady s _ _
  | faultWithStop _ _ => exact execFaultWithStop_steady s _ _
  | ttHaltWrite _ _ => exact execTtHaltWrite_steady s _ _
  | ttThawWrite _ _ => exact execTtThawWrite_steady s _ _
  | descCopy _ => exact execDescCopy_steady s _
  | descFill _ => exact execDescFill_steady s _
  | descCmp _ => exact execDescCmp_steady s _
  | descCrc _ => exact execDescCrc_steady s _
  | descGather _ => exact execDescGather_steady s _
  | descScatter _ => exact execDescScatter_steady s _
  | peerwr _ => exact execPeerwr_steady s _
  | peerrd _ => exact execPeerrd_steady s _
  | sealcopy _ _ => exact execSealcopy_steady s _ _
  | waitt _ => exact execWaitt_steady s _
  | waittExternal _ => exact execWaittExternal_steady s _
  | notify _ => exact execNotify_steady s _
  | descLink _ => exact execDescLink_steady s _
  | descEnd _ => exact execDescEnd_steady s _
  | descriptorComplete _ => exact execDescriptorComplete_steady s _
  | waittDeadline _ => exact execWaittDeadline_steady s _
  | carriageTimeout _ => exact execCarriageTimeout_steady s _
  | uioCompletion _ _ _ _ _ => exact execUioCompletion_steady s _ _ _ _ _
  | carThaw _ _ => exact execCarThaw_steady s _ _
  | sealHoldCopyDone _ _ _ => exact execSealHoldCopyDone_steady s _ _ _
  | memRd _ _ _ _ => exact execMemRd_steady s _ _ _ _
  | memRdData _ _ _ _ => exact execMemRdData_steady s _ _ _ _
  | memInv _ _ _ _ => exact execMemInv_steady s _ _ _ _
  | memSpecRd _ _ _ _ => exact execMemSpecRd_steady s _ _ _ _
  | memWr _ _ _ _ _ => exact execMemWr_steady s _ _ _ _ _
  | memWrPtl _ _ _ _ _ _ => exact execMemWrPtl_steady s _ _ _ _ _ _
  | uioMemoryRead _ _ _ _ _ => exact execUioMemoryRead_steady s _ _ _ _ _
  | uioMemoryWrite _ _ _ _ _ _ _ => exact execUioMemoryWrite_steady s _ _ _ _ _ _ _
  | flitCrcFail _ => exact execFlitCrcFail_steady s _
  | cxlIoConfigAccess _ _ => exact execCxlIoConfigAccess_steady s _ _
  | freezeWindowEnd _ => exact execFreezeWindowEnd_steady s _
  | deviceLoadEval => exact execDeviceLoadEval_steady s
  | regulationAdmit _ _ _ => exact execRegulationAdmit_steady s _ _ _
  | poolEntryGrant _ => exact execPoolEntryGrant_steady s _
  | writeAccept _ _ => exact execWriteAccept_steady s _ _
  | channelCommandPick _ _ _ => exact execChannelCommandPick_steady s _ _ _
  | dramReadData _ _ => exact execDramReadData_steady s _ _
  | dramWriteDone _ => exact execDramWriteDone_steady s _
  | ueRetry _ _ => exact execUeRetry_steady s _ _
  | haltPreclose => exact execHaltPreclose_steady s
  | haltActStop => exact execHaltActStop_steady s
  | haltOpen => exact execHaltOpen_steady s
  | haltRefab => exact execHaltRefab_steady s
  | haltWindowEnd => exact execHaltWindowEnd_steady s
  | deferredHaltOpen => exact execDeferredHaltOpen_steady s
  | fallbackCommit => exact execFallbackCommit_steady s
  | fallbackHalt => exact execFallbackHalt_steady s
  | thifinFrame _ _ _ _ _ => exact execThifinFrame_steady s _ _ _ _ _
  | cycleMark _ _ => exact execCycleMark_steady s _ _
  | tlineFlat _ => exact execTlineFlat_steady s _
  | markMissing => exact execMarkMissing_steady s
  | ptmDialogueStart => exact execPtmDialogueStart_steady s
  | ptmDialogueComplete _ => exact execPtmDialogueComplete_steady s _
  | correctionComplete => exact execCorrectionComplete_steady s
  | boundOverLimit => exact execBoundOverLimit_steady s
  | tuAckWrite _ _ => exact execTuAckWrite_steady s _ _
  | tuRtRead _ => exact execTuRtRead_steady s _
  | comparatorFire _ => exact execComparatorFire_steady s _
  | tcCtrlWrite _ _ _ => exact execTcCtrlWrite_steady s _ _ _
  | tcValueWrite _ _ _ => exact execTcValueWrite_steady s _ _ _
  | aliveToggle => exact execAliveToggle_steady s
  | losAssert _ _ => exact execLosAssert_steady s _ _
  | losDeassert _ => exact execLosDeassert_steady s _
  | lolAssert _ _ => exact execLolAssert_steady s _ _
  | lolDeassert _ => exact execLolDeassert_steady s _
  | perstNAssert _ => exact execPerstNAssert_steady s _
  | perstNDeassert _ => exact execPerstNDeassert_steady s _
  | linkTrainingStart _ _ _ _ _ _ => exact execLinkTrainingStart_steady s _ _ _ _ _ _
  | linkUp _ _ _ => exact execLinkUp_steady s _ _ _
  | directedSpeedChange _ => exact execDirectedSpeedChange_steady s _
  | speedChangeComplete _ _ _ => exact execSpeedChangeComplete_steady s _ _ _
  | eqPhase3Request _ _ _ => exact execEqPhase3Request_steady s _ _ _
  | eqRedoRequest _ _ => exact execEqRedoRequest_steady s _ _
  | eqBypassRequest _ => exact execEqBypassRequest_steady s _
  | deskewDriftOverflow _ => exact execDeskewDriftOverflow_steady s _
  | recoveryFailure _ => exact execRecoveryFailure_steady s _
  | hotReset _ => exact execHotReset_steady s _
  | linkDisable _ => exact execLinkDisable_steady s _
  | loopbackFollowerEntry _ => exact execLoopbackFollowerEntry_steady s _
  | lnTestEnable _ _ _ => exact execLnTestEnable_steady s _ _ _
  | lnTestDisable _ _ _ => exact execLnTestDisable_steady s _ _ _
  | injectSingle _ _ _ => exact execInjectSingle_steady s _ _ _
  | injectBurst _ _ _ => exact execInjectBurst_steady s _ _ _
  | injectRate _ _ _ => exact execInjectRate_steady s _ _ _
  | injectStop _ _ _ => exact execInjectStop_steady s _ _ _
  | injectDone _ => exact execInjectDone_steady s _
  | checkerSync _ _ => exact execCheckerSync_steady s _ _
  | checkerSyncLoss _ => exact execCheckerSyncLoss_steady s _
  | eqDigestDone => exact execEqDigestDone_steady s
  | getEventRecords _ _ _ => exact execGetEventRecords_steady s _ _ _
  | clearEventRecords _ _ _ => exact execClearEventRecords_steady s _ _ _
  | getEventInterruptPolicy _ => exact execGetEventInterruptPolicy_steady s _
  | setEventInterruptPolicy _ _ => exact execSetEventInterruptPolicy_steady s _ _
  | getFwInfo _ => exact execGetFwInfo_steady s _
  | transferFw _ _ _ _ _ => exact execTransferFw_steady s _ _ _ _ _
  | activateFw _ _ _ => exact execActivateFw_steady s _ _ _
  | activationThreadsQuiesced => exact execActivationThreadsQuiesced_steady s
  | activationStopWaitExpiry => exact execActivationStopWaitExpiry_steady s
  | imageLoadDone => exact execImageLoadDone_steady s
  | getTimestamp _ => exact execGetTimestamp_steady s _
  | setTimestamp k v other => exact execSetTimestamp_steady s k v other
  | getSupportedLogs _ => exact execGetSupportedLogs_steady s _
  | getLog _ _ => exact execGetLog_steady s _ _
  | identifyMemoryDevice _ => exact execIdentifyMemoryDevice_steady s _
  | getHealthInfo _ => exact execGetHealthInfo_steady s _
  | getPoisonList _ => exact execGetPoisonList_steady s _
  | injectPoison _ _ => exact execInjectPoison_steady s _ _
  | clearPoison _ _ _ => exact execClearPoison_steady s _ _ _
  | getDynamicCapacityConfiguration _ => exact execGetDynamicCapacityConfiguration_steady s _
  | getDynamicCapacityExtentList _ => exact execGetDynamicCapacityExtentList_steady s _
  | addDynamicCapacityResponse k dpa len => exact execAddDynamicCapacityResponse_steady s k dpa len
  | releaseDynamicCapacity _ _ _ => exact absurd (.releaseDynamicCapacity _ _ _) h
  | getHaltTimetable _ => exact execGetHaltTimetable_steady s _
  | getTimeState _ => exact execGetTimeState_steady s _
  | getHeadState _ _ => exact execGetHeadState_steady s _ _
  | getFloor _ => exact execGetFloor_steady s _
  | getIdentityKey _ => exact execGetIdentityKey_steady s _
  | fmInformationAndStatus _ => exact execFmInformationAndStatus_steady s _
  | fmEvents _ _ _ _ => exact execFmEvents_steady s _ _ _ _
  | getMultiHeadedInfo _ => exact execGetMultiHeadedInfo_steady s _
  | getHeadInfo _ _ => exact execGetHeadInfo_steady s _ _
  | getDcdInfo _ => exact execGetDcdInfo_steady s _
  | getHostDcRegionConfiguration _ _ => exact execGetHostDcRegionConfiguration_steady s _ _
  | setDcRegionConfiguration _ _ _ => exact execSetDcRegionConfiguration_steady s _ _ _
  | getDcRegionExtentLists _ _ => exact execGetDcRegionExtentLists_steady s _ _
  | initiateDynamicCapacityAdd _ _ _ _ _ => exact absurd (.initiateDynamicCapacityAdd _ _ _ _ _) h
  | initiateDynamicCapacityRelease _ _ _ _ => exact absurd (.initiateDynamicCapacityRelease _ _ _ _) h
  | zeroFillDone _ => exact execZeroFillDone_steady s _
  | readRegister _ _ _ => exact execReadRegister_steady s _ _ _
  | writeRegister _ _ _ _ => exact execWriteRegister_steady s _ _ _ _
  | thawHead _ _ => exact execThawHead_steady s _ _
  | fmGetHeadState _ _ => exact execFmGetHeadState_steady s _ _
  | fmGetIdentityKey _ => exact execFmGetIdentityKey_steady s _
  | i3cEntdaa _ => exact execI3cEntdaa_steady s _
  | setEndpointId _ _ => exact execSetEndpointId_steady s _ _
  | getVersion _ => exact execGetVersion_steady s _
  | getCapabilities _ => exact execGetCapabilities_steady s _
  | negotiateAlgorithms _ _ => exact execNegotiateAlgorithms_steady s _ _
  | challenge _ _ => exact execChallenge_steady s _ _
  | getMeasurements _ _ _ _ => exact execGetMeasurements_steady s _ _ _ _
  | spdmUnsupportedRequest _ _ => exact execSpdmUnsupportedRequest_steady s _ _
  | cdatTableAccess _ => exact execCdatTableAccess_steady s _
  | lcFlush _ _ => exact execLcFlush_steady s _ _
  | lcFlushDone => exact execLcFlushDone_steady s
  | scrubRead _ _ => exact execScrubRead_steady s _ _
  | scrubLag => exact execScrubLag_steady s
  | caParityAlert _ => exact execCaParityAlert_steady s _
  | channelRetrainDone _ _ => exact execChannelRetrainDone_steady s _ _
  | replayDone _ _ => exact execReplayDone_steady s _ _
  | replaySpill _ => exact execReplaySpill_steady s _
  | replayLimitExpiry _ => exact execReplayLimitExpiry_steady s _
  | rowRepair _ _ => exact execRowRepair_steady s _ _
  | rowRepairDone _ => exact execRowRepairDone_steady s _
  | retirePage _ _ => exact execRetirePage_steady s _ _
  | recalChangeInstant _ => exact execRecalChangeInstant_steady s _
  | sweepDone _ _ => exact execSweepDone_steady s _ _
  | expressRecalTick _ _ => exact execExpressRecalTick_steady s _ _
  | missingClock _ => exact execMissingClock_steady s _
  | clockColumnWatch _ _ => exact execClockColumnWatch_steady s _ _
  | standinFillDone _ => exact execStandinFillDone_steady s _
  | thermalEvaluation _ _ _ => exact execThermalEvaluation_steady s _ _ _
  | canaryInterval _ _ => exact execCanaryInterval_steady s _ _
  | graceExpiry => exact execGraceExpiry_steady s
  | shutdownDrainDone => exact execShutdownDrainDone_steady s
  | shutdownPowerDown => exact execShutdownPowerDown_steady s
  | shutdownTimeout => exact execShutdownTimeout_steady s
  | mgmtPowerRequest _ _ => exact execMgmtPowerRequest_steady s _ _
  | domainTransitionDone _ => exact execDomainTransitionDone_steady s _
  | domainWakeDone _ _ => exact execDomainWakeDone_steady s _ _
  | layerWakeFillDone _ _ => exact execLayerWakeFillDone_steady s _ _
  | otpNormalRead _ _ => exact execOtpNormalRead_steady s _ _
  | otpStrictRead _ _ => exact execOtpStrictRead_steady s _ _
  | otpDualRead _ _ => exact execOtpDualRead_steady s _ _
  | otpProgram _ _ => exact execOtpProgram_steady s _ _
  | otpRaiseCounter _ _ => exact execOtpRaiseCounter_steady s _ _
  | otpCommandDone _ => exact absurd (.otpCommandDone _) h
  | otpBootReadDone _ => exact absurd (.otpBootReadDone _) h
  | identityDerived => exact execIdentityDerived_steady s
  | ctlUpdNow _ _ => exact execCtlUpdNow_steady s _ _
  | ctlUpdDiscard _ _ => exact execCtlUpdDiscard_steady s _ _
  | cfgCheckStart => exact execCfgCheckStart_steady s
  | cfgCheckDone => exact execCfgCheckDone_steady s
  | severeClear _ _ _ => exact execSevereClear_steady s _ _ _
  | fcFirstClear _ _ => exact execFcFirstClear_steady s _ _
  | watchdogExpiry => exact execWatchdogExpiry_steady s
  | snapCtrlFire _ _ => exact execSnapCtrlFire_steady s _ _
  | snapCtrlRearm _ _ => exact execSnapCtrlRearm_steady s _ _
  | auxARisingEdge _ => exact execAuxARisingEdge_steady s _
  | auxPulseEnd _ => exact execAuxPulseEnd_steady s _
  | ownClaimImg _ _ => exact execOwnClaimImg_steady s _ _
  | ownReleaseImg _ _ => exact execOwnReleaseImg_steady s _ _
  | ownClaimFm _ _ => exact execOwnClaimFm_steady s _ _
  | ownReleaseFm _ _ => exact execOwnReleaseFm_steady s _ _
  | suOpen _ _ => exact execSuOpen_steady s _ _
  | registerWrite _ _ _ _ => exact execRegisterWrite_steady s _ _ _ _
  | powerUp => exact execPowerUp_steady s
  | pwrGoodRelease _ => exact absurd (.pwrGoodRelease _) h
  | powerLoss => exact absurd .powerLoss h
  | vinLow _ => exact execVinLow_steady s _
  | vinHigh _ => exact execVinHigh_steady s _
  | moduleReset => exact absurd .moduleReset h
  | moduleRelease => exact execModuleRelease_steady s
  | strapSample _ => exact execStrapSample_steady s _
  | stackClockReady => exact execStackClockReady_steady s
  | bootFillDone _ _ => exact execBootFillDone_steady s _ _
  | registerRead _ _ _ => exact execRegisterRead_steady s _ _ _
  | imageChecksDone => exact execImageChecksDone_steady s
  | aonStartDone _ _ _ _ _ => exact execAonStartDone_steady s _ _ _ _ _
  | rackCyclePulse => exact execRackCyclePulse_steady s
  | tlineSignalReturn => exact execTlineSignalReturn_steady s
  | mgmtVendorMessage => exact execMgmtVendorMessage_steady s
  | serviceColumnFail => exact execServiceColumnFail_steady s
  | linkRecoveryEntry _ => exact execLinkRecoveryEntry_steady s _
  | linkRecoveryExit _ => exact execLinkRecoveryExit_steady s _

/-- Settles O6: the commands that change fuses or grants one by one, every other by `exec_ends`. -/
theorem commandFrames : Obligations.CommandFrames := by
  intro i s t h
  by_cases hi : ChangesHoldings i
  · cases hi with
    | otpCommandDone x =>
      obtain ⟨hp, hg⟩ := execOtpCommandDone_frame s x t h
      exact ⟨hp, fun hx => absurd rfl (hx x), fun _ _ _ _ _ _ => hg⟩
    | otpBootReadDone x =>
      obtain ⟨hp, hg⟩ := execOtpBootReadDone_frame s x t h
      exact ⟨hp, fun _ hx => absurd rfl (hx x), fun _ _ _ _ _ _ => hg⟩
    | pwrGoodRelease r =>
      exact ⟨execPwrGoodRelease_pending s r t h, fun _ _ hx => absurd rfl (hx r), fun _ _ _ _ hx => absurd rfl (hx r)⟩
    | powerLoss => exact ⟨execPowerLoss_pending s t h, fun _ _ _ hx => absurd rfl hx, fun _ _ _ _ _ hx => absurd rfl hx⟩
    | moduleReset =>
      obtain ⟨hp, hw⟩ := execModuleReset_frame s t h
      exact ⟨hp, fun _ _ _ _ => hw, fun _ _ _ hx => absurd rfl hx⟩
    | releaseDynamicCapacity k a n =>
      obtain ⟨hp, hw⟩ := execReleaseDynamicCapacity_frame s k a n t h
      exact ⟨hp, fun _ _ _ _ => hw, fun hx => absurd rfl (hx k a n)⟩
    | initiateDynamicCapacityAdd p x a n g =>
      obtain ⟨hp, hw⟩ := execInitiateDynamicCapacityAdd_frame s p x a n g t h
      exact ⟨hp, fun _ _ _ _ => hw, fun _ hx => absurd rfl (hx p x a n g)⟩
    | initiateDynamicCapacityRelease p x a n =>
      obtain ⟨hp, hw⟩ := execInitiateDynamicCapacityRelease_frame s p x a n t h
      exact ⟨hp, fun _ _ _ _ => hw, fun _ _ hx => absurd rfl (hx p x a n)⟩
  · obtain ⟨hp, hw, hg⟩ := exec_ends i s hi t h
    exact ⟨hp, fun _ _ _ _ => hw, fun _ _ _ _ _ _ => hg⟩
end Sys2Proof.Machine

/-! ## Served commands of the mailbox and of the FM API, and those that report (R182, R208, R210, R214 to R219) -/

namespace Sys2Proof.Machine

open Sys2Proof.Claims

/-- A served mailbox command ends in the state of its body, where that triggers no snapshot. -/
theorem State.mailbox_ends {s u : State} {k : Fin 16} {body : State → State} (h : MailOk s k) (hbody : body s = u)
    (hu : u.snapDue = s.snapDue) : s.mailbox k body = .next u := by
  obtain ⟨hq, hopen⟩ := h
  rw [State.mailbox, if_pos hopen, hbody]
  exact finish_quiet _ _ (hu.trans hq)

/-- A served FM API command ends in the state of its body, where that triggers no snapshot. -/
theorem State.fmCommand_ends {s u : State} {p : Path} {body : State → State} (h : FmOk s p) (hbody : body s = u)
    (hu : u.snapDue = s.snapDue) : s.fmCommand p body = .next u := by
  obtain ⟨hq, hopen⟩ := h
  rw [State.fmCommand, if_pos hopen, hbody]
  exact finish_quiet _ _ (hu.trans hq)

/-- A mailbox command that only replies. -/
theorem State.mailbox_replies {s : State} {k : Fin 16} (h : MailOk s k) (status : String) (payload : State → List Byte) :
    s.mailbox k (fun s => s.reply (.head k) status (payload s)) = .next (s.reply (.head k) status (payload s)) :=
  State.mailbox_ends h rfl rfl

@[simp] theorem toBytes_length (n x : Nat) : (toBytes n x).length = n := by simp [toBytes]

@[simp] theorem Logs.get_set_same (l : Logs) (log : EventLog) (x : Log) : (l.set log x).get log = x := by
  cases log <;> rfl

theorem Logs.get_set_ne (l : Logs) {log other : EventLog} (x : Log) (h : other ≠ log) :
    (l.set log x).get other = l.get other := by
  cases log <;> cases other <;> first | rfl | exact absurd rfl h

theorem State.haltTimetable_length (s : State) : s.haltTimetable.length = 24 := by simp [State.haltTimetable]

theorem State.timeState_length (s : State) : s.timeState.length = 24 := by simp [State.timeState]

theorem State.headState_length (s : State) (k : Fin 16) : (s.headState k).length = 16 := by simp [State.headState]

theorem State.floorReply_length (s : State) : s.floorReply.length = 8 := by simp [State.floorReply]

/-- The public key is cut to the 1,793 bytes of its field, and zero bytes fill what it leaves (R560). -/
theorem State.identityReply_length (s : State) : s.identityReply.length = 1797 := by
  have hkey : (if s.fld aID_STATUS 0 2 = 1 then s.identityKey.take 1793 else []).length ≤ 1793 := by
    split
    · exact List.length_take_le _ _
    · exact Nat.zero_le _
  simp only [State.identityReply, List.length_append, toBytes_length, List.length_replicate, List.length_singleton]
  omega

/-- CLEAR_EVENT_RECORDS of a log, as it changes the state. -/
theorem execClearEventRecords_clears {s : State} {k : Fin 16} (h : MailOk s k) (log : EventLog) (n : Nat) :
    ∃ u, execClearEventRecords k log n s = .next u
      ∧ ((u.head k).logs.get log).records = ((s.head k).logs.get log).records.drop n
      ∧ (∀ other, other ≠ log → (u.head k).logs.get other = (s.head k).logs.get other)
      ∧ (∀ j, j ≠ k → u.head j = s.head j) ∧ u = { s with heads := u.heads, outputs := u.outputs } := by
  refine ⟨_, State.mailbox_ends h rfl rfl, ?_, fun other hne => ?_, fun j hne => ?_, rfl⟩
  · simp [State.reply, Log.clear]
  · simp [State.reply, Logs.get_set_ne _ _ hne]
  · exact State.head_setHead_ne _ _ _ _ hne

/-- GET_FW_INFO answers the management head alone (Table 5.7). -/
theorem execGetFwInfo_elsewhere {s : State} {k : Fin 16} (h : MailOk s k) (hm : s.mgmtHead ≠ k.val) :
    execGetFwInfo k s = .next (s.reply (.head k) "Unsupported" []) :=
  State.mailbox_ends h (if_pos hm) rfl

theorem execGetFwInfo_management {s : State} {k : Fin 16} (h : MailOk s k) (hm : s.mgmtHead = k.val) :
    ∃ payload, execGetFwInfo k s = .next (s.reply (.head k) "Success" payload) :=
  ⟨_, State.mailbox_ends h (if_neg (not_not_intro hm)) rfl⟩

/-- GET_POISON_LIST before step 6 of start-up, and from then on (R423, R618). -/
theorem execGetPoisonList_busy {s : State} {k : Fin 16} (h : MailOk s k) (hr : s.storeReady = false) :
    execGetPoisonList k s = .next (s.reply (.head k) "Busy" []) :=
  State.mailbox_ends h (if_pos hr) rfl

theorem execGetPoisonList_ready {s : State} {k : Fin 16} (h : MailOk s k) (hr : s.storeReady = true) :
    execGetPoisonList k s = .next (s.reply (.head k) "Success" (Config.standardReply 0x4300 (s.poisonList k))) :=
  State.mailbox_ends h (if_neg (by simp [hr])) rfl

/-- GET_HEAD_STATE of a present head, and of one that is not (R176). -/
theorem execGetHeadState_present {s : State} {k : Fin 16} (h : MailOk s k) {x : BitVec 8} {j : Fin 16}
    (hx : s.headArg x = some j) : execGetHeadState k x s = .next (s.reply (.head k) "Success" (s.headState j)) :=
  State.mailbox_ends h (by simp only [hx]) rfl

theorem execGetHeadState_absent {s : State} {k : Fin 16} (h : MailOk s k) {x : BitVec 8}
    (hx : s.headArg x = none) : execGetHeadState k x s = .next (s.reply (.head k) "Invalid Input" []) :=
  State.mailbox_ends h (by simp only [hx]) rfl

/-- CDAT_TABLE_ACCESS returns a table (R216). -/
theorem execCdatTableAccess_answers {s : State} {k : Fin 16} (h : MailOk s k) :
    ∃ table, execCdatTableAccess k s = .next (s.emit (.cdat k table)) :=
  ⟨_, State.mailbox_ends h rfl rfl⟩

/-- Settles O47: every report is a reply computed from the state, by `State.mailbox_replies`. -/
theorem mailboxReports : Obligations.MailboxReports := by
  intro s k h answer ok
  have replies (status : String) (payload : State → List Byte) := State.mailbox_replies h status payload
  refine ⟨fun log n => replies _ fun s => logReply ((s.head k).logs.get log) n,
    execClearEventRecords_clears h, replies _ fun s => toBytes 4 (s.head k).policy.toNat,
    fun policy => State.mailbox_ends (s := s)
      (body := fun s => (s.setHead k { s.head k with policy := policy }).reply (.head k) "Success" []) h rfl rfl,
    execGetFwInfo_elsewhere h, execGetFwInfo_management h, replies _ fun s => toBytes 8 s.now,
    fun _ _ => replies "Unsupported" fun _ => [], replies _ fun _ => Config.standardReply 0x0400 [],
    replies _ fun _ => Config.standardReply 0x0401 [], replies "Invalid Log" fun _ => [],
    replies _ fun _ => Config.standardReply 0x4000 [0, 0, 0],
    replies _ fun s => Config.standardReply 0x4200 [s.hottest], replies _ fun _ => regionReply 0x4800,
    replies _ fun s => s.extentReply 0x4801 k, fun _ _ => replies _ fun _ => [], execGetPoisonList_ready h,
    execGetPoisonList_busy h, ⟨replies _ State.haltTimetable, s.haltTimetable_length⟩,
    ⟨replies _ State.timeState, s.timeState_length⟩,
    fun x j hx => ⟨execGetHeadState_present h hx, s.headState_length j⟩, fun x hx => execGetHeadState_absent h hx,
    ⟨replies _ State.floorReply, s.floorReply_length⟩, ⟨replies _ State.identityReply, s.identityReply_length⟩,
    execCdatTableAccess_answers h⟩

end Sys2Proof.Machine

/-! ## The FM API (R176, R204, R206, R208, R213) -/

namespace Sys2Proof.Machine

open Sys2Proof.Claims

variable (s : State)

theorem State.respondRead_heads (r : Req) (v : LineVal) {k : Fin 16} (hk : r.src = .head k) :
    (s.respondRead r v).heads = s.heads := by
  rw [State.respondRead, hk]
  dsimp only
  (repeat' split) <;> rfl

theorem State.toPool_heads (r : Req) {k : Fin 16} (hk : r.src = .head k) : (s.toPool r).heads = s.heads := by
  have hpoison (u : State) : (u.deliverPoison r).heads = u.heads := by
    by_cases hkind : r.kind = .partialWrite
    · obtain ⟨q, hq⟩ := u.deliverPoison_merge r k hkind hk
      rw [hq]
    · rw [u.deliverPoison_read r hkind, u.respondRead_heads r _ hk]
  obtain ⟨rs, p, -, ⟨-, ht | ht⟩ | ⟨c, _, e, -, -, ht⟩⟩ := s.toPool_cases r
  · rw [ht]
  · rw [ht, hpoison]
  · rw [ht]; rfl

/-- A MemInv or MemSpecRd that passes admission leaves the heads as they are. -/
theorem State.passNow_heads (k : Fin 16) (r : Req) {j : Fin 16} (hr : r.src = .head j) :
    (s.passNow k r).heads = s.heads := by
  unfold State.passNow
  dsimp only
  split
  · rfl
  · split
    · rfl
    · split
      · split
        · rw [State.toPool_heads _ r hr]
          rfl
        · rfl
      · rfl

theorem State.pickQuick_src {k : Fin 16} {r : Req} (h : s.pickQuick k = some r) : r.src = .head k := by
  have hr := List.mem_of_find?_eq_some h
  simpa using (List.mem_filter.1 hr).2

/-- What a thaw lets pass leaves the heads as they are (R204). -/
theorem State.passQuick_heads (k : Fin 16) (n : Nat) : (s.passQuick k n).heads = s.heads := by
  induction n generalizing s with
  | zero => rfl
  | succ n ih =>
    rw [State.passQuick]
    split
    next r hr => rw [ih, State.passNow_heads _ _ _ (s.pickQuick_src hr)]; rfl
    · rfl

theorem State.unfreeze_head (k : Fin 16) : (s.unfreeze k).head k = { s.head k with mode := .normal } := by
  have h := State.passQuick_heads (s.setHead k { s.head k with mode := .normal }) k s.mem.ports.length
  rw [State.unfreeze, State.head, h]
  exact s.head_setHead_same k _

theorem State.unfreeze_head_ne {j k : Fin 16} (hj : j ≠ k) : (s.unfreeze k).head j = s.head j := by
  have h := State.passQuick_heads (s.setHead k { s.head k with mode := .normal }) k s.mem.ports.length
  rw [State.unfreeze, State.head, h]
  exact s.head_setHead_ne k j _ hj

@[simp] theorem State.toFm_heads (log : EventLog) (r : Record) : (s.toFm log r).heads = s.heads := by
  unfold State.toFm
  dsimp only
  split <;> rfl

/-- A record that a head receives leaves the modes of the heads as they are. -/
@[simp] theorem State.toHeadAndFm_mode (k j : Fin 16) (log : EventLog) (r : Record) :
    ((s.toHeadAndFm k log r).head j).mode = (s.head j).mode := by
  have h := State.toFm_heads (s.toHead k log r) log r
  rw [State.toHeadAndFm, State.head, h]
  by_cases hj : j = k
  · subst hj
    exact (congrArg Head.mode (s.head_setHead_same j { s.head j with logs := (s.head j).logs.add log r })).trans rfl
  · exact congrArg Head.mode (s.head_setHead_ne k j _ hj)

/-- A reply is the last thing a command puts out. -/
theorem State.reply_getLast? (p : Path) (status : String) (payload : List Byte) :
    (s.reply p status payload).outputs.getLast? = some (.reply p status payload) := List.getLast?_concat

section
variable {s} {p : Path}

/-- An FM API command that only replies. -/
theorem State.fmCommand_replies (h : FmOk s p) (status : String) (payload : State → List Byte) :
    s.fmCommand p (fun s => s.reply p status (payload s)) = .next (s.reply p status (payload s)) :=
  State.fmCommand_ends h rfl rfl

/-- FM_EVENTS that clears a log, as it changes the state (R219). -/
theorem execFmEvents_clears (h : FmOk s p) (log : EventLog) (n : Nat) :
    ∃ u, execFmEvents p log true n s = .next u
      ∧ (u.mgmt.fmLogs.get log).records = (s.mgmt.fmLogs.get log).records.drop n
      ∧ u = { s with mgmt := u.mgmt, outputs := u.outputs } := by
  refine ⟨_, State.fmCommand_ends h (if_pos rfl) rfl, ?_, rfl⟩
  simp [State.reply, Log.clear]

theorem execFmEvents_reports (h : FmOk s p) (log : EventLog) (n : Nat) :
    execFmEvents p log false n s = .next (s.reply p "Success" (logReply (s.mgmt.fmLogs.get log) n)) :=
  State.fmCommand_ends h (if_neg Bool.false_ne_true) rfl

section
variable {x : BitVec 8} {k : Fin 16}

/-! The commands that name a head, for one that is present -/

theorem execGetHeadInfo_present (h : FmOk s p) (hx : s.headArg x = some k) :
    execGetHeadInfo p x s = .next (s.reply p "Success" (Config.standardReply 0x5501 [k.val, (s.hdStatus k).toNat])) :=
  State.fmCommand_ends h (by simp only [hx]) rfl

theorem execGetHostDcRegionConfiguration_present (h : FmOk s p) (hx : s.headArg x = some k) :
    execGetHostDcRegionConfiguration p x s = .next (s.reply p "Success" (regionReply 0x5601)) :=
  State.fmCommand_ends h (by simp only [hx]) rfl

theorem execGetDcRegionExtentLists_present (h : FmOk s p) (hx : s.headArg x = some k) :
    execGetDcRegionExtentLists p x s = .next (s.reply p "Success" (s.extentReply 0x5603 k)) :=
  State.fmCommand_ends h (by simp only [hx]) rfl

theorem execFmGetHeadState_present (h : FmOk s p) (hx : s.headArg x = some k) :
    execFmGetHeadState p x s = .next (s.reply p "Success" (s.headState k)) :=
  State.fmCommand_ends h (by simp only [hx]) rfl

theorem execSetDcRegionConfiguration_present (h : FmOk s p) (hx : s.headArg x = some k) (n : Nat) :
    execSetDcRegionConfiguration p x n s
      = .next (s.reply p (if n = 2 ^ 28 then "Success" else "Invalid Input") []) :=
  State.fmCommand_ends h (by simp only [hx]) rfl

/-- THAW_HEAD of a head in service only answers; a head frozen or fenced serves again (R204). -/
theorem execThawHead_inService (h : FmOk s p) (hx : s.headArg x = some k) (hm : (s.head k).mode = .normal) :
    execThawHead p x s = .next (s.reply p "Success" []) :=
  State.fmCommand_ends h (by simp only [hx, hm]) rfl

theorem execThawHead_thaws (h : FmOk s p) (hx : s.headArg x = some k) (hm : (s.head k).mode ≠ .normal) :
    ∃ u, execThawHead p x s = .next u ∧ (u.head k).mode = .normal
      ∧ (∀ j, j ≠ k → (u.head j).mode = (s.head j).mode) := by
  obtain ⟨-, hopen⟩ := h
  refine ⟨_, if_pos hopen, ?_, fun j hj => ?_⟩
  · simp only [State.settle_head, hx]
    simp [State.reply, State.unfreeze_head]
  · simp only [State.settle_head, hx]
    simp [State.reply, s.unfreeze_head_ne hj]

/-- A head that is not present is an invalid input of every command that names one (R176). -/
theorem exec_headAbsent (h : FmOk s p) (hx : s.headArg x = none) {i : Instr} {n : Nat}
    (hi : i = .getHeadInfo p x ∨ i = .getHostDcRegionConfiguration p x ∨ i = .getDcRegionExtentLists p x
      ∨ i = .fmGetHeadState p x ∨ i = .setDcRegionConfiguration p x n ∨ i = .thawHead p x) :
    exec i s = .next (s.reply p "Invalid Input" []) := by
  rcases hi with rfl | rfl | rfl | rfl | rfl | rfl
  · show execGetHeadInfo p x s = _
    exact State.fmCommand_ends h (by simp only [hx]) rfl
  · show execGetHostDcRegionConfiguration p x s = _
    exact State.fmCommand_ends h (by simp only [hx]) rfl
  · show execGetDcRegionExtentLists p x s = _
    exact State.fmCommand_ends h (by simp only [hx]) rfl
  · show execFmGetHeadState p x s = _
    exact State.fmCommand_ends h (by simp only [hx]) rfl
  · show execSetDcRegionConfiguration p x n s = _
    exact State.fmCommand_ends h (by simp only [hx]) rfl
  · show execThawHead p x s = _
    exact State.fmCommand_ends h (by simp only [hx]) rfl

end

section
variable {a w : Nat} {v : Word}

/-! READ_REGISTER and WRITE_REGISTER (R213) -/

theorem execReadRegister_answers (h : FmOk s p) (hbus : busOk a w = true) :
    ∃ u, execReadRegister p a w s = .next u
      ∧ u.outputs.getLast? = some (.reply p "Success" (toBytes 8 (s.peek a).toNat)) := by
  obtain ⟨-, hopen⟩ := h
  refine ⟨State.settle s ((s.readEffects a).reply p "Success" (toBytes 8 (s.peek a).toNat)), ?_,
    by rw [State.settle_outputs, State.reply_getLast?]⟩
  simp [execReadRegister, hopen, State.readReg, hbus, finish_next]

theorem execReadRegister_busError (h : FmOk s p) (hbus : busOk a w = false) :
    ∃ u, execReadRegister p a w s = .next u ∧ u.outputs.getLast? = some (.reply p "Invalid Input" []) := by
  obtain ⟨-, hopen⟩ := h
  refine ⟨State.settle s ((s.busError p a).reply p "Invalid Input" []), ?_,
    by rw [State.settle_outputs, State.reply_getLast?]⟩
  simp [execReadRegister, hopen, State.readReg, hbus, finish_next]

theorem execWriteRegister_writes (h : FmOk s p) (hcheck : s.checkWrite p a w v = .ok) (ha : s.namesAbsent a v = false) :
    execWriteRegister p a w v s = .next (State.settle s ((s.applyWrite a v).reply p "Success" [])) := by
  obtain ⟨-, hopen⟩ := h
  simp [execWriteRegister, hopen, State.writeReg, hcheck, ha, finish_next]

theorem execWriteRegister_namesAbsent (h : FmOk s p) (hcheck : s.checkWrite p a w v = .ok)
    (ha : s.namesAbsent a v = true) : execWriteRegister p a w v s = .next (s.reply p "Invalid Input" []) := by
  obtain ⟨hq, hopen⟩ := h
  simp only [execWriteRegister, hopen, hcheck, ha]
  exact finish_quiet _ _ hq

/-- A dropped write is answered by Success, one with a bus error by Invalid Input (R213). -/
theorem execWriteRegister_dropped (h : FmOk s p) (hcheck : s.checkWrite p a w v ≠ .ok) :
    ∃ u, execWriteRegister p a w v s = .next u
      ∧ u.outputs.getLast? = some (.reply p (if s.checkWrite p a w v = .bus then "Invalid Input" else "Success") []) := by
  obtain ⟨-, hopen⟩ := h
  rw [execWriteRegister, if_neg (by simp [hopen]), if_neg (by simp [hcheck]), State.writeReg]
  cases hc : s.checkWrite p a w v with
  | ok => exact absurd hc hcheck
  | bus => exact ⟨_, finish_next _ _, by rw [State.settle_outputs, State.reply_getLast?, if_pos rfl]⟩
  | locked => exact ⟨_, finish_next _ _, by rw [State.settle_outputs, State.reply_getLast?, if_neg (by simp)]⟩
  | again => exact ⟨_, finish_next _ _, by rw [State.settle_outputs, State.reply_getLast?, if_neg (by simp)]⟩

end

theorem execSetEndpointId_i3c {e : Byte} (h : FmOk s .i3c) :
    execSetEndpointId .i3c e s = .next { s with mgmt := { s.mgmt with eidI3c := some e } } :=
  State.fmCommand_ends h rfl rfl

theorem execSetEndpointId_vdm {e : Byte} (h : FmOk s .vdm) :
    execSetEndpointId .vdm e s = .next { s with mgmt := { s.mgmt with eidVdm := some e } } :=
  State.fmCommand_ends h rfl rfl

end

/-- Settles O49, from the lemma of each command. -/
theorem fabricManager : Obligations.FabricManager := by
  intro s p x h answer ok
  have replies (status : String) (payload : State → List Byte) := State.fmCommand_replies h status payload
  refine ⟨replies _ fun s => Config.standardReply 0x0001 [Config.vendorId.toNat, s.identityTrim.1],
    execFmEvents_reports h, execFmEvents_clears h,
    replies _ fun s => Config.standardReply 0x5500 [s.layout, headCount s.layout],
    replies _ fun _ => regionReply 0x5600, replies _ State.identityReply,
    fun k hx => ⟨execGetHeadInfo_present h hx, execGetHostDcRegionConfiguration_present h hx,
      execGetDcRegionExtentLists_present h hx, execFmGetHeadState_present h hx,
      execSetDcRegionConfiguration_present h hx, execThawHead_thaws h hx, execThawHead_inService h hx⟩,
    fun hx i n => exec_headAbsent h hx, fun a w => execReadRegister_answers h, fun a w => execReadRegister_busError h,
    fun a w v => execWriteRegister_writes h, fun a w v => execWriteRegister_namesAbsent h,
    fun a w v => execWriteRegister_dropped h, fun a => rfl, ?_, ?_⟩
  · rintro e rfl
    exact execSetEndpointId_i3c h
  · rintro e rfl
    exact execSetEndpointId_vdm h

end Sys2Proof.Machine

/-! ## Events of the heads: configuration accesses, decoders, freeze windows, Device Load (R193, R200, R203, R214) -/

namespace Sys2Proof.Machine

open Sys2Proof.Claims

section
variable {s : State} {k : Fin 16}

/-! The vendor DVSEC (R214) -/

theorem execCxlIoConfigAccess_dvsecWrite (h : MailOk s k) (off : BitVec 6) (v : BitVec 32) :
    execCxlIoConfigAccess k (.dvsecWrite off v) s = .next s := State.mailbox_ends h rfl rfl

theorem execCxlIoConfigAccess_otherRead (h : MailOk s k) (off : BitVec 12) :
    execCxlIoConfigAccess k (.otherRead off) s
      = .next (s.emit (.regValue (.head k) (((s.head k).cfgWord (off.toNat / 4 * 4)).setWidth 64))) :=
  State.mailbox_ends h rfl rfl

/-- A read of the DVSEC touches the head's latch alone. -/
theorem State.dvsecRead_frame (s : State) (k : Fin 16) (a : Nat) :
    (s.dvsecRead k a).1 = { s with heads := (s.dvsecRead k a).1.heads } := by
  unfold State.dvsecRead
  (repeat' split) <;> rfl

theorem State.dvsecRead_narrow (s : State) (k : Fin 16) {a : Nat} (h0 : a ≠ 0x20) (h4 : a ≠ 0x24) (h8 : a ≠ 0x28)
    (hC : a ≠ 0x2C) : s.dvsecRead k a = (s, s.dvsecWord k a) := by
  rw [State.dvsecRead, if_neg (by simp [h0, h8]), if_neg (by simp [h4, hC])]

/-- The low half of a wide field latches the high half (R214). -/
theorem State.dvsecRead_low (s : State) (k : Fin 16) {a : Nat} (h : a = 0x20 ∨ a = 0x28) :
    ((s.dvsecRead k a).1.head k).dvsecLatch = some (BitVec.ofNat 32 (s.dvsecWide a / 2 ^ 32)) := by
  rw [State.dvsecRead, if_pos h]
  exact congrArg Head.dvsecLatch (s.head_setHead_same k _)

/-- The high half answers what the low half latched, and takes it. -/
theorem State.dvsecRead_high (s : State) (k : Fin 16) {a : Nat} (h : a = 0x24 ∨ a = 0x2C) {v : BitVec 32}
    (hv : (s.head k).dvsecLatch = some v) :
    s.dvsecRead k a = (s.setHead k { s.head k with dvsecLatch := none }, v.toNat) := by
  rw [State.dvsecRead, if_neg (by omega), if_pos h, hv]

theorem execCxlIoConfigAccess_dvsecRead (h : MailOk s k) (off : BitVec 6) {a : Nat} (ha : a = off.toNat / 4 * 4) :
    ∃ u, execCxlIoConfigAccess k (.dvsecRead off) s = .next u
      ∧ (a ≠ 0x20 → a ≠ 0x24 → a ≠ 0x28 → a ≠ 0x2C → u = s.emit (.regValue (.head k) (BitVec.ofNat 64 (s.dvsecWord k a))))
      ∧ (a = 0x20 ∨ a = 0x28 → (u.head k).dvsecLatch = some (BitVec.ofNat 32 (s.dvsecWide a / 2 ^ 32)))
      ∧ (∀ v, a = 0x24 ∨ a = 0x2C → (s.head k).dvsecLatch = some v →
          u.outputs = s.outputs ++ [.regValue (.head k) (v.setWidth 64)] ∧ (u.head k).dvsecLatch = none)
      ∧ u = { s with heads := u.heads, outputs := u.outputs } := by
  have hframe := s.dvsecRead_frame k a
  refine ⟨(s.dvsecRead k a).1.emit (.regValue (.head k) (BitVec.ofNat 64 (s.dvsecRead k a).2)), ?_, ?_, ?_, ?_, ?_⟩
  · exact State.mailbox_ends h (by rw [ha]) (by rw [hframe]; rfl)
  · intro h0 h4 h8 hC
    rw [s.dvsecRead_narrow k h0 h4 h8 hC]
  · exact s.dvsecRead_low k
  · intro v hhigh hv
    rw [s.dvsecRead_high k hhigh hv]
    refine ⟨congrArg (fun w => s.outputs ++ [.regValue (.head k) w]) ?_, congrArg Head.dvsecLatch (s.head_setHead_same k _)⟩
    exact BitVec.eq_of_toNat_eq (by simp)
  · rw [hframe]; rfl

/-! Other configuration registers (R200, R209) -/

/-- What a register reads, but for those of fixed meaning, once it has been written. -/
theorem Head.cfgWord_written (h : Head) (a : Nat) (v : BitVec 32) (h0 : a ≠ 0) (h18 : a ≠ 0x18) :
    Head.cfgWord { h with cfg := (a, v) :: h.cfg.filter (fun p => p.1 != a) } a = v := by
  have hfind : List.find? (fun (p : Nat × BitVec 32) => p.1 == a) ((a, v) :: h.cfg.filter (fun p => p.1 != a))
      = some (a, v) := by simp
  simp only [Head.cfgWord, hfind]
  split
  · exact absurd rfl h0
  · exact absurd rfl h18
  · rfl
  · rfl

theorem execCxlIoConfigAccess_otherWrite (h : MailOk s k) (off : BitVec 12) (v : BitVec 32) :
    ∃ u, execCxlIoConfigAccess k (.otherWrite off v) s = .next u
      ∧ (off.toNat / 4 * 4 ≠ 0 → off.toNat / 4 * 4 ≠ 0x18 → (u.head k).cfgWord (off.toNat / 4 * 4) = v)
      ∧ (off.toNat / 4 * 4 = 0x18 → (u.head k).cfgWord 0x18 = (v &&& 0xFFF00000) ||| 4)
      ∧ (u.head k).cfgWord 0 = (s.head k).cfgWord 0
      ∧ (∀ j, j ≠ k → u.head j = s.head j) ∧ u = { s with heads := u.heads } := by
  refine ⟨_, State.mailbox_ends h rfl rfl, ?_, ?_, ?_, fun j hj => s.head_setHead_ne k j _ hj, rfl⟩
  · intro h0 h18
    rw [State.head_setHead_same]
    exact Head.cfgWord_written _ _ _ h0 h18
  · intro h18
    rw [State.head_setHead_same, h18]
    simp [Head.cfgWord]
  · rw [State.head_setHead_same]
    rfl

/-! Decoders (R200, R378) -/

/-- The first decoder programmed, of any size. -/
theorem Head.setHdm_first {h : Head} (hempty : h.hdm = []) (d : Hdm) : h.setHdm d = if d.size = 0 then [] else [d] := by
  simp [Head.setHdm, hempty]

/-- The lines that a head's only decoder maps. -/
theorem State.lineOf_onlyDecoder {u : State} {d : Hdm} (hd : (u.head k).hdm = if d.size = 0 then [] else [d]) (a : Nat) :
    u.lineOf k a = if d.base ≤ a ∧ a < d.base + d.size then some ((d.dpa + (a - d.base)) / 64) else none := by
  rw [State.lineOf, hd]
  by_cases hsize : d.size = 0
  · rw [if_pos hsize, if_neg (by omega)]
    rfl
  · by_cases hin : d.base ≤ a ∧ a < d.base + d.size
    · simp [hsize, hin]
    · simp [hsize, hin]

theorem execCxlIoConfigAccess_hdmDecoder (h : MailOk s k) (index : Fin 10) (base size dpa : BitVec 64) (a : Nat)
    (hempty : (s.head k).hdm = []) (hbase : base.toNat % 2 ^ 28 = 0) (hsize : size.toNat % 2 ^ 28 = 0)
    (hdpa : dpa.toNat % 2 ^ 28 = 0) :
    ∃ u, execCxlIoConfigAccess k (.hdmDecoder index base size dpa) s = .next u
      ∧ (∀ j, j ≠ k → u.head j = s.head j) ∧ u = { s with heads := u.heads }
      ∧ (base.toNat ≤ a → a < base.toNat + size.toNat → u.lineOf k a = some ((dpa.toNat + (a - base.toNat)) / 64))
      ∧ (a < base.toNat ∨ base.toNat + size.toNat ≤ a → u.lineOf k a = none) := by
  have whole {x : BitVec 64} (hx : x.toNat % 2 ^ 28 = 0) : x.toNat / blockSize * blockSize = x.toNat :=
    Nat.div_mul_cancel (Nat.dvd_of_mod_eq_zero hx)
  let d : Hdm := { index := index, base := base.toNat, size := size.toNat, dpa := dpa.toNat }
  let given : Hdm := { index := index, base := base.toNat / blockSize * blockSize, size := size.toNat / blockSize * blockSize,
                       dpa := dpa.toNat / blockSize * blockSize }
  have hset : State.mailbox s k (fun s => s.setHead k { s.head k with hdm := (s.head k).setHdm given })
      = .next (s.setHead k { s.head k with hdm := (s.head k).setHdm d }) :=
    State.mailbox_ends h (by simp only [given, whole hbase, whole hsize, whole hdpa]; rfl) rfl
  have hline := State.lineOf_onlyDecoder (d := d) (u := s.setHead k { s.head k with hdm := (s.head k).setHdm d }) (k := k)
    (by rw [State.head_setHead_same]; exact Head.setHdm_first hempty d) a
  refine ⟨_, hset, fun j hj => s.head_setHead_ne k j _ hj, rfl, fun hlo hhi => ?_, fun hout => ?_⟩
  · rw [hline, if_pos ⟨hlo, hhi⟩]
  · rw [hline, if_neg]
    exact fun hin => hout.elim (fun hlo => absurd hin.1 (Nat.not_le.2 hlo)) (fun hhi => absurd hin.2 (Nat.not_lt.2 hhi))

end

/-! The end of a freeze window (R203) -/

section
variable (s : State)

/-- A refused request is only answered; a UIO write is no longer open (Table 5.5). -/
theorem State.respondRefused_changes (k : Fin 16) (r : Req) : ∃ opens o,
    s.respondRefused k r = { s with mem := { s.mem with uioOpen := opens }, outputs := s.outputs ++ o } := by
  unfold State.respondRefused
  have unchanged : s = { s with mem := { s.mem with uioOpen := s.mem.uioOpen }, outputs := s.outputs ++ [] } := by simp
  split
  · split
    · split
      · exact ⟨_, _, rfl⟩
      · exact ⟨_, _, unchanged⟩
    · exact ⟨_, _, rfl⟩
  · split
    · exact ⟨_, _, unchanged⟩
    · exact ⟨_, _, rfl⟩
    · exact ⟨_, _, rfl⟩

/-- The refusals at the end of a freeze window only answer and count. -/
theorem State.refuseHeld_changes (k : Fin 16) (rs : List Req) : ∃ regs opens o,
    s.refuseHeld k rs = { s with regs := regs, mem := { s.mem with uioOpen := opens }, outputs := s.outputs ++ o } := by
  unfold State.refuseHeld
  generalize ([] : List (Bool × Nat)) = seen
  induction rs generalizing s seen with
  | nil => exact ⟨s.regs, s.mem.uioOpen, [], by simp⟩
  | cons r rs ih =>
    rw [List.foldl_cons]
    split
    · exact ih s seen
    · obtain ⟨opens, o, hr⟩ := s.respondRefused_changes k r
      obtain ⟨regs, opens', o', hrs⟩ := ih ((s.respondRefused k r).bump (aHD_DISCARD k) 16 16 1)
        (if r.uio then (r.isWrite, r.tag) :: seen else seen)
      exact ⟨regs, opens', o ++ o', by rw [hrs, hr]; simp [State.bump, State.setFld, State.setReg]⟩

theorem State.toHeadAndFm_head_ne {j k : Fin 16} (hj : j ≠ k) (log : EventLog) (r : Record) :
    (s.toHeadAndFm k log r).head j = s.head j := by
  have h := State.toFm_heads (s.toHead k log r) log r
  rw [State.toHeadAndFm, State.head, h]
  exact s.head_setHead_ne k j _ hj

theorem State.toHeadAndFm_mem (k : Fin 16) (log : EventLog) (r : Record) : (s.toHeadAndFm k log r).mem = s.mem := by
  unfold State.toHeadAndFm State.toFm
  dsimp only
  split <;> rfl

theorem execFreezeWindowEnd_over {s : State} {k : Fin 16} {until_ : Nat} (hm : (s.head k).mode = .frozen until_)
    (hover : until_ ≤ s.cyc) :
    ∃ u, execFreezeWindowEnd k s = .next u ∧ (u.head k).mode = .fenced ∧ (∀ r ∈ u.mem.ports, r.src ≠ .head k)
      ∧ (∀ j, j ≠ k → u.head j = s.head j) ∧ u.dram = s.dram := by
  rw [execFreezeWindowEnd, hm]
  dsimp only
  rw [if_pos hover]
  obtain ⟨regs, opens, o, hrefuse⟩ := State.refuseHeld_changes
    (State.setHead { s with mem := { s.mem with ports := s.mem.ports.filter (fun (r : Req) => r.src != Src.head k) } } k
      { s.head k with mode := .fenced }) k (s.mem.ports.filter (fun r => r.src == .head k))
  refine ⟨_, (congrArg (fun t => finish s (State.toHeadAndFm t k .failure (t.record 5 0xFFFF [(12, 1, k)]))) hrefuse).trans
    (finish_next _ _), ?_, ?_, fun j hj => ?_, ?_⟩
  · rw [State.settle_head, State.toHeadAndFm_mode]
    exact congrArg Head.mode (s.head_setHead_same k _)
  · rw [State.settle_mem, State.toHeadAndFm_mem]
    intro r hr
    simpa using (List.mem_filter.1 hr).2
  · rw [State.settle_head, State.toHeadAndFm_head_ne _ hj]
    exact s.head_setHead_ne k j _ hj
  · rw [State.settle_dram, (FaultFrame.toHeadAndFm _ _ _ _).dram]
    rfl

theorem execFreezeWindowEnd_early {s : State} {k : Fin 16} {until_ : Nat} (hm : (s.head k).mode = .frozen until_)
    (hearly : s.cyc < until_) : execFreezeWindowEnd k s = .next s := by
  rw [execFreezeWindowEnd, hm]
  exact if_neg (by omega)

/-! Device Load (R193) -/

/-- A head whose Device Load is evaluated and whose measurement starts again. -/
def State.loadEvaluated (s : State) (k : Fin 16) : Head :=
  { s.head k with load := s.loadOf k, waitCycles := 0, admitted := 0 }

/-- The evaluation of one head does not show in that of another. -/
theorem State.loadEvaluated_setHead {j k : Fin 16} (hj : j ≠ k) (x : Head) :
    (s.setHead k x).loadEvaluated j = s.loadEvaluated j := by
  simp only [State.loadEvaluated, State.loadOf, s.head_setHead_ne k j x hj]
  rfl

theorem State.evaluateLoads (l : List (Fin 16)) (hl : l.Nodup) :
    (l.foldl (fun s k => s.setHead k (s.loadEvaluated k)) s)
        = { s with heads := (l.foldl (fun s k => s.setHead k (s.loadEvaluated k)) s).heads }
      ∧ ∀ j, (l.foldl (fun s k => s.setHead k (s.loadEvaluated k)) s).head j
        = if j ∈ l then s.loadEvaluated j else s.head j := by
  induction l generalizing s with
  | nil => simp
  | cons k l ih =>
    obtain ⟨hk, hl⟩ := List.nodup_cons.1 hl
    obtain ⟨hframe, hheads⟩ := ih (s.setHead k (s.loadEvaluated k)) hl
    refine ⟨by rw [List.foldl_cons, hframe]; rfl, fun j => ?_⟩
    rw [List.foldl_cons, hheads]
    by_cases hj : j = k
    · subst hj
      simp [hk]
    · simp [hj, s.loadEvaluated_setHead hj, s.head_setHead_ne k j _ hj]

theorem execDeviceLoadEval_evaluates : ∃ u, execDeviceLoadEval s = .next u ∧ u = { s with heads := u.heads }
    ∧ ∀ j, u.head j = { s.head j with load := s.loadOf j, waitCycles := 0, admitted := 0 } := by
  obtain ⟨hframe, hheads⟩ := s.evaluateLoads (List.finRange 16) (List.nodup_finRange 16)
  exact ⟨_, rfl, hframe, fun j => (hheads j).trans (if_pos (List.mem_finRange j))⟩

end

/-- Settles O30, from the lemma of each event. -/
theorem headEvents : Obligations.HeadEvents := fun s _ =>
  ⟨fun hup => if_pos hup, fun h => execCxlIoConfigAccess_dvsecWrite h, fun h off _ => execCxlIoConfigAccess_dvsecRead h off,
    fun h => execCxlIoConfigAccess_otherWrite h, fun h => execCxlIoConfigAccess_otherRead h,
    fun h index base size dpa a => execCxlIoConfigAccess_hdmDecoder h index base size dpa a,
    fun _ _ => execFreezeWindowEnd_over, fun _ => execFreezeWindowEnd_early, execDeviceLoadEval_evaluates s⟩

end Sys2Proof.Machine

/-! ## What a fault event without a master leaves of the heads and of the requests (R589 to R597) -/

namespace Sys2Proof.Machine

open Sys2Proof.Claims

/-- The heads are as they were but for their logs, and so are the requests at admission and in the miss queue. -/
structure HeadsFrame (s u : State) : Prop where
  head : ∀ j, ∃ l, u.head j = { s.head j with logs := l }
  ports : u.mem.ports = s.mem.ports
  missQ : u.mem.missQ = s.mem.missQ

namespace HeadsFrame

theorem of_heads {s u : State} (h : u.heads = s.heads) (hp : u.mem.ports = s.mem.ports) (hm : u.mem.missQ = s.mem.missQ) :
    HeadsFrame s u :=
  ⟨fun j => ⟨(s.head j).logs, congrArg (fun v : Vector Head 16 => v[j]) h⟩, hp, hm⟩

theorem composes : Composes HeadsFrame where
  refl _ := .of_heads rfl rfl rfl
  trans h k := by
    refine ⟨fun j => ?_, k.ports.trans h.ports, k.missQ.trans h.missQ⟩
    obtain ⟨l, hl⟩ := h.head j
    obtain ⟨m, hm⟩ := k.head j
    exact ⟨m, by rw [hm, hl]⟩

theorem refl (s : State) : HeadsFrame s s := composes.refl s

theorem trans {s t u : State} (h : HeadsFrame s t) (k : HeadsFrame t u) : HeadsFrame s u := composes.trans h k

theorem setReg (s : State) (a : Nat) (v : Word) : HeadsFrame s (s.setReg a v) := .of_heads rfl rfl rfl
theorem setFld (s : State) (a lo n x : Nat) : HeadsFrame s (s.setFld a lo n x) := .of_heads rfl rfl rfl
theorem setFlag (s : State) (a i : Nat) (b : Bool) : HeadsFrame s (s.setFlag a i b) := .of_heads rfl rfl rfl
theorem setCar (s : State) (c : Fin 32) (x : Carriage) : HeadsFrame s (s.setCar c x) := .of_heads rfl rfl rfl
theorem setSeal (s : State) (i : Fin 4) (x : Seal) : HeadsFrame s (s.setSeal i x) := .of_heads rfl rfl rfl
theorem setOuting (s : State) (i : Fin 8) (x : Outing) : HeadsFrame s (s.setOuting i x) := .of_heads rfl rfl rfl
theorem notify (s : State) (b : Nat) : HeadsFrame s (s.notify b) := .of_heads rfl rfl rfl

theorem toHead (s : State) (k : Fin 16) (log : EventLog) (r : Record) : HeadsFrame s (s.toHead k log r) := by
  refine ⟨fun j => ?_, rfl, rfl⟩
  by_cases hj : j = k
  · subst hj
    exact ⟨_, s.head_setHead_same j _⟩
  · exact ⟨_, s.head_setHead_ne k j _ hj⟩

theorem toFm (s : State) (log : EventLog) (r : Record) : HeadsFrame s (s.toFm log r) :=
  rel_ite (.of_heads rfl rfl rfl) (.of_heads rfl rfl rfl)

theorem toHeads (s : State) (ks : List (Fin 16)) (log : EventLog) (r : Record) : HeadsFrame s (s.toHeads ks log r) :=
  composes.andFold (.refl s) fun s k => toHead s k log r

theorem toAll (s : State) (log : EventLog) (r : Record) : HeadsFrame s (s.toAll log r) :=
  (toHeads s _ log r).trans (toFm _ log r)

theorem haltThread (s : State) (t : Fin 8) : HeadsFrame s (s.haltThread t) := by
  have hdrop (w : WaitCond) (th : Thread) : HeadsFrame s ((s.dropRequest w).setThread t th) := by
    unfold State.dropRequest
    split <;> exact .of_heads rfl rfl rfl
  unfold State.haltThread
  dsimp only
  split
  · split <;> exact .of_heads rfl rfl rfl
  · exact hdrop _ _
  · exact .refl s

theorem writeProgress (s : State) (c : Fin 32) (desc entry done : Nat) (acc : Word) :
    HeadsFrame s (s.writeProgress c desc entry done acc) := by
  unfold State.writeProgress
  exact .of_heads rfl rfl rfl

theorem carEvent (s : State) (c : Fin 32) : HeadsFrame s (s.carEvent c) := by
  unfold State.carEvent
  dsimp only
  split <;> exact .of_heads rfl rfl rfl

theorem carStopBy (s : State) (c : Fin 32) (code src : Nat) : HeadsFrame s (s.carStopBy c code src) := by
  have hcomp : HeadsFrame s (match (s.car c).comp with
      | some n => if code = 5 ∨ code = 6 then (s.tcDisarm n).setReg (aTC_OWNER n) 0 else s.tcFree n
      | none => s) := by
    split
    · exact rel_ite (.of_heads rfl rfl rfl) (.of_heads rfl rfl rfl)
    · exact .refl s
  unfold State.carStopBy
  exact ((hcomp.trans (setCar _ c _)).trans (rel_ite (writeProgress _ _ _ _ _ _) (composes.andUnless (.refl _)
    (writeProgress _ _ _ _ _ _)))).trans ((carEvent _ c).trans (composes.andUnless (.refl _) (toFm _ _ _)))

theorem carStopAtLine (s : State) (c : Fin 32) (code src : Nat) : HeadsFrame s (s.carStopAtLine c code src) := by
  unfold State.carStopAtLine
  dsimp only
  split
  · exact carStopBy s c code src
  · exact rel_ite (setCar s c _) (carStopBy s c code src)
  · exact .refl s

theorem carUnreserve (s : State) (c : Fin 32) : HeadsFrame s (s.carUnreserve c) :=
  composes.andIf (.refl s) ((setCar s c _).trans (carEvent _ c))

theorem sealRecord (s : State) (i : Fin 4) (outcome : Nat) : HeadsFrame s (s.sealRecord i outcome) := by
  unfold State.sealRecord
  exact (toHeads s _ _ _).trans (toFm _ _ _)

theorem sealFail (s : State) (i : Fin 4) (reason : Nat) : HeadsFrame s (s.sealFail i reason).1 := by
  have hcars : HeadsFrame s ((s.seal i).carriages.foldl (fun s c => s.carUnreserve c) s) :=
    composes.andFold (.refl s) carUnreserve
  unfold State.sealFail
  dsimp only
  refine trans ?_ (sealRecord _ i 2)
  refine trans ?_ (setSeal _ i _)
  exact hcars.trans (.of_heads rfl rfl rfl)

theorem carPost (s : State) (c : Fin 32) : HeadsFrame s (s.carPost c) := by
  unfold State.carPost
  dsimp only
  (repeat' split) <;> exact .of_heads rfl rfl rfl

theorem outingAbsent (s : State) (i : Fin 8) (reason bound : Nat) (post : Bool) :
    HeadsFrame s (s.outingAbsent i reason bound post).1 := by
  unfold State.outingAbsent
  exact (setOuting s i _).trans (rel_ite ((setCar _ _ _).trans (carPost _ _)) (carUnreserve _ _))

theorem aliveStop (s : State) (cause : Nat) : HeadsFrame s (s.aliveStop cause) :=
  composes.andUnless (.refl s) (.of_heads rfl rfl rfl)

theorem noted (s : State) (e : FaultEvent) : HeadsFrame s (s.noted e) := by
  have hlatch : HeadsFrame s (s.latchFirst e) := by
    unfold State.latchFirst
    exact rel_ite (rel_ite (.of_heads rfl rfl rfl) (setFlag _ _ _ _)) (.of_heads rfl rfl rfl)
  have hcount (t : State) : HeadsFrame t (t.countEvent e.src).1 := by
    unfold State.countEvent
    dsimp only
    (repeat' split) <;> exact .of_heads rfl rfl rfl
  have hsnap (t : State) : HeadsFrame t (t.snapTrigger 3 0 e.src) := by
    unfold State.snapTrigger
    dsimp only
    (repeat' split) <;> exact .of_heads rfl rfl rfl
  exact (hlatch.trans (hcount _)).trans (rel_ite (hsnap _) (.refl _))

/-- A fold over a state and the events it causes. -/
theorem foldl_fst {α : Type} {s u : State} (f : State × List FaultEvent → α → State × List FaultEvent) (l : List α)
    (h : HeadsFrame s u) (hf : ∀ p a, HeadsFrame p.1 (f p a).1) : HeadsFrame s (l.foldl f (u, [])).1 := by
  have key : ∀ p : State × List FaultEvent, HeadsFrame s p.1 → HeadsFrame s (l.foldl f p).1 := by
    induction l with
    | nil => exact fun _ hp => hp
    | cons a l ih => exact fun p hp => ih (f p a) (hp.trans (hf p a))
  exact key (u, []) h

theorem beginShutdown (s : State) (src layer : Nat) : HeadsFrame s (s.beginShutdown src layer).1 := by
  have hmark (t : State) : HeadsFrame t ((t.setFlag aTH_STATUS 6 true).thermalRecord src layer 4 0) :=
    (setFlag t _ _ _).trans (toAll _ _ _)
  have hflush (t : State) (l : List Nat) : HeadsFrame t { t with mem := { t.mem with flush := l } } := .of_heads rfl rfl rfl
  have hth (t : State) (x : Thermal) : HeadsFrame t { t with therm := x } := .of_heads rfl rfl rfl
  unfold State.beginShutdown
  split
  · exact .refl s
  · dsimp only
    have h0 : HeadsFrame s ((s.setFld aTH_STATUS 4 2 1).setReg aTH_SHUT
        (packBits [(0, 16, src), (16, 5, if (src == 90) = true then layer else 0x1F)])) := .of_heads rfl rfl rfl
    generalize (s.setFld aTH_STATUS 4 2 1).setReg aTH_SHUT
        (packBits [(0, 16, src), (16, 5, if (src == 90) = true then layer else 0x1F)]) = a at h0 ⊢
    have hmarked := composes.andIf (p := (src == 90) = true) h0 (hmark a)
    generalize (if (src == 90) = true then (a.setFlag aTH_STATUS 6 true).thermalRecord src layer 4 0 else a) = b at hmarked ⊢
    refine trans (foldl_fst _ _ (foldl_fst _ _ ?_ ?_) ?_) (hflush _ _)
    · refine composes.andFold ?_ fun s c => carStopAtLine s c 1 0xFFFF
      exact (hmarked.trans (hth b _)).trans (composes.andFold (refl _) haltThread)
    · intro p i
      split
      · exact (sealFail p.1 i 3).trans (setFlag _ _ _ _)
      · exact refl _
    · intro p i
      split
      · exact (outingAbsent p.1 i 3 0 false).trans (setFlag _ _ _ _)
      · exact refl _

/-- A shutdown that begins causes events without a master alone. -/
theorem beginShutdown_masterless (s : State) (src layer : Nat) : ∀ e ∈ (s.beginShutdown src layer).2, e.master = none := by
  have step {α : Type} (f : State × List FaultEvent → α → State × List FaultEvent) (l : List α) (p : State × List FaultEvent)
      (hp : ∀ e ∈ p.2, e.master = none) (hf : ∀ p a, (∀ e ∈ p.2, e.master = none) → ∀ e ∈ (f p a).2, e.master = none) :
      ∀ e ∈ (l.foldl f p).2, e.master = none := by
    induction l generalizing p with
    | nil => exact hp
    | cons a l ih => exact ih (f p a) (hf p a hp)
  unfold State.beginShutdown
  split
  · simp
  · dsimp only
    refine List.forall_mem_append.2 ⟨step _ _ _ (by simp) fun p i hp => ?_, step _ _ _ (by simp) fun p i hp => ?_⟩
    · split
      · exact List.forall_mem_append.2 ⟨hp, by simp [State.sealFail, FaultEvent.plain]⟩
      · exact hp
    · split
      · exact List.forall_mem_append.2 ⟨hp, by simp [State.outingAbsent, FaultEvent.plain]⟩
      · exact hp

theorem react (s : State) (e : FaultEvent) (he : e.master = none) (cls : Nat) : HeadsFrame s (s.react e cls).1
    ∧ ∀ f ∈ (s.react e cls).2, f.master = none := by
  have hnotify : HeadsFrame s (if 1 ≤ cls then s.notifyFault e.src else s) :=
    composes.andIf (.refl s) ((setFlag s _ _ _).trans (notify _ _))
  unfold State.react
  generalize (if 1 ≤ cls then s.notifyFault e.src else s) = x at hnotify ⊢
  rw [he]
  dsimp only
  split
  · exact ⟨hnotify.trans (aliveStop _ _), by simp⟩
  · split
    · exact ⟨hnotify.trans ((aliveStop _ _).trans (beginShutdown _ _ _)), beginShutdown_masterless _ _ _⟩
    · exact ⟨hnotify, by simp⟩

theorem raiseOne (s : State) (e : FaultEvent) (he : e.master = none) : HeadsFrame s (s.raiseOne e).1
    ∧ ∀ f ∈ (s.raiseOne e).2, f.master = none := by
  cases h : (faultClass e.src).isNone with
  | true => rw [State.raiseOne, if_pos h]; exact ⟨.refl s, by simp⟩
  | false =>
    rw [s.raiseOne_eq e h _ rfl]
    obtain ⟨hframe, hplain⟩ := react _ e he _
    exact ⟨((noted s e).trans (composes.andIf (.refl _) (aliveStop _ 3))).trans hframe, hplain⟩

theorem raiseAll (s : State) (n : Nat) (es : List FaultEvent) (hes : ∀ e ∈ es, e.master = none) :
    HeadsFrame s (s.raiseAll n es) := by
  induction n generalizing s es with
  | zero => exact .refl s
  | succ n ih =>
    cases es with
    | nil => exact .refl s
    | cons e es =>
      obtain ⟨he, hes⟩ := List.forall_mem_cons.1 hes
      obtain ⟨hframe, hplain⟩ := raiseOne s e he
      exact hframe.trans (ih _ _ (List.forall_mem_append.2 ⟨hes, hplain⟩))

theorem raise (s : State) (src idx val : Nat) : HeadsFrame s (s.raise src idx val) :=
  raiseAll s _ _ (by simp [FaultEvent.plain])

/-! The loss of the time source (R67) -/

theorem timeEvent (s : State) (b : Nat) : HeadsFrame s (s.timeEvent b) := by
  unfold State.timeEvent
  exact ((composes.andIf (setFlag s _ _ _) (notify _ _)).trans (toAll _ _ _)).trans (raise _ _ _ _)

theorem timeChange (s : State) (bits : List Nat) : HeadsFrame s (s.timeChange bits) := by
  obtain ⟨events, h⟩ := s.timeChange_eq bits
  rw [h]
  exact composes.andFold (.of_heads rfl rfl rfl) timeEvent

theorem losePtm (s : State) : HeadsFrame s s.losePtm := by
  have hchange (u : TimeUnit) (bits : List Nat) : HeadsFrame s (State.timeChange { s with tu := u } bits) :=
    trans (t := { s with tu := u }) (.of_heads rfl rfl rfl) (timeChange _ bits)
  unfold State.losePtm State.loseSource State.retrust
  dsimp only
  (repeat' split)
  · exact hchange _ _
  · exact hchange _ _
  · exact .of_heads rfl rfl rfl

end HeadsFrame

end Sys2Proof.Machine

/-! ## Links that leave service, and the detectors (R119, R164 to R166, R171, R195 to R197) -/

namespace Sys2Proof.Machine

open Sys2Proof.Claims

/-! Detectors (R164 to R166) -/

section
variable {s : State} {l : Fin 64} {i lo src : Nat}

/-- A rising edge that counts: the flag of LN_STATUS, the count in LN_CNT, and an event of a fault source. -/
theorem State.edgeCounted (hw : s.regsWf = true) (hi : i < 64) (hlo : lo + 16 ≤ 64) (u : State)
    (hu : u = State.settle s (((s.setFlag (aLN_STATUS l) i true).bump (aLN_CNT l) lo 16 1).raise src l 0)) :
    u.flag (aLN_STATUS l) i = true ∧ u.fld (aLN_CNT l) lo 16 = min (s.fld (aLN_CNT l) lo 16 + 1) 0xFFFF := by
  have hne : aLN_STATUS l ≠ aLN_CNT l := by simp only [aLN_STATUS, aLN_CNT]; omega
  have hkeep {a : Nat} (ha : a < 0x40000) : u.reg a = ((s.setFlag (aLN_STATUS l) i true).bump (aLN_CNT l) lo 16 1).reg a :=
    hu ▸ ((State.keepsReg_raise ha _ _ _ _).trans (State.keepsReg_settle (by omega) s _)).2
  have hstatus : u.reg (aLN_STATUS l) = (s.setFlag (aLN_STATUS l) i true).reg (aLN_STATUS l) :=
    (hkeep (by simp only [aLN_STATUS]; omega)).trans (State.reg_bump_ne _ _ _ _ _ _ hne)
  constructor
  · exact (congrArg (BitVec.getLsbD · i) hstatus).trans (s.flag_setFlag_same _ _ _ hw hi)
  · refine (congrArg (getBits · lo 16) (hkeep (by simp only [aLN_CNT]; omega))).trans ?_
    refine (State.fld_bump_same _ _ _ _ _ (s.setReg_regsWf _ _ hw) hlo).trans ?_
    exact congrArg (fun n => min (n + 1) 0xFFFF) (congrArg (getBits · lo 16) (s.reg_setFlag_ne _ _ _ _ hne.symm))

/-- A detector that asserts without a counted edge sets its flag. -/
theorem State.edgeUncounted (hw : s.regsWf = true) (hi : i < 64) :
    (s.setFlag (aLN_STATUS l) i true).flag (aLN_STATUS l) i = true
      ∧ (s.setFlag (aLN_STATUS l) i true).fld (aLN_CNT l) lo 16 = s.fld (aLN_CNT l) lo 16 :=
  ⟨s.flag_setFlag_same _ _ _ hw hi, congrArg (getBits · lo 16)
    (s.reg_setFlag_ne _ _ _ _ (by simp only [aLN_STATUS, aLN_CNT]; omega))⟩

end

/-- LOS_ASSERT (R164, R166). -/
theorem execLosAssert_counts {s : State} (hw : s.regsWf = true) (l : Fin 64) (idle : Bool) :
    ∃ u, execLosAssert l idle s = .next u ∧ u.flag (aLN_STATUS l) 0 = true
      ∧ u.fld (aLN_CNT l) 0 16 = (if s.flag (aLN_STATUS l) 0 = false ∧ idle = false ∧ s.edgesCount l = true
          then min (s.fld (aLN_CNT l) 0 16 + 1) 0xFFFF else s.fld (aLN_CNT l) 0 16) := by
  unfold execLosAssert
  dsimp only
  split
  · exact ⟨_, finish_next _ _, State.edgeCounted hw (by decide) (by decide) _ rfl⟩
  · exact ⟨_, rfl, State.edgeUncounted hw (by decide)⟩

/-- LOL_ASSERT (R165, R166). -/
theorem execLolAssert_counts {s : State} (hw : s.regsWf = true) (l : Fin 64) (idle : Bool) :
    ∃ u, execLolAssert l s idle = .next u ∧ u.flag (aLN_STATUS l) 1 = true
      ∧ u.fld (aLN_CNT l) 16 16 = (if s.flag (aLN_STATUS l) 1 = false ∧ idle = false ∧ s.edgesCount l = true
          then min (s.fld (aLN_CNT l) 16 16 + 1) 0xFFFF else s.fld (aLN_CNT l) 16 16) := by
  unfold execLolAssert
  dsimp only
  split
  · exact ⟨_, finish_next _ _, State.edgeCounted hw (by decide) (by decide) _ rfl⟩
  · exact ⟨_, rfl, State.edgeUncounted hw (by decide)⟩

/-! A loss of PTM leaves the registers that no time event and no reaction writes -/

section
variable {a : Nat} (ha : a < 0xE0000) (hr : ¬ReactionReg a) (he : a ≠ aTU_EVENT)
include ha hr he

theorem State.keepsReg_timeEvent (s : State) (b : Nat) : State.KeepsReg a s (s.timeEvent b) := by
  have hP := State.keepsReg_reaction ha hr
  unfold State.timeEvent
  refine (State.KeepsReg.trans ?_ (hP.toAll _ _ _)).trans (hP.raise _ _ _ _)
  exact (State.keepsReg_composes a).andIf (.setReg s aTU_EVENT _ he) (.of_regs rfl)

theorem State.keepsReg_timeChange (s : State) (bits : List Nat) : State.KeepsReg a s (s.timeChange bits) := by
  obtain ⟨events, h⟩ := s.timeChange_eq bits
  rw [h]
  exact (State.keepsReg_composes a).andFold (.of_regs rfl) (State.keepsReg_timeEvent ha hr he)

theorem State.keepsReg_losePtm (s : State) : State.KeepsReg a s s.losePtm := by
  have hchange (u : TimeUnit) (bits : List Nat) : State.KeepsReg a s (State.timeChange { s with tu := u } bits) :=
    State.KeepsReg.trans (t := { s with tu := u }) (.of_regs rfl) (State.keepsReg_timeChange ha hr he _ bits)
  unfold State.losePtm State.loseSource State.retrust
  dsimp only
  (repeat' split)
  · exact hchange _ _
  · exact hchange _ _
  · exact .of_regs rfl

end

/-- A frame of states that agree on all but the time unit. -/
theorem FaultFrame.setTu {s u : State} (h : FaultFrame s u) (t : TimeUnit) :
    FaultFrame { s with tu := t } { u with tu := t } :=
  ⟨h.pending, h.pend, rfl, h.halt, h.dram, h.grants, h.filling, h.cache, h.chans, h.integ, h.links, h.otp, h.img, h.pins,
   h.regul, h.regs, h.pstore⟩

/-- What the loss of a head's link leaves once the head has left service: the heads but for their logs, all that no
fault touches but for the time unit, and the registers that no time event and no reaction writes. -/
structure State.LossFrame (s u : State) : Prop where
  heads : HeadsFrame s u
  frame : ∃ t, FaultFrame { s with tu := t } u
  regs : ∀ a, a < 0xE0000 → ¬ReactionReg a → a ≠ aTU_EVENT → State.KeepsReg a s u

theorem State.LossFrame.trans {s t u : State} (h : s.LossFrame t) (k : t.LossFrame u) : s.LossFrame u := by
  obtain ⟨x, hx⟩ := h.frame
  obtain ⟨y, hy⟩ := k.frame
  exact ⟨h.heads.trans k.heads, ⟨y, (hx.setTu y).trans hy⟩, fun a ha hr he => (h.regs a ha hr he).trans (k.regs a ha hr he)⟩

theorem State.lossFrame_composes : Composes State.LossFrame where
  refl s := ⟨.refl s, ⟨s.tu, .refl s⟩, fun _ _ _ _ => .of_regs rfl⟩
  trans := State.LossFrame.trans

theorem State.lossFrame_notify (s : State) (b : Nat) : s.LossFrame (s.notify b) :=
  ⟨.notify s b, ⟨s.tu, .notify s b⟩, fun _ _ _ _ => .of_regs rfl⟩

theorem State.lossFrame_toFm (s : State) (log : EventLog) (r : Record) : s.LossFrame (s.toFm log r) :=
  ⟨.toFm s log r, ⟨s.tu, .toFm s log r⟩, fun _ ha hr _ => (State.keepsReg_reaction ha hr).toFm s log r⟩

theorem State.lossFrame_losePtm (s : State) : s.LossFrame s.losePtm :=
  ⟨.losePtm s, s.losePtm_frame, fun _ ha hr he => s.keepsReg_losePtm ha hr he⟩

/-! The link is lost (R196, R197) -/

/-- A head whose link has left service. -/
def Head.outOfService (h : Head) (next : LinkState) : Head :=
  { h with link := next, lanes := [], reversed := false, rate := 0, bypass := false, precode := [], held := h.held || h.up }

/-- The lanes and the head follow the link out of service. -/
def State.linkLeft (s : State) (k : Fin 16) (next : LinkState) : State :=
  let t := s.laneStatus k [] 0 [] false
  State.setHead { t with laneEq := t.laneEq.filter (fun p => !(t.lanesOf k).contains (lane64 p.1)) } k
    ((s.head k).outOfService next)

/-- The registers of a link that was up tell its loss (R197). -/
def State.lossTold (s : State) (k : Fin 16) (reads : Nat) : State :=
  let s := (s.bump (aHD_DISCARD k) 0 16 reads)
  (s.setReg (aHD_LAST_DOWN k) s.nowW).bump (aHD_DOWN_CNT k) 0 16 1

section
variable (s : State) (k : Fin 16) (next : LinkState)

theorem State.linkLeft_eq : s.linkLeft k next
    = { s with regs := (s.linkLeft k next).regs, laneEq := (s.linkLeft k next).laneEq, heads := (s.linkLeft k next).heads } := by
  have h := s.laneStatus_regsOnly k [] 0 [] false
  unfold State.linkLeft
  generalize s.laneStatus k [] 0 [] false = t at h ⊢
  rw [h]
  rfl

theorem State.linkLeft_head : (s.linkLeft k next).head k = (s.head k).outOfService next := State.head_setHead_same _ _ _

theorem State.linkLeft_head_ne {j : Fin 16} (hj : j ≠ k) : (s.linkLeft k next).head j = s.head j := by
  refine (State.head_setHead_ne _ _ _ _ hj).trans ?_
  have h : (s.laneStatus k [] 0 [] false).heads = s.heads := by
    have hregs := s.laneStatus_regsOnly k [] 0 [] false
    rw [State.RegsOnly] at hregs
    rw [hregs]
  exact congrArg (fun v : Vector Head 16 => v[j]) h

/-- No register but LN_STATUS shows it. -/
theorem State.linkLeft_keepsReg (hw : s.regsWf = true) {a : Nat} (ha : a < 0x21000 ∨ 0x22000 ≤ a) :
    State.KeepsReg a s (s.linkLeft k next) := by
  have h := s.laneStatus_writes k [] 0 [] false
  exact ⟨fun _ => h.wf hw, h.reg hw (not_linkBit (ha.imp_right .inl))⟩

/-- A head whose link was not up only leaves its link state. -/
theorem State.headDown_idle (cause : Nat) (h : (s.head k).up = false) : s.headDown k cause next = s.linkLeft k next := by
  unfold State.headDown
  dsimp only
  rw [if_pos h]
  rfl

end

/-- The state of a loss before its record goes out: the head, its requests, its registers and its CDAT. -/
def State.linkLost (s : State) (k : Fin 16) (next : LinkState) : State :=
  let t := s.linkLeft k next
  ((t.dropReads k).lossTold k (t.outstandingReads k)).cdatFollow k (s.head k).cap

section
variable (s : State) (k : Fin 16) (cause : Nat) (next : LinkState)

/-- A link that was up is lost, and then told to the threads, the fabric manager and the time unit. -/
theorem State.headDown_up (h : (s.head k).up = true) : ∃ r : Record, s.headDown k cause next
    = if (((s.linkLost k next).notify 14).toFm .warning r).fld aTU_CTRL 4 4 = k.val
      then (((s.linkLost k next).notify 14).toFm .warning r).losePtm
      else ((s.linkLost k next).notify 14).toFm .warning r := by
  unfold State.headDown
  dsimp only
  rw [if_neg (by simp [h])]
  exact ⟨_, rfl⟩

/-- What the end of a loss leaves of the state before its record goes out. -/
theorem State.headDown_ends (h : (s.head k).up = true) : (s.linkLost k next).LossFrame (s.headDown k cause next) := by
  obtain ⟨r, hdown⟩ := s.headDown_up k cause next h
  rw [hdown]
  exact State.lossFrame_composes.andIf (((s.linkLost k next).lossFrame_notify 14).trans (State.lossFrame_toFm _ _ _))
    (State.lossFrame_losePtm _)

end

end Sys2Proof.Machine

/-! ## Every cause of DL_Down (R119, R171, R196, R197) -/

namespace Sys2Proof.Machine

open Sys2Proof.Claims

section
variable (s : State) (k : Fin 16)

theorem State.outstandingReads_congr {s u : State} (hp : u.mem.ports = s.mem.ports) (hm : u.mem.missQ = s.mem.missQ)
    (hc : u.chans = s.chans) : u.outstandingReads k = s.outstandingReads k := by
  rw [State.outstandingReads, State.outstandingReads, hp, hm, hc]

/-- No read of the head is outstanding once its reads are dropped. -/
theorem State.outstandingReads_dropReads : (s.dropReads k).outstandingReads k = 0 := by
  have hdrop (r : Req) : (r.isReadOf k && !(r.isReadOf k || (r.src == .head k && (r.kind == .spec || r.kind == .inv))))
      = false := by cases r.isReadOf k <;> simp
  have hpool (ch : Channel) : (List.filter (fun (e : PoolEntry) => e.req.isReadOf k)
      (ch.pool.filter (fun e => !(e.req.isReadOf k || (e.req.src == .head k && (e.req.kind == .spec || e.req.kind == .inv))))))
      = [] := by
    rw [List.filter_filter, List.filter_eq_nil_iff]
    exact fun e _ => by simp only [hdrop e.req, Bool.false_eq_true, not_false_eq_true]
  have hreqs (l : List Req) : List.filter (fun r => r.isReadOf k)
      (l.filter (fun r => !(r.isReadOf k || (r.src == .head k && (r.kind == .spec || r.kind == .inv))))) = [] := by
    rw [List.filter_filter, List.filter_eq_nil_iff]
    exact fun r _ => by simp only [hdrop r, Bool.false_eq_true, not_false_eq_true]
  unfold State.outstandingReads State.dropReads
  dsimp only
  rw [hreqs, hreqs, Vector.toList_map, List.map_map]
  simp only [Function.comp_def, hpool, List.length_nil, List.map_const', List.sum_replicate, smul_zero, Nat.add_zero]

end

section
variable (s : State) (k : Fin 16) (next : LinkState)

theorem State.lossTold_head (reads : Nat) (j : Fin 16) : (s.lossTold k reads).head j = s.head j := rfl
theorem State.lossTold_mem (reads : Nat) : (s.lossTold k reads).mem = s.mem := rfl
theorem State.lossTold_chans (reads : Nat) : (s.lossTold k reads).chans = s.chans := rfl
theorem State.lossTold_dram (reads : Nat) : (s.lossTold k reads).dram = s.dram := rfl
theorem State.dropReads_head (j : Fin 16) : (s.dropReads k).head j = s.head j := rfl
theorem State.dropReads_dram : (s.dropReads k).dram = s.dram := rfl
theorem State.dropReads_tu : (s.dropReads k).tu = s.tu := rfl
theorem State.dropReads_regs : (s.dropReads k).regs = s.regs := rfl

/-- The head of a lost link, and the others. -/
theorem State.linkLost_head : (∃ n, (s.linkLost k next).head k = { (s.head k).outOfService next with cdatSeq := n })
    ∧ ∀ j, j ≠ k → (s.linkLost k next).head j = s.head j := by
  obtain ⟨n, hn⟩ := State.cdatFollow_changes
    (((s.linkLeft k next).dropReads k).lossTold k ((s.linkLeft k next).outstandingReads k)) k (s.head k).cap
  rw [State.linkLost, hn]
  refine ⟨⟨n, ?_⟩, fun j hj => ?_⟩
  · rw [State.head_setHead_same, State.lossTold_head, State.dropReads_head, State.linkLeft_head]
  · rw [State.head_setHead_ne _ _ _ _ hj, State.lossTold_head, State.dropReads_head, s.linkLeft_head_ne k next hj]

/-- A loss follows its head in the registers, the heads and the requests alone. -/
theorem State.linkLost_frame : (s.linkLost k next).dram = s.dram
    ∧ (s.linkLost k next).outstandingReads k = 0
    ∧ (s.linkLost k next).regs
      = (((s.linkLeft k next).dropReads k).lossTold k ((s.linkLeft k next).outstandingReads k)).regs := by
  obtain ⟨n, hn⟩ := State.cdatFollow_changes
    (((s.linkLeft k next).dropReads k).lossTold k ((s.linkLeft k next).outstandingReads k)) k (s.head k).cap
  rw [State.linkLost, hn]
  refine ⟨?_, ?_, State.setHead_regs _ _ _⟩
  · rw [State.setHead_dram, State.lossTold_dram, State.dropReads_dram, s.linkLeft_eq k next]
  · rw [← (s.linkLeft k next).outstandingReads_dropReads k]
    refine State.outstandingReads_congr k ?_ ?_ ?_
    · rw [State.setHead_mem, State.lossTold_mem]
    · rw [State.setHead_mem, State.lossTold_mem]
    · rw [State.setHead_chans, State.lossTold_chans]

/-- What the registers tell of a loss (R197). -/
theorem State.lossTold_tells (reads : Nat) (hw : s.regsWf = true) (u : State) (hu : u = s.lossTold k reads) :
    u.reg (aHD_LAST_DOWN k) = s.nowW ∧ u.fld (aHD_DOWN_CNT k) 0 16 = min (s.fld (aHD_DOWN_CNT k) 0 16 + 1) 0xFFFF
    ∧ ∀ a, a < 0x50000 → State.KeepsReg a s u := by
  subst hu
  have hw1 := s.bump_regsWf (aHD_DISCARD k) 0 16 reads hw
  have hw2 := State.setReg_regsWf _ (aHD_LAST_DOWN k) (s.bump (aHD_DISCARD k) 0 16 reads).nowW hw1
  have hlast : aHD_LAST_DOWN k ≠ aHD_DOWN_CNT k := by simp only [aHD_LAST_DOWN, aHD_DOWN_CNT]; omega
  have hdiscard : aHD_DOWN_CNT k ≠ aHD_DISCARD k := by simp only [aHD_DOWN_CNT, aHD_DISCARD]; omega
  refine ⟨?_, ?_, fun a ha => ?_⟩
  · exact (State.reg_bump_ne _ _ _ _ _ _ hlast).trans (State.reg_setReg_same _ _ _ hw1)
  · refine (State.fld_bump_same _ _ _ _ _ hw2 (by decide)).trans ?_
    refine congrArg (fun n => min (n + 1) 0xFFFF) (congrArg (getBits · 0 16) ?_)
    exact (State.reg_setReg_ne _ _ _ _ hlast.symm).trans (s.reg_bump_ne _ _ _ _ _ hdiscard)
  · refine ((State.KeepsReg.setReg s _ _ ?_).andReg ?_).andReg ?_
    · simp only [aHD_DISCARD]; omega
    · simp only [aHD_LAST_DOWN]; omega
    · simp only [aHD_DOWN_CNT]; omega

/-- What the registers tell once a link is lost. -/
theorem State.linkLost_tells (hw : s.regsWf = true) :
    (s.linkLost k next).reg (aHD_LAST_DOWN k) = s.nowW
    ∧ (s.linkLost k next).fld (aHD_DOWN_CNT k) 0 16 = min (s.fld (aHD_DOWN_CNT k) 0 16 + 1) 0xFFFF
    ∧ ∀ a, a < 0x21000 → State.KeepsReg a s (s.linkLost k next) := by
  obtain ⟨-, -, hregs⟩ := s.linkLost_frame k next
  have hleft : ∀ a, a < 0x21000 ∨ 0x22000 ≤ a → State.KeepsReg a s ((s.linkLeft k next).dropReads k) := fun a ha =>
    (s.linkLeft_keepsReg k next hw ha).trans (.of_regs (State.dropReads_regs _ k))
  have hwf : ((s.linkLeft k next).dropReads k).regsWf = true := (hleft 0 (by decide)).1 hw
  have hnow : ((s.linkLeft k next).dropReads k).nowW = s.nowW :=
    State.nowW_of_tu (by rw [State.dropReads_tu, s.linkLeft_eq k next])
  have hcnt : ((s.linkLeft k next).dropReads k).fld (aHD_DOWN_CNT k) 0 16 = s.fld (aHD_DOWN_CNT k) 0 16 :=
    congrArg (getBits · 0 16) (hleft _ (.inr (by simp only [aHD_DOWN_CNT]; omega))).2
  obtain ⟨hlast, hdown, hkeep⟩ := State.lossTold_tells _ k ((s.linkLeft k next).outstandingReads k) hwf _ rfl
  refine ⟨(State.reg_congr hregs _).trans (hlast.trans hnow),
    (congrArg (getBits · 0 16) (State.reg_congr hregs _)).trans (hdown.trans (by rw [hcnt])), fun a ha => ?_⟩
  exact ((hleft a (.inl ha)).trans (hkeep a (by omega))).trans (.of_regs hregs)

end

/-- Every cause of DL_Down has the effects of R197 on a head whose link was up. -/
theorem State.headDown_down (s : State) (k : Fin 16) (cause : Nat) (next : LinkState) (hup : (s.head k).up = true)
    (hw : s.regsWf = true) (b u : State) (hu : u = State.settle b (s.headDown k cause next)) :
    Down s u k next ∧ ∀ a, a < 0x21000 → State.KeepsReg a s u := by
  obtain ⟨⟨n, hn⟩, hothers⟩ := s.linkLost_head k next
  obtain ⟨hdram, hreads, -⟩ := s.linkLost_frame k next
  obtain ⟨hlast, hcnt, hkeep⟩ := s.linkLost_tells k next hw
  obtain ⟨hheads, ⟨t, hframe⟩, hregs⟩ := s.headDown_ends k cause next hup
  have hend (a : Nat) (ha : a < 0xE0000) (hr : ¬ReactionReg a) (he : a ≠ aTU_EVENT) :
      State.KeepsReg a (s.linkLost k next) u := hu ▸ (hregs a ha hr he).trans (State.keepsReg_settle ha b _)
  have hhd (a : Nat) (h1 : 0x50000 ≤ a) (h2 : a < 0x60000) : State.KeepsReg a (s.linkLost k next) u :=
    hend a (by omega) (by simp only [ReactionReg]; omega) (by simp only [aTU_EVENT]; omega)
  have hgrants : u.grants = s.grants := by
    rw [hu, (State.steady_settle _ b).2.2, (s.steady_headDown k cause next).2.2]
  obtain ⟨regs, due, hsettle⟩ := State.settle_changes (s.headDown k cause next) b
  have hhead (j : Fin 16) : u.head j = (s.headDown k cause next).head j := by rw [hu, State.settle_head]
  obtain ⟨l, hl⟩ := hheads.head k
  have hk : u.head k = { (s.head k).outOfService next with cdatSeq := n, logs := l } := by rw [hhead, hl, hn]
  refine ⟨⟨?_, ?_, ?_, ?_, ?_, ?_, ?_, ?_, hgrants, ?_, fun j hj => ?_⟩, fun a ha => ?_⟩
  · rw [hk]; rfl
  · rw [hk]; rfl
  · rw [hk]; rfl
  · rw [hk]; exact (congrArg ((s.head k).held || ·) hup).trans (Bool.or_true _)
  · rw [hk]; rfl
  · exact (hhd _ (by simp only [aHD_LAST_DOWN]; omega) (by simp only [aHD_LAST_DOWN]; omega)).2.trans hlast
  · exact ((hhd _ (by simp only [aHD_DOWN_CNT]; omega) (by simp only [aHD_DOWN_CNT]; omega)).fld 0 16).trans hcnt
  · rw [← hreads, hu, hsettle]
    exact State.outstandingReads_congr k hheads.ports hheads.missQ hframe.chans
  · rw [hu, State.settle_dram, hframe.dram, ← hdram]
  · obtain ⟨m, hm⟩ := hheads.head j
    rw [hhead, hm, ← hothers j hj]
  · exact (hkeep a ha).trans (hend a (by omega) (by simp only [ReactionReg]; omega) (by simp only [aTU_EVENT]; omega))

/-! PERST_N (R119) -/

theorem State.perstPin_injective (s : State) {j k : Nat} (h : s.perstPin j = s.perstPin k) : j = k := by
  unfold State.perstPin headWidth at h
  split at h
  · omega
  · split at h <;> omega

/-- PERST_N of a present head names that head alone. -/
theorem State.perstHead (s : State) (k : Fin 16) (m : Nat) (hk : s.present k = true) (hm : s.perstPin k = m) :
    (List.finRange 16).find? (fun j : Fin 16 => s.present j.val && s.perstPin j.val == m) = some k := by
  obtain ⟨j, hj⟩ := Option.isSome_iff_exists.1 (List.find?_isSome.2 ⟨k, List.mem_finRange k, by simp [hk, hm]⟩ :
    ((List.finRange 16).find? (fun j : Fin 16 => s.present j.val && s.perstPin j.val == m)).isSome = true)
  have hpin := List.find?_some hj
  simp only [Bool.and_eq_true, beq_iff_eq] at hpin
  rw [hj, Fin.ext (s.perstPin_injective (hpin.2.trans hm.symm))]

theorem execPerstNAssert_down {s : State} {k m : Fin 16} (hw : s.regsWf = true) (hk : s.present k = true)
    (hm : s.perstPin k = m.val) (hup : (s.head k).up = true) :
    ∃ u, execPerstNAssert m s = .next u ∧ Down s u k .detect ∧ u.flag aMOD_PERST m.val = false := by
  have hlayout : (s.setFlag aMOD_PERST m.val false).layout = s.layout :=
    congrArg (getBits · 2 2) (s.reg_setFlag_ne _ _ _ _ (by decide))
  have hfind : (List.finRange 16).find? (fun j : Fin 16 => (s.setFlag aMOD_PERST m.val false).present j.val
      && (s.setFlag aMOD_PERST m.val false).perstPin j.val == m.val) = some k := by
    refine State.perstHead _ k m.val ?_ ?_
    · rw [State.present, hlayout]; exact hk
    · rw [State.perstPin, hlayout]; exact hm
  have hwf : (s.setFlag aMOD_PERST m.val false).regsWf = true := s.setReg_regsWf _ _ hw
  obtain ⟨⟨hlink, hlanes, hrate, hheld, hmode, hlast, hcnt, hreads, hgrants, hdram, hothers⟩, hkeep⟩ :=
    State.headDown_down (s.setFlag aMOD_PERST m.val false) k 1 .detect hup hwf s _ rfl
  refine ⟨_, ?_, ⟨hlink, hlanes, hrate, hheld, hmode, hlast, ?_, hreads, hgrants, hdram, hothers⟩, ?_⟩
  · unfold execPerstNAssert
    dsimp only
    rw [hfind]
    exact finish_next _ _
  · rw [hcnt]
    refine congrArg (fun n => min (n + 1) 0xFFFF) (congrArg (getBits · 0 16) (s.reg_setFlag_ne _ _ _ _ ?_))
    simp only [aHD_DOWN_CNT, aMOD_PERST]; omega
  · exact ((hkeep aMOD_PERST (by decide)).flag m.val).trans (s.flag_setFlag_same _ _ _ hw (by omega))

/-! The causes one by one -/

section
variable {s : State} {k : Fin 16}

/-- A command that takes an up link down ends in the state of its loss. -/
theorem State.headDown_finish (hw : s.regsWf = true) (hup : (s.head k).up = true) (cause : Nat) (next : LinkState) :
    ∃ u, finish s (s.headDown k cause next) = .next u ∧ Down s u k next :=
  ⟨_, finish_next _ _, (s.headDown_down k cause next hup hw s _ rfl).1⟩

theorem execRecoveryFailure_down (hw : s.regsWf = true) (h : (s.head k).link = .recovery ∨ (s.head k).link = .speedChange) :
    ∃ u, execRecoveryFailure k s = .next u ∧ Down s u k .detect := by
  have hup : (s.head k).up = true := by rcases h with h | h <;> simp [Head.up, h]
  rw [execRecoveryFailure, if_pos h]
  exact State.headDown_finish hw hup 0 .detect

theorem execHotReset_down (hw : s.regsWf = true) (hup : (s.head k).up = true) :
    ∃ u, execHotReset k s = .next u ∧ Down s u k .detect := by
  rw [execHotReset, if_pos hup]
  exact State.headDown_finish hw hup 3 .detect

theorem execLinkDisable_down (hw : s.regsWf = true) (hup : (s.head k).up = true) :
    ∃ u, execLinkDisable k s = .next u ∧ Down s u k .disabled := by
  rw [execLinkDisable, if_pos hup]
  exact State.headDown_finish hw hup 3 .disabled

theorem execLoopbackFollowerEntry_down (hw : s.regsWf = true) (hup : (s.head k).up = true) :
    ∃ u, execLoopbackFollowerEntry k s = .next u ∧ Down s u k .loopback := by
  rw [execLoopbackFollowerEntry, if_pos (.inl hup)]
  exact State.headDown_finish hw hup 2 .loopback

/-- Entry into Loopback while the link trains changes the head's own link alone (R171). -/
theorem execLoopbackFollowerEntry_training (h : (s.head k).link = .training) :
    ∃ u, execLoopbackFollowerEntry k s = .next u ∧ (u.head k).link = .loopback ∧ (∀ j, j ≠ k → u.head j = s.head j) := by
  have hidle : (s.head k).up = false := by simp [Head.up, h]
  rw [execLoopbackFollowerEntry, if_pos (.inr h), s.headDown_idle k .loopback 2 hidle]
  refine ⟨_, finish_next _ _, ?_, fun j hj => ?_⟩
  · rw [State.settle_head, State.linkLeft_head]
    rfl
  · rw [State.settle_head, s.linkLeft_head_ne k _ hj]

end

/-- Settles O45, from the lemma of each cause and of each detector. -/
theorem linkLossAndDetectors : Obligations.LinkLossAndDetectors := fun _ _ l _ hw =>
  ⟨execRecoveryFailure_down hw, execHotReset_down hw, execLinkDisable_down hw, execLoopbackFollowerEntry_down hw,
    execLoopbackFollowerEntry_training, fun _ => execPerstNAssert_down hw, execLosAssert_counts hw l,
    execLolAssert_counts hw l, rfl, rfl, fun hup => if_pos hup⟩

end Sys2Proof.Machine

/-! ## Requests of the heads on their way to admission (R180, R181, R185, R188, R194, R201, R203, R378, R435, R436) -/

namespace Sys2Proof.Machine

open Sys2Proof.Claims

/-! What a request comes to (R188) -/

/-- What Table 5.5 answers to a request of CXL.mem that is not performed. -/
def State.refusal (s : State) (k : Fin 16) (kind : ReqKind) (tag : Nat) : List Output :=
  match kind with
  | .spec => []
  | .read => [.memData k tag poisonLine (s.head k).load]
  | _ => [.memCmp k tag (s.head k).load]

theorem State.respondRefused_mem (s : State) (k : Fin 16) (r : Req) (h : r.uio = false) :
    s.respondRefused k r = { s with outputs := s.outputs ++ s.refusal k r.kind r.tag } := by
  rw [State.respondRefused, if_neg (by simp [h])]
  cases hkind : r.kind with
  | spec => simp [State.refusal]
  | _ => rfl

/-- A refused request leaves the heads and the requests at admission as they are. -/
theorem HeadsFrame.respondRefused (s : State) (k : Fin 16) (r : Req) : HeadsFrame s (s.respondRefused k r) := by
  obtain ⟨opens, o, h⟩ := s.respondRefused_changes k r
  rw [h]
  exact .of_heads rfl rfl rfl

theorem State.extentRead_good (s : State) : s.extentRead .good = s := if_pos rfl

section
variable (s : State) (k : Fin 16) (addr : Nat) (r : Req) (rs : List Req)

/-- The address and the lines of a request lie in the decoders and the extents of its head (R185, R378). -/
def State.inside : Prop := (s.lineOf k addr).isSome = true ∧ ∀ q ∈ r :: rs, s.granted k q.line = true

theorem State.arrive_fenced (extents : SramCheck) (hm : (s.head k).mode = .fenced) :
    s.arrive k addr (r :: rs) extents = (s.respondRefused k r).bump (aHD_DISCARD k) 16 16 1 := if_pos hm

/-- A request whose line of the extent table is lost is refused (R436). -/
theorem State.arrive_lost (hm : (s.head k).mode ≠ .fenced) :
    s.arrive k addr (r :: rs) .bothCopies = (s.extentRead .bothCopies).respondRefused k r :=
  (if_neg hm).trans (if_pos rfl)

variable {s k addr r rs} {extents : SramCheck}

/-- A request outside the decoders or the extents is refused, and is a violation (R185, R194). -/
theorem State.arrive_outside (hm : (s.head k).mode ≠ .fenced) (hout : ¬ s.inside k addr r rs) :
    s.arrive k addr (r :: rs) .good
      = (s.respondRefused k r).headViolation k 0 (((s.lineOf k addr).map (· * 64)).getD addr) (r.stamp / 2) := by
  rw [State.arrive, if_neg hm, s.extentRead_good]
  refine (if_neg (by simp)).trans (if_pos ?_)
  by_contra h
  simp only [not_or, List.any_eq_true, not_exists, not_and, Bool.not_eq_true, Bool.not_eq_eq_eq_not, Bool.not_true] at h
  obtain ⟨hline, hall⟩ := h
  exact hout ⟨by simpa using hline, fun q hq => by simpa using hall q hq⟩

/-- One that lies inside, in a table that can be read, passes at once or waits for admission. -/
theorem State.arrive_inside (hm : (s.head k).mode ≠ .fenced) (hx : extents ≠ .bothCopies)
    (hin : (s.extentRead extents).inside k addr r rs) :
    s.arrive k addr (r :: rs) extents = if (s.extentRead extents).passesNow k r then (s.extentRead extents).passNow k r
      else { s.extentRead extents with mem := { (s.extentRead extents).mem with
        ports := (s.extentRead extents).mem.ports ++ r :: rs } } := by
  obtain ⟨hline, hall⟩ := hin
  refine (if_neg hm).trans ((if_neg hx).trans (if_neg ?_))
  rintro (h | h)
  · rw [Option.isNone_iff_eq_none] at h
    rw [h] at hline
    exact absurd hline (by simp)
  · obtain ⟨q, hq, hne⟩ := List.any_eq_true.1 h
    simp [hall q hq] at hne

/-- A request that cannot pass at once waits, whether its kind or its head keeps it (R188, R201). -/
theorem State.arrive_waits (hm : (s.head k).mode ≠ .fenced) (hin : s.inside k addr r rs) (hp : s.passesNow k r = false) :
    s.arrive k addr (r :: rs) .good = { s with mem := { s.mem with ports := s.mem.ports ++ r :: rs } } := by
  rw [State.arrive_inside hm (by simp) (by rw [s.extentRead_good]; exact hin), s.extentRead_good,
    if_neg (ne_true_of_eq_false hp)]

theorem State.arrive_passes (hm : (s.head k).mode ≠ .fenced) (hin : s.inside k addr r rs) (hp : s.passesNow k r = true) :
    s.arrive k addr (r :: rs) .good = s.passNow k r := by
  rw [State.arrive_inside hm (by simp) (by rw [s.extentRead_good]; exact hin), s.extentRead_good, if_pos hp]

/-- Reads and writes never pass at once. -/
theorem State.passesNow_data (hspec : r.kind ≠ .spec) (hinv : r.kind ≠ .inv) : s.passesNow k r = false := by
  simp [State.passesNow, hspec, hinv]

theorem State.passesNow_frozen {w : Nat} (hm : (s.head k).mode = .frozen w) : s.passesNow k r = false := by
  simp [State.passesNow, State.headServes, hm]

end

/-! The commands of CXL.mem (R180, R181) -/

/-- A command of CXL.mem, with the request that it brings. -/
inductive MemCmd (k : Fin 16) (addr tag : Nat) (extents : SramCheck) : Instr → ReqKind → Line → BitVec 64 → Prop
  | rd : MemCmd k addr tag extents (.memRd k addr tag extents) .read 0 0
  | rdData : MemCmd k addr tag extents (.memRdData k addr tag extents) .read 0 0
  | inv : MemCmd k addr tag extents (.memInv k addr tag extents) .inv 0 0
  | spec : MemCmd k addr tag extents (.memSpecRd k addr tag extents) .spec 0 0
  | wr (data : Line) : MemCmd k addr tag extents (.memWr k addr data tag extents) .write data (BitVec.allOnes 64)
  | wrPtl (data : Line) (mask : BitVec 64) : MemCmd k addr tag extents (.memWrPtl k addr data mask tag extents)
      .partialWrite data mask

/-- The request of a command of CXL.mem. -/
def State.memReq (s : State) (k : Fin 16) (kind : ReqKind) (addr : Nat) (data : Line) (mask : BitVec 64) (tag : Nat) : Req :=
  s.hostReq k kind false addr { data := data, poison := false } mask tag

section
variable {s : State} {k : Fin 16} {addr tag : Nat} {extents : SramCheck} {i : Instr} {kind : ReqKind} {data : Line}
  {mask : BitVec 64}

theorem MemCmd.exec_eq (hi : MemCmd k addr tag extents i kind data mask) (hopen : s.memOpen k = true) :
    exec i s = finish s (s.arrive k addr [s.memReq k kind addr data mask tag] extents) := by
  have hreq : s.memRequest k kind addr data mask tag extents
      = s.arrive k addr [s.memReq k kind addr data mask tag] extents := if_pos hopen
  rw [← hreq]
  cases hi <;> rfl

/-- The extents of the request of a command of CXL.mem. -/
theorem State.inside_memReq : s.inside k addr (s.memReq k kind addr data mask tag) []
    ↔ ∃ l, s.lineOf k addr = some l ∧ s.granted k l = true := by
  cases h : s.lineOf k addr with
  | none => simp [State.inside, h]
  | some l => simp [State.inside, State.memReq, State.hostReq, h]

end

/-! Noting an event (R589 to R591) -/

theorem State.latchFirst_changes (s : State) (e : FaultEvent) : ∃ regs first,
    s.latchFirst e = { s with regs := regs, fcFirstCycle := first } := by
  unfold State.latchFirst
  dsimp only
  (repeat' split) <;> exact ⟨_, _, rfl⟩

theorem State.countEvent_changes (s : State) (src : Nat) : ∃ regs win,
    (s.countEvent src).1 = { s with regs := regs, fcWindow := win } := by
  unfold State.countEvent
  dsimp only
  (repeat' split) <;> exact ⟨_, _, rfl⟩

theorem State.snapTrigger_changes (s : State) (b comp severe : Nat) : ∃ regs snap due,
    s.snapTrigger b comp severe = { s with regs := regs, snapCycle := snap, snapDue := due } := by
  unfold State.snapTrigger
  dsimp only
  (repeat' split) <;> exact ⟨_, _, _, rfl⟩

theorem State.noted_changes (s : State) (e : FaultEvent) : ∃ regs win first snap due,
    s.noted e = { s with regs := regs, fcWindow := win, fcFirstCycle := first, snapCycle := snap, snapDue := due } := by
  obtain ⟨regs, first, h⟩ := s.latchFirst_changes e
  obtain ⟨regs', win, h'⟩ := (s.latchFirst e).countEvent_changes e.src
  unfold State.noted
  dsimp only
  split
  · obtain ⟨regs'', snap, due, h''⟩ := ((s.latchFirst e).countEvent e.src).1.snapTrigger_changes 3 0 e.src
    rw [h'', h', h]
    exact ⟨_, _, _, _, _, rfl⟩
  · rw [h', h]
    exact ⟨_, _, _, _, _, rfl⟩

/-! A head's violation with class 2 (R585 to R587) -/

/-- A record adds to what goes out at most the signal of an in-band interrupt. -/
theorem State.toHeadAndFm_outputs (s : State) (k : Fin 16) (log : EventLog) (r : Record) :
    ∃ o, (s.toHeadAndFm k log r).outputs = s.outputs ++ o := by
  unfold State.toHeadAndFm State.toFm
  dsimp only
  split
  · exact ⟨_, rfl⟩
  · exact ⟨[], (List.append_nil _).symm⟩

/-- The event of a head's violation (Table 14.3). -/
def FaultEvent.ofHead (k : Fin 16) (reason addr stamp : Nat) : FaultEvent :=
  { src := 4, idx := k, val := addr, master := some (.head k reason addr stamp), noFreeze := false }

/-- Class 2 freezes the offending head for the window of CTL_FREEZE, once its event is noted and notified. -/
theorem State.headViolation_freezes (s : State) (k : Fin 16) (reason addr stamp : Nat) (hc : s.sourceClass 4 = 2)
    (hm : (s.head k).mode = .normal) (t : State) (ht : t = (s.noted (.ofHead k reason addr stamp)).notifyFault 4) :
    s.headViolation k reason addr stamp
      = t.headFreeze k reason addr stamp t.freezeWindow (t.cyc + cycMs t.freezeWindow) := by
  have hclass : (s.noted (.ofHead k reason addr stamp)).sourceClass 4 = 2 := by
    obtain ⟨-, hreg⟩ := (State.keepsReg_collector (a := aFC_SRC_CFG 4) (by decide)).noted s (.ofHead k reason addr stamp)
    rw [← hc, State.sourceClass, State.sourceClass, State.fld, hreg, State.fld]
  have hmode : (t.head k).mode = .normal := by
    obtain ⟨l, hl⟩ := ((HeadsFrame.noted s (.ofHead k reason addr stamp)).trans
      ((HeadsFrame.setFlag _ (aFC_ALERT (4 / 64)) (4 % 64) true).trans (HeadsFrame.notify _ 10))).head k
    rw [ht, ← hm]
    exact (congrArg Head.mode hl).trans rfl
  have hone : s.raiseOne (.ofHead k reason addr stamp)
      = (t.headFreeze k reason addr stamp t.freezeWindow (t.cyc + cycMs t.freezeWindow), []) := by
    have hact (b : Bool) : actingClass 2 b true = 2 := rfl
    rw [s.raiseOne_eq _ (show (faultClass 4).isNone = false by decide) (s.noted (.ofHead k reason addr stamp))
      (if_neg (show ¬4 = 3 by decide)).symm]
    rw [show (FaultEvent.ofHead k reason addr stamp).src = 4 from rfl, hclass,
      show (FaultEvent.ofHead k reason addr stamp).master = some (.head k reason addr stamp) from rfl, Option.isSome_some, hact]
    have hfreeze : t.freezeMaster 4 (.head k reason addr stamp)
        = t.headFreeze k reason addr stamp t.freezeWindow (t.cyc + cycMs t.freezeWindow) := by
      rw [State.freezeMaster, hmode]
    rw [← hfreeze, ht]
    rfl
  have hraise : s.headViolation k reason addr stamp = (s.raiseOne (.ofHead k reason addr stamp)).1.raiseAll 64
    (s.raiseOne (.ofHead k reason addr stamp)).2 := rfl
  rw [hraise, hone]
  rfl

/-- What a head's violation of class 2 shows: its head is frozen for the window, and the other heads serve on (R586). -/
theorem State.headViolation_shows (s : State) (k : Fin 16) (reason addr stamp : Nat) (hc : s.sourceClass 4 = 2)
    (hm : (s.head k).mode = .normal) (u : State) (hu : u = s.headViolation k reason addr stamp) :
    (u.head k).mode = .frozen (s.cyc + cycMs s.freezeWindow) ∧ (∃ o, u.outputs = s.outputs ++ o)
    ∧ u.mem = s.mem ∧ ∀ j, j ≠ k → (u.head j).mode = (s.head j).mode := by
  obtain ⟨regs, win, first, snap, due, hnoted⟩ := s.noted_changes (.ofHead k reason addr stamp)
  have hwindow : ((s.noted (.ofHead k reason addr stamp)).notifyFault 4).freezeWindow = s.freezeWindow := by
    obtain ⟨-, hreg⟩ := (State.keepsReg_collector (a := aCTL_FREEZE) (by decide)).noted s (.ofHead k reason addr stamp)
    obtain ⟨-, hreg'⟩ := (State.keepsReg_collector (a := aCTL_FREEZE) (by decide)).notifyFault
      (s.noted (.ofHead k reason addr stamp)) 4 (by decide)
    rw [State.freezeWindow, State.freezeWindow, State.fld, State.fld, hreg', hreg]
  have hviolation := s.headViolation_freezes k reason addr stamp hc hm _ rfl
  have hcyc : ((s.noted (.ofHead k reason addr stamp)).notifyFault 4).cyc = s.cyc := by rw [hnoted]; rfl
  rw [hwindow, hcyc] at hviolation
  have houts : ((s.noted (.ofHead k reason addr stamp)).notifyFault 4).outputs = s.outputs := by rw [hnoted]; rfl
  have hmem : ((s.noted (.ofHead k reason addr stamp)).notifyFault 4).mem = s.mem := by rw [hnoted]; rfl
  have hheads : ((s.noted (.ofHead k reason addr stamp)).notifyFault 4).heads = s.heads := by rw [hnoted]; rfl
  generalize (s.noted (.ofHead k reason addr stamp)).notifyFault 4 = t at hviolation houts hmem hheads
  rw [hu, hviolation]
  unfold State.headFreeze
  refine ⟨?_, ?_, ?_, fun j hj => ?_⟩
  · rw [State.toHeadAndFm_mode]
    exact congrArg Head.mode (t.head_setHead_same k _)
  · rw [← houts]
    exact State.toHeadAndFm_outputs _ _ _ _
  · rw [State.toHeadAndFm_mem]
    exact hmem
  · rw [State.toHeadAndFm_mode, t.head_setHead_ne k j _ hj]
    exact congrArg (fun v : Vector Head 16 => v[j].mode) hheads

end Sys2Proof.Machine

/-! ## Requests outside the extents, of a frozen and of a fenced head (R185, R194, R201, R203, R436) -/

namespace Sys2Proof.Machine

open Sys2Proof.Claims

section
variable {s : State} {k : Fin 16} {addr tag : Nat} {i : Instr} {kind : ReqKind} {data : Line} {mask : BitVec 64}

/-- A request outside the extents, or the decoders, of a head in service is answered by Table 5.5, and freezes the head. -/
theorem State.arrive_violates (hm : (s.head k).mode = .normal) (hc : s.sourceClass 4 = 2) (r : Req) (rs : List Req)
    (hout : ¬ s.inside k addr r rs) (u : State) (hu : u = State.settle s (s.arrive k addr (r :: rs) .good)) :
    (u.head k).mode = .frozen (s.cyc + cycMs s.freezeWindow)
      ∧ (∃ o, u.outputs = (s.respondRefused k r).outputs ++ o) ∧ u.mem.ports = s.mem.ports
      ∧ u.dram = s.dram ∧ u.cache = s.cache ∧ ∀ j, j ≠ k → (u.head j).mode = (s.head j).mode := by
  obtain ⟨opens, o, hrefused⟩ := s.respondRefused_changes k r
  rw [State.arrive_outside (by rw [hm]; simp) hout] at hu
  rw [hrefused] at hu ⊢
  obtain ⟨hmode, houts, hmem, hothers⟩ := State.headViolation_shows
    { s with mem := { s.mem with uioOpen := opens }, outputs := s.outputs ++ o } k 0
    (((s.lineOf k addr).map (· * 64)).getD addr) (r.stamp / 2) hc hm _ rfl
  have hframe := FaultFrame.headViolation { s with mem := { s.mem with uioOpen := opens }, outputs := s.outputs ++ o } k 0
    (((s.lineOf k addr).map (· * 64)).getD addr) (r.stamp / 2)
  rw [hu]
  refine ⟨?_, ?_, ?_, ?_, ?_, fun j hj => ?_⟩
  · rw [State.settle_head, hmode]; rfl
  · rw [State.settle_outputs]; exact houts
  · rw [State.settle_mem, hmem]
  · rw [State.settle_dram, hframe.dram]
  · rw [State.settle_cache, hframe.cache]
  · rw [State.settle_head, hothers j hj]; rfl

theorem MemCmd.violates (hi : MemCmd k addr tag .good i kind data mask) (hopen : s.memOpen k = true)
    (hm : (s.head k).mode = .normal) (hout : ∀ l, s.lineOf k addr = some l → s.granted k l = false)
    (hc : s.sourceClass 4 = 2) :
    ∃ u, exec i s = .next u ∧ (u.head k).mode = .frozen (s.cyc + cycMs s.freezeWindow)
      ∧ u.outputs.take (s.outputs.length + (s.refusal k kind tag).length) = s.outputs ++ s.refusal k kind tag
      ∧ u.mem.ports = s.mem.ports ∧ u.dram = s.dram ∧ u.cache = s.cache
      ∧ (∀ j, j ≠ k → (u.head j).mode = (s.head j).mode) := by
  have hnot : ¬ s.inside k addr (s.memReq k kind addr data mask tag) [] := by
    rw [State.inside_memReq]
    rintro ⟨l, hl, hg⟩
    rw [hout l hl] at hg
    exact Bool.false_ne_true hg
  obtain ⟨hmode, ⟨o, houts⟩, hports, hdram, hcache, hothers⟩ := State.arrive_violates hm hc _ _ hnot _ rfl
  rw [s.respondRefused_mem k (s.memReq k kind addr data mask tag) rfl] at houts
  refine ⟨_, (hi.exec_eq hopen).trans (finish_next _ _), hmode, ?_, hports, hdram, hcache, hothers⟩
  rw [houts]
  exact List.take_left' List.length_append

/-- A UIO read outside the extents is answered by a completion without data (R378). -/
theorem execUioMemoryRead_violates (hopen : s.memOpen k = true) (hm : (s.head k).mode = .normal) (haddr : addr % 64 = 0)
    (hout : ∀ l, s.lineOf k addr = some l → s.granted k l = false) (hc : s.sourceClass 4 = 2) :
    ∃ u, execUioMemoryRead k addr tag s 64 .good = .next u ∧ .uio k tag none true ∈ u.outputs
      ∧ (u.head k).mode = .frozen (s.cyc + cycMs s.freezeWindow) ∧ u.mem.ports = s.mem.ports := by
  have huio : s.uioOpenFor k = true := by
    simp only [State.memOpen, Bool.and_eq_true] at hopen
    obtain ⟨⟨⟨hpresent, hl0⟩, -⟩, hstage⟩ := hopen
    simp [State.uioOpenFor, hpresent, hl0, hstage]
  have hlines : linesOf addr 64 = [addr / 64] := by
    rw [linesOf, if_neg (by decide), show (addr + 64 - 1) / 64 - addr / 64 + 1 = 1 by omega]
    rfl
  have hwhole : addr / 64 * 64 = addr := Nat.div_mul_cancel (Nat.dvd_of_mod_eq_zero haddr)
  have hnot : ¬ s.inside k addr (s.hostReq k .read true addr noData 0 tag) [] := by
    rintro ⟨hline, hgranted⟩
    obtain ⟨l, hl⟩ := Option.isSome_iff_exists.1 hline
    have hg := hgranted _ List.mem_cons_self
    rw [State.hostReq, hl, Option.getD_some, hout l hl] at hg
    exact Bool.false_ne_true hg
  obtain ⟨hmode, ⟨o, houts⟩, hports, -⟩ := State.arrive_violates hm hc _ _ hnot _ rfl
  refine ⟨_, ?_, ?_, hmode, hports⟩
  · rw [execUioMemoryRead, if_pos huio, hlines, List.map_singleton, hwhole]
    exact finish_next _ _
  · have hrefused : s.respondRefused k (s.hostReq k .read true addr noData 0 tag) = s.emit (.uio k tag none true) := rfl
    rw [houts, hrefused]
    exact List.mem_append_left _ (List.mem_append_right _ List.mem_cons_self)

/-- A frozen head's requests wait (R201). -/
theorem MemCmd.waitsFrozen (hi : MemCmd k addr tag .good i kind data mask) (hq : Quiet s) (hopen : s.memOpen k = true) {w : Nat}
    (hm : (s.head k).mode = .frozen w) (hin : ∀ l, s.lineOf k addr = some l → s.granted k l = true)
    (hline : (s.lineOf k addr).isSome = true) :
    ∃ u r, exec i s = .next u ∧ r.src = .head k ∧ r.tag = tag ∧ s.lineOf k addr = some r.line
      ∧ u = { s with mem := { s.mem with ports := s.mem.ports ++ [r] } } := by
  obtain ⟨l, hl⟩ := Option.isSome_iff_exists.1 hline
  refine ⟨_, s.memReq k kind addr data mask tag, ?_, rfl, rfl, by rw [hl, State.memReq, State.hostReq, hl, Option.getD_some], rfl⟩
  rw [hi.exec_eq hopen, State.arrive_waits (by rw [hm]; simp) (State.inside_memReq.2 ⟨l, hl, hin l hl⟩)
    (State.passesNow_frozen hm)]
  exact finish_quiet _ _ hq

/-- A fenced head's requests complete under Table 5.5 and are counted (R203). -/
theorem MemCmd.completesFenced (hi : MemCmd k addr tag .good i kind data mask) (hq : Quiet s) (hopen : s.memOpen k = true)
    (hm : (s.head k).mode = .fenced) :
    exec i s = .next (State.bump { s with outputs := s.outputs ++ s.refusal k kind tag } (aHD_DISCARD k) 16 16 1) := by
  rw [hi.exec_eq hopen, s.arrive_fenced k addr _ _ _ hm, s.respondRefused_mem k _ rfl]
  exact finish_quiet _ _ hq

/-- The check of a request whose line of the extent table is lost leaves the heads and what waits at admission. -/
theorem HeadsFrame.extentRead (s : State) (extents : SramCheck) : HeadsFrame s (s.extentRead extents) := by
  have hcheck (a : Nat) : HeadsFrame s (s.tableCheck extents a) := by
    cases extents with
    | good => exact .refl s
    | oneCopy => exact HeadsFrame.raise s 63 0 a
    | bothCopies =>
      unfold State.tableCheck State.sramLost
      exact ((HeadsFrame.raise s 63 0 a).trans (HeadsFrame.toFm _ _ _)).trans (HeadsFrame.raise _ 65 0 a)
  have hfree (t : State) : HeadsFrame t t.freeNext := .of_heads rfl rfl rfl
  unfold State.extentRead
  exact HeadsFrame.composes.andUnless (.refl s) ((hcheck _).trans (hfree _))

/-- A read that cannot be checked is refused (R436). -/
theorem execMemRd_lost (hopen : s.memOpen k = true) (hm : (s.head k).mode ≠ .fenced) :
    ∃ u, exec (.memRd k addr tag .bothCopies) s = .next u ∧ .memData k tag poisonLine (s.head k).load ∈ u.outputs
      ∧ u.mem.ports = s.mem.ports := by
  have hread := HeadsFrame.extentRead s .bothCopies
  obtain ⟨l, hl⟩ := hread.head k
  have hgo := (MemCmd.rd (k := k) (addr := addr) (tag := tag) (extents := .bothCopies)).exec_eq hopen
  rw [s.arrive_lost k addr _ _ hm] at hgo
  generalize s.extentRead .bothCopies = t at hread hl hgo
  refine ⟨_, hgo.trans (finish_next _ _), ?_, ?_⟩
  · rw [State.settle_outputs, State.respondRefused_mem _ k _ rfl]
    refine List.mem_append_right _ ?_
    rw [show (s.head k).load = (t.head k).load by rw [hl]]
    exact List.mem_cons_self
  · rw [State.settle_mem, (HeadsFrame.respondRefused _ k _).ports, hread.ports]

end

/-- Settles O26, from what a request outside the extents does and from the ends of the other requests. -/
theorem headViolations : Obligations.HeadViolations := by
  intro s k addr tag data mask hq hopen answer
  have command {i : Instr} {o : List Output} (h : answer i o) :
      ∃ kind d m, MemCmd k addr tag .good i kind d m ∧ o = s.refusal k kind tag := by
    rcases h with ⟨rfl | rfl, rfl⟩ | ⟨rfl | rfl | rfl, rfl⟩ | ⟨rfl, rfl⟩
    · exact ⟨_, _, _, .rd, rfl⟩
    · exact ⟨_, _, _, .rdData, rfl⟩
    · exact ⟨_, _, _, .wr data, rfl⟩
    · exact ⟨_, _, _, .wrPtl data mask, rfl⟩
    · exact ⟨_, _, _, .inv, rfl⟩
    · exact ⟨_, _, _, .spec, rfl⟩
  refine ⟨fun hm hout hc i o h => ?_, fun hm haddr hout hc => execUioMemoryRead_violates hopen hm haddr hout hc,
    fun w hm hin hline i o h => ?_, fun hm i o h => ?_, execMemRd_lost hopen⟩
  · obtain ⟨kind, d, m, hi, rfl⟩ := command h
    exact hi.violates hopen hm hout hc
  · obtain ⟨kind, d, m, hi, -⟩ := command h
    exact hi.waitsFrozen hq hopen hm hin hline
  · obtain ⟨kind, d, m, hi, rfl⟩ := command h
    exact hi.completesFenced hq hopen hm

end Sys2Proof.Machine

/-! ## Reads, writes, hints and UIO requests of a head in service (R180, R181, R188, R189, R266, R378, R435) -/

namespace Sys2Proof.Machine

open Sys2Proof.Claims

/-! Reads and writes wait for admission -/

section
variable {s : State} {k : Fin 16} {addr line tag : Nat} {i : Instr} {kind : ReqKind} {data : Line} {mask : BitVec 64}

/-- What a head in service that maps an address into its extents gives. -/
theorem State.inside_served (h : MemServed s k addr line) :
    (s.head k).mode ≠ .fenced ∧ s.inside k addr (s.memReq k kind addr data mask tag) []
      ∧ s.memReq k kind addr data mask tag = request s k kind false line { data := data, poison := false } mask tag := by
  obtain ⟨-, -, hm, hline, hgranted⟩ := h
  refine ⟨by rw [hm]; simp, State.inside_memReq.2 ⟨line, hline, hgranted⟩, ?_⟩
  rw [State.memReq, State.hostReq, hline]
  rfl

theorem MemCmd.waits (hi : MemCmd k addr tag .good i kind data mask) (h : MemServed s k addr line)
    (hp : s.passesNow k (request s k kind false line { data := data, poison := false } mask tag) = false) :
    exec i s = .next { s with mem := { s.mem with
      ports := s.mem.ports ++ [request s k kind false line { data := data, poison := false } mask tag] } } := by
  obtain ⟨hm, hin, hreq⟩ := State.inside_served (kind := kind) (data := data) (mask := mask) (tag := tag) h
  obtain ⟨hq, hopen, -⟩ := h
  rw [hi.exec_eq hopen, State.arrive_waits hm hin (by rw [hreq]; exact hp), hreq]
  exact finish_quiet _ _ hq

theorem MemCmd.passes (hi : MemCmd k addr tag .good i kind data mask) (h : MemServed s k addr line)
    (hp : s.passesNow k (request s k kind false line { data := data, poison := false } mask tag) = true) (u : State)
    (hu : s.passNow k (request s k kind false line { data := data, poison := false } mask tag) = u)
    (hdue : u.snapDue = s.snapDue) : exec i s = .next u := by
  obtain ⟨hm, hin, hreq⟩ := State.inside_served (kind := kind) (data := data) (mask := mask) (tag := tag) h
  obtain ⟨hq, hopen, -⟩ := h
  rw [hi.exec_eq hopen, State.arrive_passes hm hin (by rw [hreq]; exact hp), hreq, hu]
  exact finish_quiet _ _ (hdue.trans hq)

/-! MemInv and MemSpecRd (R189, R266) -/

theorem State.headServes_served (h : MemServed s k addr line) : s.headServes k = true := by
  obtain ⟨-, hopen, hm, -⟩ := h
  simp only [State.memOpen, Bool.and_eq_true] at hopen
  simp [State.headServes, hm, hopen.2]

/-- A MemInv of a free line passes at once. -/
theorem State.passesNow_inv (h : MemServed s k addr line) (hfree : LineFree s k line) :
    s.passesNow k (request s k .inv false line noData 0 tag) = true := by
  obtain ⟨hports, hbusy, hslice, hahead⟩ := hfree
  have hnone : s.mem.ports.any (fun q => q.src == .head k && q.line == line) = false := by
    rw [List.any_eq_false]
    intro q hq
    simp only [Bool.and_eq_true, beq_iff_eq, not_and]
    exact hports q hq
  have hsame : s.sameAhead (request s k .inv false line noData 0 tag) = false := by
    rw [State.sameAhead, List.any_eq_false]
    intro q hq
    simp only [Bool.and_eq_true, beq_iff_eq, not_and]
    exact fun hl hs => hahead q hq hs hl
  have hblocked : s.blocked (request s k .inv false line noData 0 tag) = false := by
    rw [State.blocked, hsame]
    simp [request, hbusy, hslice, Req.isWrite]
  simp only [State.passesNow, hblocked, State.headServes_served h]
  simpa [request] using hnone

theorem State.passesNow_inv_blocked (hb : s.blocked (request s k .inv false line noData 0 tag) = true) :
    s.passesNow k (request s k .inv false line noData 0 tag) = false := by
  rw [State.passesNow, hb]
  simp [request]

theorem State.passesNow_spec (h : MemServed s k addr line) :
    s.passesNow k (request s k .spec false line noData 0 tag) = true := by
  simp [State.passesNow, State.headServes_served h, request]

end

section
variable (s : State)

/-- A domain that is on does not wake again. -/
theorem State.wake_on (n src : Nat) (h : s.domOn n = true) : s.wake n src = s := by
  unfold State.domOn at h
  split at h
  next hn =>
    simp only [Bool.and_eq_true, beq_iff_eq, Option.isNone_iff_eq_none] at h
    obtain ⟨hst, hmoving⟩ := h
    rw [State.wake, dif_pos hn]
    simp only [hmoving, hst, if_true]
  · exact absurd h Bool.false_ne_true

/-- A line whose channel and slice are on wakes nothing (R262). -/
theorem State.wakeFor_on (line : Nat) (src : Src) {c cell : Nat} (hp : s.place line = some (c, cell))
    (hpair : s.domOn (16 + c / 2) = true) (harray : s.domOn (c / 2) = true) (hslice : s.sliceWaits line = false) :
    s.wakeFor line src = s := by
  have hc : s.placeChan line = c := by rw [State.placeChan, hp]
  unfold State.wakeFor
  simp only [hc, s.wake_on _ _ hpair, s.wake_on _ _ harray, hslice, ite_self, Bool.false_eq_true, if_false]

/-- A read that no journal entry forwards and no halt holds takes its entry of the pool, and does nothing else. -/
theorem State.toPool_alone (r : Req) (c : Fin 32) {cell : Nat} (hkind : r.kind ≠ .partialWrite)
    (hp : s.place r.line = some (c.val, cell)) (himp : s.impossible c = false) (hj : s.journalOf r.line = [])
    (hwin : s.windowOpen = false) (hpair : s.domOn (16 + c.val / 2) = true) (harray : s.domOn (c.val / 2) = true)
    (hslice : s.sliceWaits r.line = false) :
    s.toPool r = s.setChan c { s.chan c with
      pool := (s.chan c).pool ++ [⟨r, none, false, none, false⟩] } := by
  have hline : s.journalLine r.line = none := by rw [State.journalLine, hj]; rfl
  rw [State.toPool, hp]
  dsimp only
  rw [dif_pos c.isLt, if_neg hkind, if_neg (by exact ne_true_of_eq_false himp)]
  simp only [hline, ite_self, Option.isSome_none, Bool.false_eq_true, if_false, s.wakeFor_on _ r.src hp hpair harray hslice,
    hwin, Bool.false_and]

/-- A hint that starts a read is charged to the bucket of its head (R266). -/
def State.specCharged (s : State) (k : Fin 16) : State :=
  let t := ((s.emit (.credit k)).setBucket k (s.bucket k - 1024)).bump (aREG_M_ADM k) 0 64 1
  { t with regul := { t.regul with deviceBucket := t.regul.deviceBucket - 1024 } }

theorem State.passNow_hit (k : Fin 16) (r : Req) (hkind : r.kind = .spec) (hl : (s.lookup r.line).isSome = true) :
    s.passNow k r = s.emit (.credit k) := by
  rw [State.passNow, if_neg (by rw [hkind]; decide)]
  exact if_pos (.inl hl)

theorem State.passNow_starts (k : Fin 16) (r : Req) (c : Fin 32) {cell : Nat} (hkind : r.kind = .spec)
    (hl : s.lookup r.line = none) (hslice : s.sliceWaits r.line = false) (hbusy : s.lineBusy r.line = false)
    (hp : s.place r.line = some (c.val, cell)) (hfree : s.poolFree c k = true) (hbucket : 1024 ≤ s.bucket k) :
    s.passNow k r = (s.specCharged k).toPool r := by
  have hplace : (s.emit (.credit k)).placeChan r.line = c.val := by
    rw [State.placeChan, State.place_congr (s := s) (u := s.emit (.credit k)) (fun _ _ => rfl) rfl rfl, hp]
  unfold State.passNow
  dsimp only
  rw [if_neg (by rw [hkind]; decide), if_neg]
  · simp only [hplace]
    rw [dif_pos c.isLt]
    exact if_pos ⟨hfree, hbucket⟩
  · rintro (h | h | h)
    · exact absurd h (by rw [show (s.emit (.credit k)).lookup r.line = none from hl]; simp)
    · exact absurd h (ne_true_of_eq_false hslice)
    · exact absurd h (ne_true_of_eq_false hbusy)

theorem State.specCharged_regs (k : Fin 16) : (s.specCharged k).regs = (s.bump (aREG_M_ADM k) 0 64 1).regs := rfl
theorem State.specCharged_buckets (k : Fin 16) :
    (s.specCharged k).regul.buckets = sparsePut (fun _ => 0) s.regul.buckets k (s.bucket k - 1024) := rfl
theorem State.specCharged_outputs (k : Fin 16) : (s.specCharged k).outputs = s.outputs ++ [.credit k] := rfl
theorem State.specCharged_links (k : Fin 16) : (s.specCharged k).links = s.links := rfl
theorem State.specCharged_chans (k : Fin 16) : (s.specCharged k).chans = s.chans := rfl
theorem State.specCharged_mem (k : Fin 16) : (s.specCharged k).mem = s.mem := rfl
theorem State.specCharged_dram (k : Fin 16) : (s.specCharged k).dram = s.dram := rfl
theorem State.specCharged_halt (k : Fin 16) : (s.specCharged k).halt = s.halt := rfl
theorem State.specCharged_power (k : Fin 16) : (s.specCharged k).power = s.power := rfl
theorem State.specCharged_snapDue (k : Fin 16) : (s.specCharged k).snapDue = s.snapDue := rfl

theorem State.specCharged_chan (k : Fin 16) (d : Fin 32) : (s.specCharged k).chan d = s.chan d := by
  rw [State.chan, State.chan, s.specCharged_chans]

theorem State.specCharged_place (k : Fin 16) (line : Nat) : (s.specCharged k).place line = s.place line := by
  refine State.place_congr (fun a ha => ?_) (s.specCharged_links k) (s.specCharged_chans k) line
  rw [State.reg_congr (s.specCharged_regs k)]
  exact s.reg_bump_ne _ _ _ _ _ (by simp only [aREG_M_ADM]; omega)

/-- What the charge of a hint shows. -/
theorem State.specCharged_shows (k : Fin 16) (hw : s.regsWf = true) (hb : sparseWf (fun _ => 0) s.regul.buckets = true) :
    (s.specCharged k).bucket k = s.bucket k - 1024
    ∧ ((s.specCharged k).reg (aREG_M_ADM k)).toNat = min ((s.reg (aREG_M_ADM k)).toNat + 1) (2 ^ 64 - 1)
    ∧ RegsKept s (s.specCharged k) [aREG_M_ADM k] := by
  refine ⟨?_, ?_, fun a ha => ?_⟩
  · rw [State.bucket, s.specCharged_buckets]
    exact sparseGet_put_same _ _ _ _ hb
  · rw [State.reg_congr (s.specCharged_regs k)]
    exact s.toNat_reg_bump _ hw
  · rw [State.reg_congr (s.specCharged_regs k)]
    exact s.reg_bump_ne _ _ _ _ _ (by simpa using ha)

end

/-- A hint that misses, with a pool entry and a guarantee to spare, is charged and goes to its channel. -/
theorem execMemSpecRd_starts {s : State} {k : Fin 16} {addr line tag : Nat} (h : MemServed s k addr line) (c : Fin 32)
    {cell : Nat} (hl : s.lookup line = none) (hfree : LineFree s k line) (hp : s.place line = some (c.val, cell))
    (hpool : s.poolFree c k = true) (hbucket : 1024 ≤ s.bucket k) (himp : s.impossible c = false)
    (hj : s.journalOf line = []) (hwin : s.windowOpen = false) (hpair : s.domOn (16 + c.val / 2) = true)
    (harray : s.domOn (c.val / 2) = true) (hw : s.regsWf = true) (hb : sparseWf (fun _ => 0) s.regul.buckets = true) :
    ∃ u, exec (.memSpecRd k addr tag .good) s = .next u ∧ u.outputs = s.outputs ++ [.credit k]
      ∧ (u.chan c).pool = (s.chan c).pool ++ [⟨request s k .spec false line noData 0 tag, none, false, none, false⟩]
      ∧ (∀ d, d ≠ c → u.chan d = s.chan d) ∧ u.bucket k = s.bucket k - 1024
      ∧ (u.reg (aREG_M_ADM k)).toNat = min ((s.reg (aREG_M_ADM k)).toNat + 1) (2 ^ 64 - 1)
      ∧ RegsKept s u [aREG_M_ADM k] ∧ u.mem = s.mem ∧ u.dram = s.dram := by
  obtain ⟨-, hbusy, hslice, -⟩ := hfree
  obtain ⟨hcharge, hadm, hkept⟩ := s.specCharged_shows k hw hb
  generalize hr : request s k .spec false line noData 0 tag = r
  have hkind : r.kind = .spec := hr ▸ rfl
  have hline : r.line = line := hr ▸ rfl
  have hgo : s.passNow k r = (s.specCharged k).setChan c { (s.specCharged k).chan c with
      pool := ((s.specCharged k).chan c).pool ++ [⟨r, none, false, none, false⟩] } := by
    rw [s.passNow_starts k r c hkind (hline ▸ hl) (hline ▸ hslice) (hline ▸ hbusy) (hline ▸ hp) hpool hbucket]
    refine State.toPool_alone _ r c (by rw [hkind]; decide) ((s.specCharged_place k _).trans (hline ▸ hp)) ?_ ?_ ?_ ?_ ?_ ?_
    · simpa only [State.impossible, s.specCharged_chan] using himp
    · rw [State.journalOf, s.specCharged_mem, hline]; exact hj
    · rw [State.windowOpen, s.specCharged_halt]; exact hwin
    · simpa only [State.domOn, State.dom, s.specCharged_power] using hpair
    · simpa only [State.domOn, State.dom, s.specCharged_power] using harray
    · simpa only [State.sliceWaits, State.sliceDom, State.dom, s.specCharged_power, hline] using hslice
  subst hr
  refine ⟨_, MemCmd.passes .spec h (State.passesNow_spec h) _ hgo ?_, s.specCharged_outputs k, ?_, fun d hd => ?_, hcharge,
    hadm, hkept, s.specCharged_mem k, s.specCharged_dram k⟩
  · rw [State.setChan_snapDue, s.specCharged_snapDue]
  · rw [State.chan_setChan_same, s.specCharged_chan]
  · rw [State.chan_setChan_ne _ _ _ _ hd, s.specCharged_chan]

/-! A line of the extent table that fails in one copy (R435) -/

section
variable (s : State)

/-- The copies of a snapshot leave the registers below them. -/
theorem State.settle_reg_below (b : State) {a : Nat} (ha : a < 0xF0000) : (State.settle b s).reg a = s.reg a := by
  have hfold (l : List (Nat × Nat)) (t : State) (hl : ∀ p ∈ l, 0xF0000 ≤ p.1) :
      (l.foldl (fun s p => s.setReg p.1 (b.copyOf p)) t).reg a = t.reg a := by
    induction l generalizing t with
    | nil => rfl
    | cons p l ih =>
      obtain ⟨hp, hl⟩ := List.forall_mem_cons.1 hl
      rw [List.foldl_cons, ih _ hl, t.reg_setReg_ne _ _ _ (by omega)]
  unfold State.settle State.takeSnapshot
  split
  · exact hfold snapTable _ (by decide +kernel)
  · rfl

/-- The collector counts an event that it notes (R590). -/
theorem State.noted_counts (e : FaultEvent) (he : e.src < 128) (hw : s.regsWf = true) :
    (s.noted e).fld (aFC_SRC_STAT e.src) 16 16 = min (s.fld (aFC_SRC_STAT e.src) 16 16 + 1) (2 ^ 16 - 1) := by
  have hlatch : State.KeepsReg (aFC_SRC_STAT e.src) s (s.latchFirst e) := by
    have hne : ∀ a, a < 0xE1404 → aFC_SRC_STAT e.src ≠ a := fun a ha => by simp only [aFC_SRC_STAT]; omega
    have hset (a b c : Word) (n : Nat) : State.KeepsReg (aFC_SRC_STAT e.src) s
        { ((s.setReg aFC_FIRST a).setReg aFC_FIRST_RT b).setReg aFC_FIRST_DETAIL c with fcFirstCycle := n } :=
      (((State.KeepsReg.setReg s _ a (hne _ (by decide))).andReg (hne _ (by decide))).andReg (hne _ (by decide))).trans
        (.of_regs rfl)
    unfold State.latchFirst
    exact rel_ite (rel_ite (hset _ _ _ _) (.setReg s _ _ (hne _ (by decide)))) (hset _ _ _ _)
  have hcount (t : State) (ht : t.regsWf = true) : (t.countEvent e.src).1.fld (aFC_SRC_STAT e.src) 16 16
      = min (t.fld (aFC_SRC_STAT e.src) 16 16 + 1) (2 ^ 16 - 1) := by
    have hb := t.bump_regsWf (aFC_SRC_STAT e.src) 16 16 1 ht
    have hsame := t.fld_bump_same (aFC_SRC_STAT e.src) 16 16 1 ht (by decide)
    unfold State.countEvent
    dsimp only
    generalize t.bump (aFC_SRC_STAT e.src) 16 16 1 = x at hb hsame ⊢
    have hlow (y : State) (hy : y.regs = x.regs) (n : Nat) : (y.setFld (aFC_SRC_STAT e.src) 0 8 n).regsWf = true
        ∧ (y.setFld (aFC_SRC_STAT e.src) 0 8 n).fld (aFC_SRC_STAT e.src) 16 16
          = min (t.fld (aFC_SRC_STAT e.src) 16 16 + 1) (2 ^ 16 - 1) := by
      have hwy : sparseWf regReset y.regs = true := by rw [hy]; exact hb
      refine ⟨y.setFld_regsWf _ _ _ _ hwy, ?_⟩
      rw [y.fld_setFld_disjoint _ _ _ _ _ _ hwy (by decide), ← hsame]
      exact congrArg (getBits · 16 16) (State.reg_congr hy _)
    split
    · exact (hlow x rfl _).2
    · have hflag (y : State) (hy : y.regsWf = true ∧ y.fld (aFC_SRC_STAT e.src) 16 16
          = min (t.fld (aFC_SRC_STAT e.src) 16 16 + 1) (2 ^ 16 - 1)) (c : Bool) :
          (if c = true then y.setFlag (aFC_SRC_STAT e.src) 8 true else y).fld (aFC_SRC_STAT e.src) 16 16
            = min (t.fld (aFC_SRC_STAT e.src) 16 16 + 1) (2 ^ 16 - 1) := by
        split
        · rw [State.setFlag, y.fld_setFld_disjoint _ _ _ _ _ _ hy.1 (by decide), hy.2]
        · exact hy.2
      refine hflag _ (hlow _ ?_ _) _
      split <;> rfl
  have hsnap (t : State) : State.KeepsReg (aFC_SRC_STAT e.src) t (t.snapTrigger 3 0 e.src) := by
    have hne : ∀ a, a < 0xE1404 → aFC_SRC_STAT e.src ≠ a := fun a ha => by simp only [aFC_SRC_STAT]; omega
    have hset (t : State) (v : Word) : State.KeepsReg (aFC_SRC_STAT e.src) t (t.setReg aSNAP_STATUS v) :=
      .setReg t _ v (hne _ (by decide))
    have hP := State.keepsReg_composes (aFC_SRC_STAT e.src)
    unfold State.snapTrigger
    refine rel_ite (rel_ite ?_ (hset t _)) ?_
    · exact hP.andIf (hP.andIf (hset t _) (hset _ _)) (hset _ _)
    · exact ((hset t _).andReg (hne aSNAP_RT (by decide))).trans (.of_regs rfl)
  have hnoted := (State.keepsReg_composes (aFC_SRC_STAT e.src)).andIf
    (p := (((s.latchFirst e).countEvent e.src).2.2 && !((s.latchFirst e).countEvent e.src).2.1
      && ((s.latchFirst e).countEvent e.src).1.flag aSNAP_CTRL 3) = true)
    ((State.keepsReg_composes _).refl ((s.latchFirst e).countEvent e.src).1) (hsnap _)
  rw [State.noted, hnoted.fld 16 16, hcount _ (hlatch.1 hw), hlatch.fld 16 16]

end

end Sys2Proof.Machine

/-! ## UIO requests, and the settling of the requests that arrive (R378, R435) -/

namespace Sys2Proof.Machine

open Sys2Proof.Claims

/-- An event of class 0 or 1 without a master ends as it was noted, or notified (R590, R592). -/
theorem State.raise_mild_reg (s : State) (src idx val : Nat) (hk : (faultClass src).isNone = false) (h3 : src ≠ 3)
    (hcls : s.sourceClass src ≤ 2) {a : Nat} (ha : a ≠ aFC_ALERT (src / 64)) :
    (s.raise src idx val).reg a = (s.noted (.plain src idx val)).reg a := by
  have hkeep : (s.noted (.plain src idx val)).sourceClass src = s.sourceClass src := by
    obtain ⟨_, hreg⟩ := (State.keepsReg_collector (a := aFC_SRC_CFG src) (by
      have := faultClass_lt src hk
      simp only [CollectorReg, aFC_SRC_CFG]; omega)).noted s (.plain src idx val)
    rw [State.sourceClass, State.sourceClass, State.fld, hreg, State.fld]
  have hone : (s.raiseOne (.plain src idx val)).1.reg a = (s.noted (.plain src idx val)).reg a
      ∧ (s.raiseOne (.plain src idx val)).2 = [] := by
    rw [s.raiseOne_eq (.plain src idx val) hk _ (if_neg h3).symm]
    rw [show (FaultEvent.plain src idx val).src = src from rfl, hkeep, actingClass, if_neg (by omega)]
    unfold State.react
    dsimp only [FaultEvent.plain]
    rw [if_neg (by omega), if_neg (by omega)]
    refine ⟨?_, rfl⟩
    dsimp only
    split
    · exact State.reg_setFlag_ne _ _ _ _ _ ha
    · rfl
  rw [State.raise_eq, hone.2]
  exact hone.1

/-- Such an event counts (R590). -/
theorem State.raise_counts {s : State} (src idx val : Nat) (hk : (faultClass src).isNone = false) (h3 : src ≠ 3)
    (hcls : s.sourceClass src ≤ 2) (hw : s.regsWf = true) :
    (s.raise src idx val).fld (aFC_SRC_STAT src) 16 16 = min (s.fld (aFC_SRC_STAT src) 16 16 + 1) (2 ^ 16 - 1) := by
  have hsrc := faultClass_lt src hk
  rw [State.fld, s.raise_mild_reg src idx val hk h3 hcls (by simp only [aFC_SRC_STAT, aFC_ALERT]; omega)]
  exact s.noted_counts (.plain src idx val) hsrc hw

theorem State.fld_freeNext (s : State) (a lo n : Nat) : s.freeNext.fld a lo n = s.fld a lo n := rfl

theorem FaultFrame.freeNext (s : State) : FaultFrame s s.freeNext :=
  ⟨rfl, rfl, rfl, rfl, rfl, rfl, rfl, rfl, rfl, rfl, rfl, rfl, rfl, rfl, rfl, id, id⟩

section
variable {s : State} {k : Fin 16} {addr line tag : Nat} {i : Instr} {kind : ReqKind} {data : Line} {mask : BitVec 64}

/-- A line of the extent table that fails in one copy is read from the other, and counts (R435). -/
theorem MemCmd.oneCopy (hi : MemCmd k addr tag .oneCopy i kind data mask) (h : MemServed s k addr line)
    (hspec : kind ≠ .spec) (hinv : kind ≠ .inv) (hw : s.regsWf = true) (hc : s.sourceClass 63 < 2) :
    ∃ u, exec i s = .next u
      ∧ u.mem.ports = s.mem.ports ++ [request s k kind false line { data := data, poison := false } mask tag]
      ∧ u.fld (aFC_SRC_STAT 63) 16 16 = min (s.fld (aFC_SRC_STAT 63) 16 16 + 1) (2 ^ 16 - 1) ∧ u.dram = s.dram := by
  obtain ⟨hm, -, hreq⟩ := State.inside_served (kind := kind) (data := data) (mask := mask) (tag := tag) h
  obtain ⟨-, hopen, -, hline, hgranted⟩ := h
  have hread : s.extentRead .oneCopy = (s.raise 63 0 (s.free.toNat % 2 ^ 32)).freeNext := if_neg (by simp)
  have hheads := HeadsFrame.extentRead s .oneCopy
  have hframe : FaultFrame s (s.extentRead .oneCopy) := by
    rw [hread]
    exact (FaultFrame.raise s 63 0 _).trans (FaultFrame.freeNext _)
  have hcount : (s.extentRead .oneCopy).fld (aFC_SRC_STAT 63) 16 16
      = min (s.fld (aFC_SRC_STAT 63) 16 16 + 1) (2 ^ 16 - 1) := by
    rw [hread, State.fld_freeNext]
    exact State.raise_counts (s := s) 63 0 _ rfl (by decide) (by omega) hw
  have hin : (s.extentRead .oneCopy).inside k addr (s.memReq k kind addr data mask tag) [] := by
    obtain ⟨l, hl⟩ := hheads.head k
    refine ⟨?_, fun q hq => ?_⟩
    · rw [State.lineOf, hl]
      exact Option.isSome_iff_exists.2 ⟨line, hline⟩
    · rw [List.mem_singleton.1 hq, hreq, State.granted, hframe.grants]
      exact hgranted
  have harrive := State.arrive_inside hm (by simp) hin
  clear hread
  generalize s.extentRead .oneCopy = t at hheads hframe hcount hin harrive
  rw [if_neg (by rw [State.passesNow_data (by exact hspec) (by exact hinv)]; simp)] at harrive
  refine ⟨_, (hi.exec_eq hopen).trans ((congrArg (finish s) harrive).trans (finish_next _ _)), ?_, ?_, ?_⟩
  · rw [State.settle_mem, ← hreq, hheads.ports]
  · rw [← hcount]
    exact congrArg (getBits · 16 16) (State.settle_reg_below _ s (by decide))
  · rw [State.settle_dram]
    exact hframe.dram

/-! UIO requests (R378) -/

theorem State.uioOpenFor_memOpen (hopen : s.memOpen k = true) : s.uioOpenFor k = true := by
  simp only [State.memOpen, Bool.and_eq_true] at hopen
  obtain ⟨⟨⟨hpresent, hl0⟩, -⟩, hstage⟩ := hopen
  simp [State.uioOpenFor, hpresent, hl0, hstage]

theorem linesOf_ne_nil (a : Nat) {n : Nat} (h : 0 < n) : linesOf a n ≠ [] := by
  rw [linesOf, if_neg (by omega)]
  simp

/-- The lines of a UIO request whose lines lie in the extents wait, whatever else of the request path has moved. -/
theorem State.arrive_uio {t : State} (h : MemServed s k addr line) (hheads : t.heads = s.heads) (hgrants : t.grants = s.grants)
    (ls : List Nat) (hls : ls ≠ []) (hin : ∀ l ∈ ls, ∃ x, s.lineOf k (l * 64) = some x ∧ s.granted k x = true)
    (f : Nat → Req) (hf : ∀ l ∈ ls, (f l).line = (s.lineOf k (l * 64)).getD 0 ∧ (f l).kind ≠ .spec ∧ (f l).kind ≠ .inv) :
    t.arrive k addr (ls.map f) .good = { t with mem := { t.mem with ports := t.mem.ports ++ ls.map f } } := by
  obtain ⟨-, -, hm, hline, -⟩ := h
  have hhead : t.head k = s.head k := congrArg (fun v : Vector Head 16 => v[k]) hheads
  have hgrant (x : Nat) : t.granted k x = s.granted k x := by rw [State.granted, State.granted, hgrants]
  cases ls with
  | nil => exact absurd rfl hls
  | cons l ls =>
    rw [List.map_cons]
    refine State.arrive_waits (by rw [hhead, hm]; simp) ⟨?_, fun q hq => ?_⟩ ?_
    · rw [State.lineOf, hhead]
      exact Option.isSome_iff_exists.2 ⟨line, hline⟩
    · obtain ⟨l', hl', rfl⟩ := List.mem_map.1 (List.map_cons ▸ hq : q ∈ (l :: ls).map f)
      obtain ⟨x, hx, hg⟩ := hin l' hl'
      rw [(hf l' hl').1, hx, hgrant]
      exact hg
    · exact State.passesNow_data (hf l List.mem_cons_self).2.1 (hf l List.mem_cons_self).2.2

theorem execUioMemoryRead_waits (h : MemServed s k addr line) {len : Nat} (hlen : 0 < len)
    (hin : ∀ l ∈ linesOf addr len, ∃ x, s.lineOf k (l * 64) = some x ∧ s.granted k x = true) :
    execUioMemoryRead k addr tag s len .good = .next { s with mem := { s.mem with
      ports := s.mem.ports ++ (linesOf addr len).map (fun l => s.hostReq k .read true (l * 64) noData 0 tag) } } := by
  have harrive := State.arrive_uio h rfl rfl (linesOf addr len) (linesOf_ne_nil addr hlen) hin
    (fun l => s.hostReq k .read true (l * 64) noData 0 tag) fun l _ => ⟨rfl, nofun, nofun⟩
  obtain ⟨hq, hopen, -⟩ := h
  rw [execUioMemoryRead, if_pos (State.uioOpenFor_memOpen hopen), harrive]
  exact finish_quiet _ _ hq

/-- One line of a UIO write. -/
def State.uioWrite (s : State) (k : Fin 16) (addr : Nat) (bytes : List Byte) (enables : Nat) (tag : Nat) (poisoned : Bool)
    (l : Nat) : Req :=
  let p := uioPart addr bytes enables poisoned l
  s.hostReq k (if fullMask p.2 then .write else .partialWrite) true (l * 64) p.1 p.2 tag

theorem State.uioWrite_isWrite (bytes : List Byte) (enables : Nat) (poisoned : Bool) (l : Nat) :
    (s.uioWrite k addr bytes enables tag poisoned l).isWrite = true := by
  simp only [State.uioWrite, State.hostReq, Req.isWrite]
  split <;> rfl

theorem execUioMemoryWrite_waits (h : MemServed s k addr line) (bytes : List Byte) (enables : Nat) (poisoned : Bool)
    (hbytes : bytes ≠ []) (hin : ∀ l ∈ linesOf addr bytes.length, ∃ x, s.lineOf k (l * 64) = some x ∧ s.granted k x = true) :
    ∃ u, execUioMemoryWrite k addr bytes enables tag s poisoned .good = .next u
      ∧ (∀ r ∈ u.mem.ports, r ∈ s.mem.ports ∨ (r.src = .head k ∧ r.uio = true ∧ r.isWrite = true ∧ r.tag = tag
          ∧ r.val.poison = poisoned ∧ r.stamp = s.stamp))
      ∧ u.mem.ports.length = s.mem.ports.length + (linesOf addr bytes.length).length
      ∧ u.mem.uioOpen = s.mem.uioOpen ++ [(k, tag, (linesOf addr bytes.length).length)]
      ∧ u = { s with mem := { s.mem with ports := u.mem.ports, uioOpen := u.mem.uioOpen } } := by
  have hkind (l : Nat) : (s.uioWrite k addr bytes enables tag poisoned l).kind ≠ .spec
      ∧ (s.uioWrite k addr bytes enables tag poisoned l).kind ≠ .inv := by
    have hwrite := State.uioWrite_isWrite (s := s) (k := k) (addr := addr) (tag := tag) bytes enables poisoned l
    constructor <;> intro hk <;> simp [Req.isWrite, hk] at hwrite
  have harrive := State.arrive_uio (t := { s with mem := { s.mem with
      uioOpen := s.mem.uioOpen ++ [(k, tag, (linesOf addr bytes.length).length)] } }) h rfl rfl (linesOf addr bytes.length)
    (linesOf_ne_nil addr (List.length_pos_of_ne_nil hbytes)) hin (s.uioWrite k addr bytes enables tag poisoned)
    fun l _ => ⟨rfl, hkind l⟩
  obtain ⟨hq, hopen, -⟩ := h
  have hexec : execUioMemoryWrite k addr bytes enables tag s poisoned .good = .next { s with mem := { s.mem with
      ports := s.mem.ports ++ (linesOf addr bytes.length).map (s.uioWrite k addr bytes enables tag poisoned),
      uioOpen := s.mem.uioOpen ++ [(k, tag, (linesOf addr bytes.length).length)] } } := by
    unfold execUioMemoryWrite
    dsimp only
    rw [if_pos (State.uioOpenFor_memOpen hopen)]
    exact (congrArg (finish s) harrive).trans (finish_quiet _ _ hq)
  refine ⟨_, hexec, ?_, ?_, rfl, rfl⟩
  · intro r hr
    rcases List.mem_append.1 hr with hr | hr
    · exact .inl hr
    · obtain ⟨l, -, rfl⟩ := List.mem_map.1 hr
      exact .inr ⟨rfl, rfl, State.uioWrite_isWrite _ _ _ _, rfl, rfl, rfl⟩
  · rw [List.length_append, List.length_map]

end

/-- Settles O25, from what becomes of each kind of request. -/
theorem memoryRequestsArrive : Obligations.MemoryRequestsArrive := by
  intro s k addr line tag data mask h plain waits all
  have hwaits {i : Instr} {kind : ReqKind} {d : Line} {m : BitVec 64} (hi : MemCmd k addr tag .good i kind d m)
      (hspec : kind ≠ .spec) (hinv : kind ≠ .inv) :
      exec i s = .next (waits (request s k kind false line { data := d, poison := false } m tag)) :=
    hi.waits h (State.passesNow_data hspec hinv)
  refine ⟨hwaits .rd nofun nofun, hwaits .rdData nofun nofun, hwaits (.wr data) nofun nofun,
    hwaits (.wrPtl data mask) nofun nofun, fun i r hi hw hc => ?_, fun hfree => ?_, fun hb => ?_, fun hl => ?_,
    fun c cell => execMemSpecRd_starts h c, fun len hlen hin => execUioMemoryRead_waits h hlen hin, fun bytes enables poisoned => execUioMemoryWrite_waits h bytes enables poisoned⟩
  · obtain ⟨rfl, rfl⟩ | ⟨rfl, rfl⟩ := hi
    · exact MemCmd.rd.oneCopy h nofun nofun hw hc
    · exact (MemCmd.wr data).oneCopy h nofun nofun hw hc
  · exact MemCmd.inv.passes h (State.passesNow_inv h hfree) _ rfl rfl
  · exact MemCmd.inv.waits h (State.passesNow_inv_blocked hb)
  · exact MemCmd.spec.passes h (State.passesNow_spec h) _ (s.passNow_hit k _ rfl hl) rfl

end Sys2Proof.Machine

/-! ## Images: staging, checks, activation and load (R211, R212, R299, R353 to R355, R554 to R556) -/

namespace Sys2Proof.Machine

open Sys2Proof.Claims

/-! What a write of a stored line touches -/

/-- Nothing but the cells and the copies of their lines in the cache, the journal and the write buffers changes. -/
def State.MediaOnly (s u : State) : Prop := u = { s with dram := u.dram, cache := u.cache, mem := u.mem, chans := u.chans }

theorem State.mediaOnly_composes : Composes State.MediaOnly where
  refl _ := rfl
  trans {s t u} h k := by
    unfold State.MediaOnly at h k ⊢
    rw [k, h]

section
variable (s : State)

theorem State.mediaOnly_overwrite (line : Nat) (v : LineVal) : s.MediaOnly (s.overwrite line v) := by
  unfold State.overwrite State.putAt
  split <;> rfl

theorem State.mediaOnly_stageWrite (off : Nat) (data : List Byte) : s.MediaOnly (s.stageWrite off data) :=
  State.mediaOnly_composes.andFold (State.mediaOnly_composes.refl s) fun t _ => t.mediaOnly_overwrite _ _

theorem State.mediaOnly_copyImage : s.MediaOnly s.copyImage :=
  State.mediaOnly_composes.andFold (State.mediaOnly_composes.refl s) fun t _ => t.mediaOnly_overwrite _ _

end

/-! Transfers and the start of an activation (R211, R554, R618) -/

section
variable {s : State} {p : Path}

/-- An image command that only answers. -/
theorem State.reply_finish (hq : Quiet s) (status : String) (payload : List Byte) :
    finish s (s.reply p status payload) = .next (s.reply p status payload) := finish_quiet _ _ hq

/-- Past its path, its head, its slot and its other conditions, a transfer comes to the staging. -/
theorem execTransferFw_ready (h : ImageOk s p) (off : Nat) (data : List Byte) (last : Bool) (t : State)
    (ht : t = if off = 0 then s.dropStage else s) :
    execTransferFw p 1 off data s last
      = if off ≠ t.img.staged ∨ t.img.complete = true ∨ stageMax < off + data.length then
          finish s (t.dropStage.reply p "Invalid Input" [])
        else finish s (State.reply { t.stageWrite off data with img := { (t.stageWrite off data).img with
          staged := off + data.length, complete := last } } p "Success" []) := by
  obtain ⟨-, hpath, hsupp, hready, hact⟩ := h
  subst ht
  rw [execTransferFw, if_neg (by simp [hpath]), if_neg (by simp [hsupp]), if_neg (by simp), if_neg (by simp [hready, hact])]

/-- A part in order is staged. -/
theorem execTransferFw_stages (h : ImageOk s p) {off : Nat} {data : List Byte} (last : Bool)
    (horder : off = 0 ∨ (off = s.img.staged ∧ s.img.complete = false)) (hlen : off + data.length ≤ 0x500000) :
    ∃ u, execTransferFw p 1 off data s last = .next u ∧ u.img.staged = off + data.length ∧ u.img.complete = last
      ∧ u.outputs = s.outputs ++ [.reply p "Success" []] ∧ u.regs = s.regs := by
  have hgo := execTransferFw_ready h off data last _ rfl
  have hstage : (if off = 0 then s.dropStage else s).img.staged = off
      ∧ (if off = 0 then s.dropStage else s).img.complete = false := by
    split
    next h0 => exact ⟨h0.symm, rfl⟩
    next h0 => exact ⟨(horder.resolve_left h0).1.symm, (horder.resolve_left h0).2⟩
  have hregs : (if off = 0 then s.dropStage else s).regs = s.regs := by split <;> rfl
  have houts : (if off = 0 then s.dropStage else s).outputs = s.outputs := by split <;> rfl
  have hdue : (if off = 0 then s.dropStage else s).snapDue = s.snapDue := by split <;> rfl
  generalize (if off = 0 then s.dropStage else s) = t at hgo hstage hregs houts hdue
  obtain ⟨hstaged, hcomplete⟩ := hstage
  have hin : ¬(off ≠ t.img.staged ∨ t.img.complete = true ∨ stageMax < off + data.length) := by
    rw [hstaged, hcomplete]
    simpa using hlen
  rw [if_neg hin] at hgo
  have hmedia := t.mediaOnly_stageWrite off data
  unfold State.MediaOnly at hmedia
  generalize t.stageWrite off data = w at hgo hmedia
  refine ⟨_, hgo.trans (finish_quiet _ _ ?_), rfl, rfl, ?_, ?_⟩
  · exact (congrArg State.snapDue hmedia).trans (hdue.trans h.1)
  · rw [← houts]
    exact congrArg (· ++ [.reply p "Success" []]) (congrArg State.outputs hmedia)
  · exact (congrArg State.regs hmedia).trans hregs

/-- A part out of order discards the staging. -/
theorem execTransferFw_outOfOrder (h : ImageOk s p) {off : Nat} (data : List Byte) (last : Bool) (h0 : off ≠ 0)
    (hoff : off ≠ s.img.staged) :
    ∃ u, execTransferFw p 1 off data s last = .next u ∧ u.img.staged = 0 ∧ u.img.complete = false
      ∧ u.outputs = s.outputs ++ [.reply p "Invalid Input" []] ∧ u.dram = s.dram := by
  have hgo := execTransferFw_ready h off data last _ rfl
  rw [if_neg h0, if_pos (.inl hoff)] at hgo
  exact ⟨_, hgo.trans (finish_quiet _ _ h.1), rfl, rfl, rfl, rfl⟩

theorem execTransferFw_invalidSlot (h : ImageOk s p) {slot : Byte} (off : Nat) (data : List Byte) (last : Bool)
    (hslot : slot ≠ 1) : execTransferFw p slot off data s last = .next (s.reply p "Invalid Slot" []) := by
  obtain ⟨hq, hpath, hsupp, -⟩ := h
  rw [execTransferFw, if_neg (by simp [hpath]), if_neg (by simp [hsupp]), if_pos hslot]
  exact State.reply_finish hq _ _

/-- Transfers and activations serve the management head and the FM API alone, and one activation at a time. -/
theorem exec_imageUnsupported (hq : Quiet s) (hpath : s.imagePath p = true) (hsupp : s.imageUnsupported p = true)
    {i : Instr} {slot action : Byte} {off : Nat} {data : List Byte} {last : Bool}
    (hi : i = .transferFw p slot off data last ∨ i = .activateFw p slot action) :
    exec i s = .next (s.reply p "Unsupported" []) := by
  rcases hi with rfl | rfl
  · show execTransferFw p slot off data s last = _
    rw [execTransferFw, if_neg (by simp [hpath]), if_pos hsupp]
    exact State.reply_finish hq _ _
  · show execActivateFw p s slot action = _
    rw [execActivateFw, if_neg (by simp [hpath]), if_pos hsupp]
    exact State.reply_finish hq _ _

theorem exec_imageBusy (hq : Quiet s) (hpath : s.imagePath p = true) (hsupp : s.imageUnsupported p = false)
    (hbusy : s.storeReady = false ∨ s.activating = true) {i : Instr} {off : Nat} {data : List Byte} {last : Bool}
    (hi : i = .transferFw p 1 off data last ∨ i = .activateFw p 1 0) :
    exec i s = .next (s.reply p "Busy" []) := by
  rcases hi with rfl | rfl
  · show execTransferFw p 1 off data s last = _
    rw [execTransferFw, if_neg (by simp [hpath]), if_neg (by simp [hsupp]), if_neg (by simp), if_pos hbusy]
    exact State.reply_finish hq _ _
  · show execActivateFw p s 1 0 = _
    rw [execActivateFw, if_neg (by simp [hpath]), if_neg (by simp [hsupp]), if_neg (by simp), if_neg (by simp), if_pos hbusy]
    exact State.reply_finish hq _ _

theorem execActivateFw_starts (h : ImageOk s p) : execActivateFw p s 1 0 = .next
    (State.reply { s with img := { s.img with phase := .checking p } } p "Background Command Started" []) := by
  obtain ⟨hq, hpath, hsupp, hready, hact⟩ := h
  rw [execActivateFw, if_neg (by simp [hpath]), if_neg (by simp [hsupp]), if_neg (by simp), if_neg (by simp),
    if_neg (by simp [hready, hact])]
  exact finish_quiet _ _ hq

theorem execActivateFw_invalidAction (h : ImageOk s p) {action : Byte} (ha : action ≠ 0) :
    execActivateFw p s 1 action = .next (s.reply p "Invalid Input" []) := by
  obtain ⟨hq, hpath, hsupp, -⟩ := h
  rw [execActivateFw, if_neg (by simp [hpath]), if_neg (by simp [hsupp]), if_neg (by simp), if_pos ha]
  exact State.reply_finish hq _ _

end

/-! The checks (R212, R555) -/

/-- Table 13.7 has six reasons. -/
theorem State.imgCheck_le (s : State) : s.imgCheck.1 ≤ 6 := by
  unfold State.imgCheck
  (repeat' split) <;> simp

/-- An event whose source is not of class 5 begins no shutdown, and so leaves the program store. -/
theorem State.raise_pstore (s : State) (src idx val : Nat) (h3 : src ≠ 3) (hc : s.sourceClass src ≠ 5) :
    (s.raise src idx val).pstore = s.pstore := by
  have hkeep (hk : (faultClass src).isNone = false) : (s.noted (.plain src idx val)).sourceClass src = s.sourceClass src := by
    obtain ⟨_, hreg⟩ := (State.keepsReg_collector (a := aFC_SRC_CFG src) (by
      have := faultClass_lt src hk
      simp only [CollectorReg, aFC_SRC_CFG]; omega)).noted s (.plain src idx val)
    rw [State.sourceClass, State.sourceClass, State.fld, hreg, State.fld]
  have hacting (severe : Bool) : actingClass (s.sourceClass src) severe false ≠ 5 := by
    unfold actingClass
    split
    · decide
    · exact hc
  have hone : (s.raiseOne (.plain src idx val)).1.pstore = s.pstore ∧ (s.raiseOne (.plain src idx val)).2 = [] := by
    cases hk : (faultClass src).isNone with
    | true =>
      have hnone : s.raiseOne (.plain src idx val) = (s, []) := if_pos hk
      rw [hnone]
      exact ⟨rfl, rfl⟩
    | false =>
      obtain ⟨regs, win, first, snap, due, hnoted⟩ := s.noted_changes (.plain src idx val)
      have hstore : (s.noted (.plain src idx val)).pstore = s.pstore := by rw [hnoted]
      rw [s.raiseOne_eq (.plain src idx val) hk _ (if_neg h3).symm]
      rw [show (FaultEvent.plain src idx val).src = src from rfl, hkeep hk]
      generalize s.noted (.plain src idx val) = t at hstore ⊢
      have hact : actingClass (s.sourceClass src) (s.notedSevere (.plain src idx val))
          (FaultEvent.plain src idx val).master.isSome ≠ 5 := hacting _
      generalize actingClass (s.sourceClass src) (s.notedSevere (.plain src idx val))
        (FaultEvent.plain src idx val).master.isSome = cls at hact
      have hnotify : (if 1 ≤ cls then t.notifyFault src else t).pstore = s.pstore := by
        rw [← hstore]
        split <;> rfl
      unfold State.react
      dsimp only [FaultEvent.plain]
      generalize (if 1 ≤ cls then t.notifyFault src else t) = x at hnotify ⊢
      by_cases h4 : cls = 4
      · rw [if_pos h4]
        refine ⟨?_, rfl⟩
        rw [← hnotify]
        unfold State.aliveStop
        dsimp only
        split <;> rfl
      · rw [if_neg h4, if_neg hact]
        exact ⟨hnotify, rfl⟩
  rw [State.raise_eq, hone.2]
  exact hone.1

/-- A refused activation ends, with the reason recorded. -/
def State.imageRefused (s : State) (reason : Nat) : State :=
  State.setFld { s with img := { s.img with phase := .idle } } aIMG_STATUS 9 3 reason

section
variable (s : State) (reason : Nat)

theorem State.imageRefused_regs : (s.imageRefused reason).regs = (s.setFld aIMG_STATUS 9 3 reason).regs := rfl
theorem State.imageRefused_phase : (s.imageRefused reason).img.phase = .idle := rfl
theorem State.imageRefused_pstore : (s.imageRefused reason).pstore = s.pstore := rfl

theorem State.imageRefused_reason (hw : s.regsWf = true) (h : reason < 2 ^ 3) :
    (s.imageRefused reason).fld aIMG_STATUS 9 3 = reason := by
  rw [State.fld, State.reg_congr (s.imageRefused_regs reason)]
  exact (s.fld_setFld_same _ _ _ _ hw (by decide)).trans (Nat.mod_eq_of_lt h)

theorem State.imageRefused_sourceClass : (s.imageRefused reason).sourceClass 102 = s.sourceClass 102 := by
  rw [State.sourceClass, State.fld, State.reg_congr (s.imageRefused_regs reason), State.reg_setFld_ne _ _ _ _ _ _ (by decide)]
  rfl

end

section
variable {s : State} {p : Path}

theorem execImageChecksDone_fails (hphase : s.img.phase = .checking p) {reason slot : Nat}
    (hcheck : s.imgCheck = (reason, slot)) (hreason : reason ≠ 0) :
    execImageChecksDone s = finish s (((s.imageRefused reason).raise 102 reason 0).reply p "Invalid Security State" []) := by
  rw [execImageChecksDone, hphase, hcheck]
  exact if_pos hreason

/-- An image that fails a check is refused, with the reason recorded. -/
theorem execImageChecksDone_refuses (hw : s.regsWf = true) (hphase : s.img.phase = .checking p) {reason slot : Nat}
    (hcheck : s.imgCheck = (reason, slot)) (hreason : reason ≠ 0) :
    ∃ u, execImageChecksDone s = .next u ∧ u.img.phase = .idle ∧ u.fld aIMG_STATUS 9 3 = reason
      ∧ u.outputs.getLast? = some (.reply p "Invalid Security State" [])
      ∧ (s.sourceClass 102 ≠ 5 → u.pstore = s.pstore) := by
  have hgo := execImageChecksDone_fails hphase hcheck hreason
  have hsmall : reason < 2 ^ 3 := by
    have := s.imgCheck_le
    rw [hcheck] at this
    omega
  have himg : ((s.imageRefused reason).raise 102 reason 0).img.phase = .idle := by
    rw [(FaultFrame.raise (s.imageRefused reason) 102 reason 0).img, s.imageRefused_phase]
  have hclosed := State.keepsReg_reaction (a := aIMG_STATUS) (by decide) (by simp only [ReactionReg, aIMG_STATUS]; omega)
  have hfld := (hclosed.raise (s.imageRefused reason) 102 reason 0).fld 9 3
  rw [s.imageRefused_reason reason hw hsmall] at hfld
  have hstore (hc : s.sourceClass 102 ≠ 5) : ((s.imageRefused reason).raise 102 reason 0).pstore = s.pstore := by
    rw [State.raise_pstore _ _ _ _ (by decide) (by rw [s.imageRefused_sourceClass]; exact hc), s.imageRefused_pstore]
  generalize (s.imageRefused reason).raise 102 reason 0 = t at hgo himg hfld hstore
  have hset := (State.keepsReg_settle (a := aIMG_STATUS) (by decide) s (t.reply p "Invalid Security State" [])).fld 9 3
  obtain ⟨regs, due, hsettle⟩ := (t.reply p "Invalid Security State" []).settle_changes s
  refine ⟨_, hgo.trans (finish_next _ _), ?_, hset.trans hfld, ?_, fun hc => ?_⟩
  · exact (congrArg (fun t => t.img.phase) hsettle).trans himg
  · rw [State.settle_outputs, State.reply_getLast?]
  · rw [hsettle]
    exact hstore hc

/-! The image passes (R212, R555, R614) -/

/-- The state of the checks' end: step 7 of the startup begins when step 6 is under way. -/
def State.checksPassed (s : State) : State := if s.fld aSU_STATUS 0 4 = 6 then s.startStep 7 else s

/-- It changes nothing but two registers of the startup. -/
theorem State.checksPassed_changes (s : State) : s.checksPassed = { s with regs := s.checksPassed.regs } := by
  unfold State.checksPassed
  split <;> rfl

theorem State.checksPassed_kept (s : State) (hw : s.regsWf = true) :
    sparseWf regReset s.checksPassed.regs = true ∧ RegsKept s s.checksPassed [aSU_STATUS, aSU_STEP_RT 7] := by
  unfold State.checksPassed
  split
  · obtain ⟨-, -, hwf, hkept⟩ := s.startStep_shows 7 (by decide) hw _ rfl
    exact ⟨hwf, hkept⟩
  · exact ⟨hw, fun _ _ => rfl⟩

/-- The phase after the checks: a running image is waited for. -/
def State.passPhase (s : State) (p : Path) : ActPhase :=
  if s.flag aTT_IMAGE 0 then .waiting p (s.cyc + s.stopWait) else .loading p

theorem State.passPhase_checksPassed (hw : s.regsWf = true) : s.checksPassed.passPhase p = s.passPhase p := by
  obtain ⟨-, hkept⟩ := s.checksPassed_kept hw
  have hcyc : s.checksPassed.cyc = s.cyc := by
    rw [s.checksPassed_changes]
    rfl
  rw [State.passPhase, State.flag, hkept aTT_IMAGE (by decide), State.stopWait, State.fld, hkept aTT_CTRL (by decide), hcyc]
  rfl

/-- An image that passes is marked as being activated, with its slot. -/
theorem execImageChecksDone_passes (hw : s.regsWf = true) (hphase : s.img.phase = .checking p) {slot : Nat}
    (hcheck : s.imgCheck = (0, slot)) :
    ∃ u, execImageChecksDone s = .next u ∧ u.flag aTT_IMAGE 1 = true ∧ u.img.slot = slot ∧ u.pstore = s.pstore
      ∧ u.img.phase = s.passPhase p := by
  obtain ⟨hwf, -⟩ := s.checksPassed_kept hw
  have hgo : execImageChecksDone s = .next (State.setFlag { s.checksPassed with img := { s.checksPassed.img with
      phase := s.checksPassed.passPhase p, slot := slot } } aTT_IMAGE 1 true) := by
    rw [execImageChecksDone, hphase, hcheck]
    exact if_neg (by simp)
  rw [State.passPhase_checksPassed hw] at hgo
  have hstore : s.checksPassed.pstore = s.pstore := by rw [s.checksPassed_changes]
  generalize s.checksPassed = t at hwf hgo hstore
  exact ⟨_, hgo, State.flag_setFlag_same _ _ _ _ hwf (by decide), rfl, hstore, rfl⟩

/-! The wait for the threads (R353, R354) -/

theorem execActivationThreadsQuiesced_loads {d : Nat} (hphase : s.img.phase = .waiting p d)
    (h : ∀ t, (s.thread t).st = .stopped ∨ (s.thread t).st = .idle) :
    execActivationThreadsQuiesced s = .next { s with img := { s.img with phase := .loading p } } := by
  rw [execActivationThreadsQuiesced, hphase]
  refine if_pos (List.all_eq_true.mpr fun th hth => ?_)
  obtain ⟨i, hi, rfl⟩ := Vector.mem_iff_getElem.mp (Vector.mem_toList_iff.mp hth)
  have := h ⟨i, hi⟩
  simpa [State.thread] using this

theorem execActivationThreadsQuiesced_waits {d : Nat} {t : Fin 8} (hphase : s.img.phase = .waiting p d)
    (hstopped : (s.thread t).st ≠ .stopped) (hidle : (s.thread t).st ≠ .idle) : execActivationThreadsQuiesced s = .next s := by
  rw [execActivationThreadsQuiesced, hphase]
  refine if_neg fun hall => ?_
  have hth := List.all_eq_true.mp hall (s.thread t) (Vector.mem_toList_iff.mpr (Vector.getElem_mem _))
  simp [hstopped, hidle] at hth

end

/-! One part of the state, in a run over the threads -/

/-- In a run over threads, what only thread `t`'s own step touches is at the end as that step leaves it. -/
theorem State.view_foldl {γ : Type} {f : State → Fin 8 → State} {view : State → γ} {t : Fin 8} {ok : State → Prop}
    (hok : ∀ u j, ok u → ok (f u j)) (hkeep : ∀ u j, j ≠ t → view (f u j) = view u) {l : List (Fin 8)} (hn : l.Nodup)
    (ht : t ∈ l) {s : State} (hs : ok s) : ∃ u, ok u ∧ view u = view s ∧ view (l.foldl f s) = view (f u t) := by
  have hrest (l : List (Fin 8)) (h : t ∉ l) (u : State) : view (l.foldl f u) = view u := by
    induction l generalizing u with
    | nil => rfl
    | cons x l ih =>
      obtain ⟨hx, hl⟩ := not_or.mp (mt List.mem_cons.mpr h)
      exact (ih hl (f u x)).trans (hkeep u x (Ne.symm hx))
  induction l generalizing s with
  | nil => exact absurd ht List.not_mem_nil
  | cons x l ih =>
    obtain ⟨hx, hl⟩ := List.nodup_cons.mp hn
    by_cases e : x = t
    · subst e
      exact ⟨s, hs, rfl, hrest l hx _⟩
    · obtain ⟨u, hu, hview, hend⟩ := ih hl ((List.mem_cons.mp ht).resolve_left (Ne.symm e)) (hok s x hs)
      exact ⟨u, hu, hview.trans (hkeep s x e), hend⟩

/-! The halt of the threads that still run (R353, R354) -/

section
variable {s : State} {p : Path}

theorem State.haltThread_other {j t : Fin 8} (h : j ≠ t) : (s.haltThread t).thread j = s.thread j := by
  have hdrop (w : WaitCond) : (s.dropRequest w).thread j = s.thread j := by
    unfold State.dropRequest
    split <;> rfl
  unfold State.haltThread
  dsimp only
  split
  · split
    · exact s.thread_setThread_ne t j _ h
    · exact s.thread_setThread_ne t j _ h
    · exact s.thread_setThread_ne t j _ h
  · exact (State.thread_setThread_ne _ t j _ h).trans (hdrop _)
  · rfl

/-- A thread that runs and waits for nothing is halted at once. -/
theorem State.haltThread_running {t : Fin 8} (hrun : (s.thread t).st = .run) (hwait : (s.thread t).wait = .none) :
    ((s.haltThread t).thread t).st = .halted := by
  have hgo : s.haltThread t = s.setThread t { s.thread t with st := .halted, wait := .none } := by
    rw [State.haltThread, hrun, hwait]
  rw [hgo, State.thread_setThread_same]

theorem State.haltAll_running {t : Fin 8} (hrun : (s.thread t).st = .run) (hwait : (s.thread t).wait = .none) :
    (s.haltAll.thread t).st = .halted := by
  obtain ⟨u, -, hu, hend⟩ := State.view_foldl (f := fun s t => s.haltThread t) (view := fun s => s.thread t)
    (ok := fun _ => True) (fun _ _ _ => trivial) (fun u j h => State.haltThread_other (Ne.symm h)) (List.nodup_finRange 8)
    (List.mem_finRange t) (s := s) trivial
  rw [State.haltAll, hend]
  exact State.haltThread_running (by rw [hu]; exact hrun) (by rw [hu]; exact hwait)

theorem execActivationStopWaitExpiry_halts {d : Nat} {t : Fin 8} (hphase : s.img.phase = .waiting p d) (hd : d ≤ s.cyc)
    (hrun : (s.thread t).st = .run) (hwait : (s.thread t).wait = .none) :
    ∃ u, execActivationStopWaitExpiry s = .next u ∧ u.img.phase = .loading p ∧ (u.thread t).st = .halted := by
  have hgo : execActivationStopWaitExpiry s
      = .next { s.haltAll with img := { s.haltAll.img with phase := .loading p } } := by
    rw [execActivationStopWaitExpiry, hphase]
    exact if_pos hd
  have hhalted := State.haltAll_running hrun hwait
  generalize s.haltAll = t' at hgo hhalted
  exact ⟨_, hgo, rfl, hhalted⟩

theorem execActivationStopWaitExpiry_waits {d : Nat} (hphase : s.img.phase = .waiting p d) (hd : s.cyc < d) :
    execActivationStopWaitExpiry s = .next s := by
  rw [execActivationStopWaitExpiry, hphase]
  exact if_neg (Nat.not_le.mpr hd)

end

/-! The load (R299, R302, R354 to R356, R556) -/

/-- What the steps of a load leave: the outputs, the snapshot copies due, TT_IMAGE and the canonical form. -/
structure State.LoadFrame (s u : State) : Prop where
  outputs : u.outputs = s.outputs
  due : u.snapDue = s.snapDue
  image : u.reg aTT_IMAGE = s.reg aTT_IMAGE
  regs : s.regsWf = true → u.regsWf = true

theorem State.loadFrame_composes : Composes State.LoadFrame where
  refl _ := ⟨rfl, rfl, rfl, id⟩
  trans h k := ⟨k.outputs.trans h.outputs, k.due.trans h.due, k.image.trans h.image, k.regs ∘ h.regs⟩

/-- The registers of a thread's block that a release clears, one by one (R299, R355). -/
theorem State.clearThreadRegs_eq (s : State) (t : Fin 8) : s.clearThreadRegs t = (((((s.setFlag (aTT_FLAGS t) 9 false).setReg
    (aTT_ISSUED t) 0).setReg (aTT_FAULT t) 0).setReg (aTT_FAULT_INSN t) 0).setReg (aTT_FAULT_ADDR t) 0).setReg
    (aTT_WAKE_RT t) 0 := rfl

/-- Thread `n` starts again at an entry point, or stays idle. -/
def State.restartThread (s : State) (entry : Nat) (n : Fin 8) : State :=
  (s.setThread n (releasedThread entry)).clearThreadRegs n

/-- What a release sets of one thread: the thread, its count of issues and its flags. -/
def State.startView (s : State) (t : Fin 8) : Thread × Word × Word := (s.thread t, s.reg (aTT_ISSUED t), s.reg (aTT_FLAGS t))

section
variable (s : State)

theorem State.LoadFrame.setReg (a : Nat) (v : Word) (h : aTT_IMAGE ≠ a) : s.LoadFrame (s.setReg a v) :=
  ⟨rfl, rfl, s.reg_setReg_ne _ _ _ h, s.setReg_regsWf a v⟩

theorem State.LoadFrame.ofMedia {u : State} (h : s.MediaOnly u) : s.LoadFrame u := by
  unfold State.MediaOnly at h
  rw [h]
  exact ⟨rfl, rfl, rfl, id⟩

theorem State.LoadFrame.loadStore : s.LoadFrame s.loadStore := by
  have hset (e : Engine) (m : List Host.Cell) (v : Word) :
      s.LoadFrame (State.setReg { s with eng := e, pstore := m } aTT_CODE_END v) :=
    ⟨rfl, rfl, s.reg_setReg_ne _ _ _ (by decide), s.setReg_regsWf _ _⟩
  unfold State.loadStore
  dsimp only
  exact hset _ _ _

theorem State.LoadFrame.recordImage : s.LoadFrame s.recordImage := by
  have hdigest (t : State) (d : List Byte) : t.LoadFrame (t.putDigest (aIMG_DIGEST 0) d) :=
    State.loadFrame_composes.andFold (State.loadFrame_composes.refl t) fun u j =>
      .setReg u _ _ (by simp only [aTT_IMAGE, aIMG_DIGEST]; omega)
  unfold State.recordImage
  exact State.loadFrame_composes.trans (State.loadFrame_composes.trans (State.loadFrame_composes.trans
    (.setReg s aIMG_STATUS _ (by decide)) (.setReg _ aIMG_STATUS _ (by decide))) (.setReg _ aIMG_BUILD _ (by decide)))
    (hdigest _ _)

/-- A release of a thread writes its own block of registers alone. -/
theorem State.clearThreadRegs_other (n : Fin 8) {b : Nat} (hb : b < 0x80100 + n.val * 0x100 ∨ 0x80200 + n.val * 0x100 ≤ b) :
    (s.clearThreadRegs n).reg b = s.reg b := by
  simp only [State.clearThreadRegs_eq, aTT_FLAGS, aTT_ISSUED, aTT_FAULT, aTT_FAULT_INSN, aTT_FAULT_ADDR, aTT_WAKE_RT]
  iterate 5 rw [State.reg_setReg_ne _ _ _ _ (by omega)]
  exact s.reg_setFlag_ne _ _ _ _ (by omega)

/-- TT_ISSUED and DLOST of a released thread. -/
theorem State.clearThreadRegs_cleared (n : Fin 8) (hw : s.regsWf = true) :
    (s.clearThreadRegs n).reg (aTT_ISSUED n) = 0 ∧ (s.clearThreadRegs n).flag (aTT_FLAGS n) 9 = false := by
  have hwf : sparseWf regReset (s.setFlag (aTT_FLAGS n) 9 false).regs = true := s.setReg_regsWf _ _ hw
  simp only [State.clearThreadRegs_eq]
  constructor
  · simp only [aTT_FAULT, aTT_FAULT_INSN, aTT_FAULT_ADDR, aTT_WAKE_RT, aTT_ISSUED]
    iterate 4 rw [State.reg_setReg_ne _ _ _ _ (by omega)]
    exact State.reg_setReg_same _ _ _ hwf
  · rw [State.flag]
    simp only [aTT_ISSUED, aTT_FAULT, aTT_FAULT_INSN, aTT_FAULT_ADDR, aTT_WAKE_RT, aTT_FLAGS]
    iterate 5 rw [State.reg_setReg_ne _ _ _ _ (by omega)]
    exact s.flag_setFlag_same _ _ _ hw (by decide)

theorem State.clearThreadRegs_thread (n j : Fin 8) : (s.clearThreadRegs n).thread j = s.thread j := by
  simp only [State.clearThreadRegs_eq, State.thread_setReg, State.thread_setFlag]

theorem State.LoadFrame.setThread (n : Fin 8) (x : Thread) : s.LoadFrame (s.setThread n x) := ⟨rfl, rfl, rfl, id⟩

theorem State.LoadFrame.clearThreadRegs (n : Fin 8) : s.LoadFrame (s.clearThreadRegs n) := by
  rw [State.clearThreadRegs_eq]
  have hset (t : State) (a : Nat) (v : Word) (ha : 0x80100 ≤ a) : t.LoadFrame (t.setReg a v) :=
    .setReg t a v (by simp only [aTT_IMAGE]; omega)
  iterate 5 refine State.loadFrame_composes.trans ?_ (hset _ _ _ (by
    simp only [aTT_ISSUED, aTT_FAULT, aTT_FAULT_INSN, aTT_FAULT_ADDR, aTT_WAKE_RT]; omega))
  exact hset s _ _ (by simp only [aTT_FLAGS]; omega)

theorem State.LoadFrame.restartThread (entry : Nat) (n : Fin 8) : s.LoadFrame (s.restartThread entry n) :=
  State.loadFrame_composes.trans (.setThread s n _) (.clearThreadRegs _ n)

theorem State.restartThread_other (entry : Nat) {n t : Fin 8} (h : n ≠ t) :
    (s.restartThread entry n).startView t = s.startView t := by
  have hblock (b : Nat) (hb : 0x80100 + t.val * 0x100 ≤ b ∧ b < 0x80200 + t.val * 0x100) :
      (s.restartThread entry n).reg b = s.reg b :=
    (State.clearThreadRegs_other _ n (by omega)).trans rfl
  have hthread : (s.restartThread entry n).thread t = s.thread t := by
    rw [State.restartThread, State.clearThreadRegs_thread, s.thread_setThread_ne n t _ (Ne.symm h)]
  rw [State.startView, State.startView, hthread, hblock _ (by simp only [aTT_ISSUED]; omega),
    hblock _ (by simp only [aTT_FLAGS]; omega)]

/-- A thread that is released is as its entry point says, with no issue counted and DLOST clear. -/
theorem State.restartThread_shows (entry : Nat) (n : Fin 8) (hw : s.regsWf = true) :
    (s.restartThread entry n).thread n = releasedThread entry ∧ (s.restartThread entry n).reg (aTT_ISSUED n) = 0
      ∧ (s.restartThread entry n).flag (aTT_FLAGS n) 9 = false :=
  ⟨(State.clearThreadRegs_thread _ n n).trans (s.thread_setThread_same n _), State.clearThreadRegs_cleared _ n hw⟩

/-- All threads released. -/
def State.restartThreads (s : State) : State := (List.finRange 8).foldl (fun t (n : Fin 8) => t.restartThread (s.imgEntry n) n) s

theorem State.LoadFrame.restartThreads : s.LoadFrame s.restartThreads :=
  State.loadFrame_composes.andFold (State.loadFrame_composes.refl s) fun t n => .restartThread t _ n

theorem State.restartThreads_shows (hw : s.regsWf = true) (t : Fin 8) :
    s.restartThreads.thread t = releasedThread (s.imgEntry t) ∧ s.restartThreads.reg (aTT_ISSUED t) = 0
      ∧ s.restartThreads.flag (aTT_FLAGS t) 9 = false := by
  obtain ⟨u, hu, -, hend⟩ := State.view_foldl (f := fun u (n : Fin 8) => u.restartThread (s.imgEntry n) n)
    (view := fun u => u.startView t) (ok := fun u => u.regsWf = true) (fun u n h => (State.LoadFrame.restartThread u _ n).regs h)
    (fun u n h => u.restartThread_other _ h) (List.nodup_finRange 8) (List.mem_finRange t) hw
  obtain ⟨hth, hissued, hflag⟩ := u.restartThread_shows (s.imgEntry t) t hu
  simp only [State.startView, Prod.mk.injEq] at hend
  obtain ⟨hth', hissued', hflags⟩ := hend
  refine ⟨hth'.trans hth, hissued'.trans hissued, ?_⟩
  rw [State.flag]
  exact (congrArg (·.getLsbD 9) hflags).trans hflag

/-- TT_IMAGE once an image runs: running, no longer being activated, and counted. -/
def State.imageRuns (s : State) : State := ((s.setFlag aTT_IMAGE 0 true).setFlag aTT_IMAGE 1 false).bump aTT_IMAGE 16 16 1

theorem State.imageRuns_shows (hw : s.regsWf = true) : s.imageRuns.flag aTT_IMAGE 0 = true
    ∧ s.imageRuns.flag aTT_IMAGE 1 = false ∧ s.imageRuns.fld aTT_IMAGE 16 16 = min (s.fld aTT_IMAGE 16 16 + 1) 0xFFFF := by
  have h0 : sparseWf regReset (s.setFlag aTT_IMAGE 0 true).regs = true := s.setReg_regsWf _ _ hw
  have h1 : sparseWf regReset ((s.setFlag aTT_IMAGE 0 true).setFlag aTT_IMAGE 1 false).regs = true :=
    State.setReg_regsWf _ _ _ h0
  refine ⟨?_, ?_, ?_⟩
  · rw [State.imageRuns, State.bump, State.flag_setFld_other _ _ _ _ _ _ h1 (by decide),
      State.flag_setFlag_other _ _ _ _ _ h0 (by decide), State.flag_setFlag_same _ _ _ _ hw (by decide)]
  · rw [State.imageRuns, State.bump, State.flag_setFld_other _ _ _ _ _ _ h1 (by decide),
      State.flag_setFlag_same _ _ _ _ h0 (by decide)]
  · have hcount : ((s.setFlag aTT_IMAGE 0 true).setFlag aTT_IMAGE 1 false).fld aTT_IMAGE 16 16 = s.fld aTT_IMAGE 16 16 :=
      (State.fld_setFld_disjoint _ _ _ _ _ _ _ h0 (by decide)).trans (s.fld_setFld_disjoint _ _ _ _ _ _ hw (by decide))
    rw [State.imageRuns, State.fld_bump_same _ _ _ _ _ h1 (by decide), hcount]
    rfl

theorem State.imageRuns_other {b : Nat} (hb : b ≠ aTT_IMAGE) : s.imageRuns.reg b = s.reg b := by
  rw [State.imageRuns, State.reg_bump_ne _ _ _ _ _ _ hb, State.reg_setFlag_ne _ _ _ _ _ hb, State.reg_setFlag_ne _ _ _ _ _ hb]

/-- The image as it stands once loaded and recorded, before its threads are released (R556, steps 1 to 3). -/
def State.imageLoaded (s : State) : State := s.copyImage.loadStore.recordImage

theorem State.LoadFrame.imageLoaded : s.LoadFrame s.imageLoaded :=
  have hstore : s.LoadFrame s.copyImage.loadStore :=
    State.loadFrame_composes.trans (.ofMedia s s.mediaOnly_copyImage) (.loadStore _)
  State.loadFrame_composes.trans hstore (.recordImage _)

/-- The state that runs the image: its phase ended, and the last step of the startup begun where one is under way. -/
def State.imageStarted (s : State) : State :=
  let t := { s with img := { s.img with phase := .idle } }
  if t.fld aSU_STATUS 0 4 = 7 then t.startStep 8 else t

theorem State.imageStarted_changes : ∃ regs, s.imageStarted = { s with regs := regs, img := { s.img with phase := .idle } } := by
  unfold State.imageStarted
  dsimp only
  split
  · exact ⟨_, rfl⟩
  · exact ⟨_, rfl⟩

theorem State.imageStarted_reg {b : Nat} (hb : 0x80000 ≤ b) : s.imageStarted.reg b = s.reg b := by
  have h1 : b ≠ aSU_STATUS := by simp only [aSU_STATUS]; omega
  have h2 : b ≠ aSU_STEP_RT 8 := by simp only [aSU_STEP_RT]; omega
  unfold State.imageStarted
  dsimp only
  split
  · rw [State.startStep, State.reg_setReg_ne _ _ _ _ h2, State.reg_setFld_ne _ _ _ _ _ _ h1]
    rfl
  · rfl

end

section
variable {s : State} {p : Path}

theorem execImageLoadDone_eq (hphase : s.img.phase = .loading p) (h : ∀ t, (s.thread t).haltReq = false) :
    execImageLoadDone s = finish s (s.imageLoaded.restartThreads.imageRuns.imageStarted.reply p "Success" []) := by
  rw [execImageLoadDone, hphase]
  refine if_neg fun hany => ?_
  obtain ⟨th, hth, hreq⟩ := List.any_eq_true.mp hany
  obtain ⟨i, hi, rfl⟩ := Vector.mem_iff_getElem.mp (Vector.mem_toList_iff.mp hth)
  have hno : s.eng.threads[i].haltReq = false := h ⟨i, hi⟩
  rw [hno] at hreq
  cases hreq

/-- The load ends: the image runs, its threads start again, and it is counted. -/
theorem execImageLoadDone_runs (hq : Quiet s) (hw : s.regsWf = true) (hphase : s.img.phase = .loading p)
    (h : ∀ t, (s.thread t).haltReq = false) : ∃ u, execImageLoadDone s = .next u ∧ u.img.phase = .idle
      ∧ u.flag aTT_IMAGE 0 = true ∧ u.flag aTT_IMAGE 1 = false
      ∧ u.fld aTT_IMAGE 16 16 = min (s.fld aTT_IMAGE 16 16 + 1) 0xFFFF
      ∧ (∀ t, u.thread t = releasedThread (s.imageLoaded.imgEntry t) ∧ u.reg (aTT_ISSUED t) = 0
        ∧ u.flag (aTT_FLAGS t) 9 = false)
      ∧ u.outputs = s.outputs ++ [.reply p "Success" []] := by
  have hgo := execImageLoadDone_eq hphase h
  have hload := State.LoadFrame.imageLoaded s
  have hthreads := s.imageLoaded.restartThreads_shows (hload.regs hw)
  have hall := State.loadFrame_composes.trans hload (.restartThreads s.imageLoaded)
  generalize s.imageLoaded.imgEntry = entry at hthreads ⊢
  generalize s.imageLoaded.restartThreads = v at hgo hthreads hall
  obtain ⟨h0, h1, hcount⟩ := v.imageRuns_shows (hall.regs hw)
  have hreg (b : Nat) (hb : 0x80000 ≤ b) : v.imageRuns.imageStarted.reg b = v.imageRuns.reg b := v.imageRuns.imageStarted_reg hb
  obtain ⟨regs, hstart⟩ := v.imageRuns.imageStarted_changes
  have hphase' : v.imageRuns.imageStarted.img.phase = .idle := congrArg (fun t => t.img.phase) hstart
  have houts : v.imageRuns.imageStarted.outputs = s.outputs := (congrArg State.outputs hstart).trans hall.outputs
  have hdue : v.imageRuns.imageStarted.snapDue = s.snapDue := (congrArg State.snapDue hstart).trans hall.due
  have hth (t : Fin 8) : v.imageRuns.imageStarted.thread t = v.thread t := congrArg (fun u => u.thread t) hstart
  have hblock (b : Nat) (hb : 0x80100 ≤ b) : v.imageRuns.imageStarted.reg b = v.reg b :=
    (hreg b (by omega)).trans (v.imageRuns_other (by simp only [aTT_IMAGE]; omega))
  generalize v.imageRuns.imageStarted = u at hgo hreg hphase' houts hdue hth hblock
  refine ⟨_, hgo.trans (finish_quiet _ _ (hdue.trans hq)), hphase', ?_, ?_, ?_, fun t => ?_, congrArg (· ++ _) houts⟩
  · exact (congrArg (·.getLsbD 0) (hreg aTT_IMAGE (by decide))).trans h0
  · exact (congrArg (·.getLsbD 1) (hreg aTT_IMAGE (by decide))).trans h1
  · refine (congrArg (getBits · 16 16) (hreg aTT_IMAGE (by decide))).trans (hcount.trans ?_)
    rw [State.fld, hall.image, State.fld]
  · obtain ⟨hthread, hissued, hflag⟩ := hthreads t
    exact ⟨(hth t).trans hthread, (hblock _ (by simp only [aTT_ISSUED]; omega)).trans hissued,
      (congrArg (·.getLsbD 9) (hblock _ (by simp only [aTT_FLAGS]; omega))).trans hflag⟩

end

/-- Settles O50, from a lemma for each of the ways an image takes: staged, refused, waited for and loaded. -/
theorem images : Obligations.Images := by
  intro s p
  refine ⟨fun _ _ last h ho hl => execTransferFw_stages h last ho hl,
    fun _ data last h h0 ho => execTransferFw_outOfOrder h data last h0 ho,
    fun _ off data last h hs => execTransferFw_invalidSlot h off data last hs,
    fun i slot action off data last hi hq hpath => ⟨fun hsupp => exec_imageUnsupported hq hpath hsupp hi,
      fun hsupp hslot haction hbusy => ?_⟩,
    execActivateFw_starts, fun _ h ha => execActivateFw_invalidAction h ha, fun reason slot _ hw hphase hcheck => ?_,
    fun _ hphase h => execActivationThreadsQuiesced_loads hphase h,
    fun _ _ hphase h1 h2 => execActivationThreadsQuiesced_waits hphase h1 h2,
    fun _ _ hphase hd hrun hwait => execActivationStopWaitExpiry_halts hphase hd hrun hwait,
    fun _ hphase hd => execActivationStopWaitExpiry_waits hphase hd,
    fun hq hw hphase h => execImageLoadDone_runs hq hw hphase h⟩
  · subst hslot haction
    exact exec_imageBusy hq hpath hsupp hbusy hi
  · by_cases hr : reason = 0
    · subst hr
      obtain ⟨u, hgo, hflag, hslot, hstore, hph⟩ := execImageChecksDone_passes hw hphase hcheck
      exact ⟨u, hgo, fun h => absurd rfl h, fun _ => ⟨hflag, hslot, hstore, hph⟩⟩
    · obtain ⟨u, hgo, hfails⟩ := execImageChecksDone_refuses hw hphase hcheck hr
      exact ⟨u, hgo, fun _ => hfails, fun h => absurd h hr⟩

end Sys2Proof.Machine

/-! ## Poison commands (R423, Table 5.7) -/

namespace Sys2Proof.Machine

open Sys2Proof.Claims

/-! What the journal keeps of a write on its way -/

/-- Every journal entry is still there with its line, its bytes and its data, wherever it stands now. -/
def State.EntriesStay (s u : State) : Prop :=
  ∀ e ∈ s.mem.journal, ∃ e' ∈ u.mem.journal, e'.line = e.line ∧ e'.mask = e.mask ∧ e'.val = e.val

namespace State.EntriesStay

theorem refl (s : State) : s.EntriesStay s := fun e he => ⟨e, he, rfl, rfl, rfl⟩

theorem trans {s t u : State} (h : s.EntriesStay t) (k : t.EntriesStay u) : s.EntriesStay u := fun e he => by
  obtain ⟨e', he', hl, hm, hv⟩ := h e he
  obtain ⟨e'', he'', hl', hm', hv'⟩ := k e' he'
  exact ⟨e'', he'', hl'.trans hl, hm'.trans hm, hv'.trans hv⟩

/-- A change of each entry that leaves its line, its bytes and its data. -/
theorem of_map {s u : State} (f : JEntry → JEntry) (hu : u.mem.journal = s.mem.journal.map f)
    (hf : ∀ e, (f e).line = e.line ∧ (f e).mask = e.mask ∧ (f e).val = e.val) : s.EntriesStay u := fun e he =>
  ⟨f e, by rw [hu]; exact List.mem_map_of_mem he, hf e⟩

theorem setJPlace (s : State) (n : Nat) (p : JPlace) : s.EntriesStay (s.setJPlace n p) :=
  of_map (fun e => if e.seq = n then { e with place := p } else e) rfl fun e => by split <;> exact ⟨rfl, rfl, rfl⟩

theorem setChan (s : State) (c : Fin 32) (x : Channel) : s.EntriesStay (s.setChan c x) := refl s

theorem refill (s : State) (c : Fin 32) (fuel : Nat) : s.EntriesStay (s.refill c fuel) := by
  induction fuel generalizing s with
  | zero => exact refl s
  | succ fuel ih =>
    unfold State.refill
    dsimp only
    split
    · exact refl s
    · exact ((setChan s c _).trans (setJPlace _ _ _)).trans (ih _)

theorem journalGo (s : State) (n : Nat) : s.EntriesStay (s.journalGo n) := by
  unfold State.journalGo
  dsimp only
  split
  · exact refl s
  · split
    · split
      · exact of_map (fun f => if f.seq = n then { f with place := .spilled, slot := none } else f) rfl fun e => by
          split <;> exact ⟨rfl, rfl, rfl⟩
      · exact (setJPlace s n .hamper).trans (refill _ _ _)
    · exact refl s

end State.EntriesStay

/-! A write of a media command -/

section
variable {s : State} {line : Nat} {v : LineVal}

theorem mergeLine_full (old new : LineVal) : mergeLine old new (BitVec.allOnes 64) = new := if_pos (beq_self_eq_true _)

/-- A line that the cache serves takes the write there. -/
theorem State.mediaWrite_cached (h : (s.lookup line).isSome = true) :
    ∃ l, (s.mediaWrite line v).cached line = some l ∧ l.val = v := by
  obtain ⟨l, hl⟩ := Option.isSome_iff_exists.mp h
  have hcached := (State.lookup_eq_some.mp hl).2
  have hline : l.line = line := by
    have := List.find?_some hcached
    simpa using this
  obtain ⟨ls, hwrite⟩ := s.cacheWrite_cached line v (BitVec.allOnes 64) l hcached
  have hgo : s.mediaWrite line v = s.cacheWrite line v (BitVec.allOnes 64) := by rw [State.mediaWrite, hl]
  refine ⟨{ l with val := mergeLine l.val v (BitVec.allOnes 64), dirty := true }, ?_, mergeLine_full l.val v⟩
  rw [hgo, hwrite, State.cached, List.find?_cons_of_pos (by simp [hline])]

/-- Another line's write stands in the journal, unless the line has no home or its channel's replay is impossible. -/
theorem State.mediaWrite_journalled {p : Nat × Nat} (h : s.lookup line = none) (hp : s.place line = some p)
    (hi : s.impossible p.1 = false) :
    ∃ e ∈ (s.mediaWrite line v).mem.journal, e.line = line ∧ fullMask e.mask = true ∧ e.val = v := by
  have hgo : s.mediaWrite line v
      = (s.journalAdd line v (BitVec.allOnes 64) none s.stamp .hamper).journalGo s.mem.nextSeq := by
    rw [State.mediaWrite, h]
    dsimp only
    rw [State.journalPush, hp]
    exact if_neg (by simp [hi])
  rw [hgo]
  obtain ⟨e, he, hl, hm, hv⟩ := State.EntriesStay.journalGo
    (s.journalAdd line v (BitVec.allOnes 64) none s.stamp .hamper) s.mem.nextSeq _
    (List.mem_append_right _ (List.mem_singleton_self _))
  exact ⟨e, he, hl, by rw [hm]; simp [fullMask], hv⟩

theorem State.mediaRecord_integ (log : EventLog) (r : Record) : (s.mediaRecord line log r).integ = s.integ :=
  ((FaultFrame.toHeads s _ log r).trans (.toFm _ log r)).integ

/-- An entry of the table of uncorrectable errors, while the table has room. -/
theorem State.ueAdd_room (e : UeEntry) (h : s.integ.ue.length < 32) :
    s.ueAdd e = { s with integ := { s.integ with ue := s.integ.ue ++ [e] } } := if_pos h

theorem State.refill_integ (s : State) (c : Fin 32) (fuel : Nat) : (s.refill c fuel).integ = s.integ := by
  induction fuel generalizing s with
  | zero => rfl
  | succ fuel ih =>
    unfold State.refill
    dsimp only
    split
    · rfl
    · exact (ih _).trans rfl

theorem State.journalGo_integ (n : Nat) : (s.journalGo n).integ = s.integ := by
  unfold State.journalGo
  dsimp only
  split
  · rfl
  · split
    · split
      · rfl
      · exact (State.refill_integ _ _ _).trans rfl
    · rfl

/-- A write of a media command makes at most one entry of the table of uncorrectable errors. -/
theorem State.mediaWrite_room (h : s.integ.ue.length < 31) : (s.mediaWrite line v).integ.ue.length < 32 := by
  have hlost : (s.replayLost line).integ.ue.length < 32 := by
    unfold State.replayLost
    split
    next p _ =>
      unfold State.logUe
      dsimp only
      have hroom : (s.storeLine p.2 poisonLine).integ.ue.length < 32 := Nat.lt_succ_of_lt h
      rw [State.mediaRecord_integ, State.ueAdd_room _ hroom]
      exact (List.length_append.trans_lt (Nat.succ_lt_succ h))
    next => omega
  unfold State.mediaWrite
  split
  next l hl =>
    obtain ⟨ls, hwrite⟩ := s.cacheWrite_cached line v (BitVec.allOnes 64) l (State.lookup_eq_some.mp hl).2
    rw [hwrite]
    exact Nat.lt_succ_of_lt h
  next =>
    unfold State.journalPush
    split
    · omega
    · split
      · exact hlost
      · rw [State.journalGo_integ]
        exact Nat.lt_succ_of_lt h

end

/-! The two commands -/

section
variable {s : State} {k : Fin 16} {dpa : Nat}

/-- Past its checks, a media command performs its write and answers Success. -/
theorem State.mediaCommand_performs (hm : s.mgmtHead = k.val) (hready : s.storeReady = true) (halign : dpa % 64 = 0)
    (hgrant : s.granted k (dpa / 64) = true) (hroom : s.journalRoom = true) (hbusy : s.lineBusy (dpa / 64) = false)
    (hwaits : s.sliceWaits (dpa / 64) = false) (act : State → State) :
    s.mediaCommand k dpa act = (act s).reply (.head k) "Success" [] := by
  rw [State.mediaCommand, if_neg (by simp [hm]), if_neg (by simp [hready]), if_neg (by simp [halign, hgrant]),
    if_neg (by simp [hroom, hbusy, hwaits])]

theorem State.mediaCommand_unsupported (h : s.mgmtHead ≠ k.val) (act : State → State) :
    s.mediaCommand k dpa act = s.reply (.head k) "Unsupported" [] := if_pos h

theorem State.mediaCommand_invalid (hm : s.mgmtHead = k.val) (hready : s.storeReady = true)
    (h : dpa % 64 ≠ 0 ∨ s.granted k (dpa / 64) = false) (act : State → State) :
    s.mediaCommand k dpa act = s.reply (.head k) "Invalid Input" [] := by
  rw [State.mediaCommand, if_neg (by simp [hm]), if_neg (by simp [hready]), if_pos h]

/-- What a served media command leaves, past the write itself: its reply goes out last. -/
theorem State.mailbox_media (h : MailOk s k) {act : State → State}
    (hact : s.mediaCommand k dpa act = (act s).reply (.head k) "Success" []) :
    ∃ u, s.mailbox k (fun s => s.mediaCommand k dpa act) = .next u
      ∧ u.outputs.getLast? = some (.reply (.head k) "Success" []) ∧ u.integ = (act s).integ ∧ u.cache = (act s).cache
      ∧ u.mem = (act s).mem := by
  obtain ⟨-, hopen⟩ := h
  have hgo : s.mailbox k (fun s => s.mediaCommand k dpa act) = finish s ((act s).reply (.head k) "Success" []) := by
    rw [State.mailbox, if_pos hopen, hact]
  generalize act s = t at hgo
  obtain ⟨regs, due, hsettle⟩ := (t.reply (.head k) "Success" []).settle_changes s
  refine ⟨_, hgo.trans (finish_next _ _), ?_, ?_, ?_, ?_⟩
  · rw [State.settle_outputs, State.reply_getLast?]
  · rw [hsettle]
    rfl
  · rw [State.settle_cache]
    rfl
  · rw [State.settle_mem]
    rfl

theorem State.lineNow_cached {line : Nat} {l : CacheLine} (h : s.cached line = some l) : s.lineNow line = l.val := by
  rw [State.lineNow, h]

theorem State.cached_congr {u : State} (h : u.cache = s.cache) (line : Nat) : u.cached line = s.cached line := by
  rw [State.cached, h, State.cached]

end

/-- Where the write of a media command stands: in the cache, or in the journal. -/
def State.mediaWritten (s u : State) (line : Nat) (v : LineVal) : Prop :=
  ((s.lookup line).isSome = true → u.lineNow line = v)
  ∧ ∀ p, s.lookup line = none → s.place line = some p → s.impossible p.1 = false →
    ∃ e ∈ u.mem.journal, e.line = line ∧ fullMask e.mask = true ∧ e.val = v

section
variable {s : State} {k : Fin 16} {dpa : Nat}

/-- Both media commands only reply where their checks fail. -/
theorem execMedia_replies (h : MailOk s k) {status : String}
    (hreply : ∀ act, s.mediaCommand k dpa act = s.reply (.head k) status []) :
    execInjectPoison k dpa s = .next (s.reply (.head k) status [])
    ∧ ∀ data, execClearPoison k dpa data s = .next (s.reply (.head k) status []) :=
  ⟨State.mailbox_ends h (hreply _) rfl, fun _ => State.mailbox_ends h (hreply _) rfl⟩

theorem State.mediaWrite_written {u : State} {line : Nat} {v : LineVal} (hc : u.cache = (s.mediaWrite line v).cache)
    (hm : u.mem = (s.mediaWrite line v).mem) : s.mediaWritten u line v := by
  refine ⟨fun h => ?_, fun p h hp hi => ?_⟩
  · obtain ⟨l, hl, hv⟩ := State.mediaWrite_cached (v := v) h
    rw [State.lineNow_cached ((State.cached_congr hc line).trans hl), hv]
  · rw [hm]
    exact State.mediaWrite_journalled h hp hi

/-- Inject Poison makes an entry of source 7 and writes the line with poison. -/
theorem execInjectPoison_injects (h : MailOk s k) (hue : s.integ.ue.length < 31)
    (hperforms : ∀ act, s.mediaCommand k dpa act = (act s).reply (.head k) "Success" []) :
    ∃ u, execInjectPoison k dpa s = .next u ∧ u.outputs.getLast? = some (.reply (.head k) "Success" [])
      ∧ (∃ e ∈ u.integ.ue, e.line = dpa / 64 ∧ e.source = 7 ∧ e.master = BitVec.ofNat 8 k.val ∧ e.cleared = false)
      ∧ s.mediaWritten u (dpa / 64) { s.lineNow (dpa / 64) with poison := true } := by
  obtain ⟨u, hgo, hout, hinteg, hcache, hmem⟩ := State.mailbox_media h (hperforms (fun s =>
    let t := s.mediaWrite (dpa / 64) { (s.lineNow (dpa / 64)) with poison := true }
    t.ueAdd { line := dpa / 64, rt := t.now, source := 7, master := BitVec.ofNat 8 k.val, poisonWritten := true,
              reported := false, cleared := false, stamp := 0 }))
  dsimp only at hinteg hcache hmem
  rw [State.ueAdd_room _ (State.mediaWrite_room hue)] at hinteg hcache hmem
  refine ⟨u, hgo, hout, ?_, State.mediaWrite_written hcache hmem⟩
  rw [hinteg]
  exact ⟨_, List.mem_append_right _ (List.mem_singleton_self _), rfl, rfl, rfl, rfl⟩

/-- Clear Poison clears the line's entries and writes the data given. -/
theorem execClearPoison_clears (h : MailOk s k) (data : Line)
    (hperforms : ∀ act, s.mediaCommand k dpa act = (act s).reply (.head k) "Success" []) :
    ∃ u, execClearPoison k dpa data s = .next u ∧ u.outputs.getLast? = some (.reply (.head k) "Success" [])
      ∧ (∀ e ∈ u.integ.ue ++ u.integ.spill, e.line = dpa / 64 → e.cleared = true)
      ∧ s.mediaWritten u (dpa / 64) { data := data, poison := false } := by
  obtain ⟨u, hgo, hout, hinteg, hcache, hmem⟩ := State.mailbox_media h (hperforms (fun s =>
    (s.mediaWrite (dpa / 64) { data := data, poison := false }).ueClear (dpa / 64)))
  refine ⟨u, hgo, hout, fun e he hline => ?_, State.mediaWrite_written hcache hmem⟩
  rw [hinteg, State.ueClear, ← List.map_append] at he
  obtain ⟨e0, -, rfl⟩ := List.mem_map.mp he
  split at hline
  next h0 => rw [if_pos h0]
  next h0 => exact absurd hline h0

end

end Sys2Proof.Machine

/-! ## Dynamic capacity: adds, releases and the zero-fill (R183, R184, R186, R477, R629) -/

namespace Sys2Proof.Machine

open Sys2Proof.Claims

/-! Extents and records -/

/-- An extent that meets R183 has a block. -/
theorem extentBlocks_ne_nil {dpa len : Nat} {bs : List Nat} (h : extentBlocks dpa len = some bs) : bs ≠ [] := by
  unfold extentBlocks at h
  split at h
  next hext =>
    obtain ⟨-, hlen, hpos, -⟩ := hext
    have hle : blockSize ≤ len := Nat.le_of_dvd hpos (Nat.dvd_of_mod_eq_zero hlen)
    have hblocks : len / blockSize ≠ 0 := Nat.ne_of_gt (Nat.div_pos hle (by decide))
    rw [← Option.some.inj h]
    exact fun hnil => hblocks (List.range'_eq_nil_iff.mp hnil)
  next => cases h

section
variable (s : State)

/-- A record of a head changes logs and what goes out. -/
theorem State.toHeadAndFm_changes (k : Fin 16) (log : EventLog) (r : Record) : ∃ heads mgmt outputs,
    s.toHeadAndFm k log r = { s with heads := heads, mgmt := mgmt, outputs := outputs } := by
  unfold State.toHeadAndFm State.toFm
  dsimp only
  split <;> exact ⟨_, _, _, rfl⟩

theorem State.dcRecord_changes (k : Fin 16) (event dpa len tag : Nat) : ∃ heads mgmt outputs,
    s.dcRecord k event dpa len tag = { s with heads := heads, mgmt := mgmt, outputs := outputs } :=
  s.toHeadAndFm_changes k _ _

end

/-! Adds (R183, R184, R186, R478, R629) -/

section
variable {s : State} {p : Path} {x : BitVec 8} {k : Fin 16} {dpa len tag : Nat} {bs : List Nat}

/-- Nothing is added before the memory serves. -/
theorem execInitiateDynamicCapacityAdd_early (h : FmOk s p) (hsu : s.flag aSU_CTRL 0 = false) :
    execInitiateDynamicCapacityAdd p x dpa len tag s = .next (s.reply p "Busy" []) :=
  State.fmCommand_ends h (if_pos (.inl hsu)) rfl

/-- An add past the state of the memory answers by its blocks. -/
theorem execInitiateDynamicCapacityAdd_ready (hsu : s.flag aSU_CTRL 0 = true) (hready : s.storeReady = true)
    (hx : s.headArg x = some k) (h : FmOk s p) {status : String} (hstatus : s.addStatus k dpa len tag = (status, bs)) :
    execInitiateDynamicCapacityAdd p x dpa len tag s = finish s (State.reply
      (if bs.isEmpty then s else (s.grantBlocks k tag bs).dcRecord k 0 dpa len tag) p status []) := by
  obtain ⟨-, hopen⟩ := h
  rw [execInitiateDynamicCapacityAdd, State.fmCommand, if_pos hopen]
  dsimp only
  rw [if_neg (by simp [hsu, hready]), hx]
  dsimp only
  rw [hstatus]

theorem execInitiateDynamicCapacityAdd_grants (h : FmOk s p) (hsu : s.flag aSU_CTRL 0 = true) (hready : s.storeReady = true)
    (hx : s.headArg x = some k) (hbs : extentBlocks dpa len = some bs) (hbreaks : bs.any (s.addBreaks k tag) = false)
    (hfill : bs.any s.isFilling = false) : ∃ u, execInitiateDynamicCapacityAdd p x dpa len tag s = .next u
      ∧ u.grants = s.grants ++ bs.map (fun (b : Nat) => { head := k, block := b, tag := tag : Grant })
      ∧ u.outputs.getLast? = some (.reply p "Success" [])
      ∧ u = { s with grants := u.grants, heads := u.heads, mgmt := u.mgmt, outputs := u.outputs } := by
  have hstatus : s.addStatus k dpa len tag = ("Success", bs) := by
    rw [State.addStatus, hbs]
    dsimp only
    rw [if_neg (by simp [hbreaks]), if_neg (by simp [hfill])]
  have hne : ¬bs.isEmpty = true := by simp [extentBlocks_ne_nil hbs]
  have hgo := execInitiateDynamicCapacityAdd_ready hsu hready hx h hstatus
  rw [if_neg hne] at hgo
  obtain ⟨heads, mgmt, outputs, hrecord⟩ := (s.grantBlocks k tag bs).dcRecord_changes k 0 dpa len tag
  rw [hrecord] at hgo
  exact ⟨_, hgo.trans (finish_quiet _ _ h.1), rfl, State.reply_getLast? _ _ _ _, rfl⟩

theorem execInitiateDynamicCapacityAdd_breaks (h : FmOk s p) (hsu : s.flag aSU_CTRL 0 = true) (hready : s.storeReady = true)
    (hx : s.headArg x = some k) (hbs : extentBlocks dpa len = some bs) (hbreaks : bs.any (s.addBreaks k tag) = true) :
    execInitiateDynamicCapacityAdd p x dpa len tag s = .next (s.reply p "Invalid Input" []) := by
  have hstatus : s.addStatus k dpa len tag = ("Invalid Input", []) := by
    rw [State.addStatus, hbs]
    exact if_pos hbreaks
  rw [execInitiateDynamicCapacityAdd_ready hsu hready hx h hstatus]
  exact finish_quiet _ _ h.1

theorem execInitiateDynamicCapacityAdd_filling (h : FmOk s p) (hsu : s.flag aSU_CTRL 0 = true) (hready : s.storeReady = true)
    (hx : s.headArg x = some k) (hbs : extentBlocks dpa len = some bs) (hbreaks : bs.any (s.addBreaks k tag) = false)
    (hfill : bs.any s.isFilling = true) :
    execInitiateDynamicCapacityAdd p x dpa len tag s = .next (s.reply p "Busy" []) := by
  have hstatus : s.addStatus k dpa len tag = ("Busy", []) := by
    rw [State.addStatus, hbs]
    dsimp only
    rw [if_neg (by simp [hbreaks]), if_pos hfill]
  rw [execInitiateDynamicCapacityAdd_ready hsu hready hx h hstatus]
  exact finish_quiet _ _ h.1

end

/-! Releases (R186, R477) -/

section
variable (s : State)

/-- A stand-in that takes a block leaves the grants. -/
theorem State.siTake_grants {b : Nat} {t : State} (h : s.siTake b = some t) : t.grants = s.grants := by
  unfold State.siTake at h
  split at h
  next n _ =>
    rw [← Option.some.inj h]
    exact (State.steady_siForm _ n).2.2.trans (s.steady_setSiBlocks n _).2.2
  next => cases h

/-- A release of a block takes it from the head. -/
theorem State.releaseBlock_grants (k b : Nat) :
    (s.releaseBlock k b).grants = s.grants.filter (fun g => !(g.head == k && g.block == b)) := by
  unfold State.releaseBlock
  dsimp only
  split
  · rfl
  · split
    next t ht => exact State.siTake_grants _ ht
    next => rfl

theorem State.foldl_releaseBlock_grants (k : Nat) (bs : List Nat) :
    (bs.foldl (fun s b => s.releaseBlock k b) s).grants
      = s.grants.filter (fun g => !(g.head == k && bs.contains g.block)) := by
  induction bs generalizing s with
  | nil => simp
  | cons b bs ih =>
    rw [List.foldl_cons, ih, s.releaseBlock_grants, List.filter_filter]
    refine List.filter_congr fun g _ => ?_
    rw [List.contains_cons]
    cases g.head == k <;> cases g.block == b <;> cases bs.contains g.block <;> rfl

/-- No stand-in collects blocks. -/
def State.NoCollector : Prop := s.siState 0 ≠ 1 ∧ s.siState 1 ≠ 1

/-- A block of a release is on its way to the fill: it is being filled, or the head alone still holds it. -/
def State.toFill (k b : Nat) (rest : List Nat) : Prop :=
  s.isFilling b = true ∨ (b ∈ rest ∧ ∀ g ∈ s.grants, g.block = b → g.head = k)

variable {s}

/-- Where no stand-in collects, a release of a block changes the grants and the fills alone. -/
theorem State.releaseBlock_idle (h : s.NoCollector) (k b : Nat) : s.releaseBlock k b =
    { s with grants := s.grants.filter (fun g => !(g.head == k && g.block == b)),
             filling := if (s.grants.filter (fun g => !(g.head == k && g.block == b))).any (fun g => g.block == b) then s.filling
               else s.filling ++ [{ block := b, sent := 0, done := 0 }] } := by
  have hnone (gs : List Grant) : State.siTake { s with grants := gs } b = none := by
    have hfind : [0, 1].find? (fun n => State.siState { s with grants := gs } n == 1) = none :=
      List.find?_eq_none.mpr fun n hn => by
        obtain ⟨h0, h1⟩ := h
        rcases List.mem_pair.mp hn with rfl | rfl
        · exact fun e => h0 (beq_iff_eq.mp e)
        · exact fun e => h1 (beq_iff_eq.mp e)
    rw [State.siTake, hfind]
  unfold State.releaseBlock
  dsimp only
  rw [hnone]
  split <;> rfl

/-- A block on its way to the fill stays on it, one release after the other. -/
theorem State.foldl_releaseBlock_fills {k b : Nat} {bs : List Nat} (h : s.NoCollector) (hb : s.toFill k b bs) :
    (bs.foldl (fun s b => s.releaseBlock k b) s).isFilling b = true := by
  induction bs generalizing s with
  | nil => exact hb.resolve_right fun hn => List.not_mem_nil hn.1
  | cons c bs ih =>
    have hstep := State.releaseBlock_idle h k c
    have hmore : s.isFilling b = true → (s.releaseBlock k c).isFilling b = true := fun hf => by
      rw [hstep, State.isFilling]
      dsimp only
      split
      · exact hf
      · rw [List.any_append, Bool.or_eq_true]
        exact .inl hf
    rw [List.foldl_cons]
    refine ih (by rw [hstep]; exact h) ?_
    rcases hb with hf | ⟨hmem, hown⟩
    · exact .inl (hmore hf)
    · rcases List.mem_cons.mp hmem with rfl | hrest
      · left
        have hfree : ¬(s.grants.filter (fun g => !(g.head == k && g.block == b))).any (fun g => g.block == b) = true := by
          intro hany
          obtain ⟨g, hg, hblock⟩ := List.any_eq_true.mp hany
          obtain ⟨hmem, hkeep⟩ := List.mem_filter.mp hg
          simp [hown g hmem (beq_iff_eq.mp hblock), beq_iff_eq.mp hblock] at hkeep
        rw [hstep, State.isFilling, if_neg hfree, List.any_append]
        simp
      · refine .inr ⟨hrest, fun g hg => hown g ?_⟩
        rw [State.releaseBlock_grants] at hg
        exact List.mem_of_mem_filter hg

/-- A release of an extent that the head holds takes exactly its blocks, and fills what no head holds. -/
theorem State.release_takes {k : Fin 16} {dpa len : Nat} {bs : List Nat} (event : Nat) (hbs : extentBlocks dpa len = some bs)
    (hheld : bs.all (fun b => s.grants.any (fun g => g.head == k.val && g.block == b)) = true) :
    (s.release k event dpa len).1.grants = s.grants.filter (fun g => !(g.head == k.val && bs.contains g.block))
    ∧ (s.NoCollector → ∀ b ∈ bs, (∀ g ∈ s.grants, g.block = b → g.head = k.val) →
        (s.release k event dpa len).1.isFilling b = true) := by
  have hgo : (s.release k event dpa len).1
      = (bs.foldl (fun s b => s.releaseBlock k b) s).dcRecord k event dpa len 0 := by
    rw [State.release, hbs]
    dsimp only
    rw [if_pos hheld]
  have hgrants := s.foldl_releaseBlock_grants k.val bs
  have hfills (hn : s.NoCollector) (b : Nat) (hb : b ∈ bs) (hown : ∀ g ∈ s.grants, g.block = b → g.head = k.val) :=
    State.foldl_releaseBlock_fills hn (.inr ⟨hb, hown⟩ : s.toFill k.val b bs)
  generalize bs.foldl (fun s b => s.releaseBlock k b) s = t at hgo hgrants hfills
  obtain ⟨heads, mgmt, outputs, hrecord⟩ := t.dcRecord_changes k event dpa len 0
  rw [hgo, hrecord]
  exact ⟨hgrants, hfills⟩

/-- A command that releases, from a head or from the fabric manager. -/
theorem exec_releases {i : Instr} {k : Fin 16} {p : Path} {x : BitVec 8} {dpa len : Nat} (hready : s.storeReady = true)
    (hi : (i = .releaseDynamicCapacity k dpa len ∧ MailOk s k)
      ∨ (i = .initiateDynamicCapacityRelease p x dpa len ∧ FmOk s p ∧ s.headArg x = some k)) :
    ∃ event q, exec i s = finish s (State.reply (s.release k event dpa len).1 q (s.release k event dpa len).2 []) := by
  rcases hi with ⟨rfl, -, hopen⟩ | ⟨rfl, ⟨-, hopen⟩, hx⟩
  · refine ⟨1, .head k, ?_⟩
    show execReleaseDynamicCapacity k dpa len s = _
    rw [execReleaseDynamicCapacity, State.mailbox, if_pos hopen]
    dsimp only
    rw [if_neg (by simp [hready])]
  · refine ⟨2, p, ?_⟩
    show execInitiateDynamicCapacityRelease p x dpa len s = _
    rw [execInitiateDynamicCapacityRelease, State.fmCommand, if_pos hopen]
    dsimp only
    rw [if_neg (by simp [hready]), hx]

theorem exec_releases_blocks {i : Instr} {k : Fin 16} {p : Path} {x : BitVec 8} {dpa len : Nat} {bs : List Nat}
    (hready : s.storeReady = true) (hbs : extentBlocks dpa len = some bs)
    (hheld : bs.all (fun b => s.grants.any (fun g => g.head == k.val && g.block == b)) = true)
    (hi : (i = .releaseDynamicCapacity k dpa len ∧ MailOk s k)
      ∨ (i = .initiateDynamicCapacityRelease p x dpa len ∧ FmOk s p ∧ s.headArg x = some k)) : ∃ u, exec i s = .next u
      ∧ u.grants = s.grants.filter (fun g => !(g.head == k.val && bs.contains g.block))
      ∧ (s.siState 0 ≠ 1 → s.siState 1 ≠ 1 → ∀ b ∈ bs, (∀ g ∈ s.grants, g.block = b → g.head = k.val) →
          u.isFilling b = true) := by
  obtain ⟨event, q, hgo⟩ := exec_releases hready hi
  obtain ⟨hgrants, hfills⟩ := State.release_takes event hbs hheld
  generalize s.release k event dpa len = r at hgo hgrants hfills
  obtain ⟨regs, due, hsettle⟩ := (r.1.reply q r.2 []).settle_changes s
  rw [finish_next, hsettle] at hgo
  exact ⟨_, hgo, hgrants, fun h0 h1 b hb hown => hfills ⟨h0, h1⟩ b hb hown⟩

theorem execReleaseDynamicCapacity_invalid {k : Fin 16} {dpa len : Nat} (h : MailOk s k) (hready : s.storeReady = true)
    (hbs : extentBlocks dpa len = none) :
    execReleaseDynamicCapacity k dpa len s = .next (s.reply (.head k) "Invalid Input" []) := by
  have hnone : s.release k 1 dpa len = (s, "Invalid Input") := by rw [State.release, hbs]
  refine State.mailbox_ends h ?_ rfl
  dsimp only
  rw [if_neg (by simp [hready]), hnone]

end

/-! The zero-fill (R186) -/

/-- A key whose pairs are all filtered out reads as its default. -/
theorem sparseGet_filter_none {α : Type} (d : Nat → α) {l : List (Nat × α)} {keep : Nat × α → Bool} {a : Nat}
    (h : ∀ v, keep (a, v) = false) : sparseGet d (l.filter keep) a = d a := by
  induction l with
  | nil => rfl
  | cons q l ih =>
    obtain ⟨b, v⟩ := q
    by_cases hk : keep (b, v) = true
    · have hne : b ≠ a := fun e => by
        rw [e, h v] at hk
        cases hk
      rw [List.filter_cons_of_pos hk, sparseGet, if_neg hne, ih]
    · rw [List.filter_cons_of_neg hk, ih]

/-- A line of a block has its channel's slot of that block among the 32 first lines of the block. -/
theorem lineChannel_blockLine (b c : Nat) (hc : c < 32) : lineChannel (b * 2 ^ 22 + c) = c := by
  have h1 : (b * 2 ^ 22 + c) % 32 = c := by omega
  have h2 : (b * 2 ^ 22 + c) / 131072 % 32 = 0 := by omega
  rw [lineChannel, h1, h2, Nat.xor_zero]

theorem lineChannel_lt (line : Nat) : lineChannel line < 32 :=
  Nat.xor_lt_two_pow (n := 5) (Nat.mod_lt _ (by decide)) (Nat.mod_lt _ (by decide))

section
variable (s : State)

theorem State.fillSlots_cells (slots : List (Nat × Nat)) {line : Nat} (h : (lineChannel line, line / 2 ^ 22) ∈ slots) :
    (s.fillSlots slots false).cells line = List.replicate 72 0 := by
  have hslot : slots.contains (lineChannel line, line / 2 ^ 22) = true := List.contains_iff_mem.mpr h
  have hfilled : ¬(s.fillSlots slots false).links.filled.contains (lineChannel line, line / 2 ^ 22) = true := by
    intro hin
    rcases List.mem_append.mp (List.contains_iff_mem.mp hin) with hkept | hnil
    · simp only [List.mem_filter, hslot, Bool.not_true, Bool.false_eq_true, and_false] at hkept
    · cases hnil
  have hbytes : Memory.bytes (s.fillSlots slots false).dram (line * 72) 72 = List.replicate 72 0 := by
    refine List.eq_replicate_iff.mpr ⟨by simp [Memory.bytes], fun v hv => ?_⟩
    obtain ⟨i, hi, rfl⟩ := List.mem_map.mp hv
    have hline : (line * 72 + i) / 72 = line := by
      have := List.mem_range.mp hi
      omega
    exact sparseGet_filter_none _ fun v => by simp only [hline, hslot, Bool.not_true]
  rw [State.cells, State.overFill, if_neg hfilled, hbytes]

theorem State.isLost_dropLines (gone : Nat → Bool) (c : Nat) : (s.dropLines gone).isLost c = s.isLost c := by
  unfold State.isLost
  split
  · simp [State.chan, State.dropLines]
  · rfl

/-- A line of a channel that is not lost lives at its own place. -/
theorem State.place_kept {line : Nat} (h : s.isLost (lineChannel line) = false) : s.place line = some (lineChannel line, line) :=
  if_pos h

variable {s}

theorem State.cached_dropLines_gone {gone : Nat → Bool} {line : Nat} (h : gone line = true) :
    (s.dropLines gone).cached line = none := by
  refine List.find?_eq_none.mpr fun l hl e => ?_
  have hkeep := (List.mem_filter.mp hl).2
  rw [beq_iff_eq.mp e, h] at hkeep
  cases hkeep

theorem State.cached_dropLines_kept {gone : Nat → Bool} {line : Nat} (h : gone line = false) :
    (s.dropLines gone).cached line = s.cached line := by
  have hfind : (s.cache.filter (fun (x : CacheLine) => !gone x.line)).find? (fun l => l.line == line)
      = s.cache.find? (fun l => l.line == line) := by
    rw [List.find?_filter]
    congr 1
    funext l
    by_cases e : l.line = line <;> simp [e, h]
  exact hfind

theorem State.journalOf_dropLines_gone {gone : Nat → Bool} {line : Nat} (h : gone line = true) :
    (s.dropLines gone).journalOf line = [] := by
  refine List.filter_eq_nil_iff.mpr fun e he hline => ?_
  have hkeep := (List.mem_filter.mp he).2
  rw [beq_iff_eq.mp hline, h] at hkeep
  cases hkeep

variable (s)

/-- The slots of a block whose fill is done. -/
def State.blockSlots (b : Nat) : List (Nat × Nat) :=
  (List.range 32).filterMap (fun k => (s.place (b * 2 ^ 22 + k)).map (fun p => (p.1, p.2 / 2 ^ 22)))

theorem State.mem_blockSlots {b line : Nat} (hb : line / 2 ^ 22 = b) (h : s.isLost (lineChannel line) = false) :
    (lineChannel line, line / 2 ^ 22) ∈ s.blockSlots b := by
  have hlt := lineChannel_lt line
  have hchan := lineChannel_blockLine b _ hlt
  have hplace : s.place (b * 2 ^ 22 + lineChannel line) = some (lineChannel line, b * 2 ^ 22 + lineChannel line) := by
    rw [s.place_kept (by rw [hchan]; exact h), hchan]
  refine List.mem_filterMap.mpr ⟨lineChannel line, List.mem_range.mpr hlt, ?_⟩
  rw [hplace, Option.map_some, hb]
  have : (b * 2 ^ 22 + lineChannel line) / 2 ^ 22 = b := by omega
  rw [this]

/-- A block whose fill is done reads as zero, and nothing else of it is held. -/
theorem execZeroFillDone_fills {b : Nat} (h : s.filling.any (fun f => f.block == b && f.done == blockLines) = true) : ∃ u,
    execZeroFillDone b s = .next u ∧ u.isFilling b = false
    ∧ (∀ line, line / 2 ^ 22 = b → u.cached line = none ∧ u.journalOf line = [])
    ∧ (∀ line, line / 2 ^ 22 = b → s.isLost (lineChannel line) = false → u.cells line = List.replicate 72 0)
    ∧ (∀ line, line / 2 ^ 22 ≠ b → u.cached line = s.cached line) ∧ u.grants = s.grants ∧ u.regs = s.regs := by
  have hgo : execZeroFillDone b s = .next { (s.dropLines (fun line => line / 2 ^ 22 == b)).fillSlots
      ((s.dropLines (fun line => line / 2 ^ 22 == b)).blockSlots b) false with
      filling := s.filling.filter (fun f => f.block != b) } := if_pos h
  refine ⟨_, hgo, ?_, fun line hb => ⟨?_, ?_⟩, fun line hb hl => ?_, fun line hb => ?_, rfl, rfl⟩
  · exact List.any_eq_false.mpr fun f hf => by simpa using (List.mem_filter.mp hf).2
  · exact State.cached_dropLines_gone (gone := fun line => line / 2 ^ 22 == b) (beq_iff_eq.mpr hb)
  · exact State.journalOf_dropLines_gone (gone := fun line => line / 2 ^ 22 == b) (beq_iff_eq.mpr hb)
  · exact State.fillSlots_cells _ _ (State.mem_blockSlots _ hb (by rw [s.isLost_dropLines]; exact hl))
  · exact State.cached_dropLines_kept (gone := fun line => line / 2 ^ 22 == b) (beq_eq_false_iff_ne.mpr hb)

theorem execZeroFillDone_early {b : Nat} (h : s.filling.any (fun f => f.block == b && f.done == blockLines) = false) :
    execZeroFillDone b s = .next s := if_neg (by simp [h])

end

/-- Settles O48, from what a media command writes, what an add and a release do to the grants, and what a fill leaves. -/
theorem poisonAndCapacity : Obligations.PoisonAndCapacity := by
  refine ⟨fun s k dpa line h hline => ?_, fun s k p x dpa len tag =>
    ⟨fun h hsu hready hx bs hbs => ⟨execInitiateDynamicCapacityAdd_grants h hsu hready hx hbs,
        execInitiateDynamicCapacityAdd_breaks h hsu hready hx hbs, execInitiateDynamicCapacityAdd_filling h hsu hready hx hbs⟩,
      execInitiateDynamicCapacityAdd_early, fun bs hready hbs hheld i hi => exec_releases_blocks hready hbs hheld hi,
      execReleaseDynamicCapacity_invalid, fun b => execZeroFillDone_fills s, fun b => execZeroFillDone_early s⟩⟩
  subst hline
  refine ⟨fun hm => execMedia_replies h (State.mediaCommand_unsupported hm),
    fun hm hready halign hgrant hroom hbusy hwaits => ?_,
    fun hm hready hbad => execMedia_replies h (State.mediaCommand_invalid hm hready hbad)⟩
  have hperforms := State.mediaCommand_performs hm hready halign hgrant hroom hbusy hwaits
  refine ⟨fun hue => ?_, fun data => ?_⟩
  · obtain ⟨u, hgo, hout, hentry, hcached, hjournal⟩ := execInjectPoison_injects h hue hperforms
    refine ⟨u, hgo, hout, hentry, fun hl => congrArg LineVal.poison (hcached hl), fun p hl hp hi => ?_⟩
    obtain ⟨e, he, hline, hmask, hval⟩ := hjournal p hl hp hi
    exact ⟨e, he, hline, hmask, congrArg LineVal.poison hval⟩
  · obtain ⟨u, hgo, hout, hcleared, hcached, hjournal⟩ := execClearPoison_clears h data hperforms
    refine ⟨u, hgo, hout, hcleared, hcached, fun p hl hp hi => ?_⟩
    obtain ⟨e, he, hline, hmask, hval⟩ := hjournal p hl hp hi
    exact ⟨e, he, hline, hmask, congrArg LineVal.poison hval⟩

end Sys2Proof.Machine

namespace Sys2Proof.Machine

open Sys2Proof.Claims

/-! ## The pick of a channel's command (R224, R230 to R235, R436) -/

/-- A bank that was replaced reads as its replacement. -/
@[simp] theorem Channel.bank_setBank_same (ch : Channel) (b : Nat) (x : Bank) : (ch.setBank b x).bank b = x := by
  simp [Channel.bank, Channel.setBank]

section
variable (s : State) (c : Fin 32)

/-- The choice of the mode changes the mode alone (R235). -/
theorem State.pickMode_eq : ∃ w d, s.pickMode c = { s.chan c with writeMode := w, idleDrain := d } := by
  unfold State.pickMode
  dsimp only
  (repeat' split) <;> exact ⟨_, _, rfl⟩

/-- The journal's copies of a write agree: nothing changes (R435). -/
theorem State.journalCheck_good (n : Nat) : s.journalCheck .good n = s := by
  unfold State.journalCheck
  split <;> rfl

/-- A line of a table that is lost in both copies changes no channel (R435, R436). -/
theorem State.tableCheck_chans (chk : SramCheck) (a : Nat) : (s.tableCheck chk a).chans = s.chans := by
  cases chk with
  | good => rfl
  | oneCopy => exact (FaultFrame.raise s 63 0 a).chans
  | bothCopies =>
    exact (((FaultFrame.raise s 63 0 a).trans (FaultFrame.toFm _ _ _)).trans (FaultFrame.raise _ 65 0 a)).chans

/-- A column command counts in the counter `a` of its direction, and a further hit of its row in CH_HITS. -/
theorem State.columnCounted_changes (a n : Nat) : ∃ rs,
    (if 1 < n then (s.bump a 0 64 1).bump (aCH_HITS c) 0 32 1 else s.bump a 0 64 1) = { s with regs := rs }
      ∧ RegsKept s { s with regs := rs } [a, aCH_HITS c] := by
  have hcount : RegsKept s (s.bump a 0 64 1) [a, aCH_HITS c] := fun x hx =>
    s.reg_bump_ne _ _ _ _ _ fun h => hx (by simp [h])
  split
  · exact ⟨_, rfl, fun x hx => (State.reg_bump_ne _ (aCH_HITS c) _ _ _ _ fun h => hx (by simp [h])).trans (hcount x hx)⟩
  · exact ⟨_, rfl, hcount⟩

/-- A RD marks its pool entry as issued and takes the command slot (R224, Table 6.3). -/
theorem State.issueRead_changes (b : Nat) (r : PickReq) : ∃ rs ch,
    s.issueRead c b r = State.setChan { s with regs := rs } c ch ∧ RegsKept s { s with regs := rs } [aCH_RD c, aCH_HITS c]
      ∧ ch.slotFree = s.cyc + 1 ∧ ch.lastCol = s.cyc ∧ ch.wbuf = (s.chan c).wbuf ∧ ch.writing = (s.chan c).writing
      ∧ ∀ e, (s.chan c).pool[r.id]? = some e → ch.pool[r.id]? = some { e with issued := some s.cyc } := by
  obtain ⟨rs, hcount, hkept⟩ := s.columnCounted_changes c (aCH_RD c)
    ((s.chan c).afterColumn b r (s.pickReqs c (s.chan c).writeMode)).hits
  unfold State.issueRead
  dsimp only
  rw [hcount]
  refine ⟨rs, _, rfl, hkept, rfl, rfl, rfl, rfl, fun e he => ?_⟩
  rw [List.getElem?_mapIdx, he]
  exact congrArg some (if_pos rfl)

/-- A WR moves its entry of the write buffer to the bursts under way and takes the command slot (R224, R233). -/
theorem State.issueWrite_changes (b : Nat) (r : PickReq) : ∃ rs ch,
    s.issueWrite c b r = State.setChan { s with regs := rs } c ch ∧ RegsKept s { s with regs := rs } [aCH_WR c, aCH_HITS c]
      ∧ ch.slotFree = s.cyc + 1 ∧ ch.lastCol = s.cyc ∧ ch.wbuf = (s.chan c).wbuf.eraseIdx r.id ∧ ch.pool = (s.chan c).pool
      ∧ ch.writing = (s.chan c).writing ++ [((s.chan c).wbuf.getD r.id [], s.cyc + 12 + (s.chan c).burst)] := by
  obtain ⟨rs, hcount, hkept⟩ := s.columnCounted_changes c (aCH_WR c)
    ((s.chan c).afterColumn b r (s.pickReqs c (s.chan c).writeMode)).hits
  unfold State.issueWrite
  dsimp only
  rw [hcount]
  exact ⟨rs, _, rfl, hkept, rfl, rfl, rfl, rfl, rfl⟩

/-- The channel in the mode that the rules of R235 give it. -/
def State.moded (s : State) (c : Fin 32) : State := s.setChan c (s.pickMode c)

/-- The channel's own buffers are those it had. -/
theorem State.moded_chan : ∃ w d, (s.moded c).chan c = { s.chan c with writeMode := w, idleDrain := d } := by
  rw [State.moded, State.chan_setChan_same]
  exact s.pickMode_eq c

/-- A channel whose ACT opens a row of a bank in cycle `now`. -/
def Channel.activated (ch : Channel) (b row now : Nat) : Channel :=
  { ch.setBank b { ch.bank b with row := some row, hits := 0, capped := 0, actAt := now } with
    actCount := ch.actCount + 1, acts := (now :: ch.acts).take 4, lastRowGroup := b / 4, slotFree := now + 1 }

/-- A channel whose PRE closes a bank in cycle `now`. -/
def Channel.precharged (ch : Channel) (b now : Nat) : Channel :=
  { ch.setBank b { ch.bank b with row := none, hits := 0, capped := 0, preAt := now } with
    lastRowGroup := b / 4, slotFree := now + 1 }

theorem execChannelCommandPick_waits (repairMap journal : SramCheck) (h : s.picking c = false) :
    exec (.channelCommandPick c repairMap journal) s = .next s := if_neg (by simp [h])

/-- What a controller does with its pick, in the mode of the cycle (R224, R230, R436). -/
def State.issuePick (s : State) (c : Fin 32) (repairMap journal : SramCheck) : Pick → State
  | .column b r => if r.write then (s.journalCheck journal (((s.chan c).wbuf.getD r.id []).headD 0)).issueWrite c b r
      else s.issueRead c b r
  | .act b row => if repairMap = .bothCopies then s.tableCheck repairMap (repairMapAddr c b)
      else ((s.tableCheck repairMap (repairMapAddr c b)).bump (aCH_ACT c) 0 32 1).setChan c ((s.chan c).activated b row s.cyc)
  | .pre b => s.setChan c ((s.chan c).precharged b s.cyc)
  | .nothing => s

theorem execChannelCommandPick_picks (repairMap journal : SramCheck) (p : Pick) (hp : s.picking c = true)
    (h : (s.moded c).pick c = p) : exec (.channelCommandPick c repairMap journal) s
      = finish s ((s.moded c).issuePick c repairMap journal p) := by
  refine (if_pos hp).trans ?_
  unfold State.moded at h ⊢
  dsimp only
  rw [h]
  cases p with
  | column b r => exact (apply_ite (finish s) _ _ _).symm
  | act b row => exact (apply_ite (finish s) _ _ _).symm
  | pre b => rfl
  | nothing => rfl

/-- A pick that writes registers and its channel alone leaves everything else as it was. -/
theorem execChannelCommandPick_changes {repairMap journal : SramCheck} {p : Pick} {rs : List (Nat × Word)} {ch : Channel}
    {l : List Nat} (hq : Quiet s) (hp : s.picking c = true) (h : (s.moded c).pick c = p)
    (hgo : (s.moded c).issuePick c repairMap journal p = State.setChan { s.moded c with regs := rs } c ch)
    (hkept : RegsKept (s.moded c) { s.moded c with regs := rs } l) : ∃ u,
    exec (.channelCommandPick c repairMap journal) s = .next u ∧ u.chan c = ch ∧ (∀ d, d ≠ c → u.chan d = s.chan d)
      ∧ RegsKept s u l ∧ u.regs = rs ∧ u = { s with regs := u.regs, chans := u.chans } := by
  refine ⟨State.setChan { s.moded c with regs := rs } c ch, ?_, State.chan_setChan_same _ _ _, fun d hd => ?_, hkept, rfl, rfl⟩
  · rw [execChannelCommandPick_picks s c _ _ p hp h, hgo]
    exact finish_quiet _ _ hq
  · rw [State.chan_setChan_ne _ _ _ _ hd]
    exact State.chan_setChan_ne _ _ _ _ hd

/-- An ACT whose line of the repair map is lost in both copies opens nothing (R436). -/
theorem exec_pick_act_lost {b row : Nat} (hp : s.picking c = true) (h : (s.moded c).pick c = .act b row) : ∃ u,
    exec (.channelCommandPick c .bothCopies .good) s = .next u ∧ (u.chan c).banks = (s.chan c).banks := by
  obtain ⟨w, d, hmode⟩ := s.moded_chan c
  have hlost : (s.moded c).issuePick c .bothCopies .good (.act b row)
      = (s.moded c).tableCheck .bothCopies (repairMapAddr c b) := by simp [State.issuePick]
  refine ⟨_, execChannelCommandPick_picks s c _ _ _ hp h, ?_⟩
  rw [hlost, State.settle_chan, State.chan, State.tableCheck_chans]
  exact (congrArg Channel.banks hmode).trans rfl

section
variable {s c} (hq : Quiet s) (hp : s.picking c = true)
include hq hp

/-- An ACT opens its row, and counts (R224, R230). -/
theorem exec_pick_act {b row : Nat} (h : (s.moded c).pick c = .act b row) : ∃ u,
    exec (.channelCommandPick c .good .good) s = .next u ∧ ((u.chan c).bank b).row = some row
      ∧ ((u.chan c).bank b).actAt = s.cyc ∧ (u.chan c).slotFree = s.cyc + 1 ∧ (∀ d, d ≠ c → u.chan d = s.chan d)
      ∧ (u.chan c).acts.head? = some s.cyc ∧ (u.chan c).pool = (s.chan c).pool ∧ RegsKept s u [aCH_ACT c]
      ∧ u = { s with regs := u.regs, chans := u.chans } := by
  obtain ⟨w, d, hmode⟩ := s.moded_chan c
  obtain ⟨u, hgo, hchan, hother, hkept, -, hrest⟩ := execChannelCommandPick_changes (repairMap := .good) (journal := .good)
    (rs := ((s.moded c).bump (aCH_ACT c) 0 32 1).regs) (l := [aCH_ACT c]) s c hq hp h rfl
    fun a ha => State.reg_bump_ne _ _ _ _ _ _ (by simpa using ha)
  refine ⟨u, hgo, ?_, ?_, ?_, hother, ?_, ?_, hkept, hrest⟩ <;> rw [hchan]
  · exact congrArg Bank.row (Channel.bank_setBank_same _ _ _)
  · exact congrArg Bank.actAt (Channel.bank_setBank_same _ _ _)
  · rfl
  · rfl
  · rw [hmode]
    rfl

/-- A PRE closes its bank (R224, R230). -/
theorem exec_pick_pre {b : Nat} (h : (s.moded c).pick c = .pre b) : ∃ u,
    exec (.channelCommandPick c .good .good) s = .next u ∧ ((u.chan c).bank b).row = none
      ∧ (u.chan c).slotFree = s.cyc + 1 ∧ (∀ d, d ≠ c → u.chan d = s.chan d) ∧ u = { s with chans := u.chans } := by
  obtain ⟨u, hgo, hchan, hother, -, hregs, hrest⟩ := execChannelCommandPick_changes (repairMap := .good) (journal := .good)
    (rs := s.regs) (l := []) s c hq hp h rfl fun _ _ => rfl
  refine ⟨u, hgo, ?_, ?_, hother, hrest.trans (by rw [hregs])⟩ <;> rw [hchan]
  · exact congrArg Bank.row (Channel.bank_setBank_same _ _ _)
  · rfl

/-- A RD or a WR takes the slot and marks what it serves (R224, R230, R233). -/
theorem exec_pick_column {b : Nat} {r : PickReq} (h : (s.moded c).pick c = .column b r) : ∃ u,
    exec (.channelCommandPick c .good .good) s = .next u ∧ (u.chan c).slotFree = s.cyc + 1
      ∧ (u.chan c).lastCol = s.cyc ∧ (∀ d, d ≠ c → u.chan d = s.chan d)
      ∧ (r.write = true → (u.chan c).writing = (s.chan c).writing ++
          [((s.chan c).wbuf.getD r.id [], s.cyc + 12 + (s.chan c).burst)] ∧ (u.chan c).wbuf = (s.chan c).wbuf.eraseIdx r.id
          ∧ (u.chan c).pool = (s.chan c).pool ∧ RegsKept s u [aCH_WR c, aCH_HITS c])
      ∧ (r.write = false → (∀ e, (s.chan c).pool[r.id]? = some e →
          (u.chan c).pool[r.id]? = some { e with issued := some s.cyc })
          ∧ (u.chan c).wbuf = (s.chan c).wbuf ∧ (u.chan c).writing = (s.chan c).writing
          ∧ RegsKept s u [aCH_RD c, aCH_HITS c])
      ∧ u = { s with regs := u.regs, chans := u.chans } := by
  obtain ⟨w, d, hmode⟩ := s.moded_chan c
  cases hw : r.write with
  | true =>
    obtain ⟨rs, ch, hissue, hrs, hslot, hcol, hwbuf, hpool, hwriting⟩ := (s.moded c).issueWrite_changes c b r
    obtain ⟨u, hgo, rfl, hother, hkept, -, hrest⟩ := execChannelCommandPick_changes (repairMap := .good) (journal := .good)
      s c hq hp h ((if_pos hw).trans (by rw [State.journalCheck_good, hissue])) hrs
    rw [hmode] at hwbuf hpool hwriting
    exact ⟨u, hgo, hslot, hcol, hother, fun _ => ⟨hwriting, hwbuf, hpool, hkept⟩, nofun, hrest⟩
  | false =>
    obtain ⟨rs, ch, hissue, hrs, hslot, hcol, hwbuf, hwriting, hpool⟩ := (s.moded c).issueRead_changes c b r
    obtain ⟨u, hgo, rfl, hother, hkept, -, hrest⟩ := execChannelCommandPick_changes (repairMap := .good) (journal := .good)
      s c hq hp h ((if_neg (by simp [hw])).trans hissue) hrs
    rw [hmode] at hwbuf hpool hwriting
    exact ⟨u, hgo, hslot, hcol, hother, nofun, fun _ => ⟨hpool, hwbuf, hwriting, hkept⟩, hrest⟩

end

end

/-- Settles O28: what each outcome of the pick does, in the mode that the channel takes first. -/
theorem channelPick : Obligations.ChannelPick := by
  unfold Obligations.ChannelPick
  rintro s _ c hq rfl
  refine ⟨execChannelCommandPick_waits s c _ _, fun hp => ⟨fun b row => exec_pick_act hq hp, fun b row => exec_pick_act_lost s c hp,
    fun b => exec_pick_pre hq hp, fun b r => exec_pick_column hq hp, fun h => ?_⟩⟩
  exact (execChannelCommandPick_picks s c _ _ _ hp h).trans (finish_quiet _ _ hq)

end Sys2Proof.Machine

namespace Sys2Proof.Machine

open Sys2Proof.Claims

/-! ## Data of reads, and a dirty line that their install evicts (R234, R239, R444)

A head's read installs its line. The victim of that install may be dirty, and its channel's replay may have proved
impossible: the write-back is then lost and logged, and the record is signalled in band. So an answered read can send more
than its data. -/

/-- A line of zero data. -/
def zeroLine : LineVal where
  data := 0
  poison := false

/-- A read of line 0 by head 0, whose line the journal forwards. -/
def forwardedRead : PoolEntry where
  req := { src := .head 0, kind := .read, uio := false, line := 0, val := zeroLine, mask := 0, stamp := 0, tag := 0 }
  issued := some 0
  retry := false
  fwd := some zeroLine
  counted := false

/-- A dirty line of head 0, one for each `n`, in the slice and the set of line 0 (R238). -/
def dirtyWay (n : Nat) : CacheLine where
  line := n * 2 ^ 20
  val := zeroLine
  dirty := true
  owner := 0

/-- Every way of line 0's set is dirty, the least recently used one of channel 8, whose replay proved impossible; the
forwarded line of channel 0 has arrived, and records are signalled on I3C. -/
def evictingState : State :=
  let s := (State.reset.setChan 0 { Channel.reset with pool := [forwardedRead] }).setChan 8
    { Channel.reset with impossible := true }
  { s.setFlag aHEAD_GCTRL 4 true with
    tu := { s.tu with cycle := 6 }
    mgmt := { s.mgmt with i3cAddr := some 8 }
    cache := (List.range' 1 16).reverse.map dirtyWay }

/-- What a command has sent in the state that it answers. -/
def sentBy : Host.Outcome State Fault Refusal → List Output
  | .next u => u.outputs
  | _ => []

/-- The read is answered, and the lost write-back is signalled after it. -/
theorem evictingState_sends :
    sentBy (exec (.dramReadData 0 []) evictingState) = [.memData 0 0 zeroLine 1, .inBand] := by decide +kernel

/-- Refutes O29: the answer to a head's read installs its line, and where the victim's channel has lost its replay the
write-back of the victim is logged and signalled in band, so the data is not all that is sent. -/
theorem not_channelData : ¬ Obligations.ChannelData := by
  unfold Obligations.ChannelData
  intro h
  obtain ⟨-, hforwarded, -⟩ := h evictingState 0 (by decide +kernel : evictingState.snapDue = false) (by decide +kernel)
    (by decide +kernel)
  obtain ⟨u, hgo, ⟨-, hanswer⟩, -⟩ := hforwarded [] 0 forwardedRead zeroLine (by decide +kernel) rfl rfl
  have hsent : u.outputs = [.memData 0 0 zeroLine 1, .inBand] := by
    have hsends := evictingState_sends
    rwa [hgo] at hsends
  have honly : u.outputs = evictingState.outputs ++ [.memData 0 0 zeroLine (evictingState.head 0).load] :=
    hanswer 0 rfl rfl rfl
  have hlength : u.outputs.length = 1 := by rw [honly]; decide +kernel
  rw [hsent] at hlength
  exact absurd hlength (by decide)

end Sys2Proof.Machine

namespace Sys2Proof.Machine

open Sys2Proof.Claims

/-! ## The events around a halt (R248, R255, R257, R258) -/

/-! The pre-close (R248) -/

/-- The pre-close closes every open row that no queued request asks for, and what was closed stays closed. -/
theorem Channel.preclosed_closed {ch : Channel} {queued : Nat → Nat → Bool} (hq : ∀ b r, queued b r = false) {x : Nat × Bank}
    (hx : x ∈ ch.banks) (hn : (ch.precloseBanks queued).contains x.1 = false) : x.2.row = none := by
  by_contra hrow
  obtain ⟨r, hr⟩ := Option.ne_none_iff_exists'.mp hrow
  have hmem : x.1 ∈ ch.precloseBanks queued := List.mem_filterMap.mpr ⟨x, hx, by simp [hr, hq]⟩
  simp [hmem] at hn

section
variable (s : State)

/-- A pre-close leaves its channel's pool and waits for it alone; every other channel, the stores and the schedule are as they
were. -/
theorem State.preclose_changes (c : Fin 32) : s.HoldFrame (s.preclose c) ∧ (∀ d, d ≠ c → (s.preclose c).chan d = s.chan d)
    ∧ ((s.preclose c).chan c).pool = (s.chan c).pool ∧ ((s.preclose c).chan c).selfRefresh = (s.chan c).selfRefresh
    ∧ ((s.chan c).selfRefresh = false → (s.chan c).waiting = [] → ∀ b ∈ ((s.preclose c).chan c).banks, b.2.row = none) := by
  unfold State.preclose
  dsimp only
  split
  next h => exact ⟨.refl s, fun _ _ => rfl, rfl, rfl, fun hs => absurd (hs.symm.trans h) (by simp)⟩
  next =>
    refine ⟨⟨rfl, rfl, rfl, rfl, fun a h1 h2 => ?_⟩, fun d hd => ?_, ?_, ?_, fun _ hw b hb => ?_⟩
    · exact (State.reg_bump_ne _ _ _ _ _ _ (by simp only [aCH_PRECLOSE]; omega)).trans rfl
    · rw [State.chan_bump, State.chan_setChan_ne _ _ _ _ hd]
    · rw [State.chan_bump, State.chan_setChan_same]
    · rw [State.chan_bump, State.chan_setChan_same]
    · rw [State.chan_bump, State.chan_setChan_same] at hb
      obtain ⟨x, hx, rfl⟩ := List.mem_map.mp hb
      split
      next => rfl
      next hn =>
        refine Channel.preclosed_closed (fun b r => ?_) hx (Bool.eq_false_of_not_eq_true hn)
        rw [hw]
        rfl

/-- So does the pre-close of a list of channels, for each of them. -/
theorem State.precloses_change (cs : List (Fin 32)) (t : State) (ht : t = cs.foldl (fun s c => s.preclose c) s) :
    s.HoldFrame t ∧ ∀ d, (t.chan d).pool = (s.chan d).pool ∧ (t.chan d).selfRefresh = (s.chan d).selfRefresh
      ∧ ((s.chan d).selfRefresh = false → (s.chan d).waiting = [] →
        (d ∈ cs ∨ ∀ b ∈ (s.chan d).banks, b.2.row = none) → ∀ b ∈ (t.chan d).banks, b.2.row = none) := by
  subst ht
  induction cs generalizing s with
  | nil => exact ⟨.refl s, fun d => ⟨rfl, rfl, fun _ _ h => h.resolve_left (by simp)⟩⟩
  | cons c cs ih =>
    obtain ⟨hf, hne, hpool, hself, hclosed⟩ := s.preclose_changes c
    obtain ⟨kf, kd⟩ := ih (s.preclose c)
    refine ⟨hf.trans kf, fun d => ?_⟩
    obtain ⟨kpool, kself, kclosed⟩ := kd d
    by_cases hd : d = c
    · subst hd
      refine ⟨kpool.trans hpool, kself.trans hself, fun hs hw _ => kclosed (hself.trans hs) ?_ (.inr (hclosed hs hw))⟩
      rw [Channel.waiting, hpool]
      exact hw
    · rw [hne d hd] at kpool kself kclosed
      exact ⟨kpool, kself, fun hs hw h => kclosed hs hw (h.imp_left fun h => (List.mem_cons.mp h).resolve_left hd)⟩

/-- The schedule with the pre-close of the coming halt noted or withdrawn. -/
def State.precloseMarked (s : State) (b : Bool) : State := { s with halt := { s.halt with preclosed := b } }

/-- The pre-close, once, from 64 cycles before the opening (R248). -/
theorem execHaltPreclose_closes (hp : s.halt.preclosed = false) (h0 : 0 < s.nextHaltIn) (h64 : s.nextHaltIn ≤ 64) : ∃ u,
    exec .haltPreclose s = .next u ∧ u.halt.preclosed = true ∧ u.dram = s.dram ∧ u.mem = s.mem
      ∧ (∀ c : Fin 32, (s.chan c).selfRefresh = false → (s.chan c).waiting = [] → ∀ b ∈ (u.chan c).banks, b.2.row = none)
      ∧ ∀ c : Fin 32, (u.chan c).pool = (s.chan c).pool := by
  obtain ⟨hf, hd⟩ := (s.precloseMarked true).precloses_change (List.finRange 32) _ rfl
  have hgo : exec .haltPreclose s = .next ((List.finRange 32).foldl (fun s c => s.preclose c) (s.precloseMarked true)) :=
    (if_neg (by omega)).trans (if_pos ⟨hp, h0⟩)
  refine ⟨_, hgo, by rw [hf.halt]; rfl, hf.dram, hf.mem, fun c hs hw => ?_, fun c => ?_⟩
  · obtain ⟨-, -, hclosed⟩ := hd c
    exact hclosed hs hw (.inl (List.mem_finRange c))
  · obtain ⟨hpool, -, -⟩ := hd c
    exact hpool

theorem execHaltPreclose_once (hp : s.halt.preclosed = true) (h64 : s.nextHaltIn ≤ 64) : exec .haltPreclose s = .next s :=
  (if_neg (by omega)).trans (if_neg (by simp [hp]))

theorem execHaltPreclose_ahead (h : 64 < s.nextHaltIn) : exec .haltPreclose s = .next (s.precloseMarked false) := if_pos h

/-! The steps of a window (R248, R72) -/

theorem execHaltActStop_stops : exec .haltActStop s = .next { s with halt := { s.halt with
    actStopped := decide (0 < s.nextHaltIn) && decide (s.nextHaltIn ≤ 28) } } := by
  rw [← Bool.decide_and]
  rfl

theorem execHaltRefab_starts {c : Nat} (ho : s.halt.openAt = some c) (hc : c + 28 ≤ s.cyc) (hr : s.halt.refabDone = false) :
    exec .haltRefab s = .next { s with halt := { s.halt with refabDone := true } } := by
  show execHaltRefab s = _
  rw [execHaltRefab, ho]
  exact if_pos ⟨hc, hr⟩

theorem execHaltWindowEnd_ends {c : Nat} (ho : s.halt.openAt = some c) (hc : c + 800 ≤ s.cyc) :
    exec .haltWindowEnd s = .next { s with halt := { s.halt with openAt := none } } := by
  show execHaltWindowEnd s = _
  rw [execHaltWindowEnd, ho]
  exact if_pos hc

theorem execHaltWindowEnd_early {c : Nat} (ho : s.halt.openAt = some c) (hc : s.cyc < c + 800) :
    exec .haltWindowEnd s = .next s := by
  show execHaltWindowEnd s = _
  rw [execHaltWindowEnd, ho]
  exact if_neg (by omega)

/-! Deferred halts (R255) -/

/-- The deferred halts open as one (R255). -/
theorem execDeferredHaltOpen_opens (hw : s.regsWf = true) (ho : s.windowOpen = false) (hd : 0 < s.halt.deferred)
    (hh : s.pins.held = false) : ∃ u, exec .deferredHaltOpen s = .next u ∧ u.halt.openAt = some s.cyc ∧ u.halt.deferred = 0
      ∧ ∀ c : Fin 32, (s.chan c).selfRefresh = false → ∀ b ∈ (u.chan c).banks, b.2.row = none := by
  obtain ⟨hhalt, -, -, -, -, -, hclosed⟩ := State.openHalt_opens
    { s with halt := { s.halt with lastGrid := s.gridDue.orElse (fun _ => s.halt.lastGrid) } } hh hw _ rfl
  refine ⟨_, if_pos ⟨ho, hd⟩, ?_, ?_, hclosed⟩ <;> rw [hhalt] <;> rfl

theorem execDeferredHaltOpen_waits (h : s.windowOpen = true ∨ s.halt.deferred = 0) : exec .deferredHaltOpen s = .next s := by
  refine if_neg fun hn => ?_
  rcases h with h | h
  · exact absurd (h.symm.trans hn.1) (by simp)
  · omega

end
end Sys2Proof.Machine

namespace Sys2Proof.Machine
open Sys2Proof.Claims

/-! The fallback halt (R257, R258, R260) -/

@[simp] theorem State.settle_halt (b s : State) : (State.settle b s).halt = s.halt := by
  obtain ⟨rs, d, h⟩ := s.settle_changes b
  rw [h]

@[simp] theorem State.settle_mgmt (b s : State) : (State.settle b s).mgmt = s.mgmt := by
  obtain ⟨rs, d, h⟩ := s.settle_changes b
  rw [h]

/-- Records to heads change the heads alone (R219). -/
theorem State.toHeads_changes (log : EventLog) (r : Record) (ks : List (Fin 16)) (s : State) :
    ∃ heads, s.toHeads ks log r = { s with heads := heads } := by
  induction ks generalizing s with
  | nil => exact ⟨s.heads, rfl⟩
  | cons k ks ih =>
    obtain ⟨heads, h⟩ := ih (s.toHead k log r)
    exact ⟨heads, h⟩

/-- A record to the fabric manager enters its log and may be signalled in band (R206, R219). -/
theorem State.toFm_changes (s : State) (log : EventLog) (r : Record) : ∃ outputs, s.toFm log r =
    { s with outputs := outputs, mgmt := { s.mgmt with fmLogs := s.mgmt.fmLogs.add log r } } := by
  unfold State.toFm
  dsimp only
  split <;> exact ⟨_, rfl⟩

/-- A record of the whole device enters the heads' logs and the fabric manager's, and is signalled (R206, R219). -/
theorem State.toAll_changes (s : State) (log : EventLog) (r : Record) : ∃ heads outputs, s.toAll log r =
    { s with heads := heads, outputs := outputs, mgmt := { s.mgmt with fmLogs := s.mgmt.fmLogs.add log r } } := by
  obtain ⟨heads, h⟩ := State.toHeads_changes log r ((List.finRange 16).filter (fun k => (s.head k).up)) s
  obtain ⟨outputs, h'⟩ := State.toFm_changes { s with heads := heads } log r
  exact ⟨heads, outputs, (congrArg (fun t : State => t.toFm log r) h).trans h'⟩

/-- A HALT record is one of type 2, for every addressee (Table 5.11, R260). -/
theorem State.haltRecord_changes (s : State) (src p q : Nat) (d e : Bool) (cause : Nat) : ∃ r heads outputs, r.rtype = 2 ∧
    s.haltRecord src p q d e cause = { s with heads := heads, outputs := outputs, mgmt := { s.mgmt with
      fmLogs := s.mgmt.fmLogs.add .informational r } } := by
  unfold State.haltRecord
  generalize hr : s.record 2 src _ = r
  obtain ⟨heads, outputs, h⟩ := s.toAll_changes .informational r
  exact ⟨r, heads, outputs, hr ▸ rfl, h⟩

/-- A record enters its log, or the log was full. -/
theorem Log.add_enters (l : Log) (r : Record) : r ∈ (l.add r).records ∨ 64 ≤ l.records.length := by
  unfold Log.add
  split
  · exact .inl (by simp)
  · exact .inr (by omega)

/-- An event of class 2 or less without a master is noted, and perhaps notified (R590, R592). -/
theorem State.raise_mild_cases (s : State) (src idx val : Nat) (hk : (faultClass src).isNone = false) (h3 : src ≠ 3)
    (hcls : s.sourceClass src ≤ 2) : s.raise src idx val = s.noted (.plain src idx val)
      ∨ s.raise src idx val = (s.noted (.plain src idx val)).notifyFault src := by
  have hkeep : (s.noted (.plain src idx val)).sourceClass src = s.sourceClass src := by
    have hsrc := faultClass_lt src hk
    obtain ⟨_, hreg⟩ := (State.keepsReg_collector (a := aFC_SRC_CFG src) (by
      simp only [CollectorReg, aFC_SRC_CFG]; omega)).noted s (.plain src idx val)
    rw [State.sourceClass, State.sourceClass, State.fld, hreg, State.fld]
  obtain ⟨cls, hle, hone⟩ : ∃ cls, cls ≤ 2 ∧ s.raiseOne (.plain src idx val)
      = (s.noted (.plain src idx val)).react (.plain src idx val) cls := by
    refine ⟨_, ?_, s.raiseOne_eq (.plain src idx val) hk _ (if_neg h3).symm⟩
    rw [show (FaultEvent.plain src idx val).src = src from rfl, hkeep, actingClass, if_neg (by omega)]
    exact hcls
  have hreact : (s.noted (.plain src idx val)).react (.plain src idx val) cls
      = (if 1 ≤ cls then (s.noted (.plain src idx val)).notifyFault src else s.noted (.plain src idx val), []) :=
    (if_neg (by omega)).trans (if_neg (by omega))
  rw [State.raise_eq, hone, hreact]
  split
  · exact .inr rfl
  · exact .inl rfl

/-- Such an event logs nothing (R590). -/
theorem State.raise_mild_mgmt (s : State) (src idx val : Nat) (hk : (faultClass src).isNone = false) (h3 : src ≠ 3)
    (hcls : s.sourceClass src ≤ 2) : (s.raise src idx val).mgmt = s.mgmt := by
  obtain ⟨regs, win, first, snap, due, hnoted⟩ := s.noted_changes (.plain src idx val)
  rcases s.raise_mild_cases src idx val hk h3 hcls with h | h
  · rw [h, hnoted]
  · rw [h, hnoted]
    rfl

/-- The counts of held reads change registers alone (R192, R249). -/
theorem State.countHelds_changes (c : Fin 32) (es : List PoolEntry) (s : State) : ∃ rs,
    es.foldl (fun s e => s.countHeld c e.req.src) s = { s with regs := rs } := by
  induction es generalizing s with
  | nil => exact ⟨_, rfl⟩
  | cons e es ih =>
    obtain ⟨rs, h⟩ := s.countHeld_changes c e.req.src
    obtain ⟨rs', h'⟩ := ih (s.countHeld c e.req.src)
    exact ⟨rs', h'.trans (by rw [h])⟩

/-- The opening on a channel changes registers and channels alone. -/
theorem State.haltChannel_changes (s : State) (c : Fin 32) : ∃ rs chs, s.haltChannel c = { s with regs := rs, chans := chs } := by
  unfold State.haltChannel State.holdReads
  dsimp only
  split
  · exact ⟨_, _, rfl⟩
  · obtain ⟨rs, h⟩ := State.countHelds_changes c _ (s.setChan c ((s.chan c).preh s.cyc))
    rw [h]
    exact ⟨_, _, rfl⟩

/-- Its counts stand in the registers of held reads alone (R192, R249). -/
theorem State.haltChannel_keepsReg (s : State) (c : Fin 32) {a : Nat} (ha : a < 0x50000 ∨ 0x60000 ≤ a) (hb : a < 0x61000 ∨ 0x62000 ≤ a) :
    State.KeepsReg a s (s.haltChannel c) := by
  have hheld : ∀ (t : State) (src : Src), State.KeepsReg a t (t.countHeld c src) := fun t src => by
    have hchan : State.KeepsReg a t (t.bump (aCH_HELD c) 0 32 1) := .setReg t _ _ (by simp only [aCH_HELD]; omega)
    unfold State.countHeld
    cases src with
    | head k => exact hchan.andReg (by simp only [aHD_HALT_HELD]; omega)
    | _ => exact hchan
  unfold State.haltChannel State.holdReads
  dsimp only
  split
  · exact .of_regs rfl
  · generalize hcounted : (((s.setChan c ((s.chan c).preh s.cyc)).chan c).pool.filter _).foldl _ _ = t
    have hcounts : State.KeepsReg a s t := by
      rw [← hcounted]
      exact (State.keepsReg_composes a).andFold (.of_regs rfl) fun t e => hheld t e.req.src
    exact hcounts.trans (.of_regs rfl)

/-- An opening changes the schedule, registers and channels alone. -/
theorem State.openHalt_changes (s : State) : ∃ h rs chs, s.openHalt = { s with halt := h, regs := rs, chans := chs } := by
  have hchannels : ∀ (cs : List (Fin 32)) (t : State), ∃ rs chs,
      cs.foldl State.haltChannel t = { t with regs := rs, chans := chs } := fun cs => by
    induction cs with
    | nil => exact fun t => ⟨_, _, rfl⟩
    | cons c cs ih =>
      intro t
      obtain ⟨rs, chs, h⟩ := t.haltChannel_changes c
      obtain ⟨rs', chs', h'⟩ := ih (t.haltChannel c)
      exact ⟨rs', chs', h'.trans (by rw [h])⟩
  cases hh : s.pins.held with
  | true => exact ⟨_, _, _, s.openHalt_held hh⟩
  | false =>
    obtain ⟨rs, chs, h⟩ := hchannels (List.finRange 32) s.haltMarked
    exact ⟨_, rs, chs, (s.openHalt_eq hh).trans h⟩

/-- It writes HALT_LAST, HALT_COUNT and the counts of held reads alone (R192, R249, R259). -/
theorem State.openHalt_keepsReg (s : State) {a : Nat} (ha : a < 0x50000 ∨ 0x60000 ≤ a) (hb : a < 0x61000 ∨ 0x62000 ≤ a)
    (hlast : a ≠ aHALT_LAST) (hcount : a ≠ aHALT_COUNT) : State.KeepsReg a s s.openHalt := by
  cases hh : s.pins.held with
  | true => exact .of_regs (congrArg State.regs (s.openHalt_held hh))
  | false =>
    have hmarked : State.KeepsReg a s s.haltMarked := .andReg (.andReg (.of_regs rfl) hlast) hcount
    rw [s.openHalt_eq hh]
    exact (State.keepsReg_composes a).andFold hmarked fun t c => t.haltChannel_keepsReg c ha hb

/-- The schedule with no fallback halt committed. -/
def State.uncommitted (s : State) : State := { s with halt := { s.halt with commitAt := none } }

/-- The fallback halt open, counted and recorded (R257, R258, R260). -/
def State.fallbackOpened (s : State) : State :=
  let t := s.uncommitted.openHalt.bump aHALT_EVENTS 0 16 1
  t.haltRecord 41 t.halt.phase t.halt.phase t.halt.inDouble t.halt.inDouble 2

/-- A fallback halt falls due at its committed instant, or as the guard runs out without a halt (R257, R258). -/
theorem State.fallbackDue_of (s : State) (hh : s.pins.held = false) (ho : s.windowOpen = false)
    (hdue : (∃ c, s.halt.commitAt = some c ∧ c ≤ s.cyc)
      ∨ (s.halt.commitAt = none ∧ s.guardLeft = 0 ∧ s.gridDue = none ∧ s.halt.deferred = 0)) : s.fallbackDue = true := by
  rcases hdue with ⟨c, hc, hle⟩ | ⟨hc, hguard, hgrid, hdef⟩
  · simp [State.fallbackDue, hh, hc, hle]
  · simp [State.fallbackDue, hh, hc, ho, hguard, hgrid, hdef]

section
variable (s : State)

theorem execFallbackHalt_due (ho : s.windowOpen = false) (hdue : s.fallbackDue = true) :
    exec .fallbackHalt s = finish s (s.fallbackOpened.raise 41 0 0) := by
  refine (if_pos hdue).trans ?_
  have hopens : s.uncommitted.haltDue = s.uncommitted.openHalt := s.uncommitted.haltDue_opens ho
  unfold State.uncommitted at hopens
  dsimp only
  rw [hopens]
  rfl

/-- Opened, a fallback halt stands in the schedule as any other, with none committed any more (R257, R258). -/
theorem State.fallbackOpened_halt (hw : s.regsWf = true) (hh : s.pins.held = false) :
    s.fallbackOpened.halt = s.uncommitted.haltMarked.halt := by
  obtain ⟨hhalt, -⟩ := s.uncommitted.openHalt_opens hh hw _ rfl
  exact (State.haltRecord_halt _ _ _ _ _ _ _).trans hhalt

/-- Its HALT record enters the fabric manager's log (R260). -/
theorem State.fallbackOpened_changes : ∃ r heads outputs, r.rtype = 2 ∧ s.fallbackOpened =
    { (s.uncommitted.openHalt.bump aHALT_EVENTS 0 16 1) with heads := heads, outputs := outputs, mgmt := { s.mgmt with
      fmLogs := s.mgmt.fmLogs.add .informational r } } := by
  obtain ⟨h, rs, chs, hopen⟩ := s.uncommitted.openHalt_changes
  obtain ⟨r, heads, outputs, hr, hrecord⟩ := (s.uncommitted.openHalt.bump aHALT_EVENTS 0 16 1).haltRecord_changes 41 _ _ _ _ 2
  refine ⟨r, heads, outputs, hr, hrecord.trans ?_⟩
  rw [hopen]
  rfl

/-- A fallback halt opens, is counted and recorded (R257, R258, R260). -/
theorem execFallbackHalt_opens (hw : s.regsWf = true) (hh : s.pins.held = false) (ho : s.windowOpen = false)
    (hdue : s.fallbackDue = true) (hcls : s.sourceClass 41 ≤ 2) : ∃ u, exec .fallbackHalt s = .next u
      ∧ u.halt.openAt = some s.cyc ∧ u.halt.commitAt = none
      ∧ u.fld aHALT_EVENTS 0 16 = min (s.fld aHALT_EVENTS 0 16 + 1) 0xFFFF
      ∧ ((∃ r ∈ u.mgmt.fmLogs.info.records, r.rtype = 2) ∨ 64 ≤ s.mgmt.fmLogs.info.records.length) := by
  obtain ⟨r, heads, outputs, hr, hopened⟩ := s.fallbackOpened_changes
  have hcfg : State.KeepsReg (aFC_SRC_CFG 41) s s.fallbackOpened := by
    rw [hopened]
    exact (s.uncommitted.openHalt_keepsReg (by decide) (by decide) (by decide) (by decide)).andReg (by decide)
  have hmild : s.fallbackOpened.sourceClass 41 ≤ 2 := by
    rw [State.sourceClass, hcfg.fld]
    exact hcls
  obtain ⟨hwf, hevents⟩ : State.KeepsReg aHALT_EVENTS s s.uncommitted.openHalt :=
    s.uncommitted.openHalt_keepsReg (by decide) (by decide) (by decide) (by decide)
  have hafter : State.KeepsReg aHALT_EVENTS s.fallbackOpened (State.settle s (s.fallbackOpened.raise 41 0 0)) :=
    ((State.keepsReg_reaction (by decide) (by simp only [ReactionReg]; decide)).raise _ 41 0 0).trans
      (State.keepsReg_settle (by decide) _ _)
  have hhalt : (State.settle s (s.fallbackOpened.raise 41 0 0)).halt = s.uncommitted.haltMarked.halt := by
    rw [State.settle_halt, (FaultFrame.raise _ _ _ _).halt, s.fallbackOpened_halt hw hh]
  refine ⟨_, (execFallbackHalt_due s ho hdue).trans (finish_next _ _), by rw [hhalt]; rfl, by rw [hhalt]; rfl, ?_, ?_⟩
  · rw [hafter.fld, hopened]
    exact (State.fld_bump_same _ aHALT_EVENTS 0 16 1 (hwf hw) (by decide)).trans (by rw [State.fld, hevents]; rfl)
  · rw [State.settle_mgmt, s.fallbackOpened.raise_mild_mgmt 41 0 0 rfl (by decide) hmild, hopened]
    exact (s.mgmt.fmLogs.info.add_enters r).imp_left fun hmem => ⟨r, hmem, hr⟩

end

/-! The whole -/

section
variable (s : State)

/-- The commit of a fallback halt fixes its instant where no other halt opens first (R258). -/
theorem execFallbackCommit_commits (hc : s.halt.commitAt = none) (ho : s.windowOpen = false) (hh : s.pins.held = false)
    (h200 : s.guardLeft ≤ 200) (hgrid : s.guardLeft < s.cyclesTo s.gridNext) (hd : s.halt.deferred = 0) :
    exec .fallbackCommit s = .next { s with halt := { s.halt with commitAt := some (s.cyc + s.guardLeft) } } :=
  if_pos ⟨hc, ho, hh, h200, hgrid, hd⟩

theorem execFallbackCommit_held (hh : s.pins.held = true) : exec .fallbackCommit s = .next s :=
  if_neg fun ⟨_, _, h, _⟩ => by simp [hh] at h

theorem execFallbackHalt_held (hh : s.pins.held = true) : exec .fallbackHalt s = .next s :=
  if_neg (by simp [State.fallbackDue, hh])

end

/-- Settles O33, event by event: the steps whose effect is written out in the statement, the pre-close by an induction over the
channels, and the two openings by what every opening of a halt does. -/
theorem haltEvents : Obligations.HaltEvents := by
  unfold Obligations.HaltEvents
  intro s _ hw
  refine ⟨execHaltPreclose_closes s, execHaltPreclose_once s, execHaltPreclose_ahead s, execHaltActStop_stops s,
    fun _ => execHaltRefab_starts s, fun _ => execHaltWindowEnd_ends s, fun _ => execHaltWindowEnd_early s,
    execDeferredHaltOpen_opens s hw, execDeferredHaltOpen_waits s, execFallbackCommit_commits s,
    fun hh ho hdue => execFallbackHalt_opens s hw hh ho (s.fallbackDue_of hh ho hdue),
    fun hh => ⟨execFallbackHalt_held s hh, execFallbackCommit_held s hh⟩⟩

end Sys2Proof.Machine

namespace Sys2Proof.Machine

open Sys2Proof.Claims

/-! ## The cache flush (R243) -/

/-- A write of LC_CTRL starts a flush (R243). -/
theorem State.applyWrite_lcCtrl (s : State) (v : Word) :
    s.applyWrite aLC_CTRL v = if (v &&& 0xFFFFFFFF).getLsbD 0 then s.startFlush else s := by
  have hrow : ∃ row, regLookup aLC_CTRL = some (row, 0, 0) ∧ row.name = .LC_CTRL ∧ row.wide = false := ⟨_, rfl, rfl, rfl⟩
  obtain ⟨row, hlook, hname, hwide⟩ := hrow
  rw [State.applyWrite, hlook]
  dsimp only
  rw [hname, hwide]
  rfl

/-- A flush marks the lines dirty at its moment and tells it in FLUSH (R243). -/
theorem execLcFlush_marks (s : State) (p : Path) (v : BitVec 32) (h : WriteOk s p aLC_CTRL 4 (v.setWidth 64))
    (hv : v.getLsbD 0 = true) (hw : s.regsWf = true) : ∃ u, exec (.lcFlush p v) s = .next u
      ∧ u.mem.flush = (s.cache.filter (fun l => l.dirty)).map (fun l => l.line) ∧ u.flag aLC_CTRL 0 = true
      ∧ u.cache = s.cache ∧ u.dram = s.dram := by
  obtain ⟨hq, -⟩ := id h
  have hbit : (v.setWidth 64 &&& 0xFFFFFFFF).getLsbD 0 = true := by simpa using hv
  have hexec : exec (.lcFlush p v) s = .next s.startFlush := by
    refine (s.commandWrite_ok p _ _ _ h).trans ?_
    rw [s.applyWrite_lcCtrl, if_pos hbit, State.settle_quiet s (s := s.startFlush) hq]
  exact ⟨_, hexec, rfl, s.flag_setFlag_same aLC_CTRL 0 true hw (by decide), rfl, rfl⟩

/-- With the last write-back in the journal FLUSH clears (R243). -/
theorem execLcFlushDone_clears (s : State) (hq : Quiet s) (hw : s.regsWf = true) (hf : s.mem.flush = []) : ∃ u,
    exec .lcFlushDone s = .next u ∧ u.flag aLC_CTRL 0 = false ∧ u.cache = s.cache ∧ RegsKept s u [aLC_CTRL] := by
  have hstay : s.flushSome s.mem.flush = s := by
    rw [hf]
    show { s with mem := { s.mem with flush := [] } } = s
    rw [← hf]
  have hexec : exec .lcFlushDone s = .next (s.setFlag aLC_CTRL 0 false) := by
    refine Eq.trans ?_ (finish_quiet s _ hq)
    show finish s (if (s.flushSome s.mem.flush).mem.flush = [] then _ else _) = _
    rw [hstay, if_pos hf]
  exact ⟨_, hexec, s.flag_setFlag_same aLC_CTRL 0 false hw (by decide), rfl,
    fun a ha => s.reg_setFlag_ne _ a 0 false (by simpa using ha)⟩

/-! ## The hold copies of a seal (R386, R387) -/

/-- The program store, with the bitmap in it, and the counts and the staging of a seal are as they were. -/
structure State.StagingKept (i : Fin 4) (s t : State) : Prop where
  pstore : t.pstore = s.pstore
  saved : (t.seal i).saved = (s.seal i).saved
  held : (t.seal i).held = (s.seal i).held
  staged : (t.seal i).staged = (s.seal i).staged

theorem State.stagingKept_composes (i : Fin 4) : Composes (State.StagingKept i) where
  refl _ := ⟨rfl, rfl, rfl, rfl⟩
  trans h k := ⟨k.pstore.trans h.pstore, k.saved.trans h.saved, k.held.trans h.held, k.staged.trans h.staged⟩

namespace State.StagingKept

variable {i : Fin 4} {s t u : State}

theorem trans (h : State.StagingKept i s t) (k : State.StagingKept i t u) : State.StagingKept i s u :=
  (State.stagingKept_composes i).trans h k

/-- A change outside the program store and the seals. -/
theorem of_seals (hp : t.pstore = s.pstore) (hs : t.seals = s.seals) : State.StagingKept i s t := by
  have hseal : t.seal i = s.seal i := by rw [State.seal, hs]; rfl
  exact ⟨hp, by rw [hseal], by rw [hseal], by rw [hseal]⟩

/-- The seal given the counts and the staging it had. -/
theorem setSeal {x : Seal} (hp : t.pstore = s.pstore) (h1 : x.saved = (s.seal i).saved) (h2 : x.held = (s.seal i).held)
    (h3 : x.staged = (s.seal i).staged) : State.StagingKept i s (t.setSeal i x) :=
  ⟨hp, by rwa [t.seal_setSeal_same], by rwa [t.seal_setSeal_same], by rwa [t.seal_setSeal_same]⟩

theorem releaseHeld (s : State) : State.StagingKept i s (s.releaseHeld i) := by
  unfold State.releaseHeld
  extract_lets x go t
  have hseal : State.StagingKept i s t := .setSeal rfl rfl rfl rfl
  exact hseal.trans (.of_seals rfl rfl)

theorem holdFill (s : State) : State.StagingKept i s (s.holdFill i) := by
  obtain ⟨cs, h⟩ := s.holdFill_eq i
  rw [h]
  exact .setSeal rfl rfl rfl rfl

theorem carEvent (s : State) (c : Fin 32) : State.StagingKept i s (s.carEvent c) := by
  unfold State.carEvent
  dsimp only
  split <;> exact .of_seals rfl rfl

theorem sealRecord (s : State) (outcome : Nat) : State.StagingKept i s (s.sealRecord i outcome) := by
  unfold State.sealRecord
  extract_lets x r log
  obtain ⟨heads, h⟩ := State.toHeads_changes log r ((List.finRange 16).filter (fun k => x.heads.getLsbD k)) s
  obtain ⟨outputs, h'⟩ := State.toFm_changes { s with heads := heads } log r
  rw [h, h']
  exact .of_seals rfl rfl

theorem settle (b s : State) : State.StagingKept i s (State.settle b s) := by
  obtain ⟨rs, d, h⟩ := s.settle_changes b
  rw [h]
  exact .of_seals rfl rfl

/-- The completion of a seal leaves its counts and its staging (R387, R393). -/
theorem sealCheck (s : State) : State.StagingKept i s (s.sealCheck i) := by
  unfold State.sealCheck
  extract_lets x returned freed path accepted completed signalled
  refine (State.stagingKept_composes i).andUnless (.of_seals rfl rfl) (.trans ?_ (sealRecord _ _))
  have hreturned : State.StagingKept i s returned := by
    refine (State.stagingKept_composes i).andFold (.of_seals rfl rfl) fun t c => ?_
    have hidle (k : Carriage) : State.StagingKept i t ((t.setCar c k).carEvent c) :=
      trans (t := t.setCar c k) (.of_seals rfl rfl) (carEvent _ c)
    exact (State.stagingKept_composes i).andIf (.of_seals rfl rfl) (hidle _)
  have hcompleted : State.StagingKept i s completed := setSeal (t := accepted) hreturned.pstore rfl rfl rfl
  refine hcompleted.trans ?_
  show State.StagingKept i completed (if h : _ then _ else _)
  split <;> exact .of_seals rfl rfl

end State.StagingKept

/-- A granule complete in staging sets its bit, counts, and is staged for the snapshot area line by line (R386, R387). -/
theorem State.granuleDone_stages (s : State) (i : Fin 4) (g : Nat) (hold : Bool) (got : List (Nat × LineVal)) (u : State)
    (hu : u = s.granuleDone i g hold got) : u.pstore = (s.setGranule g).pstore
      ∧ (u.seal i).saved = (s.seal i).saved + 1 ∧ (u.seal i).held = (s.seal i).held + bit hold
      ∧ (u.seal i).staged = (s.seal i).staged ++ [{ granule := g, hold := hold, toWrite := (List.range 64).map (fun j => wholeLine
          ((s.seal i).snap / 64 + (g - (s.seal i).base / 4096) * 64 + j) (lineIn got (g * 64 + j))), sent := [] }] := by
  subst hu
  unfold State.granuleDone
  extract_lets x snap ws marked counted
  have hafter : State.StagingKept i counted (((counted.releaseHeld i).sealCheck i).holdFill i) :=
    (State.StagingKept.releaseHeld counted).trans (.trans (.sealCheck _) (.holdFill _))
  obtain ⟨hpstore, hsaved, hheld, hstaged⟩ := hafter
  have hseal : counted.seal i = _ := marked.seal_setSeal_same i _
  rw [hseal] at hsaved hheld hstaged
  exact ⟨hpstore, hsaved, hheld, hstaged⟩

/-- The bitmap with a granule's bit set: that bit, and no byte but its own (R383). -/
theorem State.setGranule_sets (s : State) (g : Nat) (hw : s.pstoreWf = true) : (s.setGranule g).granuleBit g = true
    ∧ ∀ b, b ≠ 0x400000 + g / 8 → Memory.get (s.setGranule g).pstore b = Memory.get s.pstore b := by
  refine ⟨?_, fun b hb => Memory.get_set_other _ _ _ _ hb⟩
  have hbit : (BitVec.ofNat 8 (2 ^ (g % 8))).getLsbD (g % 8) = true := by
    have hlt : g % 8 < 8 := Nat.mod_lt _ (by decide)
    rw [BitVec.getLsbD_ofNat, Nat.testBit_two_pow_self, decide_eq_true hlt]
    rfl
  show (Memory.get (Memory.set s.pstore _ _) _).getLsbD (g % 8) = true
  rw [Memory.get_set_same _ _ _ hw, BitVec.getLsbD_or, hbit, Bool.or_true]

section
variable (s : State) (i : Fin 4) (g : Nat)

/-- A hold copy that has read its granule whole saves it (R386, R387). -/
theorem execSealHoldCopyDone_saves (h : HoldCopy) (hw : s.pstoreWf = true) (hst : (s.seal i).st = .active)
    (hcopy : (s.seal i).copies.find? (fun h => h.granule == g) = some h) (hread : h.toRead = []) (hasked : h.asked = []) : ∃ u,
    exec (.sealHoldCopyDone i g false) s = .next u ∧ u.granuleBit g = true ∧ (u.seal i).held = (s.seal i).held + 1
      ∧ (u.seal i).saved = (s.seal i).saved + 1
      ∧ (∃ x ∈ (u.seal i).staged, x.granule = g ∧ x.toWrite = (List.range 64).map (fun j => wholeLine
          ((s.seal i).snap / 64 + (g - (s.seal i).base / 4096) * 64 + j) (lineIn h.got (g * 64 + j))))
      ∧ ∀ b, b ≠ 0x400000 + g / 8 → Memory.get u.pstore b = Memory.get s.pstore b := by
  obtain ⟨hpstore, hsaved, hheld, hstaged⟩ := s.granuleDone_stages i g true h.got _ rfl
  obtain ⟨hbit, hothers⟩ := s.setGranule_sets g hw
  have hexec : exec (.sealHoldCopyDone i g false) s = finish s (s.granuleDone i g true h.got) := by
    show execSealHoldCopyDone i g s false = _
    rw [execSealHoldCopyDone]
    simp only [hcopy]
    exact if_pos ⟨hst, hread, hasked⟩
  have hend : State.StagingKept i (s.granuleDone i g true h.got) (State.settle s (s.granuleDone i g true h.got)) := .settle _ _
  have hstore := hend.pstore.trans hpstore
  refine ⟨_, hexec, ?_, hend.held.trans hheld, hend.saved.trans hsaved, ?_, ?_⟩
  · rw [State.granuleBit, hstore]
    exact hbit
  · rw [hend.staged, hstaged]
    exact ⟨_, List.mem_append_right _ List.mem_cons_self, rfl, rfl⟩
  · rw [hstore]
    exact hothers

theorem execSealHoldCopyDone_none (hcopy : (s.seal i).copies.find? (fun h => h.granule == g) = none) (b : Bool) :
    exec (.sealHoldCopyDone i g b) s = .next s := by
  show execSealHoldCopyDone i g s b = _
  rw [execSealHoldCopyDone]
  simp only [hcopy]

end

/-- Settles O31: a flush by what a write of LC_CTRL does, a hold copy by what the release of held writes, the completion of the
seal and the next copies leave of its counts and its staging. -/
theorem flushAndHoldCopy : Obligations.FlushAndHoldCopy := by
  unfold Obligations.FlushAndHoldCopy
  intro s p v
  exact ⟨execLcFlush_marks s p v, execLcFlushDone_clears s, fun i g h _ => execSealHoldCopyDone_saves s i g h,
    execSealHoldCopyDone_none s⟩

end Sys2Proof.Machine
